-- ==== Sys2Proof/Word.lean ====
section
/-! DEFINITION. The words of the TOLVEAN 3260: the bytes of frames and the Ethernet addresses in them,
and the counters that stay at their top. -/

namespace Sys2Proof

/-- One byte of a frame or of a record. -/
abbrev Byte := BitVec 8

/-- A 48-bit Ethernet address (00, Addresses). -/
abbrev Addr := BitVec 48

/-- A carrier, by its index in the Carrier Table (00, Numbering). -/
abbrev CarrierIx := Fin 32

/-- A radio unit, and the branch port that faces it (00, Numbering). -/
abbrev UnitIx := Fin 8

/-- A sector group (00, Numbering). -/
abbrev SectorIx := Fin 8

/-- A profile (00, Numbering). -/
abbrev ProfileIx := Fin 8

/-- Adds `d` to a counter that stays at `top` once there (R45, R50, R56, R143, R167). -/
def addCapped (top n d : Nat) : Nat := min top (n + d)

/-- The greatest value of a 32-bit counter. -/
def top32 : Nat := 4294967295

end Sys2Proof
end

