-- ==== Sys2Proof/Syntax.lean ====
section
/-! DEFINITION. The commands of the TOLVEAN 3260: one constructor for each row of spec/opcode_table.json. A command
is one event of the part (00, Events). The operands of a management request are the bytes of the request that stands
at the head of the Management Engine's queue (R168, R169), so those rows carry none of their own. -/

namespace Sys2Proof

/-- The nine ports (R1): T, which faces the baseband, and B0 to B7. -/
inductive Port where
  | trunk
  | branch (n : UnitIx)
deriving DecidableEq, Repr

/-- How the reception of a frame ended, as the port sees it (R1). -/
inductive Reception where
  /-- The last byte arrived and the check sequence is correct. -/
  | intact
  /-- The last byte arrived and the check sequence is wrong. -/
  | badCheck
  /-- The port's link went down, or a reset ran, before the last byte arrived (R1, R14). -/
  | cut
deriving DecidableEq, Repr

/-- Which of the two blocks that receive a window-end report takes it first (R75: "The two blocks take it
independently of each other"). -/
inductive ReportOrder where
  | lifecycleFirst
  | coverageFirst
deriving DecidableEq, Repr

/-- Where a warm reset comes from (R175). -/
inductive ResetSource where
  | line
  | restart
deriving DecidableEq, Repr

/-- The commands. The rule after each is the one its row of the table names. -/
inductive Instr where
  /-- R1. A frame arrives on `port`. `bytes` are its bytes without the four of the check sequence. -/
  | frameReceived (port : Port) (bytes : List Byte) (reception : Reception)
  /-- R18. The oldest walk of a frame received on `port` ends. -/
  | walkEnds (port : Port)
  /-- R7. The frame in transmission at `port` has been sent. -/
  | transmissionEnd (port : Port)
  /-- R9. -/
  | branchLinkDown (n : UnitIx)
  /-- R9. -/
  | branchLinkUp (n : UnitIx)
  /-- R10. -/
  | trunkLinkDown
  /-- R10. -/
  | trunkLinkUp
  /-- R10. -/
  | trunkGraceExpires
  /-- R52. `order` says which block takes the report first (R75). -/
  | windowEnd (order : ReportOrder)
  /-- R115. -/
  | deepenDelayReached (c : CarrierIx)
  /-- R85. -/
  | minuteBoundary
  /-- R102. -/
  | drainTimerExpires (c : CarrierIx)
  /-- R134. -/
  | settleTimerExpires (c : CarrierIx)
  /-- R80. -/
  | lockOutTimerExpires (g : SectorIx)
  /-- R149. -/
  | replyTimerExpires (u : UnitIx)
  /-- R155. -/
  | releaseTimerExpires (u : UnitIx)
  /-- R153. -/
  | unitDeepTimerExpires (u : UnitIx)
  /-- R173. -/
  | identify
  /-- R171. -/
  | readRecords
  /-- R172: an unknown table, a read-only table, or a SETTINGS write that begins at no writable entry. -/
  | writeRecords
  /-- R67. -/
  | writeCarrier
  /-- R61. -/
  | writeProfile
  /-- R142. -/
  | writeRadioUnit
  /-- R33. -/
  | writeAction
  /-- R24. -/
  | writeClassifierStandby
  /-- R88. -/
  | writeWindow
  /-- R170. -/
  | writePermission
  /-- R4. -/
  | writeManagementTypeValue
  /-- R4. -/
  | writeStationClass
  /-- R13. -/
  | writeTrunkGrace
  /-- R34. -/
  | writeActionLimit
  /-- R49. -/
  | writeWindowLength
  /-- R81. -/
  | writeLockOutTime
  /-- R107. -/
  | writeHoldGuard
  /-- R129. -/
  | writeWarmUpSlotCount
  /-- R160. -/
  | writeAdvisoryDestination
  /-- R178. -/
  | writeNoticeDestination
  /-- R178. -/
  | writeNoticeEnables
  /-- R26. -/
  | activateBank
  /-- R27. -/
  | swapCompletes
  /-- R87. -/
  | setTime
  /-- R174. -/
  | setMode
  /-- R119. -/
  | sleepNow
  /-- R137. -/
  | wake
  /-- R108. -/
  | holdDrain
  /-- R110. -/
  | releaseHold
  /-- R177. -/
  | clearFlags
  /-- R175. -/
  | restart
  /-- R169. -/
  | unknownRequestKind
  /-- R14. -/
  | coldReset
  /-- R175. `source` says whether the reset line is asserted or the RESTART response has gone. -/
  | warmResetBegin (source : ResetSource)
  /-- R175. -/
  | warmResetEnd
deriving DecidableEq, Repr

end Sys2Proof
end

