-- ==== Sys2Proof/Decode.lean ====
section
/-! DEFINITION. The commands that words spell. Every row of spec/opcode_table.json has "fields": [] and no bits, so no
word spells a command: a command is an event of the part, and requests reach it as frames (chapter 12). -/

namespace Sys2Proof

/-- The command that a word of `nbits` bits spells: none, because the table gives no row any bits. -/
def decodeTableWord (_nbits _w : Nat) : Option Instr := none

end Sys2Proof
end

