-- ==== Sys2Proof/Machine/Bytes.lean ====
section
/-! DEFINITION. Reading and building bytes: multi-byte fields are big-endian (00, Layouts; chapter 12). -/

namespace Sys2Proof.Machine

/-- The unsigned number that bytes hold, first byte most significant (R15). -/
def beNat (bytes : List Byte) : Nat := bytes.foldl (fun acc b => acc * 256 + b.toNat) 0

/-- The `n` bytes of a number, most significant first; higher bytes of the number are dropped. -/
def beBytes : Nat → Nat → List Byte
  | 0, _ => []
  | n + 1, w => BitVec.ofNat 8 (w / 256 ^ n) :: beBytes n w

/-- The byte at an offset; zero beyond the end, for offsets that a length check has not already refused. -/
def byteAt (bytes : List Byte) (i : Nat) : Byte := bytes.getD i 0#8

/-- The `width` bytes that begin at an offset, read as one number; the caller has checked that they are there. -/
def natAt (bytes : List Byte) (offset width : Nat) : Nat := beNat ((bytes.drop offset).take width)

/-- A field of a frame (R15): none when the offset plus the width exceeds the readable length. `bytes` are the
readable bytes, which do not hold the check sequence. -/
def fieldAt (bytes : List Byte) (offset width : Nat) : Option Nat :=
  if offset + width ≤ bytes.length then some (natAt bytes offset width) else none

/-- The `count` records of `size` bytes that stand back to back (12.2, WRITE-RECORDS). -/
def chunks (size : Nat) : Nat → List Byte → List (List Byte)
  | 0, _ => []
  | n + 1, bytes => bytes.take size :: chunks size n (bytes.drop size)

/-- A yes-or-no mark takes 1 byte, 0 for no and 1 for yes (R182). -/
def markByte (b : Bool) : Byte := if b then 1#8 else 0#8

/-- A yes-or-no byte on receipt: any other value stands for nothing (R181). Of the bytes present and in use of ACTION,
classifier and WINDOW records, to which 12.4 gives no codes, this is the model's reading (assumption log 26). -/
def readMark (b : Byte) : Option Bool :=
  if b = 0#8 then some false else if b = 1#8 then some true else none

/-- Whether member `i` is in a set written one bit per member (12.2: member n is bit n). -/
def memberOf {w : Nat} (set : BitVec w) (i : Nat) : Bool := set.getLsbD i

/-- One byte of a number. -/
def oneByte (n : Nat) : Byte := BitVec.ofNat 8 n

end Sys2Proof.Machine
end

