-- ==== Sys2Proof/Config.lean ====
section
/-! DEFINITION. What an implementation fixes: the capacities and ranges the manual states, and the free values it
leaves open, each an opaque constant that no proof can see into. -/

namespace Sys2Proof.Config

/-- Free value: the 48 bits of the identity store (R4 gives no value). Assumption log 7. -/
opaque identityStore : BitVec 48

/-- The station address: fixed by the identity store, and an individual address, so the least significant bit of its
first byte is clear (R4; 00, Addresses). -/
def stationAddress : Addr := identityStore &&& 0xFEFFFFFFFFFF#48

/-- Free value: the revision that IDENTIFY returns (R173 gives no value). Assumption log 8. -/
opaque revision : BitVec 8

/-- The part code that IDENTIFY returns (12.2). -/
def partCode : Nat := 0x3260

/-- Free value: which block takes a window-end report first when the part's own clock brings the window end; the
argument is the free counter (R75). Assumption log 5. -/
opaque reportOrder : Nat → Bool

/-- Free value: where an event of the part's own stands among those that fall together; the arguments are the free
counter and the event's place in the model's listing (00, Events). Assumption log 4. -/
opaque eventPlace : Nat → Nat → Nat

/-- The room of an egress queue in bytes (R6). -/
def queueRoom : Port → Nat
  | .trunk => 524288
  | .branch _ => 262144

/-- The bytes of the check sequence that end every frame (R15). -/
def checkBytes : Nat := 4

/-- The shortest and the longest frame carried, check sequence included (R1). -/
def minFrame : Nat := 64
/-- See `minFrame`. -/
def maxFrame : Nat := 9216

/-- How many requests wait (R168) and how many notices (R179). -/
def requestRoom : Nat := 4
/-- See `requestRoom`. -/
def noticeRoom : Nat := 16

/-- The greatest number of grant units one frame brings (R41). -/
def maxUnits : Nat := 4095

/-- The greatest pledge (R73). -/
def maxPledge : Nat := 65536

/-- The full-capacity occupancy sample (R54). -/
def fullSample : Nat := 1024

end Sys2Proof.Config
end

