-- ==== Sys2Proof/Machine/State.lean ====
section
/-! DEFINITION. The state of the TOLVEAN 3260 as plain data, the reasons a step could stop, and the state after a
cold reset. Every field names the rule that gives it; INVENTORY.md lists them with their reset values. -/

namespace Sys2Proof.Machine

/-- The manual gives no event that stops the part: what goes wrong is told by flags (R176), status codes (R170) and
the LOST state (R135). No command raises a fault, so there is no constructor (safe: nothing is hidden by one). -/
inductive Fault where
deriving DecidableEq, Repr

/-- Why a command could be refused. -/
inductive Refusal where
  /-- Raised by no arm that has a meaning: it marks a command not modelled yet (safe: the machine stops). -/
  | notModelled (mnemonic : String)
deriving DecidableEq, Repr

/-! ## Names the manual writes in capitals -/

/-- The operating mode (R174). -/
inductive Mode where
  | transparent | monitor | acting
deriving DecidableEq, Repr

/-- The trunk state (section 1.6, R10). -/
inductive TrunkState where
  | up | failing | lost | returning
deriving DecidableEq, Repr

/-- The lifecycle state of a carrier (section 7.1, R96). -/
inductive LifeState where
  | unmanaged | active | draining | drainHeld | rampdown | doze | deepening | slumber
  | queued | warmup | restoring | lost
deriving DecidableEq, Repr

/-- The wake classes (R125). -/
inductive WakeClass where
  | ordinary | coverage | priority
deriving DecidableEq, Repr

/-- How far the radio was taken down when the carrier was queued (R126). -/
inductive Depth where
  | light | deep | unknown
deriving DecidableEq, Repr

/-- The cause codes of 12.5: notice causes, kept causes and advisory reasons. -/
inductive Cause where
  | idle | sleepNow | drainQuiet | drained | held | released | loadRose | drainTimeout | declined
  | relief | windowClosed | anchorLost | trunkLost | priority | wake | mode | asleepLight | deepen
  | asleepDeep | deepenWithdrawn | radioRefused | radioSilent | fault | configured | traffic
  | granted | ready | settled | linkDown | linkUp | restart
deriving DecidableEq, Repr

/-- The origin of a change of state (R98). -/
inductive Origin where
  | external | requested | timed
deriving DecidableEq, Repr

/-- The twelve event flags (R176). -/
inductive Flag where
  | classifyFault | actionFault | unknownKey | unitsClamped | slumberTriggerMissed | carrierLost
  | trunkDown | timeUnset | noticeDropped | lateReply | strayAdvisory | warmRestart
deriving DecidableEq, Repr

/-- The states of a radio unit in use (R143). -/
inductive UnitState where
  | up | deepPending | deep | releasing | unreachable
deriving DecidableEq, Repr

/-- The directives (12.3). -/
inductive DirectiveKind where
  | carrierSleep | carrierDeepen | carrierWake | unitDeep | unitRelease
deriving DecidableEq, Repr

/-- The action kinds (R33). -/
inductive ActionKind where
  | pass | meter | triggerOrdinary | triggerPriority | control | radioReply | advisoryReply | discard
deriving DecidableEq, Repr

/-- A classifier entry's port filter (R16). -/
inductive PortFilter where
  | trunk | branch | any
deriving DecidableEq, Repr

/-- A classifier entry's test (R17). -/
inductive FieldTest where
  | equal | differ | allSet | allClear
deriving DecidableEq, Repr

/-- A classifier entry's outcome (section 2.1). -/
inductive EntryOutcome where
  | result (action : Nat)
  | skip (distance : Nat)
deriving DecidableEq, Repr

/-! ## Configuration -/

/-- The writable site settings (R173). -/
structure Settings where
  /-- R4. -/
  typeValue : BitVec 16
  /-- R4. -/
  stationClass : Nat
  /-- R13, in ms. -/
  trunkGrace : Nat
  /-- R34. -/
  actionLimit : Nat
  /-- R49, in ms. -/
  windowLength : Nat
  /-- R81, in s. -/
  lockOutTime : Nat
  /-- R107, in s. -/
  holdGuard : Nat
  /-- R129: the warm-up slot count W. -/
  slots : Nat
  /-- R160; all-zero for none. -/
  advisoryDestination : Addr
  /-- R178; all-zero for none. -/
  noticeDestination : Addr
  /-- R178: bit 0 CARRIER-STATE, bit 1 FLAG, bit 2 TRUNK (12.4). -/
  noticeEnables : BitVec 3
deriving DecidableEq, Repr

/-- The configuration part of a carrier record (R66), at the width of the record's bytes (12.4): a record that marks
the carrier not managed is stored as written (R67). -/
structure CarrierConfig where
  managed : Bool
  unit : Byte
  key : BitVec 16
  sector : Byte
  anchor : Byte
  protect : Byte
  slotRate : Byte
  ratio : BitVec 16
  grantUnits : BitVec 16
  rank : Byte
  classMask : Byte
  profile : Byte
deriving DecidableEq, Repr

/-- The values of a profile (R60). -/
structure Profile where
  sleepThreshold : Nat
  cancelThreshold : Nat
  ceiling : Nat
  reliefThreshold : Nat
  idleRunLength : Nat
  shift : Nat
  quietWindows : Nat
  /-- In s. -/
  drainTimeout : Nat
  /-- In s. -/
  settleTime : Nat
  /-- In s. -/
  dwellMinimum : Nat
  /-- In min; 0 means never deepen. -/
  deepenDelay : Nat
deriving DecidableEq, Repr

/-- A profile record: the values in force, the values last accepted, and the pending mark (R62, R63). -/
structure ProfileRecord where
  inForce : Profile
  written : Profile
  pending : Bool
deriving DecidableEq, Repr

/-- The configuration part of a radio-unit record (R142), at the width of the record's bytes (12.4). -/
structure UnitConfig where
  inUse : Bool
  deepPermitted : Byte
  retries : Byte
  address : Addr
  /-- In ms. -/
  releaseTime : BitVec 16
  /-- In ms. -/
  replyTimeout : BitVec 16
  /-- In s. -/
  deepDelay : BitVec 16
deriving DecidableEq, Repr

/-- An action entry (section 3.1, R33; layout 12.4). -/
structure ActionEntry where
  present : Bool
  kind : ActionKind
  /-- The port set, or the fallback port set: Bn is bit n. -/
  portSet : Byte
  sectorMask : Byte
  keyOffset : Nat
  keyWidth : Nat
  keyMask : BitVec 16
  unitOffset : Nat
  unitWidth : Nat
  unitShift : Nat
  cls : Nat
  bodyOffset : Nat
deriving DecidableEq, Repr

/-- A classifier entry (section 2.1, R24). -/
structure Entry where
  inUse : Bool
  filter : PortFilter
  offset : Nat
  width : Nat
  test : FieldTest
  pattern : BitVec 32
  mask : BitVec 32
  outcome : EntryOutcome
deriving DecidableEq, Repr

/-- A quiet window (R88). -/
structure QuietWindow where
  inUse : Bool
  start : Nat
  stop : Nat
  carriers : BitVec 32
  /-- DEEP-ALLOWED; otherwise LIGHT-ONLY. -/
  deepAllowed : Bool
deriving DecidableEq, Repr

/-! ## Frame Path and Classifier -/

/-- A frame as the part holds it: its bytes without the four of the check sequence (assumption log 9), and whether it
is the response to RESTART, whose leaving the part waits for (R175). -/
structure Frame where
  bytes : List Byte
  restartAnswer : Bool
deriving DecidableEq, Repr

/-- One egress queue (R6, R7). -/
structure EgressQueue where
  /-- The frame in transmission. -/
  sending : Option Frame
  /-- Waiting injected frames, oldest first. -/
  injected : List Frame
  /-- Waiting pass frames, oldest first. -/
  pass : List Frame
deriving DecidableEq, Repr

/-- What the Frame Path holds (chapter 1). -/
structure FramePath where
  trunkQueue : EgressQueue
  branchQueues : Vector EgressQueue 8
  /-- Branch link status, Bn is bit n, 1 for UP (R9). -/
  branchUp : BitVec 8
  /-- What each branch port last reported (R14). -/
  branchReport : BitVec 8
  /-- What port T last reported (R14). -/
  trunkReport : Bool
  trunkState : TrunkState
  /-- The grace timer: stopped, or the ms that remain (R10). -/
  grace : Option Nat
deriving DecidableEq, Repr

/-- A walk under way (R18, R23). -/
structure Walk where
  port : Port
  bytes : List Byte
  /-- The bank the frame is bound to: false for bank 0, true for bank 1. -/
  bank : Bool
deriving DecidableEq, Repr

/-- What the Classifier holds (chapter 2). -/
structure Classifier where
  bank0 : Vector Entry 64
  bank1 : Vector Entry 64
  /-- The active-bank selector: false for bank 0, true for bank 1 (R22). -/
  selector : Bool
  /-- The pending-swap mark with the mirror option kept with it (R26). -/
  swap : Option Bool
  /-- R28. -/
  activated : Bool
  /-- Oldest first. -/
  walks : List Walk
deriving DecidableEq, Repr

/-! ## The runtime part of a carrier record -/

/-- The meter part (R51). -/
structure Meter where
  tally : Nat
  sample : Nat
  figure : Nat
  idleRun : Nat
  quietRun : Nat
  primed : Bool
deriving DecidableEq, Repr

/-- The three frame counters (R45). -/
structure FrameCounters where
  metered : Nat
  heldOff : Nat
  missed : Nat
deriving DecidableEq, Repr

/-- A wake-pending mark that is set, with its kept cause (R96, R113, R125). -/
structure KeptWake where
  cls : WakeClass
  cause : Cause
deriving DecidableEq, Repr

/-- The lifecycle part (R96). The elapsed counts are held in ms. -/
structure Life where
  state : LifeState
  dwell : Nat
  drain : Nat
  /-- The length the drain timer was started with, in s (R62, R102). -/
  drainLength : Nat
  doze : Nat
  settle : Nat
  /-- The length the settle timer was started with, in s (R62, R133). -/
  settleLength : Nat
  wakePending : Option KeptWake
  hold : Bool
  sinceRelease : Option Nat
deriving DecidableEq, Repr

/-- The coverage part (R72): the pledge of a dependent; the pledge total, drain list and sleeper list of an anchor;
and the moments that order the lists (R78, R79; assumption log 20). -/
structure Cover where
  pledge : Nat
  pledgeTotal : Nat
  drainList : List CarrierIx
  sleeperList : List CarrierIx
  drainMoment : Nat
  rampMoment : Nat
deriving DecidableEq, Repr

/-- The runtime part of a carrier record (section 5.1). -/
structure Carrier where
  meter : Meter
  counters : FrameCounters
  cover : Cover
  life : Life
  /-- The DRAINED-received mark (R166). -/
  drainedReceived : Bool
deriving DecidableEq, Repr

/-! ## Radio Link Controller, Wake Scheduler, Calendar, Management Engine -/

/-- A directive in a unit's queue (R145, R159). -/
structure Directive where
  kind : DirectiveKind
  /-- None for a unit directive. -/
  carrier : Option CarrierIx
  token : Nat
  link : Nat
  key : BitVec 16
deriving DecidableEq, Repr

/-- The runtime part of a radio-unit record (R143). -/
structure RadioUnit where
  /-- None for a unit not in use. -/
  state : Option UnitState
  queue : List Directive
  /-- The outstanding mark of the head, with the frame that was sent (R146, R182). -/
  sent : Option (List Byte)
  attempts : Nat
  /-- Timers: stopped, or the ms that remain. -/
  replyTimer : Option Nat
  releaseTimer : Option Nat
  deepTimer : Option Nat
  /-- The carrier map, by link number (R144). -/
  map : Vector (Option CarrierIx) 4
  resends : Nat
  discarded : Nat
deriving DecidableEq, Repr

/-- A place in the wake queue (R126). -/
structure Waiting where
  carrier : CarrierIx
  depth : Depth
deriving DecidableEq, Repr

/-- The wake queue in its three classes, each oldest first (R127). -/
structure WakeQueue where
  priority : List Waiting
  coverage : List Waiting
  ordinary : List Waiting
deriving DecidableEq, Repr

/-- The site window timer (R48). -/
structure WindowClock where
  /-- Length of the window in progress, in ms. -/
  length : Nat
  /-- The ms since it began. -/
  elapsed : Nat
deriving DecidableEq, Repr

/-- What the Quiet Calendar holds beside its windows (R85, R86, R90, R94). -/
structure Calendar where
  minute : Nat
  second : Nat
  milli : Nat
  timeSet : Bool
  quiet : BitVec 32
  deep : BitVec 32
  /-- The open mark of each window. -/
  isOpen : BitVec 4
deriving DecidableEq, Repr

/-- A request that waits (R168): its class, the source address of its frame, and its body. -/
structure Request where
  cls : Nat
  source : Addr
  body : List Byte
deriving DecidableEq, Repr

/-- What a notice says (R178). -/
inductive NoticeContent where
  | carrierState (c : CarrierIx) (old new : LifeState) (cause : Cause) (origin : Origin) (minute second : Nat)
  | flag (f : Flag)
  | trunk (restored : Bool)
deriving DecidableEq, Repr

/-- A notice in the queue (R178, R179). -/
structure Notice where
  destination : Addr
  sequence : BitVec 16
  content : NoticeContent
deriving DecidableEq, Repr

/-- What the Management Engine holds beside settings and permissions (chapter 11). -/
structure Engine where
  mode : Mode
  /-- The event flags, by flag position (12.5). -/
  flags : BitVec 12
  /-- Oldest first. -/
  requests : List Request
  /-- The ACTIVATE-BANK that is taken and not yet answered (R27, R169). -/
  activating : Option Request
  /-- A RESTART has been answered: no further request is taken (R175). -/
  restarting : Bool
  /-- Oldest first. -/
  notices : List Notice
  sequence : BitVec 16
deriving DecidableEq, Repr

/-- The counters of the Advisory Unit (R167). -/
structure AdvisoryCounters where
  sent : Nat
  withheld : Nat
deriving DecidableEq, Repr

/-- Whether a warm reset is in progress, where it comes from, and the ms since it began (R175). -/
inductive Phase where
  | running
  | warmReset (source : ResetSource) (elapsed : Nat)
deriving DecidableEq, Repr

/-- The state of the part. -/
structure State where
  /-- R4: fixed. -/
  stationAddress : Addr
  settings : Settings
  /-- The configuration parts of the Carrier Table (R66). -/
  carrierConfig : Vector CarrierConfig 32
  profiles : Vector ProfileRecord 8
  /-- The configuration parts of the radio-unit records (R142). -/
  unitConfig : Vector UnitConfig 8
  actions : Vector ActionEntry 32
  windows : Vector QuietWindow 4
  /-- The permission table, by request kind code (R170). -/
  permissions : Vector Nat 12
  classifier : Classifier
  path : FramePath
  /-- The runtime parts of the Carrier Table (section 5.1). -/
  carriers : Vector Carrier 32
  /-- The runtime parts of the radio-unit records (R143). -/
  units : Vector RadioUnit 8
  /-- The token counter (R147). -/
  token : Nat
  wakeQueue : WakeQueue
  /-- The lock-out timers: stopped, or the ms that remain (R80). -/
  lockOuts : Vector (Option Nat) 8
  windowClock : WindowClock
  calendar : Calendar
  engine : Engine
  advisories : AdvisoryCounters
  phase : Phase
  /-- The model's numbering of the events that place carriers on the lists of R78 and R79 (assumption log 20). -/
  moment : Nat
  /-- The model's count of the free choices read (assumption log 4). -/
  freeCounter : Nat
  /-- The commands that wait, first in first out. -/
  pending : List Instr
deriving DecidableEq, Repr

/-! ## The values after a cold reset -/

/-- R173. -/
def Settings.cold : Settings where
  typeValue := 0x9A3C#16
  stationClass := 0
  trunkGrace := 200
  actionLimit := 0
  windowLength := 1000
  lockOutTime := 600
  holdGuard := 30
  slots := 2
  advisoryDestination := 0#48
  noticeDestination := 0#48
  noticeEnables := 0#3

/-- R66: managed no with every other field zero. -/
def CarrierConfig.cold : CarrierConfig where
  managed := false
  unit := 0#8
  key := 0#16
  sector := 0#8
  anchor := 0#8
  protect := 0#8
  slotRate := 0#8
  ratio := 0#16
  grantUnits := 0#16
  rank := 0#8
  classMask := 0#8
  profile := 0#8

/-- R60, the column of cold values. -/
def Profile.cold : Profile where
  sleepThreshold := 2048
  cancelThreshold := 4096
  ceiling := 32768
  reliefThreshold := 45875
  idleRunLength := 6
  shift := 2
  quietWindows := 3
  drainTimeout := 120
  settleTime := 5
  dwellMinimum := 1800
  deepenDelay := 0

/-- R64: the cold values, not pending. -/
def ProfileRecord.cold : ProfileRecord where
  inForce := Profile.cold
  written := Profile.cold
  pending := false

/-- R142, the column of cold values. -/
def UnitConfig.cold : UnitConfig where
  inUse := false
  deepPermitted := 0#8
  retries := 2#8
  address := 0#48
  releaseTime := 500#16
  replyTimeout := 200#16
  deepDelay := 300#16

/-- R47: not present, kind PASS, every parameter field zero. -/
def ActionEntry.cold : ActionEntry where
  present := false
  kind := .pass
  portSet := 0#8
  sectorMask := 0#8
  keyOffset := 0
  keyWidth := 0
  keyMask := 0#16
  unitOffset := 0
  unitWidth := 0
  unitShift := 0
  cls := 0
  bodyOffset := 0

/-- R29: not in use, all other fields zero. -/
def Entry.cold : Entry where
  inUse := false
  filter := .trunk
  offset := 0
  width := 0
  test := .equal
  pattern := 0#32
  mask := 0#32
  outcome := .result 0

/-- R95: not in use, start 0, end 0, carrier set empty, LIGHT-ONLY. -/
def QuietWindow.cold : QuietWindow where
  inUse := false
  start := 0
  stop := 0
  carriers := 0#32
  deepAllowed := false

/-- R14: empty. -/
def EgressQueue.empty : EgressQueue where
  sending := none
  injected := []
  pass := []

/-- R14: the Frame Path at the end of a reset that finds the trunk not lost: the link statuses as the ports report
them; the trunk UP, or FAILING with the grace timer started. -/
def FramePath.cold (branchReport : BitVec 8) (trunkReport : Bool) (trunkGrace : Nat) : FramePath where
  trunkQueue := EgressQueue.empty
  branchQueues := Vector.replicate 8 EgressQueue.empty
  branchUp := branchReport
  branchReport := branchReport
  trunkReport := trunkReport
  trunkState := if trunkReport then .up else .failing
  grace := if trunkReport then none else some trunkGrace

/-- R29. -/
def Classifier.cold : Classifier where
  bank0 := Vector.replicate 64 Entry.cold
  bank1 := Vector.replicate 64 Entry.cold
  selector := false
  swap := none
  activated := false
  walks := []

/-- R51, R64: all zero, not primed. -/
def Meter.clear : Meter where
  tally := 0
  sample := 0
  figure := 0
  idleRun := 0
  quietRun := 0
  primed := false

/-- R45. -/
def FrameCounters.clear : FrameCounters where
  metered := 0
  heldOff := 0
  missed := 0

/-- R84: no pledge, empty lists. -/
def Cover.clear : Cover where
  pledge := 0
  pledgeTotal := 0
  drainList := []
  sleeperList := []
  drainMoment := 0
  rampMoment := 0

/-- R96: every count 0, the mark none, the hold mark clear, since last release none; the state as given. -/
def Life.clear (state : LifeState) : Life where
  state := state
  dwell := 0
  drain := 0
  drainLength := 0
  doze := 0
  settle := 0
  settleLength := 0
  wakePending := none
  hold := false
  sinceRelease := none

/-- R45, R64, R84, R96, R166. -/
def Carrier.cold : Carrier where
  meter := Meter.clear
  counters := FrameCounters.clear
  cover := Cover.clear
  life := Life.clear .unmanaged
  drainedReceived := false

/-- R143: the queue empty, the timers stopped, the carrier map empty, the counters at 0; not in use, so no state. -/
def RadioUnit.cold : RadioUnit where
  state := none
  queue := []
  sent := none
  attempts := 0
  replyTimer := none
  releaseTimer := none
  deepTimer := none
  map := Vector.replicate 4 none
  resends := 0
  discarded := 0

/-- R128. -/
def WakeQueue.empty : WakeQueue where
  priority := []
  coverage := []
  ordinary := []

/-- R95. -/
def Calendar.cold : Calendar where
  minute := 0
  second := 0
  milli := 0
  timeSet := false
  quiet := 0#32
  deep := 0#32
  isOpen := 0#4

/-- R176, R178, R179, R180: TRANSPARENT; every flag clear except TIME-UNSET (position 7); queues empty. -/
def Engine.cold : Engine where
  mode := .transparent
  flags := 0x080#12
  requests := []
  activating := none
  restarting := false
  notices := []
  sequence := 0#16

/-- R170: ceiling 3 for IDENTIFY and READ-RECORDS, 0 for every other kind. -/
def coldPermissions : Vector Nat 12 := #v[3, 3, 0, 0, 0, 0, 0, 0, 0, 0, 0, 0]

/-- The part at the end of a cold reset that finds the given link reports (R14 and the reset rule of each block). -/
def State.cold (branchReport : BitVec 8) (trunkReport : Bool) : State where
  stationAddress := Config.stationAddress
  settings := Settings.cold
  carrierConfig := Vector.replicate 32 CarrierConfig.cold
  profiles := Vector.replicate 8 ProfileRecord.cold
  unitConfig := Vector.replicate 8 UnitConfig.cold
  actions := Vector.replicate 32 ActionEntry.cold
  windows := Vector.replicate 4 QuietWindow.cold
  permissions := coldPermissions
  classifier := Classifier.cold
  path := FramePath.cold branchReport trunkReport Settings.cold.trunkGrace
  carriers := Vector.replicate 32 Carrier.cold
  units := Vector.replicate 8 RadioUnit.cold
  token := 1
  wakeQueue := WakeQueue.empty
  lockOuts := Vector.replicate 8 none
  windowClock := { length := Settings.cold.windowLength, elapsed := 0 }
  calendar := Calendar.cold
  engine := Engine.cold
  advisories := { sent := 0, withheld := 0 }
  phase := .running
  moment := 0
  freeCounter := 0
  pending := []

/-- The machine right after a cold reset. R14 gives the link statuses "as reported by each port"; here every port
reports its link up (DESIGN CHOICE, unsafe: assumption log 6). -/
def State.reset : State := State.cold 0xFF#8 true

end Sys2Proof.Machine
end

