-- ==== Sys2Proof/Machine/Codes.lean ====
section
/-! DEFINITION. The encodings of 12.3, 12.4 and 12.5: the code of each name, and the name of each code. -/

namespace Sys2Proof.Machine

/-- The request kinds (12.5). -/
inductive RequestKind where
  | identify | readRecords | writeRecords | activateBank | setTime | setMode | sleepNow | wake
  | holdDrain | releaseHold | clearFlags | restart
deriving DecidableEq, Repr

/-- 12.5, Request kind. -/
def RequestKind.code : RequestKind → Fin 12
  | .identify => 0 | .readRecords => 1 | .writeRecords => 2 | .activateBank => 3 | .setTime => 4
  | .setMode => 5 | .sleepNow => 6 | .wake => 7 | .holdDrain => 8 | .releaseHold => 9
  | .clearFlags => 10 | .restart => 11

/-- 12.5, Request kind, read back; none for a code that is not in the table (R169, R181). -/
def RequestKind.ofCode (b : Byte) : Option RequestKind :=
  match b.toNat with
  | 0 => some .identify | 1 => some .readRecords | 2 => some .writeRecords | 3 => some .activateBank
  | 4 => some .setTime | 5 => some .setMode | 6 => some .sleepNow | 7 => some .wake
  | 8 => some .holdDrain | 9 => some .releaseHold | 10 => some .clearFlags | 11 => some .restart
  | _ => none

/-- The fourteen tables (section 11.3). -/
inductive Table where
  | carrier | carrierStatus | profile | radioUnit | radioStatus | action | classifierStandby
  | classifierActive | window | permission | settings | flags | wakeQueue | sleepers
deriving DecidableEq, Repr

/-- 12.5, Table identifier. -/
def Table.code : Table → Nat
  | .carrier => 1 | .carrierStatus => 2 | .profile => 3 | .radioUnit => 4 | .radioStatus => 5
  | .action => 6 | .classifierStandby => 7 | .classifierActive => 8 | .window => 9 | .permission => 10
  | .settings => 11 | .flags => 12 | .wakeQueue => 13 | .sleepers => 14

/-- 12.5, Table identifier, read back. -/
def Table.ofCode (b : Byte) : Option Table :=
  match b.toNat with
  | 1 => some .carrier | 2 => some .carrierStatus | 3 => some .profile | 4 => some .radioUnit
  | 5 => some .radioStatus | 6 => some .action | 7 => some .classifierStandby
  | 8 => some .classifierActive | 9 => some .window | 10 => some .permission | 11 => some .settings
  | 12 => some .flags | 13 => some .wakeQueue | 14 => some .sleepers
  | _ => none

/-- How many indices a table has (section 11.3; SETTINGS: 12.4, "An index above 34"). -/
def Table.size : Table → Nat
  | .carrier => 32 | .carrierStatus => 32 | .profile => 8 | .radioUnit => 8 | .radioStatus => 8
  | .action => 32 | .classifierStandby => 64 | .classifierActive => 64 | .window => 4 | .permission => 12
  | .settings => 35 | .flags => 1 | .wakeQueue => 32 | .sleepers => 32

/-- The status codes (R170). -/
inductive Status where
  | done | busy | denied | badTable | badIndex | badValue | badLength | badAnchor | unitFull | dupKey
  | stateConflict | isProtected | notDependent | noAnchor | anchorFull | noAdvisory | trunkLost | lockedOut
  | mode | notDraining | notHeld | tooSoon | notReady | swapPending
deriving DecidableEq, Repr

/-- 12.5, Status codes. -/
def Status.code : Status → Nat
  | .done => 0 | .busy => 1 | .denied => 2 | .badTable => 3 | .badIndex => 4 | .badValue => 5
  | .badLength => 6 | .badAnchor => 7 | .unitFull => 8 | .dupKey => 9 | .stateConflict => 10
  | .isProtected => 11 | .notDependent => 12 | .noAnchor => 13 | .anchorFull => 14 | .noAdvisory => 15
  | .trunkLost => 16 | .lockedOut => 17 | .mode => 18 | .notDraining => 19 | .notHeld => 20
  | .tooSoon => 21 | .notReady => 22 | .swapPending => 23

/-- 12.5, Mode. -/
def Mode.code : Mode → Nat
  | .transparent => 0 | .monitor => 1 | .acting => 2

/-- 12.4, SETTINGS entry 13. -/
def TrunkState.code : TrunkState → Nat
  | .up => 0 | .failing => 1 | .lost => 2 | .returning => 3

/-- 12.5, Lifecycle state. -/
def LifeState.code : LifeState → Nat
  | .unmanaged => 0 | .active => 1 | .draining => 2 | .drainHeld => 3 | .rampdown => 4 | .doze => 5
  | .deepening => 6 | .slumber => 7 | .queued => 8 | .warmup => 9 | .restoring => 10 | .lost => 11

/-- 12.5, Unit state; 255 for a unit not in use. -/
def unitStateCode : Option UnitState → Nat
  | some .up => 0 | some .deepPending => 1 | some .deep => 2 | some .releasing => 3
  | some .unreachable => 5 | none => 255

/-- 12.5, Wake class. -/
def WakeClass.code : WakeClass → Nat
  | .ordinary => 1 | .coverage => 2 | .priority => 3

/-- 12.5, Depth at entry. -/
def Depth.code : Depth → Nat
  | .light => 0 | .deep => 1 | .unknown => 2

/-- 12.5, Flag position. -/
def Flag.position : Flag → Fin 12
  | .classifyFault => 0 | .actionFault => 1 | .unknownKey => 2 | .unitsClamped => 3
  | .slumberTriggerMissed => 4 | .carrierLost => 5 | .trunkDown => 6 | .timeUnset => 7
  | .noticeDropped => 8 | .lateReply => 9 | .strayAdvisory => 10 | .warmRestart => 11

/-- 12.5, Cause codes. -/
def Cause.code : Cause → Nat
  | .idle => 1 | .sleepNow => 2 | .drainQuiet => 3 | .drained => 4 | .held => 5 | .released => 6
  | .loadRose => 7 | .drainTimeout => 8 | .declined => 9 | .relief => 10 | .windowClosed => 11
  | .anchorLost => 12 | .trunkLost => 13 | .priority => 14 | .wake => 15 | .mode => 16
  | .asleepLight => 17 | .deepen => 18 | .asleepDeep => 19 | .deepenWithdrawn => 20
  | .radioRefused => 21 | .radioSilent => 22 | .fault => 23 | .configured => 24 | .traffic => 25
  | .granted => 26 | .ready => 27 | .settled => 28 | .linkDown => 29 | .linkUp => 30 | .restart => 31

/-- 12.3, byte 8 of a notice. -/
def Origin.code : Origin → Nat
  | .external => 0 | .requested => 1 | .timed => 2

/-- 12.3, Directive codes. -/
def DirectiveKind.code : DirectiveKind → Nat
  | .carrierSleep => 1 | .carrierDeepen => 2 | .carrierWake => 3 | .unitDeep => 4 | .unitRelease => 5

/-- The reports of a radio reply (R148). -/
inductive Report where
  | ready | asleepLight | asleepDeep | fault | unitDown | unitBusy
deriving DecidableEq, Repr

/-- 12.3, byte 2 of a radio reply; none for a code that is none of the six (R148). -/
def Report.ofCode (b : Byte) : Option Report :=
  match b.toNat with
  | 1 => some .ready | 2 => some .asleepLight | 3 => some .asleepDeep | 4 => some .fault
  | 5 => some .unitDown | 6 => some .unitBusy
  | _ => none

/-- The kinds of an advisory reply (R163). -/
inductive AdvisoryReply where
  | drained | decline
deriving DecidableEq, Repr

/-- 12.3, byte 0 of an advisory reply. -/
def AdvisoryReply.ofCode (b : Byte) : Option AdvisoryReply :=
  match b.toNat with
  | 1 => some .drained | 2 => some .decline
  | _ => none

/-- The two advisories (R161). -/
inductive Advisory where
  | bar | openUp
deriving DecidableEq, Repr

/-- 12.3, byte 1 of an advisory. -/
def Advisory.code : Advisory → Nat
  | .bar => 1 | .openUp => 2

/-- 12.4, Action kinds. -/
def ActionKind.code : ActionKind → Nat
  | .pass => 0 | .meter => 1 | .triggerOrdinary => 2 | .triggerPriority => 3 | .control => 4
  | .radioReply => 5 | .advisoryReply => 6 | .discard => 7

/-- 12.4, Action kinds, read back (R33: "the kind is not one of the eight above"). -/
def ActionKind.ofCode (b : Byte) : Option ActionKind :=
  match b.toNat with
  | 0 => some .pass | 1 => some .meter | 2 => some .triggerOrdinary | 3 => some .triggerPriority
  | 4 => some .control | 5 => some .radioReply | 6 => some .advisoryReply | 7 => some .discard
  | _ => none

/-- 12.4, Classifier entry, byte 1. -/
def PortFilter.code : PortFilter → Nat
  | .trunk => 0 | .branch => 1 | .any => 2

/-- 12.4, Classifier entry, byte 1, read back. -/
def PortFilter.ofCode (b : Byte) : Option PortFilter :=
  match b.toNat with
  | 0 => some .trunk | 1 => some .branch | 2 => some .any
  | _ => none

/-- 12.4, Classifier entry, byte 4. -/
def FieldTest.code : FieldTest → Nat
  | .equal => 0 | .differ => 1 | .allSet => 2 | .allClear => 3

/-- 12.4, Classifier entry, byte 4, read back. -/
def FieldTest.ofCode (b : Byte) : Option FieldTest :=
  match b.toNat with
  | 0 => some .equal | 1 => some .differ | 2 => some .allSet | 3 => some .allClear
  | _ => none

end Sys2Proof.Machine
end

