-- ==== Sys2Proof/Machine/Ops.lean ====
section
/-! DEFINITION. The named operations over the state: the carrier and unit records, the links, and the egress queues
with the two ways a frame reaches them (R6, R7, R8). -/

namespace Sys2Proof.Machine

/-! ## Groups of lifecycle states -/

/-- The drain states (section 7.1). -/
def LifeState.isDrain : LifeState → Bool
  | .draining => true | .drainHeld => true
  | .unmanaged => false | .active => false | .rampdown => false | .doze => false | .deepening => false
  | .slumber => false | .queued => false | .warmup => false | .restoring => false | .lost => false

/-- The sleeper states (section 7.1). -/
def LifeState.isSleeper : LifeState → Bool
  | .rampdown => true | .doze => true | .deepening => true | .slumber => true
  | .unmanaged => false | .active => false | .draining => false | .drainHeld => false | .queued => false
  | .warmup => false | .restoring => false | .lost => false

/-- The awake states of section 3.6, in which a downlink METER frame is forwarded (R42). -/
def LifeState.isAwake : LifeState → Bool
  | .active => true | .draining => true | .drainHeld => true | .restoring => true | .lost => true
  | .unmanaged => false | .rampdown => false | .doze => false | .deepening => false | .slumber => false
  | .queued => false | .warmup => false

/-- UNMANAGED, ACTIVE or LOST: the states in which a structural change is accepted (R70, R142). -/
def LifeState.isSettled : LifeState → Bool
  | .unmanaged => true | .active => true | .lost => true
  | .draining => false | .drainHeld => false | .rampdown => false | .doze => false | .deepening => false
  | .slumber => false | .queued => false | .warmup => false | .restoring => false

/-! ## Carrier and unit records -/

/-- The index that a byte of a managed record names; the range checks of R67 keep it in range, and a record that is
not managed acts on nothing. -/
def CarrierConfig.unitIx (k : CarrierConfig) : UnitIx := Fin.ofNat 8 k.unit.toNat
/-- See `CarrierConfig.unitIx`. -/
def CarrierConfig.sectorIx (k : CarrierConfig) : SectorIx := Fin.ofNat 8 k.sector.toNat
/-- See `CarrierConfig.unitIx`. -/
def CarrierConfig.anchorIx (k : CarrierConfig) : CarrierIx := Fin.ofNat 32 k.anchor.toNat
/-- See `CarrierConfig.unitIx`. -/
def CarrierConfig.profileIx (k : CarrierConfig) : ProfileIx := Fin.ofNat 8 k.profile.toNat
/-- Protected: 1 for yes (12.4). Of a carrier that is not managed R67 stores the byte unchecked; one that is neither 0 nor 1
is taken as not protected (the model's choice: assumption log 40). -/
def CarrierConfig.isProtected (k : CarrierConfig) : Bool := k.protect = 1#8
/-- Whether a management class is in the class mask (12.4: class n is bit n). -/
def CarrierConfig.admitsClass (k : CarrierConfig) (cls : Nat) : Bool := memberOf k.classMask cls

/-- The configuration part of a carrier record. -/
def State.config (s : State) (c : CarrierIx) : CarrierConfig := s.carrierConfig[c]
/-- The runtime part of a carrier record. -/
def State.carrier (s : State) (c : CarrierIx) : Carrier := s.carriers[c]
/-- A carrier's lifecycle state. -/
def State.lifeState (s : State) (c : CarrierIx) : LifeState := (s.carrier c).life.state
/-- Writes the runtime part of one carrier record. -/
def State.setCarrier (c : CarrierIx) (x : Carrier) (s : State) : State :=
  { s with carriers := s.carriers.set c x c.isLt }
/-- Changes the lifecycle part of one carrier record. -/
def State.setLife (c : CarrierIx) (x : Life) (s : State) : State :=
  s.setCarrier c { s.carrier c with life := x }
/-- Changes the coverage part of one carrier record. -/
def State.setCover (c : CarrierIx) (x : Cover) (s : State) : State :=
  s.setCarrier c { s.carrier c with cover := x }
/-- Changes the meter part of one carrier record. -/
def State.setMeter (c : CarrierIx) (x : Meter) (s : State) : State :=
  s.setCarrier c { s.carrier c with meter := x }
/-- Changes the frame counters of one carrier record. -/
def State.setCounters (c : CarrierIx) (x : FrameCounters) (s : State) : State :=
  s.setCarrier c { s.carrier c with counters := x }

/-- Managed: every carrier whose lifecycle state is other than UNMANAGED (R39). -/
def State.isManaged (s : State) (c : CarrierIx) : Bool := s.lifeState c != .unmanaged
/-- The anchor a carrier names. -/
def State.anchorOf (s : State) (c : CarrierIx) : CarrierIx := (s.config c).anchorIx
/-- The unit that carries it. -/
def State.unitOf (s : State) (c : CarrierIx) : UnitIx := (s.config c).unitIx
/-- The values in force of the profile a carrier names (R62). -/
def State.profileOf (s : State) (c : CarrierIx) : Profile := (s.profiles[(s.config c).profileIx]).inForce
/-- A managed carrier whose anchor field holds its own index (section 5.3). -/
def State.isAnchor (s : State) (c : CarrierIx) : Bool := s.isManaged c && s.anchorOf c == c
/-- Every other managed carrier (section 5.3). -/
def State.isDependent (s : State) (c : CarrierIx) : Bool := s.isManaged c && s.anchorOf c != c
/-- The dependents of an anchor, in ascending carrier index (section 5.3). -/
def State.dependents (s : State) (a : CarrierIx) : List CarrierIx :=
  (List.finRange 32).filter fun c => s.isDependent c && s.anchorOf c == a
/-- The managed carriers, in ascending carrier index. -/
def State.managedCarriers (s : State) : List CarrierIx := (List.finRange 32).filter s.isManaged
/-- The managed carriers of a radio unit, in ascending carrier index. -/
def State.unitCarriers (s : State) (u : UnitIx) : List CarrierIx :=
  (List.finRange 32).filter fun c => s.isManaged c && s.unitOf c == u
/-- The number of carriers in WARMUP: each holds one warm-up slot (R130, R131). -/
def State.warmups (s : State) : Nat := ((List.finRange 32).filter fun c => s.lifeState c == .warmup).length

/-- The runtime part of a radio-unit record. -/
def State.unit (s : State) (u : UnitIx) : RadioUnit := s.units[u]
/-- Writes the runtime part of one radio-unit record. -/
def State.setUnit (u : UnitIx) (x : RadioUnit) (s : State) : State :=
  { s with units := s.units.set u x u.isLt }

/-! ## Trunk and links -/

/-- The lost condition is true in LOST and in RETURNING (section 1.6). -/
def State.trunkLost (s : State) : Bool :=
  match s.path.trunkState with
  | .up => false | .failing => false | .lost => true | .returning => true

/-- The link of the trunk is up in UP and in RETURNING (section 1.6). -/
def FramePath.trunkLinkUp (p : FramePath) : Bool :=
  match p.trunkState with
  | .up => true | .failing => false | .lost => false | .returning => true

/-- Whether a port's link is up. -/
def FramePath.linkUp (p : FramePath) : Port → Bool
  | .trunk => p.trunkLinkUp
  | .branch n => memberOf p.branchUp n.val

/-- Sets one of eight link bits. -/
def setLink (bits : BitVec 8) (n : UnitIx) (up : Bool) : BitVec 8 :=
  if up then bits ||| (1#8 <<< n.val) else bits &&& ~~~(1#8 <<< n.val)

/-! ## Egress queues -/

/-- A frame counts by its full length, check sequence included (R6, R15). -/
def Frame.length (f : Frame) : Nat := f.bytes.length + Config.checkBytes

/-- The bytes a list of waiting frames counts for. -/
def framesLength (fs : List Frame) : Nat := (fs.map Frame.length).sum

/-- The bytes counted against a queue's capacity: the frame in transmission and every waiting frame (R6). -/
def EgressQueue.used (q : EgressQueue) : Nat :=
  (q.sending.elim 0 Frame.length) + framesLength q.injected + framesLength q.pass

/-- R7: a port that is not transmitting starts its next frame: the oldest waiting injected frame, else the oldest
waiting pass frame. -/
def EgressQueue.start (q : EgressQueue) : EgressQueue :=
  match q.sending, q.injected, q.pass with
  | some _, _, _ => q
  | none, f :: fs, _ => { q with sending := some f, injected := fs }
  | none, [], f :: fs => { q with sending := some f, pass := fs }
  | none, [], [] => q

/-- R6: a pass frame is admitted at the tail of the pass frames when it fits, and is discarded otherwise. -/
def EgressQueue.offerPass (room : Nat) (f : Frame) (q : EgressQueue) : EgressQueue :=
  if q.used + f.length ≤ room then { q with pass := q.pass ++ [f] }.start else q

/-- The waiting pass frames that stay when the most recently admitted are discarded until the rest fit (R8). -/
def keepFitting : Nat → List Frame → List Frame
  | _, [] => []
  | room, f :: fs => if f.length ≤ room then f :: keepFitting (room - f.length) fs else []

/-- R8: an injected frame makes room for itself by discarding waiting pass frames, most recently admitted first; it
is discarded itself when it does not fit with no waiting pass frame left. -/
def EgressQueue.offerInjected (room : Nat) (f : Frame) (q : EgressQueue) : EgressQueue :=
  let base := (q.sending.elim 0 Frame.length) + framesLength q.injected + f.length
  if base ≤ room then
    { q with injected := q.injected ++ [f], pass := keepFitting (room - base) q.pass }.start
  else { q with pass := [] }.start

/-- R7: the frame in transmission has been sent; its length returns to the free capacity and the next starts. -/
def EgressQueue.finish (q : EgressQueue) : EgressQueue := { q with sending := none }.start

/-- The egress queue of a port. -/
def FramePath.queue (p : FramePath) : Port → EgressQueue
  | .trunk => p.trunkQueue
  | .branch n => p.branchQueues[n]

/-- Writes the egress queue of a port. -/
def FramePath.setQueue (port : Port) (q : EgressQueue) (p : FramePath) : FramePath :=
  match port with
  | .trunk => { p with trunkQueue := q }
  | .branch n => { p with branchQueues := p.branchQueues.set n q n.isLt }

/-- Writes what the Frame Path holds. -/
def State.setPath (p : FramePath) (s : State) : State := { s with path := p }

/-- Writes what the Management Engine holds. -/
def State.setEngine (e : Engine) (s : State) : State := { s with engine := e }

/-- R6: offers a pass frame to a port's egress queue; it is discarded while the link is down. -/
def State.offerPass (port : Port) (bytes : List Byte) (s : State) : State :=
  if s.path.linkUp port then
    s.setPath (s.path.setQueue port
      ((s.path.queue port).offerPass (Config.queueRoom port) { bytes := bytes, restartAnswer := false }))
  else s

/-- R8: offers an injected frame to a port's egress queue; it is discarded while the link is down. -/
def State.offerInjected (port : Port) (f : Frame) (s : State) : State :=
  if s.path.linkUp port then
    s.setPath (s.path.setQueue port ((s.path.queue port).offerInjected (Config.queueRoom port) f))
  else s

/-- R6: one copy of a pass frame to each branch port of a port set, each admitted or discarded by its own queue. -/
def State.offerBranches (ports : Byte) (bytes : List Byte) (s : State) : State :=
  (List.finRange 8).foldl (fun s (n : UnitIx) => if memberOf ports n.val then s.offerPass (.branch n) bytes else s) s

/-- Every branch port. -/
def allBranches : Byte := 0xFF#8

/-- The bytes of a frame the part builds: envelope and body, zero bytes after the body until the frame reaches 64
bytes with its check sequence (chapter 12, R182). -/
def buildFrame (destination source : Addr) (typeValue : BitVec 16) (body : List Byte) : List Byte :=
  let bytes := beBytes 6 destination.toNat ++ beBytes 6 source.toNat ++ beBytes 2 typeValue.toNat ++ body
  bytes ++ List.replicate (Config.minFrame - Config.checkBytes - bytes.length) 0#8

/-- The bytes of a frame the part injects: the station address as source, the management type value in force (R4). -/
def State.ownFrame (s : State) (destination : Addr) (body : List Byte) : List Byte :=
  buildFrame destination s.stationAddress s.settings.typeValue body

/-- Injects a frame of the part's own at a port. -/
def State.inject (port : Port) (destination : Addr) (body : List Byte) (s : State) : State :=
  s.offerInjected port { bytes := s.ownFrame destination body, restartAnswer := false }

end Sys2Proof.Machine
end

