-- ==== Sys2Proof/Machine/Flags.lean ====
section
/-! DEFINITION. The event flags (R176) and the notices that tell of flags, carrier states and the trunk (R178, R179). -/

namespace Sys2Proof.Machine

/-- One flag as a mask, by flag position (12.5). -/
def Flag.mask (f : Flag) : BitVec 12 := 1#12 <<< f.position.val

/-- Whether a flag is raised. -/
def State.flagRaised (s : State) (f : Flag) : Bool := memberOf s.engine.flags f.position.val

/-- Raises a flag in the set of flags, nothing else. -/
def State.setFlag (f : Flag) (s : State) : State :=
  s.setEngine { s.engine with flags := s.engine.flags ||| f.mask }

/-- Clears a flag in the set of flags (R86: SET-TIME clears TIME-UNSET). -/
def State.dropFlag (f : Flag) (s : State) : State :=
  s.setEngine { s.engine with flags := s.engine.flags &&& ~~~f.mask }

/-- The position of a notice's kind among the notice enables (12.4, SETTINGS entry 11). -/
def NoticeContent.enableBit : NoticeContent → Nat
  | .carrierState .. => 0
  | .flag _ => 1
  | .trunk _ => 2

/-- R178: a notice is generated only when its kind is enabled and a notice destination is set. -/
def State.noticeWanted (s : State) (n : NoticeContent) : Bool :=
  memberOf s.settings.noticeEnables n.enableBit && s.settings.noticeDestination != 0#48

/-- The body of a notice frame (12.3). -/
def Notice.body (n : Notice) : List Byte :=
  match n.content with
  | .carrierState c old new cause origin minute second =>
    [0x21#8, 1#8] ++ beBytes 2 n.sequence.toNat ++
      [BitVec.ofNat 8 c.val, BitVec.ofNat 8 old.code, BitVec.ofNat 8 new.code, BitVec.ofNat 8 cause.code,
       BitVec.ofNat 8 origin.code] ++ beBytes 2 minute ++ [BitVec.ofNat 8 second]
  | .flag f => [0x21#8, 2#8] ++ beBytes 2 n.sequence.toNat ++ [BitVec.ofNat 8 f.position.val]
  | .trunk restored => [0x21#8, 3#8] ++ beBytes 2 n.sequence.toNat ++ [markByte restored]

/-- R179: the queue passes every notice it holds to the trunk egress queue, oldest first. -/
def State.passNotices (s : State) : State :=
  (s.engine.notices.foldl (fun s n => s.inject .trunk n.destination n.body) s).setEngine
    { s.engine with notices := [] }

/-- R179: while the trunk state is UP every notice is passed on in the event that queues it. -/
def State.passIfUp (s : State) : State :=
  if s.path.trunkState = .up then s.passNotices else s

/-- R178, R179: generates a notice. It takes the sequence number and joins the queue; true tells that the queue held
sixteen and the notice was dropped. -/
def State.offerNotice (n : NoticeContent) (s : State) : State × Bool :=
  if s.noticeWanted n then
    let made : Notice := { destination := s.settings.noticeDestination, sequence := s.engine.sequence, content := n }
    let counted := s.setEngine { s.engine with sequence := s.engine.sequence + 1 }
    if counted.engine.notices.length < Config.noticeRoom then
      ((counted.setEngine { counted.engine with notices := counted.engine.notices ++ [made] }).passIfUp, false)
    else (counted, true)
  else (s, false)

/-- R179: generates a notice; a drop raises NOTICE-DROPPED, whose own FLAG notice is generated when the flag was
clear and is dropped in its turn if the queue is still full. -/
def State.notify (n : NoticeContent) (s : State) : State :=
  let r := s.offerNotice n
  if r.2 && !r.1.flagRaised .noticeDropped then
    ((r.1.setFlag .noticeDropped).offerNotice (.flag .noticeDropped)).1
  else r.1

/-- R176: raises a flag; a FLAG notice is generated when it goes from clear to raised. -/
def State.raiseFlag (f : Flag) (s : State) : State :=
  if s.flagRaised f then s else (s.setFlag f).notify (.flag f)

/-- R97, R178: the CARRIER-STATE notice of a change of state, with the minute and second of the time of day. -/
def State.notifyState (c : CarrierIx) (old new : LifeState) (cause : Cause) (origin : Origin) (s : State) : State :=
  s.notify (.carrierState c old new cause origin s.calendar.minute s.calendar.second)

/-- The origin of each cause (R98, R123, R131, R134, R135, R136, R71, R140). DRAINED is REQUESTED when RELEASE-HOLD
completes the drain, and RESTART takes its origin from the reset: those two callers say so themselves. -/
def Cause.origin : Cause → Origin
  | .idle => .timed | .sleepNow => .requested | .drainQuiet => .timed | .drained => .external
  | .held => .requested | .released => .requested | .loadRose => .timed | .drainTimeout => .timed
  | .declined => .external | .relief => .timed | .windowClosed => .timed | .anchorLost => .external
  | .trunkLost => .external | .priority => .external | .wake => .requested | .mode => .requested
  | .asleepLight => .external | .deepen => .timed | .asleepDeep => .external | .deepenWithdrawn => .timed
  | .radioRefused => .external | .radioSilent => .timed | .fault => .external | .configured => .requested
  | .traffic => .external | .granted => .timed | .ready => .external | .settled => .timed
  | .linkDown => .external | .linkUp => .external | .restart => .external

end Sys2Proof.Machine
end

