-- ==== Sys2Proof/Machine/RadioLink.lean ====
section
/-! DEFINITION. The Radio Link Controller's own operations (chapter 9): tokens, sending, UNIT-RELEASE, the unit deep
timer, taking a carrier directive, and the carrier map. What they set off in other blocks stands in
Machine/Lifecycle.lean. -/

namespace Sys2Proof.Machine

/-- R147: from 255 the counter goes to 1. -/
def nextToken (t : Nat) : Nat := if t < 255 then t + 1 else 1

/-- R147: the counter's value has been taken as a token. -/
def State.advanceToken (s : State) : State := { s with token := nextToken s.token }

/-- The body of a directive frame (12.3). -/
def Directive.body (d : Directive) : List Byte :=
  [0x41#8, BitVec.ofNat 8 d.kind.code, 0#8, BitVec.ofNat 8 d.token, BitVec.ofNat 8 d.link, 0#8] ++
    beBytes 2 d.key.toNat

/-- The configuration part of a radio-unit record. -/
def State.unitSettings (s : State) (u : UnitIx) : UnitConfig := s.unitConfig[u]

/-- The link number a carrier holds in a unit's carrier map (R144). A managed carrier always holds one. -/
def RadioUnit.linkOf (x : RadioUnit) (c : CarrierIx) : Nat :=
  (((List.finRange 4).find? fun l => x.map[l] == some c).map Fin.val).getD 0

/-- R146: sends a directive that stands at the head of a unit's queue. The frame is kept, because a repeat is the same
frame byte for byte (R182). -/
def State.transmit (u : UnitIx) (d : Directive) (s : State) : State :=
  let bytes := s.ownFrame (s.unitSettings u).address d.body
  (s.setUnit u { s.unit u with
      sent := some bytes, attempts := 1, replyTimer := some (s.unitSettings u).replyTimeout.toNat }).offerInjected
    (.branch u) { bytes := bytes, restartAnswer := false }

/-- A unit directive with the next token; link number and key are zero (12.3). -/
def State.unitDirective (s : State) (kind : DirectiveKind) : Directive :=
  { kind := kind, carrier := none, token := s.token, link := 0, key := 0#16 }

/-- R155: UNIT-RELEASE is given a token and sent at once, ahead of the queue, with no reply timer; it is removed as it
is sent. The unit enters RELEASING with the release timer started, and the unit deep timer stops (R153). -/
def State.releaseUnit (u : UnitIx) (s : State) : State :=
  ((s.advanceToken).setUnit u { s.unit u with
      state := some .releasing, releaseTimer := some (s.unitSettings u).releaseTime.toNat, deepTimer := none }).inject
    (.branch u) (s.unitSettings u).address (s.unitDirective .unitRelease).body

/-- R153: the unit deep timer is stopped. -/
def State.stopDeepTimer (u : UnitIx) (s : State) : State := s.setUnit u { s.unit u with deepTimer := none }

/-- The three conditions of R153: the unit is UP, has a managed carrier, and all of its managed carriers are in
SLUMBER. -/
def State.deepReady (s : State) (u : UnitIx) : Bool :=
  (s.unit u).state == some .up && !(s.unitCarriers u).isEmpty &&
    (s.unitCarriers u).all fun c => s.lifeState c == .slumber

/-- The mode is ACTING and the trunk is not lost: the condition on every decision that begins sleep (R11, R115, R116,
R153). -/
def State.mayDeepen (s : State) : Bool := s.engine.mode == .acting && !s.trunkLost

/-- The unit deep delay in ms. -/
def State.deepDelay (s : State) (u : UnitIx) : Nat := (s.unitSettings u).deepDelay.toNat * 1000

/-- R153, R154: the unit deep timer expires. UNIT-DEEP is queued and sent if the conditions hold, and the unit enters
DEEP-PENDING; otherwise the timer starts again with the full delay. -/
def State.deepExpire (u : UnitIx) (s : State) : State :=
  let x := s.unit u
  if s.deepReady u && x.queue.isEmpty && x.sent.isNone && (s.unitSettings u).deepPermitted == 1#8 && s.mayDeepen then
    let d := s.unitDirective .unitDeep
    ((s.advanceToken).setUnit u { x with state := some .deepPending, queue := [d], deepTimer := none }).transmit u d
  else s.setUnit u { x with deepTimer := some (s.deepDelay u) }

/-- R153: starts the unit deep timer when its three conditions hold and it is not running. A delay of 0 makes it
expire as it starts. -/
def State.deepTest (u : UnitIx) (s : State) : State :=
  if s.deepReady u && (s.unit u).deepTimer.isNone then
    if s.deepDelay u = 0 then s.deepExpire u
    else s.setUnit u { s.unit u with deepTimer := some (s.deepDelay u) }
  else s

/-- R145: hands a carrier directive to the Radio Link Controller. None when it is not taken: the unit is not in use or
is UNREACHABLE. A directive that is taken gets a token and the tail of the unit's queue; a DEEP unit is released. The
send in UP (R146) is the caller's next task. -/
def State.handDirective (kind : DirectiveKind) (c : CarrierIx) (s : State) : Option State :=
  let u := s.unitOf c
  let x := s.unit u
  let d : Directive :=
    { kind := kind, carrier := some c, token := s.token, link := x.linkOf c, key := (s.config c).key }
  let taken := (s.advanceToken).setUnit u { x with queue := x.queue ++ [d] }
  match x.state with
  | none => none
  | some .unreachable => none
  | some .deep => some (taken.releaseUnit u)
  | some .up => some taken
  | some .deepPending => some taken
  | some .releasing => some taken

/-- A unit with its outstanding directive ended: the reply timer is stopped and no token is awaited. -/
def RadioUnit.idle (x : RadioUnit) : RadioUnit := { x with sent := none, attempts := 0, replyTimer := none }

/-- R146: the outstanding directive is removed from the head of the queue. -/
def State.dropHead (u : UnitIx) (s : State) : State :=
  s.setUnit u { (s.unit u).idle with queue := (s.unit u).queue.tail }

/-- Whether a directive is for a carrier. -/
def Directive.isFor (d : Directive) (c : CarrierIx) : Bool := d.carrier == some c

/-- R152: removes a carrier's directive from its unit's queue, if one is there; if it was outstanding, its reply timer
is stopped and its token is no longer awaited. -/
def State.removeDirective (c : CarrierIx) (s : State) : State :=
  let u := s.unitOf c
  let x := s.unit u
  let headGoes := x.sent.isSome && (x.queue.head?.elim false fun d => d.isFor c)
  s.setUnit u { (if headGoes then x.idle else x) with queue := x.queue.filter fun d => !d.isFor c }

/-- R156, R158: the outstanding directive is dropped, the timers are stopped and the queue is emptied. -/
def RadioUnit.silenced (x : RadioUnit) : RadioUnit :=
  { x.idle with queue := [], releaseTimer := none, deepTimer := none }

/-- R148, R151: counts a discarded reply. -/
def State.countDiscarded (u : UnitIx) (s : State) : State :=
  s.setUnit u { s.unit u with discarded := addCapped top32 (s.unit u).discarded 1 }

/-- R149: the outstanding directive is sent again with the same token: the same frame, byte for byte (R182). -/
def State.resend (u : UnitIx) (bytes : List Byte) (s : State) : State :=
  let x := s.unit u
  (s.setUnit u { x with
      attempts := x.attempts + 1, replyTimer := some (s.unitSettings u).replyTimeout.toNat,
      resends := addCapped top32 x.resends 1 }).offerInjected
    (.branch u) { bytes := bytes, restartAnswer := false }

/-- R144: frees the link number a carrier holds on a unit. -/
def State.freeLink (u : UnitIx) (c : CarrierIx) (s : State) : State :=
  s.setUnit u { s.unit u with map := (s.unit u).map.map fun l => if l == some c then none else l }

/-- R144: gives a carrier the lowest link number of a unit that no carrier holds. -/
def State.giveLink (u : UnitIx) (c : CarrierIx) (s : State) : State :=
  match (List.finRange 4).find? fun l => (s.unit u).map[l] == none with
  | some l => s.setUnit u { s.unit u with map := (s.unit u).map.set l (some c) l.isLt }
  | none => s

/-- R144: a carrier has become managed on a unit, or was moved to it: it gets a link number, the unit deep timer is
cancelled, and a DEEP unit is released. -/
def State.arriveOnUnit (u : UnitIx) (c : CarrierIx) (s : State) : State :=
  let s := (s.giveLink u c).stopDeepTimer u
  if (s.unit u).state = some .deep then s.releaseUnit u else s

/-- R144: a carrier is no longer managed on a unit, or was moved off it: its link number is freed and the unit's deep
timer is handed the test of R153. -/
def State.leaveUnit (u : UnitIx) (c : CarrierIx) (s : State) : State := (s.freeLink u c).deepTest u

end Sys2Proof.Machine
end

