-- ==== Sys2Proof/Machine/Coverage.lean ====
section
/-! DEFINITION. The Coverage Unit's lists and pledges (R72, R73, R74, R78, R79) and the wake queue of the Wake
Scheduler (R126, R127): the places a carrier takes and gives up as its lifecycle state changes. -/

namespace Sys2Proof.Machine

/-! ## Drain lists and sleeper lists -/

/-- Puts a carrier before the first entry it comes before. -/
def insertBefore (comesBefore : CarrierIx → CarrierIx → Bool) (c : CarrierIx) : List CarrierIx → List CarrierIx
  | [] => [c]
  | d :: ds => if comesBefore c d then c :: d :: ds else d :: insertBefore comesBefore c ds

/-- A carrier's coverage part. -/
def State.cover (s : State) (c : CarrierIx) : Cover := (s.carrier c).cover

/-- R79: by the moment the drain began; among drains that began together, by carrier index. -/
def State.drainsBefore (s : State) (c d : CarrierIx) : Bool :=
  (s.cover c).drainMoment < (s.cover d).drainMoment ||
    ((s.cover c).drainMoment == (s.cover d).drainMoment && c < d)

/-- R78: by wake rank, then by the moment of entry to RAMPDOWN, then by carrier index. -/
def State.sleepsBefore (s : State) (c d : CarrierIx) : Bool :=
  let rc := (s.config c).rank.toNat
  let rd := (s.config d).rank.toNat
  let mc := (s.cover c).rampMoment
  let md := (s.cover d).rampMoment
  rc < rd || (rc == rd && (mc < md || (mc == md && c < d)))

/-- R74, R79: the pledge is recorded, added to the anchor's pledge total, and the carrier is placed in the anchor's
drain list. -/
def State.joinDrain (c : CarrierIx) (pledge : Nat) (s : State) : State :=
  let a := s.anchorOf c
  let s := s.setCover c { s.cover c with pledge := pledge, drainMoment := s.moment }
  s.setCover a { s.cover a with
    pledgeTotal := (s.cover a).pledgeTotal + pledge,
    drainList := insertBefore s.drainsBefore c (s.cover a).drainList }

/-- R74: the pledge is subtracted from the anchor's pledge total and set to 0, and the carrier leaves the drain
list. -/
def State.leaveDrain (c : CarrierIx) (s : State) : State :=
  let a := s.anchorOf c
  let s := s.setCover a { s.cover a with
    pledgeTotal := (s.cover a).pledgeTotal - (s.cover c).pledge,
    drainList := (s.cover a).drainList.filter (· != c) }
  s.setCover c { s.cover c with pledge := 0 }

/-- Places a carrier in its anchor's sleeper list at the place its rank and its kept moment of entry give (R78). -/
def State.placeSleeper (c : CarrierIx) (s : State) : State :=
  let a := s.anchorOf c
  s.setCover a { s.cover a with sleeperList := insertBefore s.sleepsBefore c (s.cover a).sleeperList }

/-- R78: the carrier enters RAMPDOWN and joins its anchor's sleeper list. -/
def State.joinSleepers (c : CarrierIx) (s : State) : State :=
  (s.setCover c { s.cover c with rampMoment := s.moment }).placeSleeper c

/-- R78: the carrier is removed from its anchor's sleeper list. -/
def State.leaveSleepers (c : CarrierIx) (s : State) : State :=
  let a := s.anchorOf c
  s.setCover a { s.cover a with sleeperList := (s.cover a).sleeperList.filter (· != c) }

/-- A new moment: what follows is a later event than any before (R78, R79; assumption log 20). -/
def State.newMoment (s : State) : State := { s with moment := s.moment + 1 }

/-! ## Pledge and admission -/

/-- R73: the load figure times the anchor ratio, divided by 256 and rounded up. -/
def pledgeFor (figure ratio : Nat) : Nat := (figure * ratio + 255) / 256

/-- R74: the anchor's load figure, plus its pledge total, plus the candidate's pledge. -/
def State.projection (s : State) (a : CarrierIx) (pledge : Nat) : Nat :=
  (s.carrier a).meter.figure + (s.cover a).pledgeTotal + pledge

/-- R80: the lock-out timer of a sector group is running. -/
def State.lockedOut (s : State) (g : SectorIx) : Bool := (s.lockOuts[g]).isSome

/-- R73, R74: the pledge and the projection stay within their bounds. -/
def State.anchorHasRoom (s : State) (c : CarrierIx) (pledge : Nat) : Bool :=
  pledge ≤ Config.maxPledge && s.projection (s.anchorOf c) pledge ≤ (s.profileOf (s.anchorOf c)).ceiling

/-- R74: the admission test. -/
def State.admits (s : State) (c : CarrierIx) (pledge : Nat) : Bool :=
  s.isDependent c && !(s.config c).isProtected && s.lifeState (s.anchorOf c) == .active &&
    !s.lockedOut (s.config c).sectorIx && s.anchorHasRoom c pledge

/-! ## The wake queue -/

/-- The classes of the wake queue, by class. -/
def WakeQueue.line (q : WakeQueue) : WakeClass → List Waiting
  | .priority => q.priority
  | .coverage => q.coverage
  | .ordinary => q.ordinary

/-- R126: places a carrier at the tail of a class. -/
def WakeQueue.join (cls : WakeClass) (w : Waiting) (q : WakeQueue) : WakeQueue :=
  match cls with
  | .priority => { q with priority := q.priority ++ [w] }
  | .coverage => { q with coverage := q.coverage ++ [w] }
  | .ordinary => { q with ordinary := q.ordinary ++ [w] }

/-- R128: takes a carrier out; those behind it move up. -/
def WakeQueue.leave (c : CarrierIx) (q : WakeQueue) : WakeQueue :=
  { priority := q.priority.filter (·.carrier != c),
    coverage := q.coverage.filter (·.carrier != c),
    ordinary := q.ordinary.filter (·.carrier != c) }

/-- R141: the queue order, PRIORITY first, then COVERAGE, then ORDINARY, each class oldest first. -/
def WakeQueue.entries (q : WakeQueue) : List (Waiting × WakeClass) :=
  q.priority.map (·, .priority) ++ q.coverage.map (·, .coverage) ++ q.ordinary.map (·, .ordinary)

/-- R127: the head is the first carrier of the highest class that holds any carrier. -/
def WakeQueue.first (q : WakeQueue) : Option Waiting := q.entries.head?.map (·.1)

/-- The place a carrier holds in the queue. -/
def WakeQueue.placeOf (q : WakeQueue) (c : CarrierIx) : Option (Waiting × WakeClass) :=
  q.entries.find? (·.1.carrier == c)

/-- R125: PRIORITY above COVERAGE above ORDINARY. -/
def WakeClass.above (k l : WakeClass) : Bool := l.code < k.code

/-- R127: a queued carrier that a higher class reaches goes to the tail of that class and keeps its depth. -/
def WakeQueue.promote (c : CarrierIx) (cls : WakeClass) (q : WakeQueue) : WakeQueue :=
  match q.placeOf c with
  | some (w, k) => if cls.above k then (q.leave c).join cls w else q
  | none => q

/-- Writes the wake queue. -/
def State.setWakeQueue (q : WakeQueue) (s : State) : State := { s with wakeQueue := q }

end Sys2Proof.Machine
end

