-- ==== Sys2Proof/Machine/Lifecycle.lean ====
section
/-! DEFINITION. The Lifecycle Controller (chapters 7 and 8). `State.moveTo` is the one operation that changes a
carrier's lifecycle state and hands the change on (R97). What one change sets off in other blocks within the same
event is a list of tasks; `runTask` works off a task with all that it sets off before the task that stood behind it. -/

namespace Sys2Proof.Machine

/-! ## One change of state -/

/-- The lifecycle part on entry to a state, with the profile in force: dwell (R99), drain timer (R101), doze elapsed
(R114), settle timer (R106, R133), wake-pending mark (R113), hold mark (R96). -/
def Life.enter (new : LifeState) (p : Profile) (l : Life) : Life :=
  let begins := new == .draining && !l.state.isDrain
  { l with
    state := new,
    dwell := if new = .active then 0 else l.dwell,
    drain := if begins then 0 else l.drain,
    drainLength := if begins then p.drainTimeout else l.drainLength,
    doze := if new = .doze then 0 else l.doze,
    settle := if new = .restoring then 0 else l.settle,
    settleLength := if new = .restoring then p.settleTime else l.settleLength,
    wakePending := if new.isSleeper then l.wakePending else none,
    hold := new == .drainHeld }

/-- R57: the drain-quiet run is set to 0 on entry to DRAINING from ACTIVE and on leaving the drain states. -/
def Meter.onMove (old new : LifeState) (m : Meter) : Meter :=
  if old.isDrain && new.isDrain then m
  else if old.isDrain || new.isDrain then { m with quietRun := 0 } else m

/-- The record of the carrier itself on a change of state. The DRAINED-received mark is kept only by a move between
the drain states (R166). -/
def Carrier.onMove (new : LifeState) (p : Profile) (x : Carrier) : Carrier :=
  { x with
    life := x.life.enter new p,
    meter := x.meter.onMove x.life.state new,
    drainedReceived := x.drainedReceived && x.life.state.isDrain && new.isDrain }

/-- R74, R78, R128: the places a carrier gives up and takes as its state changes. -/
def State.movePlaces (c : CarrierIx) (old new : LifeState) (s : State) : State :=
  let s := if old.isDrain && !new.isDrain then s.leaveDrain c else s
  let s := if old.isSleeper && !new.isSleeper then s.leaveSleepers c else s
  let s := if !old.isSleeper && new.isSleeper then s.joinSleepers c else s
  if old = .queued then s.setWakeQueue (s.wakeQueue.leave c) else s

/-- R118, R153: entry to SLUMBER and exit from it are handed to the Radio Link Controller. -/
def State.moveSlumber (c : CarrierIx) (old new : LifeState) (s : State) : State :=
  if old = .slumber ∧ new ≠ .slumber then s.stopDeepTimer (s.unitOf c)
  else if new = .slumber ∧ old ≠ .slumber then s.deepTest (s.unitOf c) else s

/-- R97: a carrier changes its lifecycle state, and the change is handed to the Coverage Unit, the Wake Scheduler, the
Load Meter and the Radio Link Controller. The notice is the caller's, because some events send an advisory before
it. -/
def State.moveTo (c : CarrierIx) (new : LifeState) (s : State) : State :=
  let old := s.lifeState c
  let s := s.movePlaces c old new
  let s := s.setCarrier c ((s.carrier c).onMove new (s.profileOf c))
  s.moveSlumber c old new

/-- A change of state followed at once by its CARRIER-STATE notice, with the cause's own origin. -/
def State.moveAndTell (c : CarrierIx) (new : LifeState) (cause : Cause) (s : State) : State :=
  (s.moveTo c new).notifyState c (s.lifeState c) new cause cause.origin

/-! ## Advisories -/

/-- R161: an advisory for a carrier. It is injected at T when the trunk is not lost and a destination is set, and is
withheld otherwise; each case is counted (R167). -/
def State.advise (kind : Advisory) (c : CarrierIx) (reason : Cause) (s : State) : State :=
  if s.trunkLost || s.settings.advisoryDestination = 0#48 then
    { s with advisories := { s.advisories with withheld := addCapped top32 s.advisories.withheld 1 } }
  else
    ({ s with advisories := { s.advisories with sent := addCapped top32 s.advisories.sent 1 } }).inject .trunk
      s.settings.advisoryDestination
      ([0x31#8, BitVec.ofNat 8 kind.code] ++ beBytes 2 (s.config c).key.toNat ++
        [BitVec.ofNat 8 c.val, BitVec.ofNat 8 reason.code])

/-! ## Entries that end in no further task -/

/-- R134: the settle timer expires and the carrier enters ACTIVE. -/
def State.settleNow (c : CarrierIx) (s : State) : State :=
  if s.lifeState c = .restoring then s.moveAndTell c .active .settled else s

/-- R106, R112, R133: a carrier enters RESTORING: the settle timer starts, OPEN is handed on, the notice follows. A
settle time of 0 expires as it starts (R134). For READY refusing CARRIER-SLEEP R112 gives OPEN and the notice in no order;
they follow each other here as R106 and R133 give them (the model's choice: assumption log 39). -/
def State.enterRestoring (c : CarrierIx) (cause : Cause) (s : State) : State :=
  let old := s.lifeState c
  let s := ((s.moveTo c .restoring).advise .openUp c cause).notifyState c old .restoring cause cause.origin
  if (s.carrier c).life.settleLength = 0 then s.settleNow c else s

/-- R101: an admitted dependent enters DRAINING: pledge and drain list, state and drain timer, BAR, notice. -/
def State.beginDrain (c : CarrierIx) (pledge : Nat) (cause : Cause) (s : State) : State :=
  let old := s.lifeState c
  ((((s.joinDrain c pledge).moveTo c .draining).advise .bar c cause).notifyState c old .draining cause cause.origin)

/-- R126: a carrier enters QUEUED at the tail of a class with its depth at entry. The grants that follow are the
caller's next task. -/
def State.enterQueued (c : CarrierIx) (cls : WakeClass) (depth : Depth) (cause : Cause) (s : State) : State :=
  let old := s.lifeState c
  let s := s.moveTo c .queued
  (s.setWakeQueue (s.wakeQueue.join cls { carrier := c, depth := depth })).notifyState c old .queued cause cause.origin

/-- R113, R125: sets the wake-pending mark, or raises it to a higher class with that wake's cause. -/
def raiseMark (cls : WakeClass) (cause : Cause) : Option KeptWake → KeptWake
  | none => { cls := cls, cause := cause }
  | some k => if cls.above k.cls then { cls := cls, cause := cause } else k

/-- R113: keeps a wake cause for a carrier whose directive is in flight. -/
def State.keepWake (c : CarrierIx) (cls : WakeClass) (cause : Cause) (s : State) : State :=
  let l := (s.carrier c).life
  s.setLife c { l with wakePending := some (raiseMark cls cause l.wakePending) }

/-! ## Tasks -/

/-- The wake causes (R123). -/
inductive WakeKind where
  | traffic | relief | windowClose | management | anchorLost | trunkLost | priority
deriving DecidableEq, Repr

/-- R123: the class of a wake cause; a management WAKE is of class COVERAGE for a LOST carrier, as `wakeEffect`
says. -/
def WakeKind.cls : WakeKind → WakeClass
  | .traffic => .ordinary | .relief => .ordinary | .windowClose => .ordinary | .management => .ordinary
  | .anchorLost => .coverage | .trunkLost => .coverage | .priority => .priority

/-- R123: the notice cause of a wake cause. -/
def WakeKind.cause : WakeKind → Cause
  | .traffic => .traffic | .relief => .relief | .windowClose => .windowClosed | .management => .wake
  | .anchorLost => .anchorLost | .trunkLost => .trunkLost | .priority => .priority

/-- What ends a directive (R150). -/
inductive DirectiveEnd where
  | report (r : Report)
  | usedUp
deriving DecidableEq, Repr

/-- What one block hands another within an event. -/
inductive Task where
  /-- R123: a wake cause is handed to a carrier. -/
  | wake (c : CarrierIx) (k : WakeKind)
  /-- R130: the Wake Scheduler makes the grants it may. -/
  | grants
  /-- R82: an anchor's entry to LOST is handed to the Coverage Unit. -/
  | anchorLost (a : CarrierIx)
  /-- R146: the head of a unit's queue is considered. -/
  | sendHead (u : UnitIx)
  /-- R135: a carrier is handed entry to LOST. -/
  | lose (c : CarrierIx) (cause : Cause)
  /-- R150: the outcome of a carrier's directive is handed to the Lifecycle Controller. -/
  | ended (c : CarrierIx) (kind : DirectiveKind) (how : DirectiveEnd)
  /-- R116: a CARRIER-DEEPEN is withdrawn unsent. -/
  | withdrawn (c : CarrierIx)
  /-- R136, R157: the branch link up event is handed to a LOST carrier. -/
  | linkUp (c : CarrierIx)
  /-- R115: the deepen decision for a carrier. -/
  | deepen (c : CarrierIx)
  /-- R106: a drain is abandoned. -/
  | abandon (c : CarrierIx) (cause : Cause)
  /-- R103, R115: the Lifecycle Controller reaches a carrier of the window-end report. -/
  | report (c : CarrierIx) (m : Meter)
  /-- R75: the Coverage Unit takes an anchor group of the window-end report. -/
  | group (a : CarrierIx) (report : Vector Meter 32)
  /-- R153: the test that may start a unit's deep timer. -/
  | deepTest (u : UnitIx)
  /-- R157: the recovery of a unit. -/
  | recover (u : UnitIx)

/-- The state after a task's own effect, and the tasks it sets off, in order. -/
abbrev Effect := State × List Task

/-- R106: a carrier in a drain state is abandoned. -/
def abandonEffect (c : CarrierIx) (cause : Cause) (s : State) : Effect :=
  if (s.lifeState c).isDrain then (s.enterRestoring c cause, []) else (s, [])

/-- R124: a wake cause applied by the carrier's state when the Controller takes it. -/
def wakeEffect (c : CarrierIx) (k : WakeKind) (s : State) : Effect :=
  match s.lifeState c with
  | .doze => (s.enterQueued c k.cls .light k.cause, [.grants])
  | .slumber => if k = .traffic then (s, []) else (s.enterQueued c k.cls .deep k.cause, [.grants])
  | .rampdown => if k = .traffic then (s, []) else (s.keepWake c k.cls k.cause, [])
  | .deepening => if k = .traffic then (s, []) else (s.keepWake c k.cls k.cause, [])
  | .draining => if k = .traffic then (s, []) else abandonEffect c k.cause s
  | .drainHeld => if k = .traffic then (s, []) else abandonEffect c k.cause s
  | .queued => (s.setWakeQueue (s.wakeQueue.promote c k.cls), [])
  | .lost => if k = .management then (s.enterQueued c .coverage .unknown k.cause, [.grants]) else (s, [])
  | .active => (s, [])
  | .restoring => (s, [])
  | .warmup => (s, [])
  | .unmanaged => (s, [])

/-- R131: a grant to a carrier, which leaves QUEUED for WARMUP with a slot; CARRIER-WAKE is handed on, and if it is not
taken the carrier enters LOST. Then the Scheduler tests again (R130). -/
def grantTo (c : CarrierIx) (s : State) : Effect :=
  if s.lifeState c = .queued then
    let s := s.moveAndTell c .warmup .granted
    match s.handDirective .carrierWake c with
    | some t => (t, [.sendHead (s.unitOf c), .grants])
    | none => (s, [.lose c .radioSilent, .grants])
  else (s, [])

/-- R130, R131: one grant, if fewer than W carriers are in WARMUP and the queue is not empty: the head leaves the
queue for WARMUP with a slot, and CARRIER-WAKE is handed on. If it is not taken the carrier enters LOST. Then the
Scheduler tests again, with the head afresh. -/
def grantsEffect (s : State) : Effect :=
  if s.warmups < s.settings.slots then
    match s.wakeQueue.first with
    | none => (s, [])
    | some w => grantTo w.carrier s
  else (s, [])

/-- R135, R152: a managed carrier that is not LOST enters LOST: what its old state held is let go, its directive is
removed, CARRIER-LOST is raised, the notice follows. Then the next head is sent, a freed slot is granted, and an
anchor's entry is handed to the Coverage Unit. -/
def loseEffect (c : CarrierIx) (cause : Cause) (s : State) : Effect :=
  let old := s.lifeState c
  if old = .unmanaged ∨ old = .lost then (s, [])
  else
    let t := (((s.moveTo c .lost).removeDirective c).raiseFlag .carrierLost).notifyState c old .lost cause cause.origin
    (t, [.sendHead (s.unitOf c)] ++ (if old = .warmup then [.grants] else []) ++
      (if s.isAnchor c then [.anchorLost c] else []))

/-- R82: the anchor-lost cause to each dependent, in ascending carrier index (R123). -/
def anchorLostEffect (a : CarrierIx) (s : State) : Effect :=
  (s, (s.dependents a).map fun d => .wake d .anchorLost)

/-- R146: sends the head of a UP unit's queue when no directive is outstanding. A CARRIER-DEEPEN that may not be sent
is withdrawn and the new head is considered (R116). -/
def sendHeadEffect (u : UnitIx) (s : State) : Effect :=
  let x := s.unit u
  if x.state = some .up ∧ x.sent = none then
    match x.queue with
    | [] => (s, [])
    | d :: rest =>
      if d.kind = .carrierDeepen ∧ !s.mayDeepen then
        (s.setUnit u { x with queue := rest },
          (d.carrier.elim [] fun c => [.withdrawn c]) ++ [.sendHead u])
      else (s.transmit u d, [])
  else (s, [])

/-- R116: the withdrawal of a CARRIER-DEEPEN. -/
def withdrawnEffect (c : CarrierIx) (s : State) : Effect :=
  if s.lifeState c = .deepening then
    match (s.carrier c).life.wakePending with
    | none => (s.moveAndTell c .doze .deepenWithdrawn, [])
    | some k => (s.enterQueued c k.cls .light k.cause, [.grants])
  else (s, [])

/-- R112: the outcome of CARRIER-SLEEP. -/
def sleepEnded (c : CarrierIx) (how : DirectiveEnd) (s : State) : Effect :=
  match how with
  | .report .asleepLight =>
    let t := s.moveAndTell c .doze .asleepLight
    match (s.carrier c).life.wakePending with
    | none => (t, [])
    | some k => (t.enterQueued c k.cls .light k.cause, [.grants])
  | .report .ready => (s.enterRestoring c .radioRefused, [])
  | .report .fault => (s, [.lose c .fault])
  | .report .asleepDeep => (s, [.lose c .fault])
  | .report .unitDown => (s, [.lose c .fault])
  | .report .unitBusy => (s, [.lose c .fault])
  | .usedUp => (s, [.lose c .radioSilent])

/-- R117: the outcome of CARRIER-DEEPEN. -/
def deepenEnded (c : CarrierIx) (how : DirectiveEnd) (s : State) : Effect :=
  let mark := (s.carrier c).life.wakePending
  match how with
  | .report .asleepDeep =>
    match mark with
    | none => (s.moveAndTell c .slumber .asleepDeep, [])
    | some k => (s.enterQueued c k.cls .deep k.cause, [.grants])
  | .report .asleepLight =>
    match mark with
    | none => (s.moveAndTell c .doze .asleepLight, [])
    | some k => (s.enterQueued c k.cls .light k.cause, [.grants])
  | .report .fault => (s, [.lose c .fault])
  | .report .ready => (s, [.lose c .fault])
  | .report .unitDown => (s, [.lose c .fault])
  | .report .unitBusy => (s, [.lose c .fault])
  | .usedUp => (s, [.lose c .radioSilent])

/-- R132: the outcome of CARRIER-WAKE. READY frees the slot by leaving WARMUP; the grants follow. -/
def wakeEnded (c : CarrierIx) (how : DirectiveEnd) (s : State) : Effect :=
  match how with
  | .report .ready => (s.enterRestoring c .ready, [.grants])
  | .report .fault => (s, [.lose c .fault])
  | .report .asleepLight => (s, [.lose c .fault])
  | .report .asleepDeep => (s, [.lose c .fault])
  | .report .unitDown => (s, [.lose c .fault])
  | .report .unitBusy => (s, [.lose c .fault])
  | .usedUp => (s, [.lose c .radioSilent])

/-- R150: an outcome is acted on when the carrier is in the state its directive belongs to. -/
def endedEffect (c : CarrierIx) (kind : DirectiveKind) (how : DirectiveEnd) (s : State) : Effect :=
  match kind with
  | .carrierSleep => if s.lifeState c = .rampdown then sleepEnded c how s else (s, [])
  | .carrierDeepen => if s.lifeState c = .deepening then deepenEnded c how s else (s, [])
  | .carrierWake => if s.lifeState c = .warmup then wakeEnded c how s else (s, [])
  | .unitDeep => (s, [])
  | .unitRelease => (s, [])

/-- R136, R157: a LOST carrier of a recovering unit enters QUEUED. -/
def linkUpEffect (c : CarrierIx) (s : State) : Effect :=
  if s.lifeState c = .lost then (s.enterQueued c .coverage .unknown .linkUp, [.grants]) else (s, [])

/-- The ms in a minute. -/
def msPerMinute : Nat := 60000

/-- The conditions of the deepen decision but the last (R115). -/
def State.deepenDue (s : State) (c : CarrierIx) : Bool :=
  let delay := (s.profileOf c).deepenDelay
  s.lifeState c == .doze && delay != 0 && delay * msPerMinute ≤ (s.carrier c).life.doze &&
    memberOf s.calendar.deep c.val && s.mayDeepen

/-- R115: the deepen decision. The carrier enters DEEPENING when every condition holds and the Radio Link Controller
takes CARRIER-DEEPEN for it. -/
def deepenEffect (c : CarrierIx) (s : State) : Effect :=
  if s.deepenDue c then
    match s.handDirective .carrierDeepen c with
    | some t => (t.moveAndTell c .deepening .deepen, [.sendHead (s.unitOf c)])
    | none => (s, [])
  else (s, [])

/-- R105, R111: a drain completes: the carrier leaves DRAINING for RAMPDOWN and CARRIER-SLEEP is handed on. A directive
that is not taken is as one whose attempts are used up. -/
def completeDrain (c : CarrierIx) (cause : Cause) (origin : Origin) (s : State) : Effect :=
  if s.lifeState c = .draining then
    let t := s.moveTo c .rampdown
    match t.handDirective .carrierSleep c with
    | some r => (r.notifyState c .draining .rampdown cause origin, [.sendHead (s.unitOf c)])
    | none => (t.notifyState c .draining .rampdown cause origin, [.lose c .radioSilent])
  else (s, [])

/-- R103, R115: the Lifecycle Controller reaches a carrier of the window-end report. -/
def reportEffect (c : CarrierIx) (m : Meter) (s : State) : Effect :=
  let p := s.profileOf c
  match s.lifeState c with
  | .draining =>
    if p.cancelThreshold < m.figure then abandonEffect c .loadRose s
    else if p.quietWindows ≤ m.quietRun then completeDrain c .drainQuiet .timed s else (s, [])
  | .drainHeld => if p.cancelThreshold < m.figure then abandonEffect c .loadRose s else (s, [])
  | .doze => deepenEffect c s
  | .unmanaged => (s, [])
  | .active => (s, [])
  | .rampdown => (s, [])
  | .deepening => (s, [])
  | .slumber => (s, [])
  | .queued => (s, [])
  | .warmup => (s, [])
  | .restoring => (s, [])
  | .lost => (s, [])

/-- R77: the relief action of an anchor group. -/
def reliefEffect (a : CarrierIx) (s : State) : Effect :=
  match (s.cover a).drainList.getLast? with
  | some d => abandonEffect d .relief s
  | none =>
    match (s.cover a).sleeperList.find? fun d => (s.carrier d).life.wakePending.isNone with
    | some d => (s, [.wake d .relief])
    | none => (s, [])

/-- The ms in a second. -/
def msPerSecond : Nat := 1000

/-- R76, R100: a dependent is a candidate at a window end. -/
def State.isCandidate (s : State) (c : CarrierIx) (m : Meter) : Bool :=
  s.lifeState c == .active && s.isDependent c && !(s.config c).isProtected && s.engine.mode == .acting &&
    !s.trunkLost && s.settings.advisoryDestination != 0#48 && memberOf s.calendar.quiet c.val &&
    (s.profileOf c).idleRunLength ≤ m.idleRun &&
    (s.profileOf c).dwellMinimum ≤ (s.carrier c).life.dwell / msPerSecond

/-- R76: the candidates of a group, highest wake rank first, among equal ranks lowest carrier index first. -/
def State.candidates (s : State) (a : CarrierIx) (report : Vector Meter 32) : List CarrierIx :=
  let all := (s.dependents a).filter fun c => s.isCandidate c report[c]
  [7, 6, 5, 4, 3, 2, 1, 0].flatMap fun rank => all.filter fun c => (s.config c).rank.toNat == rank

/-- R74, R76: a candidate is put to the admission test; an admitted one enters DRAINING with cause IDLE. -/
def State.tryAdmit (report : Vector Meter 32) (s : State) (c : CarrierIx) : State :=
  let pledge := pledgeFor report[c].figure (s.config c).ratio.toNat
  if s.admits c pledge then s.beginDrain c pledge .idle else s

/-- R75: the Coverage Unit takes an anchor group: relief if the anchor's figure is at or above its relief threshold,
admission otherwise. -/
def groupEffect (a : CarrierIx) (report : Vector Meter 32) (s : State) : Effect :=
  if s.isAnchor a then
    if (s.profileOf a).reliefThreshold ≤ report[a].figure then reliefEffect a s
    else ((s.candidates a report).foldl (State.tryAdmit report) s, [])
  else (s, [])

/-- R157: the recovery of an UNREACHABLE unit: it is released, and each of its LOST carriers is handed the branch link
up event, in ascending carrier index. -/
def recoverEffect (u : UnitIx) (s : State) : Effect :=
  if (s.unit u).state = some .unreachable then (s.releaseUnit u, (s.unitCarriers u).map .linkUp) else (s, [])

/-- The effect of one task. -/
def Task.effect (t : Task) (s : State) : Effect :=
  match t with
  | .wake c k => wakeEffect c k s
  | .grants => grantsEffect s
  | .anchorLost a => anchorLostEffect a s
  | .sendHead u => sendHeadEffect u s
  | .lose c cause => loseEffect c cause s
  | .ended c kind how => endedEffect c kind how s
  | .withdrawn c => withdrawnEffect c s
  | .linkUp c => linkUpEffect c s
  | .deepen c => deepenEffect c s
  | .abandon c cause => abandonEffect c cause s
  | .report c m => reportEffect c m s
  | .group a rep => groupEffect a rep s
  | .deepTest u => (s.deepTest u, [])
  | .recover u => recoverEffect u s

/-- A task with all that it sets off, each of which is worked off whole before the next: what one carrier's change sets off
comes before the next carrier of the same event is reached (the model's choice where the manual leaves the order open:
assumption log 35). `fuel` bounds how deep one task may set off another (assumption log 19). -/
def runTask : Nat → Task → State → State
  | 0, _, s => s
  | n + 1, t, s =>
    let e := t.effect s
    e.2.foldl (fun s u => runTask n u s) e.1

/-- Deeper than the tasks of any one event can go: a task that sets off another uses up a move of one of the 32 carriers, or
a directive that waits (assumption log 19). -/
def State.taskFuel (s : State) : Nat := 1000 + (s.units.toList.map fun x => x.queue.length).sum

/-- Works off the tasks of one event, in order. -/
def State.work (tasks : List Task) (s : State) : State := tasks.foldl (fun t k => runTask s.taskFuel k t) s

/-- A task's effect as a whole: its own and what it sets off. -/
def Effect.finish (e : Effect) : State := e.1.work e.2

end Sys2Proof.Machine
end

