-- ==== Sys2Proof/Machine/Calendar.lean ====
section
/-! DEFINITION. The Quiet Calendar (chapter 6): the open windows, the quiet set and the deep set, and MINUTE_BOUNDARY
(R85). -/

namespace Sys2Proof.Machine

/-- R89: a window is open at a minute of day. -/
def QuietWindow.openAt (w : QuietWindow) (minute : Nat) : Bool :=
  w.inUse &&
    (if w.start < w.stop then w.start ≤ minute && minute < w.stop
     else if w.stop < w.start then w.start ≤ minute || minute < w.stop
     else false)

/-- R90, R94: the windows that contribute to the sets: open at the current minute, with the time-set mark set. -/
def State.openWindows (s : State) : List (Fin 4) :=
  (List.finRange 4).filter fun i => s.calendar.timeSet && (s.windows[i]).openAt s.calendar.minute

/-- R90: the union of the carrier sets of windows. -/
def State.unionOf (s : State) (ws : List (Fin 4)) : BitVec 32 :=
  ws.foldl (fun acc i => acc ||| (s.windows[i]).carriers) 0#32

/-- R90: the quiet set. -/
def State.quietSet (s : State) : BitVec 32 := s.unionOf s.openWindows
/-- R90: the deep set. -/
def State.deepSet (s : State) : BitVec 32 := s.unionOf (s.openWindows.filter fun i => (s.windows[i]).deepAllowed)
/-- R94: the open marks. -/
def State.openMarks (s : State) : BitVec 4 := s.openWindows.foldl (fun acc i => acc ||| (1#4 <<< i.val)) 0#4

/-- Writes what the Calendar holds beside its windows. -/
def State.setCalendar (k : Calendar) (s : State) : State := { s with calendar := k }

/-- The sets and the open marks as R90 and R94 form them. -/
def State.reformSets (s : State) : State :=
  s.setCalendar { s.calendar with quiet := s.quietSet, deep := s.deepSet, isOpen := s.openMarks }

/-- R91, R93: what the differences hand one carrier: the window-close cause on leaving the quiet set; the deepen
decision on joining the deep set. The withdrawal of deep permission moves nothing. -/
def differenceTasks (old new : Calendar) (c : CarrierIx) : List Task :=
  (if memberOf old.quiet c.val && !memberOf new.quiet c.val then [.wake c .windowClose] else []) ++
    (if !memberOf old.deep c.val && memberOf new.deep c.val then [.deepen c] else [])

/-- R91: the Calendar recomputes the sets and hands the differences out, for managed carriers, in ascending carrier
index. -/
def recomputeEffect (s : State) : Effect :=
  let t := s.reformSets
  (t, s.managedCarriers.flatMap (differenceTasks s.calendar t.calendar))

/-- R85: the minute advances, from 1439 to 0. -/
def State.nextMinute (s : State) : State :=
  s.setCalendar { s.calendar with
    minute := if s.calendar.minute < 1439 then s.calendar.minute + 1 else 0, second := 0, milli := 0 }

/-- MINUTE_BOUNDARY (R85). Within a warm reset the counts go on and nothing is handed (R95, R175). The command is the boundary
itself, whatever the second and the millisecond have reached (the model's choice: assumption log 2). -/
def execMinuteBoundary (s : State) : Host.Outcome State Fault Refusal :=
  .next (if s.phase = .running then (recomputeEffect s.nextMinute).finish else s.nextMinute)

end Sys2Proof.Machine
end

