-- ==== Sys2Proof/Machine/Links.lean ====
section
/-! DEFINITION. The link commands (R9, R10) and the grace timer's expiry (R10 to R12), with what a branch link change
does to the radio unit of its port (R156, R157). -/

namespace Sys2Proof.Machine

/-- R156: the unit of a branch whose link went down. A unit that is UNREACHABLE or not in use takes nothing. The grants that
one carrier's entry to LOST sets off come before the next carrier is handed LINK-DOWN (the model's choice: assumption log
35). -/
def unitLinkDown (u : UnitIx) (s : State) : Effect :=
  if (s.unit u).state = none ∨ (s.unit u).state = some .unreachable then (s, [])
  else
    (s.setUnit u { (s.unit u).silenced with state := some .unreachable },
      (s.unitCarriers u).map fun c => .lose c .linkDown)

/-- R9: the status becomes DOWN and the egress queue is emptied. -/
def FramePath.dropBranch (n : UnitIx) (p : FramePath) : FramePath :=
  { p.setQueue (.branch n) EgressQueue.empty with branchUp := setLink p.branchUp n false }

/-- BRANCH_LINK_DOWN (R9). A report that repeats the status held hands no event, and within a reset only the port's
report is kept (R14, R175). -/
def execBranchLinkDown (n : UnitIx) (s : State) : Host.Outcome State Fault Refusal :=
  let t := s.setPath { s.path with branchReport := setLink s.path.branchReport n false }
  .next (if s.phase = .running ∧ s.path.linkUp (.branch n) then
      (unitLinkDown n (t.setPath (t.path.dropBranch n))).finish
    else t)

/-- BRANCH_LINK_UP (R9, R157). -/
def execBranchLinkUp (n : UnitIx) (s : State) : Host.Outcome State Fault Refusal :=
  let t := s.setPath { s.path with branchReport := setLink s.path.branchReport n true }
  .next (if s.phase = .running ∧ !s.path.linkUp (.branch n) then
      (recoverEffect n (t.setPath { t.path with branchUp := setLink t.path.branchUp n true })).finish
    else t)

/-- R10: the trunk takes a state with its grace timer, and its egress queue is emptied when the link is down. -/
def FramePath.trunkTo (state : TrunkState) (grace : Option Nat) (p : FramePath) : FramePath :=
  { p with
    trunkState := state, grace := grace,
    trunkQueue := match state with
      | .up => p.trunkQueue
      | .returning => p.trunkQueue
      | .failing => EgressQueue.empty
      | .lost => EgressQueue.empty }

/-- The trunk enters a state. -/
def State.trunkTo (state : TrunkState) (grace : Option Nat) (s : State) : State :=
  s.setPath (s.path.trunkTo state grace)

/-- TRUNK_LINK_DOWN (R10). -/
def execTrunkLinkDown (s : State) : Host.Outcome State Fault Refusal :=
  let t := s.setPath { s.path with trunkReport := false }
  .next (if s.phase = .running then
      match s.path.trunkState with
      | .up => t.trunkTo .failing (some s.settings.trunkGrace)
      | .returning => t.trunkTo .lost none
      | .failing => t
      | .lost => t
    else t)

/-- TRUNK_LINK_UP (R10). When the trunk enters UP the notice queue passes what it holds (R179). -/
def execTrunkLinkUp (s : State) : Host.Outcome State Fault Refusal :=
  let t := s.setPath { s.path with trunkReport := true }
  .next (if s.phase = .running then
      match s.path.trunkState with
      | .failing => (t.trunkTo .up none).passNotices
      | .lost => t.trunkTo .returning (some s.settings.trunkGrace)
      | .up => t
      | .returning => t
    else t)

/-- R11: the trunk is counted lost: TRUNK-DOWN, the TRUNK notice, and the trunk-lost cause to every carrier in
ascending carrier index. -/
def trunkLostEffect (s : State) : Effect :=
  (((s.trunkTo .lost none).raiseFlag .trunkDown).notify (.trunk false),
    (List.finRange 32).map fun c => .wake c .trunkLost)

/-- R12, R179: the trunk is restored: the TRUNK notice joins the queue, and the queue passes what it holds. -/
def State.trunkRestored (s : State) : State := ((s.trunkTo .up none).notify (.trunk true)).passNotices

/-- TRUNK_GRACE_EXPIRES (R10 to R12). The timer stands still within a reset (R175). -/
def execTrunkGraceExpires (s : State) : Host.Outcome State Fault Refusal :=
  .next (if s.phase = .running then
      match s.path.trunkState with
      | .failing => (trunkLostEffect s).finish
      | .returning => s.trunkRestored
      | .up => s
      | .lost => s
    else s)

end Sys2Proof.Machine
end

