-- ==== Sys2Proof/Machine/Metering.lean ====
section
/-! DEFINITION. The Load Meter (chapter 4): the arithmetic of a window end, the promotion of profiles (R62), and
WINDOW_END (R52, R58, R75, R103). -/

namespace Sys2Proof.Machine

/-- R53: the available units of a carrier for a window. -/
def availableUnits (k : CarrierConfig) (windowLength : Nat) : Nat :=
  k.grantUnits.toNat * k.slotRate.toNat * windowLength

/-- R54: the occupancy sample. -/
def occupancy (tally available : Nat) : Nat :=
  if available ≤ tally then Config.fullSample else tally * Config.fullSample / available

/-- A magnitude divided by 2 to the power `k`, rounded up (R55). -/
def stepUp (magnitude k : Nat) : Nat := (magnitude + (2 ^ k - 1)) / 2 ^ k

/-- R55: the new load figure, from the old one and the sample. -/
def nextFigure (old sample k : Nat) : Nat :=
  let target := sample * 64
  if old < target then old + stepUp (target - old) k
  else if target < old then old - stepUp (old - target) k
  else old

/-- R56: the idle run. -/
def nextIdleRun (figure sleepThreshold run : Nat) : Nat :=
  if figure ≤ sleepThreshold then addCapped 255 run 1 else 0

/-- R57: the drain-quiet run at a window end. -/
def nextQuietRun (state : LifeState) (sample run : Nat) : Nat :=
  match state with
  | .draining => if sample = 0 then addCapped 255 run 1 else 0
  | .drainHeld => run
  | .unmanaged => 0
  | .active => 0
  | .rampdown => 0
  | .doze => 0
  | .deepening => 0
  | .slumber => 0
  | .queued => 0
  | .warmup => 0
  | .restoring => 0
  | .lost => 0

/-- R52: the meter part of a managed carrier after a window end. -/
def Meter.windowEnd (k : CarrierConfig) (p : Profile) (state : LifeState) (windowLength : Nat) (m : Meter) : Meter :=
  if m.primed then
    let sample := occupancy m.tally (availableUnits k windowLength)
    let figure := nextFigure m.figure sample p.shift
    { tally := 0, sample := sample, figure := figure, idleRun := nextIdleRun figure p.sleepThreshold m.idleRun,
      quietRun := nextQuietRun state sample m.quietRun, primed := true }
  else { m with tally := 0, primed := true }

/-- R62: a pending profile's written values become its values in force. -/
def ProfileRecord.promote (r : ProfileRecord) : ProfileRecord :=
  if r.pending then { r with inForce := r.written, pending := false } else r

/-- R62: every pending profile is put in force. -/
def State.promoteProfiles (s : State) : State := { s with profiles := s.profiles.map ProfileRecord.promote }

/-- R52: the meter part of every managed carrier; an UNMANAGED carrier is passed over. -/
def State.meterAll (s : State) : State :=
  { s with carriers := Vector.ofFn fun c : Fin 32 =>
      let x := s.carrier c
      if x.life.state = .unmanaged then x
      else { x with meter := x.meter.windowEnd (s.config c) (s.profileOf c) x.life.state s.windowClock.length } }

/-- R48: the next window begins at once, with the window length in force. -/
def State.beginWindow (s : State) : State :=
  { s with windowClock := { length := s.settings.windowLength, elapsed := 0 } }

/-- R58: the meter parts that the report of a window end carries. -/
def State.windowReport (s : State) : Vector Meter 32 := s.carriers.map Carrier.meter

/-- R103: the Lifecycle Controller takes the carriers of the report in ascending carrier index. -/
def State.lifecycleTasks (s : State) : List Task :=
  s.managedCarriers.map fun c => .report c (s.carrier c).meter

/-- R75: the Coverage Unit takes the anchor groups in ascending order of anchor index. -/
def State.coverageTasks (s : State) : List Task :=
  (List.finRange 32).map fun a => .group a s.windowReport

/-- R52, R62: the Load Meter's work at a window end, up to the publication. -/
def State.closeWindow (s : State) : State := s.promoteProfiles.meterAll.beginWindow.newMoment

/-- R58, R75: the report is handed to the two blocks, in the given order. -/
def State.reportTasks (order : ReportOrder) (s : State) : List Task :=
  match order with
  | .lifecycleFirst => s.lifecycleTasks ++ s.coverageTasks
  | .coverageFirst => s.coverageTasks ++ s.lifecycleTasks

/-- WINDOW_END (R52). Within a warm reset the window timer stands still (R175). -/
def execWindowEnd (order : ReportOrder) (s : State) : Host.Outcome State Fault Refusal :=
  .next (if s.phase = .running then s.closeWindow.work (s.closeWindow.reportTasks order) else s)

end Sys2Proof.Machine
end

