-- ==== Sys2Proof/Machine/Operands.lean ====
section
/-! DEFINITION. Every operand form: the fields of a classifier entry's test (R15 to R17), the key and grant units of an
action (R39, R41), the header of a request (R168, R181), the bodies of partner replies (R148, R163), and the records a
write carries (12.4), each with the value checks of its owner. -/

namespace Sys2Proof.Machine

/-! ## Frames -/

/-- Bytes 0 to 5 (chapter 12). -/
def destinationOf (bytes : List Byte) : Addr := BitVec.ofNat 48 (natAt bytes 0 6)
/-- Bytes 6 to 11 (chapter 12). -/
def sourceOf (bytes : List Byte) : Addr := BitVec.ofNat 48 (natAt bytes 6 6)
/-- Bytes 12 and 13 (chapter 12). -/
def typeOf (bytes : List Byte) : BitVec 16 := BitVec.ofNat 16 (natAt bytes 12 2)
/-- A body that begins at an offset; empty at or beyond the readable length (R37). -/
def bodyAt (bytes : List Byte) (offset : Nat) : List Byte := bytes.drop offset

/-- R1: the length, check sequence included, lies within 64 to 9216 bytes. -/
def lengthAccepted (bytes : List Byte) : Bool :=
  Config.minFrame ≤ bytes.length + Config.checkBytes && bytes.length + Config.checkBytes ≤ Config.maxFrame

/-! ## Classifier entries -/

/-- R16: the port filter. -/
def PortFilter.passes (f : PortFilter) (p : Port) : Bool :=
  match f, p with
  | .any, _ => true
  | .trunk, .trunk => true
  | .trunk, .branch _ => false
  | .branch, .trunk => false
  | .branch, .branch _ => true

/-- The positions of a field of 1, 2 or 4 bytes among 32 (R15: only the low 8 or 16 bits of a narrower entry take part
in the test). -/
def widthMask (width : Nat) : BitVec 32 := BitVec.ofNat 32 (256 ^ width - 1)

/-- R17: a test on a field, with pattern and mask at the entry's width. -/
def Entry.testHolds (e : Entry) (field : BitVec 32) : Bool :=
  let pattern := e.pattern &&& widthMask e.width
  let mask := e.mask &&& widthMask e.width
  match e.test with
  | .equal => (field ^^^ pattern) &&& mask == 0#32
  | .differ => (field ^^^ pattern) &&& mask != 0#32
  | .allSet => field &&& pattern == pattern
  | .allClear => field &&& pattern == 0#32

/-- R17: an entry matches unless it is not in use, its filter does not pass the port, the frame is too short, or its
test is false. -/
def Entry.isMatch (e : Entry) (port : Port) (bytes : List Byte) : Bool :=
  e.inUse && e.filter.passes port &&
    match fieldAt bytes e.offset e.width with
    | none => false
    | some field => e.testHolds (BitVec.ofNat 32 field)

/-- How a walk ends (R18): with an action number; or with action 0 because a SKIP would pass entry 63 (R19). -/
inductive WalkEnd where
  | action (n : Nat)
  | overrun
deriving DecidableEq, Repr

/-- R18: the walk at entry `i`. `fuel` is the number of entries that may still be evaluated; a walk moves to a higher
entry each time, so the 64 of `walkBank` are enough. -/
def walkFrom (bank : Vector Entry 64) (port : Port) (bytes : List Byte) : Nat → Fin 64 → WalkEnd
  | 0, _ => .action 0
  | fuel + 1, i =>
    if (bank[i]).isMatch port bytes then
      match (bank[i]).outcome with
      | .result a => .action a
      | .skip n => if h : i.val + n < 64 then walkFrom bank port bytes fuel ⟨i.val + n, h⟩ else .overrun
    else if h : i.val + 1 < 64 then walkFrom bank port bytes fuel ⟨i.val + 1, h⟩ else .action 0

/-- R18: a walk begins at entry 0. -/
def walkBank (bank : Vector Entry 64) (port : Port) (bytes : List Byte) : WalkEnd := walkFrom bank port bytes 64 0

/-- The bank a walk is bound to (R23). -/
def Classifier.bank (k : Classifier) (b : Bool) : Vector Entry 64 := if b then k.bank1 else k.bank0

/-- Writes one bank. -/
def Classifier.setBank (b : Bool) (v : Vector Entry 64) (k : Classifier) : Classifier :=
  if b then { k with bank1 := v } else { k with bank0 := v }

/-! ## Actions -/

/-- R39: the frame key: the key field with every position clear in the key mask cleared; none when the field does not
lie within the frame. -/
def ActionEntry.frameKey (a : ActionEntry) (bytes : List Byte) : Option (BitVec 16) :=
  (fieldAt bytes a.keyOffset a.keyWidth).map fun n => BitVec.ofNat 16 n &&& a.keyMask

/-- R41: the grant-unit field shifted right, before it is clamped; 0 when it does not lie within the frame. -/
def ActionEntry.rawUnits (a : ActionEntry) (bytes : List Byte) : Nat :=
  ((fieldAt bytes a.unitOffset a.unitWidth).getD 0) / 2 ^ a.unitShift

/-! ## Bodies from partners -/

/-- A radio reply's body (12.3): token, link number, report; none when it is too short or its report is none of the
six (R148, R181). -/
def readRadioReply (body : List Byte) : Option (Nat × Nat × Report) :=
  if body.length < 3 then none
  else (Report.ofCode (byteAt body 2)).map fun r => ((byteAt body 0).toNat, (byteAt body 1).toNat, r)

/-- An advisory reply body (12.3): reply kind and key; none when it is too short or its kind is neither of the two
(R163, R181). -/
def readAdvisoryReply (body : List Byte) : Option (AdvisoryReply × BitVec 16) :=
  if body.length < 3 then none
  else (AdvisoryReply.ofCode (byteAt body 0)).map fun k => (k, BitVec.ofNat 16 (natAt body 1 2))

/-! ## Requests -/

/-- The length of a request header, and the request message class (12.2). -/
def headerBytes : Nat := 8
/-- See `headerBytes`. -/
def requestClassByte : Byte := 0x01#8

/-- R181: whether the header of a request body can be read. -/
def headerReadable (body : List Byte) : Bool :=
  headerBytes ≤ body.length && byteAt body 0 == requestClassByte

/-- Byte 1. -/
def Request.kindByte (r : Request) : Byte := byteAt r.body 1
/-- The request kind, none when unknown. -/
def Request.kind (r : Request) : Option RequestKind := RequestKind.ofCode r.kindByte
/-- Bytes 2 and 3. -/
def Request.tag (r : Request) : Nat := natAt r.body 2 2
/-- Byte 4. -/
def Request.tableByte (r : Request) : Byte := byteAt r.body 4
/-- The table, none when unknown. -/
def Request.table (r : Request) : Option Table := Table.ofCode r.tableByte
/-- Byte 5. -/
def Request.indexByte (r : Request) : Byte := byteAt r.body 5
/-- Byte 6. -/
def Request.count (r : Request) : Nat := (byteAt r.body 6).toNat
/-- Byte 7: true for DOWN, none for a value that is neither. -/
def Request.direction (r : Request) : Option Bool := readMark (byteAt r.body 7)
/-- Byte 8 on. -/
def Request.values (r : Request) : List Byte := r.body.drop headerBytes

/-! ## Records (12.4), with the value checks of their owners. None is BAD-VALUE. -/

/-- CARRIER, as the bytes stand: only the managed byte must be 0 or 1 (R181). -/
def readCarrierRecord (b : List Byte) : Option CarrierConfig :=
  (readMark (byteAt b 0)).map fun managed =>
    { managed := managed, unit := byteAt b 1, key := BitVec.ofNat 16 (natAt b 2 2), sector := byteAt b 4,
      anchor := byteAt b 5, protect := byteAt b 6, slotRate := byteAt b 7, ratio := BitVec.ofNat 16 (natAt b 8 2),
      grantUnits := BitVec.ofNat 16 (natAt b 10 2), rank := byteAt b 12, classMask := byteAt b 13,
      profile := byteAt b 14 }

/-- R66: the ranges of a managed record. -/
def CarrierConfig.inRange (k : CarrierConfig) : Bool :=
  k.unit.toNat < 8 && k.sector.toNat < 8 && k.anchor.toNat < 32 && k.protect.toNat < 2 &&
    (k.slotRate == 1#8 || k.slotRate == 2#8 || k.slotRate == 4#8 || k.slotRate == 8#8) &&
    1 ≤ k.ratio.toNat && k.ratio.toNat ≤ 1023 && 1 ≤ k.grantUnits.toNat && k.grantUnits.toNat ≤ 4095 &&
    k.rank.toNat < 8 && k.classMask.toNat < 16 && k.profile.toNat < 8

/-- R67: a managed record is range-checked, a record that is not managed is stored as written. -/
def CarrierConfig.valuesOk (k : CarrierConfig) : Bool := !k.managed || k.inRange

/-- PROFILE. -/
def readProfileRecord (b : List Byte) : Profile where
  sleepThreshold := natAt b 0 4
  cancelThreshold := natAt b 4 4
  ceiling := natAt b 8 4
  reliefThreshold := natAt b 12 4
  idleRunLength := natAt b 16 1
  shift := natAt b 17 1
  quietWindows := natAt b 18 1
  drainTimeout := natAt b 20 2
  settleTime := natAt b 22 1
  dwellMinimum := natAt b 24 2
  deepenDelay := natAt b 26 2

/-- R60, R61: the ranges and the two comparisons within the record. -/
def Profile.valuesOk (p : Profile) : Bool :=
  p.sleepThreshold ≤ 65535 && 1 ≤ p.cancelThreshold && p.cancelThreshold ≤ 65536 && p.ceiling ≤ 65536 &&
    1 ≤ p.reliefThreshold && p.reliefThreshold ≤ 65536 && 1 ≤ p.idleRunLength && p.idleRunLength ≤ 255 &&
    p.shift ≤ 7 && 1 ≤ p.quietWindows && p.quietWindows ≤ 15 && 1 ≤ p.drainTimeout && p.drainTimeout ≤ 600 &&
    p.settleTime ≤ 60 && p.dwellMinimum ≤ 65535 && p.deepenDelay ≤ 1440 &&
    p.sleepThreshold < p.cancelThreshold && p.ceiling < p.reliefThreshold

/-- RADIO-UNIT, as the bytes stand: only the in-use byte must be 0 or 1 (R142). -/
def readUnitRecord (b : List Byte) : Option UnitConfig :=
  (readMark (byteAt b 0)).map fun inUse =>
    { inUse := inUse, deepPermitted := byteAt b 1, retries := byteAt b 2,
      address := BitVec.ofNat 48 (natAt b 4 6), releaseTime := BitVec.ofNat 16 (natAt b 10 2),
      replyTimeout := BitVec.ofNat 16 (natAt b 12 2), deepDelay := BitVec.ofNat 16 (natAt b 14 2) }

/-- A group address has the least significant bit of its first byte set (00, Addresses). -/
def isGroupAddress (a : Addr) : Bool := a.getLsbD 40

/-- R142: the ranges of a record that marks the unit in use. -/
def UnitConfig.inRange (k : UnitConfig) : Bool :=
  k.deepPermitted.toNat < 2 && k.retries.toNat ≤ 3 && !isGroupAddress k.address &&
    10 ≤ k.releaseTime.toNat && k.releaseTime.toNat ≤ 5000 &&
    10 ≤ k.replyTimeout.toNat && k.replyTimeout.toNat ≤ 2550 && k.replyTimeout.toNat % 10 == 0 &&
    k.deepDelay.toNat ≤ 3600

/-- R142: a record that marks the unit not in use is not range-checked in its other fields. -/
def UnitConfig.valuesOk (k : UnitConfig) : Bool := !k.inUse || k.inRange

/-- ACTION, as the bytes stand: the present byte must be 0 or 1 (assumption log 26) and the kind one of the eight (R33). -/
def readActionRecord (b : List Byte) : Option ActionEntry :=
  match readMark (byteAt b 0), ActionKind.ofCode (byteAt b 1) with
  | some present, some kind =>
    some { present := present, kind := kind, portSet := byteAt b 2, sectorMask := byteAt b 3,
           keyOffset := natAt b 4 1, keyWidth := natAt b 5 1, keyMask := BitVec.ofNat 16 (natAt b 6 2),
           unitOffset := natAt b 8 1, unitWidth := natAt b 9 1, unitShift := natAt b 10 1, cls := natAt b 11 1,
           bodyOffset := natAt b 12 1 }
  | _, _ => none

/-- The kinds that extract a key (R33, R39). -/
def ActionKind.extractsKey : ActionKind → Bool
  | .meter => true | .triggerOrdinary => true
  | .pass => false | .triggerPriority => false | .control => false | .radioReply => false
  | .advisoryReply => false | .discard => false

/-- R33: the value checks of an action record. The checks on offsets, widths, shift and class apply to every record,
whatever its kind (assumption log 11). -/
def ActionEntry.valuesOk (a : ActionEntry) : Bool :=
  a.keyOffset ≤ 127 && a.unitOffset ≤ 127 && a.bodyOffset ≤ 127 &&
    (a.keyWidth == 1 || a.keyWidth == 2) && (a.unitWidth == 1 || a.unitWidth == 2) &&
    a.unitShift ≤ 15 && a.cls ≤ 3 &&
    !(a.present && a.kind.extractsKey && 128 < a.keyOffset + a.keyWidth) &&
    !(a.present && a.kind == .meter && 128 < a.unitOffset + a.unitWidth)

/-- R24: a RESULT action number of 0 to 31, or a SKIP distance of 1 to 15; outcome byte 0 RESULT, 1 SKIP. -/
def readOutcome (kind arg : Byte) : Option EntryOutcome :=
  match readMark kind with
  | some false => if arg.toNat ≤ 31 then some (.result arg.toNat) else none
  | some true => if 1 ≤ arg.toNat ∧ arg.toNat ≤ 15 then some (.skip arg.toNat) else none
  | none => none

/-- R24: a classifier entry; none when a field lies outside its values (the in-use byte too: assumption log 26). -/
def readEntryRecord (b : List Byte) : Option Entry :=
  match readMark (byteAt b 0), PortFilter.ofCode (byteAt b 1), FieldTest.ofCode (byteAt b 4),
      readOutcome (byteAt b 5) (byteAt b 6) with
  | some inUse, some filter, some test, some outcome =>
    let offset := natAt b 2 1
    let width := natAt b 3 1
    if offset ≤ 127 ∧ (width = 1 ∨ width = 2 ∨ width = 4) then
      some { inUse := inUse, filter := filter, offset := offset, width := width, test := test,
             pattern := BitVec.ofNat 32 (natAt b 8 4), mask := BitVec.ofNat 32 (natAt b 12 4), outcome := outcome }
    else none
  | _, _, _, _ => none

/-- R88: a quiet window; none when a minute lies above 1439, the depth is neither of the two, or the in-use byte neither 0
nor 1 (the last: assumption log 26). -/
def readWindowRecord (b : List Byte) : Option QuietWindow :=
  match readMark (byteAt b 0), readMark (byteAt b 1) with
  | some inUse, some deep =>
    if natAt b 2 2 ≤ 1439 ∧ natAt b 4 2 ≤ 1439 then
      some { inUse := inUse, start := natAt b 2 2, stop := natAt b 4 2,
             carriers := BitVec.ofNat 32 (natAt b 8 4), deepAllowed := deep }
    else none
  | _, _ => none

/-- The bytes of one record of a writable table (12.4). -/
def Table.recordBytes : Table → Nat
  | .carrier => 16 | .profile => 28 | .radioUnit => 16 | .action => 16 | .classifierStandby => 16
  | .classifierActive => 16 | .window => 12 | .permission => 1 | .settings => 8 | .flags => 2
  | .carrierStatus => 0 | .radioStatus => 0 | .wakeQueue => 0 | .sleepers => 0

end Sys2Proof.Machine
end

