-- ==== Sys2Proof/Machine/Replies.lean ====
section
/-! DEFINITION. What the partners send: radio replies (R148 to R154) and advisory replies (R163 to R165). -/

namespace Sys2Proof.Machine

/-! ## Radio replies -/

/-- R154: the outcome of UNIT-DEEP. Any report but UNIT-DOWN is taken as UNIT-BUSY. -/
def unitDeepEnded (u : UnitIx) (how : DirectiveEnd) (s : State) : Effect :=
  match how with
  | .report .unitDown =>
    let t := s.setUnit u { s.unit u with state := some .deep }
    if !(s.unit u).queue.isEmpty || (s.unitCarriers u).any (fun c => s.lifeState c != .slumber) then
      (t.releaseUnit u, [])
    else (t, [])
  | .usedUp =>
    (s.setUnit u { (s.unit u).silenced with state := some .unreachable },
      (s.unitCarriers u).map fun c => .lose c .radioSilent)
  | .report .unitBusy => (s.setUnit u { s.unit u with state := some .up }, [.sendHead u, .deepTest u])
  | .report .ready => (s.setUnit u { s.unit u with state := some .up }, [.sendHead u, .deepTest u])
  | .report .asleepLight => (s.setUnit u { s.unit u with state := some .up }, [.sendHead u, .deepTest u])
  | .report .asleepDeep => (s.setUnit u { s.unit u with state := some .up }, [.sendHead u, .deepTest u])
  | .report .fault => (s.setUnit u { s.unit u with state := some .up }, [.sendHead u, .deepTest u])

/-- R146, R150: the outstanding directive ends. It leaves the head of the queue, its outcome is handed on, and the next
head is sent. -/
def endDirective (u : UnitIx) (how : DirectiveEnd) (s : State) : Effect :=
  match (s.unit u).queue with
  | [] => (s, [])
  | d :: _ =>
    let t := s.dropHead u
    if d.kind = .unitDeep then unitDeepEnded u how t
    else (t, (d.carrier.elim [] fun c => [.ended c d.kind how]) ++ [.sendHead u])

/-- The carrier that holds a link number in a unit's carrier map (R144, R151). -/
def RadioUnit.carrierAt (x : RadioUnit) (link : Nat) : Option CarrierIx :=
  if h : link < 4 then x.map[link] else none

/-- R151: an unsolicited reply concerns the carrier that holds its link number. -/
def unsolicitedReply (u : UnitIx) (link : Nat) (r : Report) (s : State) : Effect :=
  match (s.unit u).carrierAt link with
  | none => (s.countDiscarded u, [])
  | some c =>
    match r with
    | .fault => (s, [.lose c .fault])
    | .ready => (if s.lifeState c = .lost then s.enterRestoring c .ready else s, [])
    | .asleepLight => (s.countDiscarded u, [])
    | .asleepDeep => (s.countDiscarded u, [])
    | .unitDown => (s.countDiscarded u, [])
    | .unitBusy => (s.countDiscarded u, [])

/-- R148: a reply matches the outstanding directive of its unit by its token. -/
def RadioUnit.awaits (x : RadioUnit) (token : Nat) : Bool :=
  x.sent.isSome && (x.queue.head?.elim false fun d => d.token == token)

/-- R148, tests 3 to 5, for a unit in use. -/
def takeReply (u : UnitIx) (token link : Nat) (r : Report) (s : State) : Effect :=
  if token = 0 then unsolicitedReply u link r s
  else if (s.unit u).awaits token then endDirective u (.report r) s
  else (s.raiseFlag .lateReply, [])

/-- R148: a radio reply from a unit. A readable reply from a unit that is UNREACHABLE with its branch link UP begins
the unit's recovery after it has been taken. -/
def radioReply (u : UnitIx) (body : List Byte) (s : State) : Effect :=
  match (s.unit u).state, readRadioReply body with
  | none, none => (s, [])
  | some _, none => (s.countDiscarded u, [])
  | none, some (token, _, _) => (if token = 0 then s else s.raiseFlag .lateReply, [])
  | some st, some (token, link, r) =>
    let e := takeReply u token link r s
    if st = .unreachable ∧ s.path.linkUp (.branch u) then (e.1, e.2 ++ [.recover u]) else e

/-! ## Advisory replies -/

/-- R163, steps 2 and 3: the matching carrier in a drain state with the lowest index, else the matching carrier with
the lowest index. -/
def State.advisoryCarrier (s : State) (key : BitVec 16) : Option CarrierIx :=
  let matching := s.managedCarriers.filter fun c => (s.config c).key == key
  match matching.find? fun c => (s.lifeState c).isDrain with
  | some c => some c
  | none => matching.head?

/-- R164: a DRAINED reply taken for a carrier. -/
def drainedReply (c : CarrierIx) (s : State) : Effect :=
  match s.lifeState c with
  | .draining => completeDrain c .drained .external s.newMoment
  | .drainHeld => (s.setCarrier c { s.carrier c with drainedReceived := true }, [])
  | .unmanaged => (s.raiseFlag .strayAdvisory, [])
  | .active => (s.raiseFlag .strayAdvisory, [])
  | .rampdown => (s.raiseFlag .strayAdvisory, [])
  | .doze => (s.raiseFlag .strayAdvisory, [])
  | .deepening => (s.raiseFlag .strayAdvisory, [])
  | .slumber => (s.raiseFlag .strayAdvisory, [])
  | .queued => (s.raiseFlag .strayAdvisory, [])
  | .warmup => (s.raiseFlag .strayAdvisory, [])
  | .restoring => (s.raiseFlag .strayAdvisory, [])
  | .lost => (s.raiseFlag .strayAdvisory, [])

/-- R165: a DECLINE reply taken for a carrier. -/
def declineReply (c : CarrierIx) (s : State) : Effect :=
  if (s.lifeState c).isDrain then abandonEffect c .declined s else (s.raiseFlag .strayAdvisory, [])

/-- R163: an advisory reply. -/
def advisoryReply (body : List Byte) (s : State) : Effect :=
  match readAdvisoryReply body with
  | none => (s.raiseFlag .strayAdvisory, [])
  | some (kind, key) =>
    match s.advisoryCarrier key, kind with
    | none, _ => (s.raiseFlag .strayAdvisory, [])
    | some c, .drained => drainedReply c s
    | some c, .decline => declineReply c s

end Sys2Proof.Machine
end

