-- ==== Sys2Proof/Machine/Swap.lean ====
section
/-! DEFINITION. The response to a request (R169, 12.2), and the completion of a bank swap (R26, R27), which sends one: it
comes about in the event that leaves no walk bound to the outgoing bank. -/

namespace Sys2Proof.Machine

/-- The body of a response (12.2). -/
def Request.responseBody (r : Request) (status : Status) (count : Nat) (results : List Byte) : List Byte :=
  [0x11#8, r.kindByte] ++ beBytes 2 r.tag ++
    [oneByte status.code, r.tableByte, r.indexByte, oneByte count] ++ results

/-- R169: the response is injected into the trunk egress queue, addressed to the source of the request. -/
def State.respond (r : Request) (status : Status) (count : Nat) (results : List Byte) (s : State) : State :=
  s.inject .trunk r.source (r.responseBody status count results)

/-- Writes what the Classifier holds. -/
def State.setClassifier (k : Classifier) (s : State) : State := { s with classifier := k }

/-- R27: no walk remains bound to the outgoing bank. -/
def Classifier.outgoingFree (k : Classifier) : Bool := k.walks.all fun w => w.bank == k.selector

/-- R27: the mirror copy is made if it was asked for, the pending-swap mark is cleared and the activated mark set. -/
def Classifier.completeSwap (mirror : Bool) (k : Classifier) : Classifier :=
  let copied := if mirror then k.setBank (!k.selector) (k.bank k.selector) else k
  { copied with swap := none, activated := true }

/-- R27: the response of the ACTIVATE-BANK that is waited for: the bank now active and the mirror option applied. -/
def State.answerSwap (mirror : Bool) (s : State) : State :=
  match s.engine.activating with
  | none => s
  | some r =>
    (s.setEngine { s.engine with activating := none }).respond r .done 0
      [markByte s.classifier.selector, markByte mirror]

/-- R26, R27: a pending swap completes as soon as no walk remains bound to the outgoing bank, in the event that leaves none
there. -/
def State.settleSwap (s : State) : State :=
  match s.classifier.swap with
  | none => s
  | some mirror =>
    if s.classifier.outgoingFree then (s.setClassifier (s.classifier.completeSwap mirror)).answerSwap mirror else s

end Sys2Proof.Machine
end

