-- ==== Sys2Proof/WellFormed.lean ====
section
/-! DEFINITION. Which commands make sense as they are written. The indices of carriers, units and sector groups are
bounded by their types; what is left to check is the frame of a FRAME_RECEIVED. -/

namespace Sys2Proof

/-- The envelope of a frame: destination, source and type value (chapter 12: bytes 0 to 13). -/
def envelopeBytes : Nat := 14

/-- An intact reception hands over a frame with a whole envelope; a fragment is reported as a bad check sequence or
as cut. -/
def receptionWellFormed (bytes : List Byte) : Reception → Bool
  | .intact => decide (envelopeBytes ≤ bytes.length)
  | .badCheck => true
  | .cut => true

/-- The check on commands. -/
def Instr.wellFormed : Instr → Bool
  | .frameReceived _ bytes reception => receptionWellFormed bytes reception
  | .walkEnds _ => true
  | .transmissionEnd _ => true
  | .branchLinkDown _ => true
  | .branchLinkUp _ => true
  | .trunkLinkDown => true
  | .trunkLinkUp => true
  | .trunkGraceExpires => true
  | .windowEnd _ => true
  | .deepenDelayReached _ => true
  | .minuteBoundary => true
  | .drainTimerExpires _ => true
  | .settleTimerExpires _ => true
  | .lockOutTimerExpires _ => true
  | .replyTimerExpires _ => true
  | .releaseTimerExpires _ => true
  | .unitDeepTimerExpires _ => true
  | .identify => true
  | .readRecords => true
  | .writeRecords => true
  | .writeCarrier => true
  | .writeProfile => true
  | .writeRadioUnit => true
  | .writeAction => true
  | .writeClassifierStandby => true
  | .writeWindow => true
  | .writePermission => true
  | .writeManagementTypeValue => true
  | .writeStationClass => true
  | .writeTrunkGrace => true
  | .writeActionLimit => true
  | .writeWindowLength => true
  | .writeLockOutTime => true
  | .writeHoldGuard => true
  | .writeWarmUpSlotCount => true
  | .writeAdvisoryDestination => true
  | .writeNoticeDestination => true
  | .writeNoticeEnables => true
  | .activateBank => true
  | .swapCompletes => true
  | .setTime => true
  | .setMode => true
  | .sleepNow => true
  | .wake => true
  | .holdDrain => true
  | .releaseHold => true
  | .clearFlags => true
  | .restart => true
  | .unknownRequestKind => true
  | .coldReset => true
  | .warmResetBegin _ => true
  | .warmResetEnd => true

end Sys2Proof
end

