-- ==== Sys2Proof/Machine/Frames.lean ====
section
/-! DEFINITION. The frame commands: FRAME_RECEIVED (R1 to R5), WALK_ENDS (R18 to R20, the Action Table, R33 to R46, and the
completion of a swap that waited for the walk, R27), and TRANSMISSION_END (R7). -/

namespace Sys2Proof.Machine

/-! ## Where a frame goes -/

/-- Forwards a frame by direction: a downlink frame to each branch port of a set, an uplink frame to T (R5, R36, R38,
R40). -/
def State.forward (ports : Byte) (port : Port) (bytes : List Byte) (s : State) : State :=
  match port with
  | .trunk => s.offerBranches ports bytes
  | .branch _ => s.offerPass .trunk bytes

/-- R168: the answer to a request that finds the queue full: its kind and tag, status BUSY, zero in bytes 5 to 7
(12.2). -/
def busyBody (body : List Byte) : List Byte :=
  [0x11#8, byteAt body 1, byteAt body 2, byteAt body 3, BitVec.ofNat 8 Status.busy.code, 0#8, 0#8, 0#8]

/-- R168: a request arrives with its class. An unreadable header is discarded; a full queue is answered BUSY. -/
def State.arriveRequest (cls : Nat) (source : Addr) (body : List Byte) (s : State) : State :=
  if headerReadable body then
    if s.engine.requests.length < Config.requestRoom then
      s.setEngine { s.engine with
        requests := s.engine.requests ++ [{ cls := cls, source := source, body := body }] }
    else s.inject .trunk source (busyBody body)
  else s

/-- R3: the tests of the Station Recognizer. -/
def State.recognizes (s : State) (bytes : List Byte) : Bool :=
  destinationOf bytes == s.stationAddress && typeOf bytes == s.settings.typeValue

/-- R23: a walk begins, bound to the bank the selector names. -/
def State.beginWalk (port : Port) (bytes : List Byte) (s : State) : State :=
  s.setClassifier { s.classifier with
    walks := s.classifier.walks ++ [{ port := port, bytes := bytes, bank := s.classifier.selector }] }

/-- R2: TRANSPARENT forwarding in TRANSPARENT mode (R5), the Classifier otherwise. -/
def State.routeFrame (port : Port) (bytes : List Byte) (s : State) : State :=
  match s.engine.mode with
  | .transparent => s.forward allBranches port bytes
  | .monitor => s.beginWalk port bytes
  | .acting => s.beginWalk port bytes

/-- R1: whether a frame whose last byte has arrived is accepted. -/
def State.accepts (s : State) (port : Port) (bytes : List Byte) (reception : Reception) : Bool :=
  s.phase == .running && reception == .intact && lengthAccepted bytes && s.path.linkUp port

/-- R1 to R3: an accepted frame is routed; a frame from T is offered to the Station Recognizer first. -/
def State.receive (port : Port) (bytes : List Byte) (s : State) : State :=
  match port with
  | .trunk =>
    if s.recognizes bytes then
      s.arriveRequest s.settings.stationClass (sourceOf bytes) (bodyAt bytes envelopeBytes)
    else s.routeFrame .trunk bytes
  | .branch n => s.routeFrame (.branch n) bytes

/-! ## The Action Table -/

/-- R34: the entry of a good action number: below the limit, and present. -/
def State.goodAction (s : State) (n : Nat) : Option ActionEntry :=
  if h : n < 32 then
    if n < s.settings.actionLimit ∧ (s.actions[n]).present then some s.actions[n] else none
  else none

/-- R39: the frame's carrier: downlink, the managed carrier of lowest index with the frame key; uplink, the managed
carrier of that radio unit with the frame key. -/
def State.findCarrier (s : State) (a : ActionEntry) (port : Port) (bytes : List Byte) : Option CarrierIx :=
  match a.frameKey bytes with
  | none => none
  | some key =>
    match port with
    | .trunk => s.managedCarriers.find? fun c => (s.config c).key == key
    | .branch n => (s.unitCarriers n).find? fun c => (s.config c).key == key

/-- R42, R45, R50: the frame is tallied: its grant units, clamped to 4095, are added to the tally, and the
frames-metered counter goes up by one. -/
def State.tallyFrame (a : ActionEntry) (c : CarrierIx) (bytes : List Byte) (s : State) : State :=
  let raw := a.rawUnits bytes
  let s := if Config.maxUnits < raw then s.raiseFlag .unitsClamped else s
  let x := s.carrier c
  s.setCarrier c { x with
    meter := { x.meter with tally := addCapped top32 x.meter.tally (min raw Config.maxUnits) },
    counters := { x.counters with metered := addCapped top32 x.counters.metered 1 } }

/-- R42, R45: a downlink frame is counted held off. -/
def State.countHeldOff (c : CarrierIx) (s : State) : State :=
  let k := (s.carrier c).counters
  s.setCounters c { k with heldOff := addCapped top32 k.heldOff 1 }

/-- R42, R45: a downlink frame for a SLUMBER carrier is counted as a missed slumber trigger. -/
def State.countMissed (c : CarrierIx) (s : State) : State :=
  let k := (s.carrier c).counters
  s.setCounters c { k with missed := addCapped top32 k.missed 1 }

/-- R42, R43: the disposition of a frame whose carrier is found. `tallies` is true for METER. -/
def meterFrame (tallies : Bool) (a : ActionEntry) (c : CarrierIx) (port : Port) (bytes : List Byte) (s : State) :
    Effect :=
  let st := s.lifeState c
  match port with
  | .branch _ =>
    let s := s.offerPass .trunk bytes
    (if st.isAwake && tallies then s.tallyFrame a c bytes else s, [])
  | .trunk =>
    if st.isAwake then
      let s := s.offerPass (.branch (s.unitOf c)) bytes
      (if tallies then s.tallyFrame a c bytes else s, [])
    else
      let s := s.countHeldOff c
      if st = .doze then (s, [.wake c .traffic])
      else if st = .slumber then ((s.countMissed c).raiseFlag .slumberTriggerMissed, [])
      else (s, [])

/-- R39, R40: a METER or TRIGGER-ORDINARY frame; an unknown key is forwarded by fallback. -/
def keyedFrame (tallies : Bool) (a : ActionEntry) (port : Port) (bytes : List Byte) (s : State) : Effect :=
  match s.findCarrier a port bytes with
  | some c => meterFrame tallies a c port bytes s
  | none => ((s.forward a.portSet port bytes).raiseFlag .unknownKey, [])

/-- Writes the lock-out timers. -/
def State.setLockOuts (v : Vector (Option Nat) 8) (s : State) : State := { s with lockOuts := v }

/-- R80: the lock-out timer of each sector in a mask is started or restarted at the full lock-out time; a lock-out
time of 0 starts none. -/
def State.startLockOuts (mask : Byte) (s : State) : State :=
  let full := some (s.settings.lockOutTime * msPerSecond)
  if s.settings.lockOutTime = 0 then s
  else s.setLockOuts (Vector.ofFn fun g : Fin 8 => if memberOf mask g.val then full else s.lockOuts[g])

/-- R44: a TRIGGER-PRIORITY frame: forwarded as a PASS frame; the lock-out timers of its sectors start, and the
PRIORITY wake cause goes to each managed carrier of them, in ascending carrier index. R44 gives no order between the three: the
model's choice is that the frame is offered to its egress queues first, ahead of the advisories and directives that its causes
inject (assumption log 32), and that the lock-outs start before the causes are applied (assumption log 33). -/
def priorityFrame (a : ActionEntry) (port : Port) (bytes : List Byte) (s : State) : Effect :=
  let s := (s.forward a.portSet port bytes).startLockOuts a.sectorMask
  (s, (s.managedCarriers.filter fun c => memberOf a.sectorMask (s.config c).sectorIx.val).map
    fun c => .wake c .priority)

/-- R36 to R44: the Action Table disposes of a frame by its action number. -/
def disposeFrame (n : Nat) (port : Port) (bytes : List Byte) (s : State) : Effect :=
  match s.goodAction n with
  | none => ((s.forward allBranches port bytes).raiseFlag .actionFault, [])
  | some a =>
    match a.kind, port with
    | .pass, _ => (s.forward a.portSet port bytes, [])
    | .discard, _ => (s, [])
    | .meter, _ => keyedFrame true a port bytes s
    | .triggerOrdinary, _ => keyedFrame false a port bytes s
    | .triggerPriority, _ => priorityFrame a port bytes s
    | .control, .trunk => (s.arriveRequest a.cls (sourceOf bytes) (bodyAt bytes a.bodyOffset), [])
    | .control, .branch _ => (s.raiseFlag .actionFault, [])
    | .radioReply, .trunk => (s.raiseFlag .actionFault, [])
    | .radioReply, .branch u => radioReply u (bodyAt bytes a.bodyOffset) s
    | .advisoryReply, .trunk => advisoryReply (bodyAt bytes a.bodyOffset) s
    | .advisoryReply, .branch _ => (s.raiseFlag .actionFault, [])

/-- R18 to R20, R27: a walk ends and leaves the walks `ws` under way; a swap that waited for it completes (the model's choice:
before the Action Table takes the frame, assumption log 22). An overrun raises CLASSIFY-FAULT and ends with action 0. -/
def endWalk (w : Walk) (ws : List Walk) (s : State) : Effect :=
  let t := (s.setClassifier { s.classifier with walks := ws }).settleSwap
  match walkBank (s.classifier.bank w.bank) w.port w.bytes with
  | .action n => disposeFrame n w.port w.bytes t
  | .overrun => disposeFrame 0 w.port w.bytes (t.raiseFlag .classifyFault)

/-- Takes the oldest walk of a port out of the walks under way (R20: frames of one port keep their order). -/
def takeWalk (port : Port) : List Walk → Option (Walk × List Walk)
  | [] => none
  | w :: ws => if w.port = port then some (w, ws) else (takeWalk port ws).map fun r => (r.1, w :: r.2)

/-! ## The meanings -/

/-- FRAME_RECEIVED (R1 to R5, R23, R168). -/
def execFrameReceived (port : Port) (bytes : List Byte) (reception : Reception) (s : State) :
    Host.Outcome State Fault Refusal :=
  .next (if s.accepts port bytes reception then s.receive port bytes else s)

/-- WALK_ENDS (R18). With no walk of that port under way nothing happens. -/
def execWalkEnds (port : Port) (s : State) : Host.Outcome State Fault Refusal :=
  match takeWalk port s.classifier.walks with
  | none => .next s
  | some (w, ws) => .next (endWalk w ws s).finish

/-- TRANSMISSION_END (R7). A port that is not transmitting has none to end. -/
def execTransmissionEnd (port : Port) (s : State) : Host.Outcome State Fault Refusal :=
  .next (if (s.path.queue port).sending.isSome then s.setPath (s.path.setQueue port (s.path.queue port).finish) else s)

end Sys2Proof.Machine
end

