-- ==== Sys2Proof/Machine/Records.lean ====
section
/-! DEFINITION. What READ-RECORDS returns: the bytes of a record of each of the fourteen tables (12.4, R182). -/

namespace Sys2Proof.Machine

/-- CARRIER (12.4). -/
def CarrierConfig.bytes (k : CarrierConfig) : List Byte :=
  [markByte k.managed, k.unit] ++ beBytes 2 k.key.toNat ++ [k.sector, k.anchor, k.protect, k.slotRate] ++
    beBytes 2 k.ratio.toNat ++ beBytes 2 k.grantUnits.toNat ++ [k.rank, k.classMask, k.profile, 0#8]

/-- PROFILE (12.4), with the pending mark (R63). -/
def Profile.bytes (p : Profile) (pending : Bool) : List Byte :=
  beBytes 4 p.sleepThreshold ++ beBytes 4 p.cancelThreshold ++ beBytes 4 p.ceiling ++ beBytes 4 p.reliefThreshold ++
    [oneByte p.idleRunLength, oneByte p.shift, oneByte p.quietWindows, markByte pending] ++
    beBytes 2 p.drainTimeout ++ [oneByte p.settleTime, 0#8] ++ beBytes 2 p.dwellMinimum ++ beBytes 2 p.deepenDelay

/-- RADIO-UNIT (12.4). -/
def UnitConfig.bytes (k : UnitConfig) : List Byte :=
  [markByte k.inUse, k.deepPermitted, k.retries, 0#8] ++ beBytes 6 k.address.toNat ++
    beBytes 2 k.releaseTime.toNat ++ beBytes 2 k.replyTimeout.toNat ++ beBytes 2 k.deepDelay.toNat

/-- ACTION (12.4). -/
def ActionEntry.bytes (a : ActionEntry) : List Byte :=
  [markByte a.present, oneByte a.kind.code, a.portSet, a.sectorMask, oneByte a.keyOffset, oneByte a.keyWidth] ++
    beBytes 2 a.keyMask.toNat ++
    [oneByte a.unitOffset, oneByte a.unitWidth, oneByte a.unitShift, oneByte a.cls, oneByte a.bodyOffset, 0#8, 0#8,
     0#8]

/-- The two bytes of an outcome (12.4, Classifier entry, bytes 5 and 6). -/
def EntryOutcome.bytes : EntryOutcome → List Byte
  | .result a => [0#8, oneByte a]
  | .skip n => [1#8, oneByte n]

/-- Classifier entry (12.4). -/
def Entry.bytes (e : Entry) : List Byte :=
  [markByte e.inUse, oneByte e.filter.code, oneByte e.offset, oneByte e.width, oneByte e.test.code] ++
    e.outcome.bytes ++ [0#8] ++ beBytes 4 e.pattern.toNat ++ beBytes 4 e.mask.toNat

/-- WINDOW (12.4), with the open mark (R94). -/
def QuietWindow.bytes (w : QuietWindow) (isOpen : Bool) : List Byte :=
  [markByte w.inUse, markByte w.deepAllowed] ++ beBytes 2 w.start ++ beBytes 2 w.stop ++ [markByte isOpen, 0#8] ++
    beBytes 4 w.carriers.toNat

/-- A field whose range holds none beside numbers of one byte: none is all ones (R182). -/
def carrierOrNone (c : Option CarrierIx) : Byte := c.elim 0xFF#8 fun c => oneByte c.val

/-- CARRIER-STATUS (R182): the fields of R59, R83, R122 and R141 in their order, then the counters of R45, which the
list of R182 does not place (assumption log 12). -/
def State.carrierStatusBytes (s : State) (c : CarrierIx) : List Byte :=
  let x := s.carrier c
  let m := x.meter
  let l := x.life
  beBytes 4 m.tally ++ beBytes 2 m.sample ++ beBytes 3 m.figure ++
    [oneByte m.idleRun, oneByte m.quietRun, markByte m.primed] ++
    beBytes 3 x.cover.pledge ++ beBytes 3 x.cover.pledgeTotal ++
    [oneByte l.state.code] ++ beBytes 2 (l.dwell / msPerSecond) ++ beBytes 2 (l.drain / msPerSecond) ++
    beBytes 2 (l.doze / msPerMinute) ++
    [oneByte (l.settle / msPerSecond), oneByte (l.wakePending.elim 0 fun k => k.cls.code), markByte l.hold] ++
    (l.sinceRelease.elim [0xFF#8, 0xFF#8] fun ms => beBytes 2 (ms / msPerSecond)) ++
    [markByte x.drainedReceived, oneByte (l.wakePending.elim 0 fun k => k.cause.code)] ++
    beBytes 4 x.counters.metered ++ beBytes 4 x.counters.heldOff ++ beBytes 4 x.counters.missed

/-- A directive-queue entry: directive code, carrier index, token, outstanding mark (R182). -/
def Directive.statusBytes (d : Directive) (outstanding : Bool) : List Byte :=
  [oneByte d.kind.code, carrierOrNone d.carrier, oneByte d.token, markByte outstanding]

/-- The directive queue in order, the outstanding mark on the head (R159). -/
def RadioUnit.queueBytes (x : RadioUnit) : List Byte :=
  match x.queue with
  | [] => [0#8]
  | d :: ds =>
    oneByte (ds.length + 1) :: d.statusBytes x.sent.isSome ++ ds.flatMap fun e => e.statusBytes false

/-- RADIO-STATUS (R159, R182). A stopped timer reads 0. -/
def State.radioStatusBytes (s : State) (u : UnitIx) : List Byte :=
  let x := s.unit u
  [markByte x.state.isSome, oneByte (unitStateCode x.state)] ++ x.queueBytes ++ [oneByte x.attempts] ++
    beBytes 2 (x.replyTimer.getD 0) ++ beBytes 2 (x.releaseTimer.getD 0) ++
    beBytes 2 (x.deepTimer.getD 0 / msPerSecond) ++ x.map.toList.map carrierOrNone ++
    beBytes 4 x.resends ++ beBytes 4 x.discarded ++ [oneByte s.token]

/-- WAKE-QUEUE (R141): carrier index, class, depth at entry. -/
def waitingBytes (e : Waiting × WakeClass) : List Byte :=
  [oneByte e.1.carrier.val, oneByte e.2.code, oneByte e.1.depth.code]

/-- SLEEPERS (R83): the count, then each carrier with its lifecycle state and wake rank; a count of 0 for a carrier
that is not a managed anchor. -/
def State.sleepersBytes (s : State) (a : CarrierIx) : List Byte :=
  let list := if s.isAnchor a then (s.cover a).sleeperList else []
  oneByte list.length ::
    list.flatMap fun c => [oneByte c.val, oneByte (s.lifeState c).code, (s.config c).rank]

/-- The value of a SETTINGS entry (12.4, R173). -/
def State.settingValue (s : State) (i : Nat) : Nat :=
  let k := s.settings
  match i with
  | 0 => s.stationAddress.toNat
  | 1 => k.typeValue.toNat
  | 2 => k.stationClass
  | 3 => k.trunkGrace
  | 4 => k.actionLimit
  | 5 => k.windowLength
  | 6 => k.lockOutTime
  | 7 => k.holdGuard
  | 8 => k.slots
  | 9 => k.advisoryDestination.toNat
  | 10 => k.noticeDestination.toNat
  | 11 => k.noticeEnables.toNat
  | 12 => s.engine.mode.code
  | 13 => s.path.trunkState.code
  | 14 => s.windowClock.length
  | 15 => s.windowClock.elapsed
  | 24 => s.calendar.minute
  | 25 => s.calendar.second
  | 26 => if s.calendar.timeSet then 1 else 0
  | 27 => s.calendar.quiet.toNat
  | 28 => s.calendar.deep.toNat
  | 29 => s.warmups
  | 30 => s.advisories.sent
  | 31 => s.advisories.withheld
  | 32 => s.engine.sequence.toNat
  | 33 => s.engine.requests.length
  | 34 => s.engine.notices.length
  | j => if h : 16 ≤ j ∧ j < 24 then (s.lockOuts[j - 16]'(by omega)).getD 0 / msPerSecond else 0

/-- The record of a table at an index (R171); none where there is no record. -/
def State.recordAt (s : State) (t : Table) (i : Nat) : Option (List Byte) :=
  match t with
  | .carrier => if h : i < 32 then some (s.carrierConfig[i]).bytes else none
  | .carrierStatus => if h : i < 32 then some (s.carrierStatusBytes ⟨i, h⟩) else none
  | .profile => if h : i < 8 then some ((s.profiles[i]).written.bytes (s.profiles[i]).pending) else none
  | .radioUnit => if h : i < 8 then some (s.unitConfig[i]).bytes else none
  | .radioStatus => if h : i < 8 then some (s.radioStatusBytes ⟨i, h⟩) else none
  | .action => if h : i < 32 then some (s.actions[i]).bytes else none
  | .classifierStandby =>
    if h : i < 64 then some ((s.classifier.bank (!s.classifier.selector))[i]).bytes else none
  | .classifierActive => if h : i < 64 then some ((s.classifier.bank s.classifier.selector)[i]).bytes else none
  | .window => if h : i < 4 then some ((s.windows[i]).bytes (memberOf s.calendar.isOpen i)) else none
  | .permission => if h : i < 12 then some [oneByte s.permissions[i]] else none
  | .settings => if i < 35 then some (beBytes 8 (s.settingValue i)) else none
  | .flags => if i = 0 then some (beBytes 2 s.engine.flags.toNat) else none
  | .wakeQueue => (s.wakeQueue.entries[i]?).map waitingBytes
  | .sleepers => if h : i < 32 then some (s.sleepersBytes ⟨i, h⟩) else none

/-- R171: the indices a read visits: from the first, stepping by one, `count` of them at most. -/
def readIndices (first count : Nat) (down : Bool) : List Nat :=
  if down then (List.range (min count (first + 1))).map (first - ·) else (List.range count).map (first + ·)

/-- R171: the records read, each with its index; the read stops at the first index with no record. -/
def State.readFrom (s : State) (t : Table) : List Nat → List (List Byte)
  | [] => []
  | i :: is =>
    match s.recordAt t i with
    | none => []
    | some b => (oneByte i :: b) :: s.readFrom t is

end Sys2Proof.Machine
end

