-- ==== Sys2Proof/Machine/Requests.lean ====
section
/-! DEFINITION. The Management Engine's request path (R169, R170, R181) and the requests that write no table: IDENTIFY,
READ-RECORDS, ACTIVATE-BANK, SET-TIME, SET-MODE, SLEEP-NOW, WAKE, HOLD-DRAIN, RELEASE-HOLD, CLEAR-FLAGS, RESTART, and a
request of an unknown kind. -/

namespace Sys2Proof.Machine

/-! ## Which command takes a request -/

/-- A SETTINGS write is told by the entry it begins at (12.4; assumption log 27). -/
def settingCommand : Nat → Instr
  | 1 => .writeManagementTypeValue
  | 2 => .writeStationClass
  | 3 => .writeTrunkGrace
  | 4 => .writeActionLimit
  | 5 => .writeWindowLength
  | 6 => .writeLockOutTime
  | 7 => .writeHoldGuard
  | 8 => .writeWarmUpSlotCount
  | 9 => .writeAdvisoryDestination
  | 10 => .writeNoticeDestination
  | 11 => .writeNoticeEnables
  | _ => .writeRecords

/-- A WRITE-RECORDS is told by the table it names; `writeRecords` takes one that no owner can accept (R172). -/
def Request.writeCommand (r : Request) : Instr :=
  match r.table with
  | some .carrier => .writeCarrier
  | some .profile => .writeProfile
  | some .radioUnit => .writeRadioUnit
  | some .action => .writeAction
  | some .classifierStandby => .writeClassifierStandby
  | some .window => .writeWindow
  | some .permission => .writePermission
  | some .settings => settingCommand r.indexByte.toNat
  | some .carrierStatus => .writeRecords
  | some .radioStatus => .writeRecords
  | some .classifierActive => .writeRecords
  | some .flags => .writeRecords
  | some .wakeQueue => .writeRecords
  | some .sleepers => .writeRecords
  | none => .writeRecords

/-- The command in which a request is taken. -/
def Request.command (r : Request) : Instr :=
  match r.kind with
  | some .identify => .identify
  | some .readRecords => .readRecords
  | some .writeRecords => r.writeCommand
  | some .activateBank => .activateBank
  | some .setTime => .setTime
  | some .setMode => .setMode
  | some .sleepNow => .sleepNow
  | some .wake => .wake
  | some .holdDrain => .holdDrain
  | some .releaseHold => .releaseHold
  | some .clearFlags => .clearFlags
  | some .restart => .restart
  | none => .unknownRequestKind

/-- R169: the engine takes the request at the head of its queue. None when there is none, when it is one that another
command takes (assumption log 1), within a reset, or once a RESTART is answered (R175). -/
def State.takeRequest (row : Instr) (s : State) : Option (Request × State) :=
  match s.engine.requests with
  | [] => none
  | r :: rs =>
    if s.phase = .running ∧ s.engine.restarting = false ∧ r.command = row then
      some (r, s.setEngine { s.engine with requests := rs })
    else none

/-- The command of a request: what `answer` makes of the request that is taken. -/
def onRequest (row : Instr) (answer : Request → State → State) (s : State) : Host.Outcome State Fault Refusal :=
  .next (match s.takeRequest row with
    | none => s
    | some (r, t) => answer r t)

/-! ## Answers and the first checks -/

/-- R169: a refused request is answered with the code of the check that failed, and no results (assumption log 15). -/
def State.refuse (r : Request) (status : Status) (s : State) : State := s.respond r status 0 []

/-- R169: DONE without results. -/
def State.answerDone (r : Request) (s : State) : State := s.respond r .done 0 []

/-- R170: the ceiling of a request kind. -/
def State.ceiling (s : State) (k : RequestKind) : Nat := s.permissions[k.code]

/-- R170: the class is not above the ceiling for the kind. -/
def State.permits (s : State) (r : Request) (k : RequestKind) : Bool := r.cls ≤ s.ceiling k

/-- Answers a request: refused with the first check that failed, or carried out. -/
def State.answer (r : Request) (failed : Option Status) (carryOut : State → State) (s : State) : State :=
  match failed with
  | some status => s.refuse r status
  | none => carryOut s

/-- The first of two groups of checks that fails. -/
def firstOf (a b : Option Status) : Option Status :=
  match a with
  | some status => some status
  | none => b

/-- A check that fails with a status. -/
def failIf (fails : Bool) (status : Status) : Option Status := if fails then some status else none

/-- R170, step 1. -/
def State.permission (s : State) (r : Request) (k : RequestKind) : Option Status := failIf (!s.permits r k) .denied

/-- R170, step 3: the values are not shorter than the kind requires (R181). -/
def Request.holds (r : Request) (n : Nat) : Option Status := failIf (r.values.length < n) .badLength

/-- R171, R172: a count of 0 or above 16, or a direction that is neither UP nor DOWN. -/
def Request.countOrDirectionBad (r : Request) : Bool := r.count == 0 || 16 < r.count || r.direction.isNone

/-! ## IDENTIFY and READ-RECORDS -/

/-- What IDENTIFY returns (R173, 12.2). -/
def State.identity (s : State) : List Byte :=
  beBytes 2 Config.partCode ++ [Config.revision] ++ beBytes 6 s.stationAddress.toNat ++ [oneByte s.engine.mode.code]

/-- IDENTIFY (R173). -/
def execIdentify (s : State) : Host.Outcome State Fault Refusal :=
  onRequest .identify (fun r s =>
    s.answer r (s.permission r .identify) (fun s => s.respond r .done 0 s.identity)) s

/-- R25: what the response of a classifier read carries first. -/
def State.readPrefix (s : State) (t : Table) : List Byte :=
  match t with
  | .classifierActive => [markByte s.classifier.selector, markByte s.classifier.activated]
  | .classifierStandby => [markByte (!s.classifier.selector), markByte s.classifier.activated]
  | .carrier => [] | .carrierStatus => [] | .profile => [] | .radioUnit => [] | .radioStatus => []
  | .action => [] | .window => [] | .permission => [] | .settings => [] | .flags => [] | .wakeQueue => []
  | .sleepers => []

/-- R171: the checks of a read once the table is known. -/
def Request.readChecks (r : Request) (t : Table) : Option Status :=
  firstOf (failIf (t.size ≤ r.indexByte.toNat) .badIndex) (failIf r.countOrDirectionBad .badValue)

/-- R171: the records are read and returned with their number. -/
def State.answerRead (r : Request) (t : Table) (s : State) : State :=
  let records := s.readFrom t (readIndices r.indexByte.toNat r.count (r.direction == some true))
  s.respond r .done records.length (s.readPrefix t ++ records.flatten)

/-- READ-RECORDS (R171). -/
def execReadRecords (s : State) : Host.Outcome State Fault Refusal :=
  onRequest .readRecords (fun r s =>
    match r.table with
    | none => s.refuse r (if s.permits r .readRecords then .badTable else .denied)
    | some t =>
      s.answer r (firstOf (s.permission r .readRecords) (r.readChecks t)) (fun s => s.answerRead r t)) s

/-! ## ACTIVATE-BANK -/

/-- R26: the selector names the other bank, and the swap is pending with its mirror option; the request waits for its
response (R27). -/
def State.startSwap (r : Request) (mirror : Bool) (s : State) : State :=
  (s.setClassifier { s.classifier with selector := !s.classifier.selector, swap := some mirror }).setEngine
    { s.engine with activating := some r }

/-- ACTIVATE-BANK (R26, R27): with no walk bound to the outgoing bank the swap completes at once. -/
def execActivateBank (s : State) : Host.Outcome State Fault Refusal :=
  onRequest .activateBank (fun r s =>
    match firstOf (s.permission r .activateBank) (r.holds 1), readMark (byteAt r.values 0) with
    | some status, _ => s.refuse r status
    | none, none => s.refuse r .badValue
    | none, some mirror =>
      s.answer r (failIf s.classifier.swap.isSome .swapPending) (fun s => (s.startSwap r mirror).settleSwap)) s

/-! ## SET-TIME and SET-MODE -/

/-- R87: the counts are set, the mark is set, and TIME-UNSET is cleared if the mark was clear. -/
def State.putTime (minute second : Nat) (s : State) : State :=
  let t := s.setCalendar
    { s.calendar with minute := minute, second := second, milli := 0, timeSet := true }
  if s.calendar.timeSet then t else t.dropFlag .timeUnset

/-- The minute and the second that SET-TIME carries (12.2). -/
def Request.minute (r : Request) : Nat := natAt r.values 0 2
/-- See `Request.minute`. -/
def Request.second (r : Request) : Nat := natAt r.values 2 1

/-- R87, R170: the checks of SET-TIME. -/
def State.setTimeChecks (s : State) (r : Request) : Option Status :=
  firstOf (s.permission r .setTime)
    (firstOf (r.holds 3) (failIf (1439 < r.minute || 59 < r.second) .badValue))

/-- SET-TIME (R87): the response follows the recomputation and the causes it hands out. -/
def execSetTime (s : State) : Host.Outcome State Fault Refusal :=
  onRequest .setTime (fun r s =>
    s.answer r (s.setTimeChecks r)
      (fun s => (recomputeEffect (s.putTime r.minute r.second)).finish.answerDone r)) s

/-- The modes that SET-MODE can carry (R174). -/
def readMode (b : Byte) : Option Mode :=
  match b.toNat with
  | 1 => some .monitor
  | 2 => some .acting
  | _ => none

/-- R174: the mode is set; on leaving ACTING every drain is abandoned with cause MODE, in ascending carrier index
(R121). -/
def State.putMode (m : Mode) (s : State) : State :=
  let t := s.setEngine { s.engine with mode := m }
  if s.engine.mode = .acting ∧ m = .monitor then t.work (t.managedCarriers.map fun c => .abandon c .mode) else t

/-- SET-MODE (R174). -/
def execSetMode (s : State) : Host.Outcome State Fault Refusal :=
  onRequest .setMode (fun r s =>
    match firstOf (s.permission r .setMode) (r.holds 1), readMode (byteAt r.values 0) with
    | some status, _ => s.refuse r status
    | none, none => s.refuse r .badValue
    | none, some m =>
      s.answer r (failIf (!s.classifier.activated) .notReady) (fun s => (s.putMode m).answerDone r)) s

/-! ## The carrier requests -/

/-- The carrier that a request names; the index check comes first. -/
def Request.carrier (r : Request) : CarrierIx := Fin.ofNat 32 r.indexByte.toNat

/-- R119: permission, then the carrier index, then the carrier's class mask. -/
def State.carrierChecks (s : State) (r : Request) (k : RequestKind) : Option Status :=
  firstOf (s.permission r k)
    (firstOf (failIf (32 ≤ r.indexByte.toNat) .badIndex)
      (failIf (!(s.config r.carrier).admitsClass r.cls) .denied))

/-- The pledge of a carrier by its last load figure (R73, R119). -/
def State.pledgeNow (s : State) (c : CarrierIx) : Nat :=
  pledgeFor (s.carrier c).meter.figure (s.config c).ratio.toNat

/-- R119: the checks of the Lifecycle Controller and the Coverage Unit, in order. -/
def State.sleepChecks (s : State) (c : CarrierIx) : Option Status :=
  if (s.config c).isProtected then some .isProtected
  else if !s.isDependent c then some .notDependent
  else if s.engine.mode ≠ .acting then some .mode
  else if s.lifeState c ≠ .active then some .stateConflict
  else if s.lifeState (s.anchorOf c) ≠ .active then some .noAnchor
  else if s.settings.advisoryDestination = 0#48 then some .noAdvisory
  else if s.trunkLost then some .trunkLost
  else if s.lockedOut (s.config c).sectorIx then some .lockedOut
  else if !s.anchorHasRoom c (s.pledgeNow c) then some .anchorFull
  else none

/-- SLEEP-NOW (R119, R120): the drain begins, a new event on the drain list (R79), and the response follows it. -/
def execSleepNow (s : State) : Host.Outcome State Fault Refusal :=
  onRequest .sleepNow (fun r s =>
    s.answer r (firstOf (s.carrierChecks r .sleepNow) (s.sleepChecks r.carrier))
      (fun s => (s.newMoment.beginDrain r.carrier (s.pledgeNow r.carrier) .sleepNow).answerDone r)) s

/-- The set of carriers that WAKE carries (12.2). -/
def Request.carrierSet (r : Request) : BitVec 32 := BitVec.ofNat 32 (natAt r.values 0 4)

/-- R137: a named carrier whose class mask does not hold the class is skipped. -/
def State.isSkipped (s : State) (r : Request) (c : CarrierIx) : Bool := !(s.config c).admitsClass r.cls

/-- R137: the skipped carriers among those named, as a set. -/
def State.skippedSet (s : State) (r : Request) : BitVec 32 :=
  (List.finRange 32).foldl (fun acc (c : CarrierIx) =>
    if memberOf r.carrierSet c.val && s.isSkipped r c then acc ||| (1#32 <<< c.val) else acc) 0#32

/-- R137: the management WAKE cause to each named carrier that is not skipped, in ascending index. -/
def State.wakeTasks (s : State) (r : Request) : List Task :=
  ((List.finRange 32).filter fun (c : CarrierIx) => memberOf r.carrierSet c.val && !s.isSkipped r c).map
    fun c => .wake c .management

/-- WAKE (R137). -/
def execWake (s : State) : Host.Outcome State Fault Refusal :=
  onRequest .wake (fun r s =>
    s.answer r (firstOf (s.permission r .wake) (r.holds 4))
      (fun s => (s.work (s.wakeTasks r)).respond r .done 0 (beBytes 4 (s.skippedSet r).toNat))) s

/-- R108: the state checks of HOLD-DRAIN, in order. -/
def State.holdChecks (s : State) (c : CarrierIx) : Option Status :=
  if s.lifeState c ≠ .draining then some .notDraining
  else match (s.carrier c).life.sinceRelease with
    | none => none
    | some ms => failIf (ms / msPerSecond < s.settings.holdGuard) .tooSoon

/-- HOLD-DRAIN (R108). -/
def execHoldDrain (s : State) : Host.Outcome State Fault Refusal :=
  onRequest .holdDrain (fun r s =>
    s.answer r (firstOf (s.carrierChecks r .holdDrain) (s.holdChecks r.carrier))
      (fun s => (s.moveAndTell r.carrier .drainHeld .held).answerDone r)) s

/-- R110, step 1: back to DRAINING, with since last release at 0. -/
def State.backToDraining (c : CarrierIx) (s : State) : State :=
  (s.setLife c { (s.carrier c).life with sinceRelease := some 0 }).moveAndTell c .draining .released

/-- R110, R166: the hold is released, and the drain completes at once if the DRAINED-received mark is set. -/
def State.endHold (c : CarrierIx) (s : State) : State :=
  let t := s.backToDraining c
  if (s.carrier c).drainedReceived then (completeDrain c .drained .requested t.newMoment).finish else t

/-- RELEASE-HOLD (R110): the response follows both steps. -/
def execReleaseHold (s : State) : Host.Outcome State Fault Refusal :=
  onRequest .releaseHold (fun r s =>
    s.answer r (firstOf (s.carrierChecks r .releaseHold)
        (failIf (s.lifeState r.carrier != .drainHeld) .notHeld))
      (fun s => (s.endHold r.carrier).answerDone r)) s

/-! ## CLEAR-FLAGS, RESTART, and a kind that is unknown -/

/-- The flag mask that CLEAR-FLAGS carries (12.2). -/
def Request.flagMask (r : Request) : Nat := natAt r.values 0 2

/-- R177: the flags after the clear. TIME-UNSET stays raised while the time-set mark is clear. -/
def State.flagsCleared (s : State) (mask : BitVec 12) : BitVec 12 :=
  let go := if s.calendar.timeSet then mask else mask &&& ~~~Flag.timeUnset.mask
  s.engine.flags &&& ~~~go

/-- R170, R177: the checks of CLEAR-FLAGS; positions 12 to 15 hold no flag. -/
def State.clearChecks (s : State) (r : Request) : Option Status :=
  firstOf (s.permission r .clearFlags) (firstOf (r.holds 2) (failIf (4096 ≤ r.flagMask) .badValue))

/-- CLEAR-FLAGS (R177). -/
def execClearFlags (s : State) : Host.Outcome State Fault Refusal :=
  onRequest .clearFlags (fun r s =>
    s.answer r (s.clearChecks r) (fun s =>
      let left := s.flagsCleared (BitVec.ofNat 12 r.flagMask)
      (s.setEngine { s.engine with flags := left }).respond r .done 0 (beBytes 2 left.toNat))) s

/-- R175: the response DONE, marked so that its leaving can be told, and no further request is taken. -/
def State.startRestart (r : Request) (s : State) : State :=
  let t := s.offerInjected .trunk
    { bytes := s.ownFrame r.source (r.responseBody .done 0 []), restartAnswer := true }
  t.setEngine { t.engine with restarting := true }

/-- RESTART (R175). -/
def execRestart (s : State) : Host.Outcome State Fault Refusal :=
  onRequest .restart (fun r s => s.answer r (s.permission r .restart) (fun s => s.startRestart r)) s

/-- UNKNOWN_REQUEST_KIND (R169): BAD-VALUE, and no other check is made. -/
def execUnknownRequestKind (s : State) : Host.Outcome State Fault Refusal :=
  onRequest .unknownRequestKind (fun r s => s.refuse r .badValue) s

end Sys2Proof.Machine
end

