-- ==== Sys2Proof/Machine/Writes.lean ====
section
/-! DEFINITION. WRITE-RECORDS (R172): the checks made once, the records taken in order, and for each writable table what
its owner checks and writes: CARRIER (R67 to R71), PROFILE (R61, R62), RADIO-UNIT (R142, R143), ACTION (R33),
CLASSIFIER-STANDBY (R24), WINDOW (R88), PERMISSION (R170) and the eleven writable SETTINGS entries (R173). -/

namespace Sys2Proof.Machine

/-! ## The request as a whole -/

/-- What an owner makes of one record: refused with a status, or written. -/
abbrev OwnerWrite := Nat → List Byte → State → Except Status State

/-- What the records of one request came to: the state, how many were written, and the status. -/
structure Written where
  state : State
  count : Nat
  status : Status

/-- R172: the index that follows, in the given direction; none below 0. -/
def stepIndex (down : Bool) (i : Nat) : Option Nat :=
  if down then (if i = 0 then none else some (i - 1)) else some (i + 1)

/-- R172: the records are taken in order; the first refused record stops the request, and those before it stay
written. The index is the first check on each. -/
def writeEach (owner : OwnerWrite) (size : Nat) (down : Bool) :
    Option Nat → List (List Byte) → Nat → State → Written
  | _, [], n, s => { state := s, count := n, status := .done }
  | none, _ :: _, n, s => { state := s, count := n, status := .badIndex }
  | some i, b :: bs, n, s =>
    if i < size then
      match owner i b s with
      | .error status => { state := s, count := n, status := status }
      | .ok t => writeEach owner size down (stepIndex down i) bs (n + 1) t
    else { state := s, count := n, status := .badIndex }

/-- R172: the checks made once for the whole request, once the table is known to be writable: permission, the count
and the direction, the body length. -/
def State.writeChecks (s : State) (r : Request) (t : Table) : Option Status :=
  firstOf (s.permission r .writeRecords)
    (firstOf (failIf r.countOrDirectionBad .badValue) (r.holds (r.count * t.recordBytes)))

/-- R172: the records of a request, given to the owner of its table. -/
def State.writeRecordsOf (r : Request) (t : Table) (owner : OwnerWrite) (s : State) : Written :=
  writeEach owner t.size (r.direction == some true) (some r.indexByte.toNat)
    (chunks t.recordBytes r.count r.values) 0 s

/-- R172: the whole of a write: the checks, the records, what the owner does after the last of them, the response. -/
def State.answerWrite (r : Request) (t : Table) (owner : OwnerWrite) (after : Nat → State → State) (s : State) :
    State :=
  s.answer r (s.writeChecks r t) fun s =>
    let w := s.writeRecordsOf r t owner
    (after w.count w.state).respond r w.status w.count []

/-- For owners that do nothing after the last record. -/
def nothingAfter : Nat → State → State := fun _ s => s

/-! ## CARRIER -/

/-- Writes the configuration part of a carrier record. -/
def State.setConfig (c : CarrierIx) (k : CarrierConfig) (s : State) : State :=
  { s with carrierConfig := s.carrierConfig.set c k c.isLt }

/-- R68, first case: the record names another carrier as its anchor, and that carrier is not a managed, self-anchored
carrier of the record's sector group. -/
def State.anchorUnfit (s : State) (c : CarrierIx) (k : CarrierConfig) : Bool :=
  k.managed && k.anchorIx != c &&
    !(s.isAnchor k.anchorIx && (s.config k.anchorIx).sectorIx == k.sectorIx)

/-- R68, second case: the carrier is anchor to another managed carrier, and the record would end that role. -/
def State.endsRole (s : State) (c : CarrierIx) (k : CarrierConfig) : Bool :=
  !(s.dependents c).isEmpty &&
    (!k.managed || k.anchorIx != c || (s.dependents c).any fun d => (s.config d).sectorIx != k.sectorIx)

/-- R69: the managed carriers of a unit other than one. -/
def State.othersOn (s : State) (u : UnitIx) (c : CarrierIx) : List CarrierIx := (s.unitCarriers u).filter (· != c)

/-- R69: four managed carriers other than this one have the radio unit of the record. -/
def State.unitFull (s : State) (c : CarrierIx) (k : CarrierConfig) : Bool :=
  k.managed && decide (4 ≤ (s.othersOn k.unitIx c).length)

/-- R69: a managed carrier other than this one has the same radio unit and the same key. -/
def State.keyTaken (s : State) (c : CarrierIx) (k : CarrierConfig) : Bool :=
  k.managed && (s.othersOn k.unitIx c).any fun d => (s.config d).key == k.key

/-- R70: a structural field differs. -/
def CarrierConfig.structuralDiffer (k l : CarrierConfig) : Bool :=
  k.managed != l.managed || k.key != l.key || k.unit != l.unit || k.sector != l.sector || k.anchor != l.anchor ||
    k.protect != l.protect || k.ratio != l.ratio

/-- R70: the carrier and every managed carrier that names it as anchor are UNMANAGED, ACTIVE or LOST. -/
def State.groupSettled (s : State) (c : CarrierIx) : Bool :=
  (s.lifeState c).isSettled && (s.dependents c).all fun d => (s.lifeState d).isSettled

/-- R67: the checks of a carrier record, in order. -/
def State.carrierRecordCheck (s : State) (c : CarrierIx) (k : CarrierConfig) : Option Status :=
  if !k.valuesOk then some .badValue
  else if s.anchorUnfit c k || s.endsRole c k then some .badAnchor
  else if s.unitFull c k then some .unitFull
  else if s.keyTaken c k then some .dupKey
  else if (s.config c).structuralDiffer k && !s.groupSettled c then some .stateConflict
  else none

/-- R71: a carrier is made managed: ACTIVE, with its runtime part cleared; the notice, and its link number (R144). -/
def State.becomeManaged (c : CarrierIx) (s : State) : State :=
  ((s.setCarrier c { Carrier.cold with life := Life.clear .active }).notifyState c .unmanaged .active .configured
    Cause.configured.origin).arriveOnUnit (s.unitOf c) c

/-- R71: a carrier of unit `u` is no longer managed: UNMANAGED, with its meter part cleared and its counters kept; the
notice, and its link number freed (R144). -/
def State.becomeUnmanaged (c : CarrierIx) (u : UnitIx) (s : State) : State :=
  let old := s.lifeState c
  let t := s.moveTo c .unmanaged
  ((t.setMeter c Meter.clear).notifyState c old .unmanaged .configured Cause.configured.origin).leaveUnit u c

/-- R144: a managed carrier is moved from one unit to another. What its going means for the old unit (the test of R153, which
with a unit deep delay of 0 can send UNIT-DEEP) comes before what its coming means for the new one (UNIT-RELEASE), and takes
the earlier token: the model's choice where the manual gives no order (assumption log 36). -/
def State.changeUnit (c : CarrierIx) (old new : UnitIx) (s : State) : State :=
  if old = new then s else (s.leaveUnit old c).arriveOnUnit new c

/-- R70, R78: a sleeper whose wake rank was written is taken out and put back at its new place. -/
def State.reRank (c : CarrierIx) (s : State) : State :=
  if (s.lifeState c).isSleeper then (s.leaveSleepers c).placeSleeper c else s

/-- R67, R70, R71: an accepted record replaces the configuration part whole, and acts. -/
def State.putCarrierRecord (c : CarrierIx) (k : CarrierConfig) (s : State) : State :=
  let t := s.setConfig c k
  match s.isManaged c, k.managed with
  | false, false => t
  | false, true => t.becomeManaged c
  | true, false => t.becomeUnmanaged c (s.unitOf c)
  | true, true => (t.changeUnit c (s.unitOf c) k.unitIx).reRank c

/-- The Carrier Table takes a record (R67). -/
def writeCarrierRecord : OwnerWrite := fun i b s =>
  let c : CarrierIx := Fin.ofNat 32 i
  match readCarrierRecord b with
  | none => .error .badValue
  | some k =>
    match s.carrierRecordCheck c k with
    | some status => .error status
    | none => .ok (s.putCarrierRecord c k)

/-- WRITE_CARRIER (R67). -/
def execWriteCarrier (s : State) : Host.Outcome State Fault Refusal :=
  onRequest .writeCarrier (fun r s => s.answerWrite r .carrier writeCarrierRecord nothingAfter) s

/-! ## PROFILE -/

/-- The Profile Table takes a record: the written values wait, and the profile is pending (R61, R62). -/
def writeProfileRecord : OwnerWrite := fun i b s =>
  let p : ProfileIx := Fin.ofNat 8 i
  let values := readProfileRecord b
  if values.valuesOk then
    .ok { s with profiles := s.profiles.set p { s.profiles[p] with written := values, pending := true } p.isLt }
  else .error .badValue

/-- WRITE_PROFILE (R61). -/
def execWriteProfile (s : State) : Host.Outcome State Fault Refusal :=
  onRequest .writeProfile (fun r s => s.answerWrite r .profile writeProfileRecord nothingAfter) s

/-! ## RADIO-UNIT -/

/-- R142: the two conditions on a record that changes the in-use mark or the station address. -/
def State.unitSettled (s : State) (u : UnitIx) : Bool :=
  (s.unitCarriers u).all (fun c => (s.lifeState c).isSettled) &&
    match (s.unit u).state with
    | none => true
    | some st => (st == .up || st == .unreachable) && (s.unit u).queue.isEmpty && (s.unit u).sent.isNone

/-- R143: a unit comes into use by its branch link status; or it goes out of use, and its runtime part is cleared but
for the carrier map. -/
def State.placeUnit (u : UnitIx) (inUse : Bool) (s : State) : State :=
  let kept := { RadioUnit.cold with map := (s.unit u).map }
  s.setUnit u (if inUse then
      { kept with state := if s.path.linkUp (.branch u) then some .up else some .unreachable }
    else kept)

/-- R142: an accepted record replaces the configuration part whole. -/
def State.putUnitRecord (u : UnitIx) (k : UnitConfig) (s : State) : State :=
  let t := { s with unitConfig := s.unitConfig.set u k u.isLt }
  if (s.unitSettings u).inUse = k.inUse then t else t.placeUnit u k.inUse

/-- R142: the record changes the in-use mark or the unit station address. -/
def UnitConfig.identityDiffers (k l : UnitConfig) : Bool := k.inUse != l.inUse || k.address != l.address

/-- The Radio Link Controller takes a record (R142). -/
def writeUnitRecord : OwnerWrite := fun i b s =>
  let u : UnitIx := Fin.ofNat 8 i
  match readUnitRecord b with
  | none => .error .badValue
  | some k =>
    if !k.valuesOk then .error .badValue
    else if (s.unitSettings u).identityDiffers k && !s.unitSettled u then .error .stateConflict
    else .ok (s.putUnitRecord u k)

/-- WRITE_RADIO_UNIT (R142). -/
def execWriteRadioUnit (s : State) : Host.Outcome State Fault Refusal :=
  onRequest .writeRadioUnit (fun r s => s.answerWrite r .radioUnit writeUnitRecord nothingAfter) s

/-! ## ACTION -/

/-- The Action Table takes a record (R33). -/
def writeActionRecord : OwnerWrite := fun i b s =>
  let n : Fin 32 := Fin.ofNat 32 i
  match readActionRecord b with
  | none => .error .badValue
  | some a => if a.valuesOk then .ok { s with actions := s.actions.set n a n.isLt } else .error .badValue

/-- WRITE_ACTION (R33). -/
def execWriteAction (s : State) : Host.Outcome State Fault Refusal :=
  onRequest .writeAction (fun r s => s.answerWrite r .action writeActionRecord nothingAfter) s

/-! ## CLASSIFIER-STANDBY -/

/-- The Classifier takes a record for the standby bank; the swap is tested after the values (R24, R27). -/
def writeStandbyRecord : OwnerWrite := fun i b s =>
  let n : Fin 64 := Fin.ofNat 64 i
  let k := s.classifier
  match readEntryRecord b with
  | none => .error .badValue
  | some e =>
    if k.swap.isSome then .error .swapPending
    else .ok (s.setClassifier (k.setBank (!k.selector) ((k.bank (!k.selector)).set n e n.isLt)))

/-- WRITE_CLASSIFIER_STANDBY (R24). -/
def execWriteClassifierStandby (s : State) : Host.Outcome State Fault Refusal :=
  onRequest .writeClassifierStandby
    (fun r s => s.answerWrite r .classifierStandby writeStandbyRecord nothingAfter) s

/-! ## WINDOW -/

/-- The Quiet Calendar takes a record (R88). -/
def writeWindowRecord : OwnerWrite := fun i b s =>
  let n : Fin 4 := Fin.ofNat 4 i
  match readWindowRecord b with
  | none => .error .badValue
  | some w => .ok { s with windows := s.windows.set n w n.isLt }

/-- R88, R91: one recomputation after the last record written. -/
def recomputeAfter : Nat → State → State := fun n s => if n = 0 then s else (recomputeEffect s).finish

/-- WRITE_WINDOW (R88). -/
def execWriteWindow (s : State) : Host.Outcome State Fault Refusal :=
  onRequest .writeWindow (fun r s => s.answerWrite r .window writeWindowRecord recomputeAfter) s

/-! ## PERMISSION -/

/-- The Management Engine takes a ceiling (R170). -/
def writeCeiling : OwnerWrite := fun i b s =>
  let n : Fin 12 := Fin.ofNat 12 i
  let v := natAt b 0 1
  if v ≤ 3 then .ok { s with permissions := s.permissions.set n v n.isLt } else .error .badValue

/-- WRITE_PERMISSION (R170). -/
def execWritePermission (s : State) : Host.Outcome State Fault Refusal :=
  onRequest .writePermission (fun r s => s.answerWrite r .permission writeCeiling nothingAfter) s

/-! ## SETTINGS -/

/-- Writes the settings. -/
def State.setSettings (k : Settings) (s : State) : State := { s with settings := k }

/-- R4: 0x0600 to 0xFFFF. -/
def putTypeValue (v : Nat) (s : State) : Option State :=
  if 0x600 ≤ v ∧ v ≤ 0xFFFF then some (s.setSettings { s.settings with typeValue := BitVec.ofNat 16 v }) else none
/-- R4: 0 to 3. -/
def putStationClass (v : Nat) (s : State) : Option State :=
  if v ≤ 3 then some (s.setSettings { s.settings with stationClass := v }) else none
/-- R13: 1 to 10000 ms. -/
def putTrunkGrace (v : Nat) (s : State) : Option State :=
  if 1 ≤ v ∧ v ≤ 10000 then some (s.setSettings { s.settings with trunkGrace := v }) else none
/-- R34: 0 to 32. -/
def putActionLimit (v : Nat) (s : State) : Option State :=
  if v ≤ 32 then some (s.setSettings { s.settings with actionLimit := v }) else none
/-- R49: 10 to 10000 ms. -/
def putWindowLength (v : Nat) (s : State) : Option State :=
  if 10 ≤ v ∧ v ≤ 10000 then some (s.setSettings { s.settings with windowLength := v }) else none
/-- R81: 0 to 3600 s. -/
def putLockOutTime (v : Nat) (s : State) : Option State :=
  if v ≤ 3600 then some (s.setSettings { s.settings with lockOutTime := v }) else none
/-- R107: 0 to 255 s. -/
def putHoldGuard (v : Nat) (s : State) : Option State :=
  if v ≤ 255 then some (s.setSettings { s.settings with holdGuard := v }) else none
/-- R129: 1 to 8; raising W makes grants in the same event. In a write of several entries they are made at this record, before
the records after it: the model's choice (assumption log 38). -/
def putSlots (v : Nat) (s : State) : Option State :=
  if 1 ≤ v ∧ v ≤ 8 then
    let t := s.setSettings { s.settings with slots := v }
    some (if s.settings.slots < v then t.work [.grants] else t)
  else none
/-- R160: any 48-bit address. -/
def putAdvisoryDestination (v : Nat) (s : State) : Option State :=
  if v < 2 ^ 48 then some (s.setSettings { s.settings with advisoryDestination := BitVec.ofNat 48 v }) else none
/-- R178: any 48-bit address. -/
def putNoticeDestination (v : Nat) (s : State) : Option State :=
  if v < 2 ^ 48 then some (s.setSettings { s.settings with noticeDestination := BitVec.ofNat 48 v }) else none
/-- R178, R181: any subset of the three kinds. -/
def putNoticeEnables (v : Nat) (s : State) : Option State :=
  if v < 8 then some (s.setSettings { s.settings with noticeEnables := BitVec.ofNat 3 v }) else none

/-- R173: the entry of a SETTINGS index takes a value; none for a value outside its range, and for a status entry. -/
def putSetting (i v : Nat) (s : State) : Option State :=
  match i with
  | 1 => putTypeValue v s
  | 2 => putStationClass v s
  | 3 => putTrunkGrace v s
  | 4 => putActionLimit v s
  | 5 => putWindowLength v s
  | 6 => putLockOutTime v s
  | 7 => putHoldGuard v s
  | 8 => putSlots v s
  | 9 => putAdvisoryDestination v s
  | 10 => putNoticeDestination v s
  | 11 => putNoticeEnables v s
  | _ => none

/-- A SETTINGS entry is taken: the value is the whole of its 8 bytes (12.4, R181). -/
def writeSetting : OwnerWrite := fun i b s =>
  match putSetting i (natAt b 0 8) s with
  | none => .error .badValue
  | some t => .ok t

/-- A SETTINGS write, whatever entry it begins at (R172, R173). -/
def State.answerSettings (r : Request) (s : State) : State := s.answerWrite r .settings writeSetting nothingAfter

/-- WRITE_MANAGEMENT_TYPE_VALUE (R4). -/
def execWriteManagementTypeValue (s : State) : Host.Outcome State Fault Refusal :=
  onRequest .writeManagementTypeValue State.answerSettings s
/-- WRITE_STATION_CLASS (R4). -/
def execWriteStationClass (s : State) : Host.Outcome State Fault Refusal :=
  onRequest .writeStationClass State.answerSettings s
/-- WRITE_TRUNK_GRACE (R13). -/
def execWriteTrunkGrace (s : State) : Host.Outcome State Fault Refusal :=
  onRequest .writeTrunkGrace State.answerSettings s
/-- WRITE_ACTION_LIMIT (R34). -/
def execWriteActionLimit (s : State) : Host.Outcome State Fault Refusal :=
  onRequest .writeActionLimit State.answerSettings s
/-- WRITE_WINDOW_LENGTH (R49). -/
def execWriteWindowLength (s : State) : Host.Outcome State Fault Refusal :=
  onRequest .writeWindowLength State.answerSettings s
/-- WRITE_LOCK_OUT_TIME (R81). -/
def execWriteLockOutTime (s : State) : Host.Outcome State Fault Refusal :=
  onRequest .writeLockOutTime State.answerSettings s
/-- WRITE_HOLD_GUARD (R107). -/
def execWriteHoldGuard (s : State) : Host.Outcome State Fault Refusal :=
  onRequest .writeHoldGuard State.answerSettings s
/-- WRITE_WARM_UP_SLOT_COUNT (R129). -/
def execWriteWarmUpSlotCount (s : State) : Host.Outcome State Fault Refusal :=
  onRequest .writeWarmUpSlotCount State.answerSettings s
/-- WRITE_ADVISORY_DESTINATION (R160). -/
def execWriteAdvisoryDestination (s : State) : Host.Outcome State Fault Refusal :=
  onRequest .writeAdvisoryDestination State.answerSettings s
/-- WRITE_NOTICE_DESTINATION (R178). -/
def execWriteNoticeDestination (s : State) : Host.Outcome State Fault Refusal :=
  onRequest .writeNoticeDestination State.answerSettings s
/-- WRITE_NOTICE_ENABLES (R178). -/
def execWriteNoticeEnables (s : State) : Host.Outcome State Fault Refusal :=
  onRequest .writeNoticeEnables State.answerSettings s

/-! ## Writes that no owner takes -/

/-- R170: permission, then the table. -/
def State.refuseTable (r : Request) (s : State) : State :=
  s.refuse r (if s.permits r .writeRecords then .badTable else .denied)

/-- WRITE_RECORDS (R172): an unknown table or one that is only read; or a SETTINGS write whose first entry is not
writable, which the same checks refuse (R173). -/
def execWriteRecords (s : State) : Host.Outcome State Fault Refusal :=
  onRequest .writeRecords (fun r s => if r.table = some .settings then s.answerSettings r else s.refuseTable r) s

end Sys2Proof.Machine
end

