-- ==== Sys2Proof/Machine/Resets.lean ====
section
/-! DEFINITION. The completion of a bank swap (R27, R30) and the resets: COLD_RESET (R14 and the reset rule of each
block), WARM_RESET_BEGIN and WARM_RESET_END (R175) with the fail-awake recovery (R140) and the placing of the radio
units (R158). -/

namespace Sys2Proof.Machine

/-! ## SWAP_COMPLETES -/

/-- SWAP_COMPLETES (R27): a pending swap completes if no walk remains bound to the outgoing bank. In a run the event that
leaves none there has completed it already (R26, R27; assumption log 22). -/
def execSwapCompletes (s : State) : Host.Outcome State Fault Refusal :=
  .next (if s.phase = .running then s.settleSwap else s)

/-! ## COLD_RESET -/

/-- COLD_RESET (R14, R29, R45, R47, R64, R66, R84, R95, R96, R128, R142, R143, R147, R166, R167, R170, R176, R178 to
R180): the state after a cold reset, with the links as the ports report them. The commands that wait, and the count of
free choices, are the model's own and stay. -/
def execColdReset (s : State) : Host.Outcome State Fault Refusal :=
  .next { State.cold s.path.branchReport s.path.trunkReport with pending := s.pending, freeCounter := s.freeCounter }

/-! ## WARM_RESET_BEGIN -/

/-- R14: every egress queue is emptied. -/
def FramePath.emptied (p : FramePath) : FramePath :=
  { p with trunkQueue := EgressQueue.empty, branchQueues := Vector.replicate 8 EgressQueue.empty }

/-- R21, R30: walks are abandoned, and a pending swap completes. -/
def Classifier.interrupted (k : Classifier) : Classifier :=
  let k := { k with walks := [] }
  match k.swap with
  | none => k
  | some mirror => k.completeSwap mirror

/-- R175, R179, R180: the request queue and the notice queue are emptied, and nothing is being answered. -/
def Engine.interrupted (e : Engine) : Engine :=
  { e with requests := [], activating := none, restarting := false, notices := [] }

/-- R158: a unit in use drops its directives and stops its timers. -/
def RadioUnit.interrupted (x : RadioUnit) : RadioUnit := if x.state.isSome then x.silenced else x

/-- R14, R21, R30, R65, R158, R175: what a warm reset ends as it begins. -/
def State.interrupt (source : ResetSource) (s : State) : State :=
  { s with
    path := s.path.emptied, classifier := s.classifier.interrupted, engine := s.engine.interrupted,
    units := s.units.map RadioUnit.interrupted, profiles := s.profiles.map ProfileRecord.promote,
    phase := .warmReset source 0 }

/-- Whether a queue still holds the response to RESTART (R175). -/
def EgressQueue.holdsRestartAnswer (q : EgressQueue) : Bool :=
  (q.sending.elim false Frame.restartAnswer) || q.injected.any Frame.restartAnswer

/-- R175: a RESTART was answered, and its response frame has been sent or discarded. -/
def State.restartDue (s : State) : Bool := s.engine.restarting && !s.path.trunkQueue.holdsRestartAnswer

/-- WARM_RESET_BEGIN (R175): at the line's assertion, or when the RESTART response has gone. -/
def execWarmResetBegin (source : ResetSource) (s : State) : Host.Outcome State Fault Refusal :=
  .next (if s.phase = .running ∧ (source = .line ∨ s.restartDue) then s.interrupt source else s)

/-! ## WARM_RESET_END -/

/-- R14: the trunk state and its grace timer at the end of a warm reset. -/
def FramePath.trunkAfterReset (lost linkUp : Bool) (grace : Nat) : TrunkState × Option Nat :=
  match lost, linkUp with
  | false, true => (.up, none)
  | false, false => (.failing, some grace)
  | true, true => (.returning, some grace)
  | true, false => (.lost, none)

/-- R14: the link statuses are as the ports report them, and the trunk takes its state. -/
def State.readLinks (s : State) : State :=
  let t := FramePath.trunkAfterReset s.trunkLost s.path.trunkReport s.settings.trunkGrace
  s.setPath { s.path with branchUp := s.path.branchReport, trunkState := t.1, grace := t.2 }

/-- R45, R65, R84, R96, R166: the runtime part of a carrier record with everything but its state and its frame counters
cleared. -/
def Carrier.afterReset (x : Carrier) : Carrier :=
  { x with meter := Meter.clear, cover := Cover.clear, life := Life.clear x.life.state, drainedReceived := false }

/-- R174: MONITOR if the mode was MONITOR or ACTING. -/
def Mode.afterReset : Mode → Mode
  | .transparent => .transparent
  | .monitor => .monitor
  | .acting => .monitor

/-- R14, R65, R84, R96, R128, R174: what each block clears or starts afresh at the end of a warm reset. -/
def State.clearRuntime (s : State) : State :=
  { s.readLinks with
    carriers := s.carriers.map Carrier.afterReset,
    lockOuts := Vector.replicate 8 none,
    wakeQueue := WakeQueue.empty,
    windowClock := { length := s.settings.windowLength, elapsed := 0 },
    engine := { s.engine with mode := s.engine.mode.afterReset },
    phase := .running }

/-- R140: the origin of the recovery's changes. -/
def originOfReset : ResetSource → Origin
  | .line => .external
  | .restart => .requested

/-- R140, steps 1 and 2, for one carrier. -/
def State.recoverCarrier (origin : Origin) (s : State) (c : CarrierIx) : State :=
  let old := s.lifeState c
  let t := s.setLife c { (s.carrier c).life with state := .queued }
  (t.setWakeQueue (t.wakeQueue.join .coverage { carrier := c, depth := .unknown })).notifyState c old .queued
    .restart origin

/-- R158: a unit in use releases if its branch link is UP, and is UNREACHABLE if it is DOWN. -/
def State.placeAfterReset (s : State) (u : UnitIx) : State :=
  if (s.unit u).state.isSome then
    if s.path.linkUp (.branch u) then s.releaseUnit u
    else s.setUnit u { s.unit u with state := some .unreachable }
  else s

/-- R95, R140, R158, R175, R176: the end of a warm reset (assumption log 24). -/
def State.endReset (source : ResetSource) (s : State) : State :=
  let s := s.clearRuntime.reformSets.raiseFlag .warmRestart
  let s := s.managedCarriers.foldl (State.recoverCarrier (originOfReset source)) s
  let s := (List.finRange 8).foldl State.placeAfterReset s
  s.work [.grants]

/-- WARM_RESET_END (R175). The command ends a warm reset whatever began it and however long ago, also one from RESTART whose
1 ms has not passed: the model's choice (assumption log 23). -/
def execWarmResetEnd (s : State) : Host.Outcome State Fault Refusal :=
  .next (match s.phase with
    | .running => s
    | .warmReset source _ => s.endReset source)

end Sys2Proof.Machine
end

