-- ==== Sys2Proof/Machine/Timers.lean ====
section
/-! DEFINITION. The expiry commands of the carriers', sector groups' and radio units' timers. An expiry command says
that the time has come: a count that has not been ticked so far is brought to its length (assumption log 2), but for the
doze elapsed, which only the tick counts (R114). A timer that is not running has no expiry, and every timer stands still
within a warm reset (R175). -/

namespace Sys2Proof.Machine

/-- DRAIN_TIMER_EXPIRES (R102): the drain of a DRAINING carrier is abandoned with cause DRAIN-TIMEOUT (R106). -/
def execDrainTimerExpires (c : CarrierIx) (s : State) : Host.Outcome State Fault Refusal :=
  let l := (s.carrier c).life
  .next (if s.phase = .running ∧ l.state = .draining then
      (s.setLife c { l with drain := max l.drain (l.drainLength * msPerSecond) }).enterRestoring c .drainTimeout
    else s)

/-- SETTLE_TIMER_EXPIRES (R134): a RESTORING carrier enters ACTIVE. -/
def execSettleTimerExpires (c : CarrierIx) (s : State) : Host.Outcome State Fault Refusal :=
  let l := (s.carrier c).life
  .next (if s.phase = .running ∧ l.state = .restoring then
      (s.setLife c { l with settle := max l.settle (l.settleLength * msPerSecond) }).settleNow c
    else s)

/-- LOCK_OUT_TIMER_EXPIRES (R80): the timer stops; nothing is handed on. -/
def execLockOutTimerExpires (g : SectorIx) (s : State) : Host.Outcome State Fault Refusal :=
  .next (if s.phase = .running then s.setLockOuts (s.lockOuts.set g none g.isLt) else s)

/-- DEEPEN_DELAY_REACHED (R115): the deepen decision is made for a DOZE carrier, by its doze elapsed as counted (R114) and the
deepen delay in force when the decision is made. -/
def execDeepenDelayReached (c : CarrierIx) (s : State) : Host.Outcome State Fault Refusal :=
  .next (if s.phase = .running then (deepenEffect c s).finish else s)

/-- R149: the reply timer of an outstanding directive expires. A UNIT-DEEP is repeated in every mode, and while the trunk is
lost: the model's choice where R154 and R149 leave it open (assumption log 37). -/
def replyExpired (u : UnitIx) (s : State) : Effect :=
  match (s.unit u).sent with
  | none => (s, [])
  | some bytes =>
    if (s.unit u).attempts < (s.unitSettings u).retries.toNat + 1 then (s.resend u bytes, [])
    else endDirective u .usedUp s

/-- REPLY_TIMER_EXPIRES (R149). -/
def execReplyTimerExpires (u : UnitIx) (s : State) : Host.Outcome State Fault Refusal :=
  .next (if s.phase = .running ∧ (s.unit u).replyTimer.isSome then (replyExpired u s).finish else s)

/-- R155: the release time ends: the unit enters UP, the head of its queue is sent, and the test of R153 is made. -/
def releaseEnded (u : UnitIx) (s : State) : Effect :=
  (s.setUnit u { s.unit u with state := some .up, releaseTimer := none }, [.sendHead u, .deepTest u])

/-- RELEASE_TIMER_EXPIRES (R155). -/
def execReleaseTimerExpires (u : UnitIx) (s : State) : Host.Outcome State Fault Refusal :=
  .next (if s.phase = .running ∧ (s.unit u).state = some .releasing then (releaseEnded u s).finish else s)

/-- UNIT_DEEP_TIMER_EXPIRES (R153, R154). -/
def execUnitDeepTimerExpires (u : UnitIx) (s : State) : Host.Outcome State Fault Refusal :=
  .next (if s.phase = .running ∧ (s.unit u).deepTimer.isSome then s.deepExpire u else s)

end Sys2Proof.Machine
end

