-- ==== Sys2Proof/Machine/Dispatch.lean ====
section
/-! DEFINITION. The effect of a command on everything but the queue of commands: one arm for each row of
spec/opcode_table.json. -/

namespace Sys2Proof.Machine

/-- The effect of a command. -/
def exec (i : Instr) (s : State) : Host.Outcome State Fault Refusal :=
  match i with
  | .frameReceived port bytes reception => Sys2Proof.Machine.execFrameReceived port bytes reception s
  | .walkEnds port => Sys2Proof.Machine.execWalkEnds port s
  | .transmissionEnd port => Sys2Proof.Machine.execTransmissionEnd port s
  | .branchLinkDown n => Sys2Proof.Machine.execBranchLinkDown n s
  | .branchLinkUp n => Sys2Proof.Machine.execBranchLinkUp n s
  | .trunkLinkDown => Sys2Proof.Machine.execTrunkLinkDown s
  | .trunkLinkUp => Sys2Proof.Machine.execTrunkLinkUp s
  | .trunkGraceExpires => Sys2Proof.Machine.execTrunkGraceExpires s
  | .windowEnd order => Sys2Proof.Machine.execWindowEnd order s
  | .deepenDelayReached c => Sys2Proof.Machine.execDeepenDelayReached c s
  | .minuteBoundary => Sys2Proof.Machine.execMinuteBoundary s
  | .drainTimerExpires c => Sys2Proof.Machine.execDrainTimerExpires c s
  | .settleTimerExpires c => Sys2Proof.Machine.execSettleTimerExpires c s
  | .lockOutTimerExpires g => Sys2Proof.Machine.execLockOutTimerExpires g s
  | .replyTimerExpires u => Sys2Proof.Machine.execReplyTimerExpires u s
  | .releaseTimerExpires u => Sys2Proof.Machine.execReleaseTimerExpires u s
  | .unitDeepTimerExpires u => Sys2Proof.Machine.execUnitDeepTimerExpires u s
  | .identify => Sys2Proof.Machine.execIdentify s
  | .readRecords => Sys2Proof.Machine.execReadRecords s
  | .writeRecords => Sys2Proof.Machine.execWriteRecords s
  | .writeCarrier => Sys2Proof.Machine.execWriteCarrier s
  | .writeProfile => Sys2Proof.Machine.execWriteProfile s
  | .writeRadioUnit => Sys2Proof.Machine.execWriteRadioUnit s
  | .writeAction => Sys2Proof.Machine.execWriteAction s
  | .writeClassifierStandby => Sys2Proof.Machine.execWriteClassifierStandby s
  | .writeWindow => Sys2Proof.Machine.execWriteWindow s
  | .writePermission => Sys2Proof.Machine.execWritePermission s
  | .writeManagementTypeValue => Sys2Proof.Machine.execWriteManagementTypeValue s
  | .writeStationClass => Sys2Proof.Machine.execWriteStationClass s
  | .writeTrunkGrace => Sys2Proof.Machine.execWriteTrunkGrace s
  | .writeActionLimit => Sys2Proof.Machine.execWriteActionLimit s
  | .writeWindowLength => Sys2Proof.Machine.execWriteWindowLength s
  | .writeLockOutTime => Sys2Proof.Machine.execWriteLockOutTime s
  | .writeHoldGuard => Sys2Proof.Machine.execWriteHoldGuard s
  | .writeWarmUpSlotCount => Sys2Proof.Machine.execWriteWarmUpSlotCount s
  | .writeAdvisoryDestination => Sys2Proof.Machine.execWriteAdvisoryDestination s
  | .writeNoticeDestination => Sys2Proof.Machine.execWriteNoticeDestination s
  | .writeNoticeEnables => Sys2Proof.Machine.execWriteNoticeEnables s
  | .activateBank => Sys2Proof.Machine.execActivateBank s
  | .swapCompletes => Sys2Proof.Machine.execSwapCompletes s
  | .setTime => Sys2Proof.Machine.execSetTime s
  | .setMode => Sys2Proof.Machine.execSetMode s
  | .sleepNow => Sys2Proof.Machine.execSleepNow s
  | .wake => Sys2Proof.Machine.execWake s
  | .holdDrain => Sys2Proof.Machine.execHoldDrain s
  | .releaseHold => Sys2Proof.Machine.execReleaseHold s
  | .clearFlags => Sys2Proof.Machine.execClearFlags s
  | .restart => Sys2Proof.Machine.execRestart s
  | .unknownRequestKind => Sys2Proof.Machine.execUnknownRequestKind s
  | .coldReset => Sys2Proof.Machine.execColdReset s
  | .warmResetBegin source => Sys2Proof.Machine.execWarmResetBegin source s
  | .warmResetEnd => Sys2Proof.Machine.execWarmResetEnd s

end Sys2Proof.Machine
end

