-- ==== Sys2Proof/Machine/Tick.lean ====
section
/-! DEFINITION. What the part does on its own when no command waits (assumption log 3): it lets the work that is ready
go on, and otherwise lets the internal tick of 1 ms pass. Either way it puts the events that fall due into the queue of
commands, in an order that is a free value (00, Events; assumption log 4). -/

namespace Sys2Proof.Machine

/-! ## The order of events that fall together -/

/-- Puts an event with its place among events with theirs. -/
def placeEvent (e : Nat × Instr) : List (Nat × Instr) → List (Nat × Instr)
  | [] => [e]
  | f :: fs => if e.1 < f.1 then e :: f :: fs else f :: placeEvent e fs

/-- The events in the order that the free values of a count give them. -/
def arrange (count : Nat) (events : List Instr) : List Instr :=
  ((events.zipIdx.map fun e => (Config.eventPlace count e.2, e.1)).foldr placeEvent []).map Prod.snd

/-- The events join the queue, and one more free choice has been read. -/
def State.raiseEvents (events : List Instr) (s : State) : State :=
  { s with pending := arrange s.freeCounter events, freeCounter := s.freeCounter + 1 }

/-! ## Work that is ready -/

/-- The nine ports. -/
def allPorts : List Port := .trunk :: (List.finRange 8).map Port.branch

/-- An event, if it is due. -/
def dueIf (due : Bool) (i : Instr) : List Instr := if due then [i] else []

/-- R18: the walk of each port that has one under way. -/
def State.walkEvents (s : State) : List Instr :=
  allPorts.flatMap fun p => dueIf (s.classifier.walks.any fun w => w.port == p) (.walkEnds p)

/-- R7: the transmission of each port that has one. -/
def State.sendEvents (s : State) : List Instr :=
  allPorts.flatMap fun p => dueIf (s.path.queue p).sending.isSome (.transmissionEnd p)

/-- R27: a swap that can complete. In a run there is none that has not (assumption log 22). -/
def State.swapEvents (s : State) : List Instr :=
  dueIf (s.classifier.swap.isSome && s.classifier.outgoingFree) .swapCompletes

/-- R169: the request at the head of the queue. -/
def State.requestEvents (s : State) : List Instr :=
  if s.engine.restarting then [] else (s.engine.requests.head?.map Request.command).toList

/-- R175: the reset that a RESTART asked for. -/
def State.restartEvents (s : State) : List Instr := dueIf s.restartDue (.warmResetBegin .restart)

/-- The work that is ready. Within a warm reset there is none (R175). -/
def State.readyEvents (s : State) : List Instr :=
  if s.phase = .running then
    s.walkEvents ++ s.sendEvents ++ s.swapEvents ++ s.requestEvents ++ s.restartEvents
  else []

/-! ## The tick -/

/-- A timer that runs loses 1 ms. -/
def countDown (t : Option Nat) : Option Nat := t.map (· - 1)

/-- A timer that runs has come to its end. -/
def ranOut (t : Option Nat) : Bool := t == some 0

/-- R85: the minute's last ms has passed. -/
def Calendar.minuteOver (k : Calendar) : Bool := k.second == 59 && k.milli == 999

/-- R85: the second and the millisecond; the minute boundary is a command of its own, which sets all three. -/
def Calendar.tick (k : Calendar) : Calendar :=
  if k.milli < 999 then { k with milli := k.milli + 1 }
  else if k.second < 59 then { k with milli := 0, second := k.second + 1 }
  else k

/-- The greatest dwell in s, doze in min, and since last release in s (R96). -/
def topDwell : Nat := 65535
/-- See `topDwell`. -/
def topDoze : Nat := 65535
/-- See `topDwell`. -/
def topRelease : Nat := 255

/-- R96, R99, R102, R108, R114: the counts of a carrier. A count at the top of its range stays there. -/
def Life.tick (l : Life) : Life :=
  { l with
    dwell := if l.state = .active then addCapped (topDwell * msPerSecond) l.dwell 1 else l.dwell,
    drain := if l.state = .draining then l.drain + 1 else l.drain,
    doze := if l.state = .doze then addCapped (topDoze * msPerMinute) l.doze 1 else l.doze,
    settle := if l.state = .restoring then l.settle + 1 else l.settle,
    sinceRelease := l.sinceRelease.map fun ms => addCapped (topRelease * msPerSecond) ms 1 }

/-- R143: the timers of a radio unit. -/
def RadioUnit.tick (x : RadioUnit) : RadioUnit :=
  { x with
    replyTimer := countDown x.replyTimer, releaseTimer := countDown x.releaseTimer,
    deepTimer := countDown x.deepTimer }

/-- Every count and timer moves on by 1 ms. -/
def State.countOn (s : State) : State :=
  { s with
    path := { s.path with grace := countDown s.path.grace },
    carriers := s.carriers.map fun x => { x with life := x.life.tick },
    units := s.units.map RadioUnit.tick,
    lockOuts := s.lockOuts.map countDown,
    windowClock := { s.windowClock with elapsed := s.windowClock.elapsed + 1 },
    calendar := s.calendar.tick }

/-- R102, R115, R134: what falls due for a carrier, once its counts have moved on. -/
def State.carrierEvents (s : State) (c : CarrierIx) : List Instr :=
  let l := (s.carrier c).life
  let delay := (s.profileOf c).deepenDelay
  dueIf (l.state == .draining && l.drainLength * msPerSecond ≤ l.drain) (.drainTimerExpires c) ++
    dueIf (l.state == .restoring && l.settleLength * msPerSecond ≤ l.settle) (.settleTimerExpires c) ++
    dueIf (l.state == .doze && delay != 0 && l.doze == delay * msPerMinute) (.deepenDelayReached c)

/-- R149, R153, R155: what falls due for a radio unit. -/
def State.unitEvents (s : State) (u : UnitIx) : List Instr :=
  dueIf (ranOut (s.unit u).replyTimer) (.replyTimerExpires u) ++
    dueIf (ranOut (s.unit u).releaseTimer) (.releaseTimerExpires u) ++
    dueIf (ranOut (s.unit u).deepTimer) (.unitDeepTimerExpires u)

/-- R75: the order in which the two blocks take the report, a free value here. -/
def State.freeOrder (s : State) : ReportOrder :=
  if Config.reportOrder s.freeCounter then .lifecycleFirst else .coverageFirst

/-- What falls due at a tick, once the counts have moved on; `minuteOver` tells of the minute before the tick. -/
def State.tickEvents (minuteOver : Bool) (s : State) : List Instr :=
  dueIf minuteOver .minuteBoundary ++
    dueIf (s.windowClock.length ≤ s.windowClock.elapsed) (.windowEnd s.freeOrder) ++
    dueIf (ranOut s.path.grace) .trunkGraceExpires ++
    (List.finRange 8).flatMap (fun (g : SectorIx) => dueIf (ranOut s.lockOuts[g]) (.lockOutTimerExpires g)) ++
    (List.finRange 8).flatMap s.unitEvents ++ (List.finRange 32).flatMap s.carrierEvents

/-- R175: within a warm reset the time of day goes on and every other timer stands still; a reset from RESTART ends
1 ms after it began. -/
def State.tickInReset (source : ResetSource) (elapsed : Nat) (s : State) : State :=
  ({ s with calendar := s.calendar.tick, phase := .warmReset source (elapsed + 1) }).raiseEvents
    (dueIf s.calendar.minuteOver .minuteBoundary ++ dueIf (source == ResetSource.restart) .warmResetEnd)

/-- The internal tick of 1 ms. -/
def State.tick (s : State) : State :=
  match s.phase with
  | .running => s.countOn.raiseEvents (s.countOn.tickEvents s.calendar.minuteOver)
  | .warmReset source elapsed => s.tickInReset source elapsed

/-- What the part does when no command waits. -/
def State.idle (s : State) : State :=
  match s.readyEvents with
  | [] => s.tick
  | e :: es => s.raiseEvents (e :: es)

end Sys2Proof.Machine
end

