-- ==== Sys2Proof/Safety.lean ====
section
/-! DEFINITION. The terms in which claims are made: what one event of the Lifecycle Controller, the Coverage Unit, the
Wake Scheduler and the Radio Link Controller leaves as it was (`Keeps`), the request a command takes (`Takes`), and the
laws that every state of the part obeys. -/

namespace Sys2Proof.Machine

/-! ## What the cascade of one event leaves as it was -/

/-- A carrier in a drain state or a sleeper state (section 7.1). -/
def LifeState.isResting (st : LifeState) : Bool := st.isDrain || st.isSleeper

/-- What every drain that begins needs, whatever asks for it (R11, R74, R100, R119, R121). -/
def State.mayBeginDrain (s : State) (c : CarrierIx) : Bool :=
  s.isDependent c && !(s.config c).isProtected && s.engine.mode == .acting && !s.trunkLost &&
    s.settings.advisoryDestination != 0#48

/-- What a queue sends before any waiting pass frame: the frame in transmission and the injected frames (R7). -/
def EgressQueue.ahead (q : EgressQueue) : List Frame := q.sending.toList ++ q.injected

/-- From `s` to `t` nothing has changed but lifecycle states with their timers and marks, pledges and lists, the wake
queue, unit states and directive queues, tokens, egress queues, notices, advisory counters and flags newly raised; no
carrier has become managed or UNMANAGED; a carrier that began to drain, or to rest, was allowed to; the token, the
notice queue and the egress queues are within their bounds if they were; an egress queue whose link is down is as it was;
and in the others frames have joined behind the injected frames only, and pass frames have gone from the tail only. -/
structure Keeps (s t : State) : Prop where
  stationAddress : t.stationAddress = s.stationAddress
  settings : t.settings = s.settings
  carrierConfig : t.carrierConfig = s.carrierConfig
  profiles : t.profiles = s.profiles
  unitConfig : t.unitConfig = s.unitConfig
  actions : t.actions = s.actions
  windows : t.windows = s.windows
  permissions : t.permissions = s.permissions
  classifier : t.classifier = s.classifier
  lockOuts : t.lockOuts = s.lockOuts
  windowClock : t.windowClock = s.windowClock
  calendar : t.calendar = s.calendar
  phase : t.phase = s.phase
  moment : t.moment = s.moment
  freeCounter : t.freeCounter = s.freeCounter
  pending : t.pending = s.pending
  mode : t.engine.mode = s.engine.mode
  requests : t.engine.requests = s.engine.requests
  activating : t.engine.activating = s.engine.activating
  restarting : t.engine.restarting = s.engine.restarting
  flags : ∀ f, s.flagRaised f = true → t.flagRaised f = true
  timeUnset : t.flagRaised .timeUnset = s.flagRaised .timeUnset
  branchUp : t.path.branchUp = s.path.branchUp
  branchReport : t.path.branchReport = s.path.branchReport
  trunkReport : t.path.trunkReport = s.path.trunkReport
  trunkState : t.path.trunkState = s.path.trunkState
  grace : t.path.grace = s.path.grace
  counters : ∀ c, (t.carrier c).counters = (s.carrier c).counters
  tally : ∀ c, (t.carrier c).meter.tally = (s.carrier c).meter.tally
  sample : ∀ c, (t.carrier c).meter.sample = (s.carrier c).meter.sample
  figure : ∀ c, (t.carrier c).meter.figure = (s.carrier c).meter.figure
  idleRun : ∀ c, (t.carrier c).meter.idleRun = (s.carrier c).meter.idleRun
  primed : ∀ c, (t.carrier c).meter.primed = (s.carrier c).meter.primed
  quietRun : ∀ c, (t.carrier c).meter.quietRun ≤ (s.carrier c).meter.quietRun
  managed : ∀ c, t.isManaged c = s.isManaged c
  drains : ∀ c, (t.lifeState c).isDrain = true → (s.lifeState c).isDrain = true ∨ s.mayBeginDrain c = true
  rests : ∀ c, (t.lifeState c).isResting = true → (s.lifeState c).isResting = true ∨ s.mayBeginDrain c = true
  inUse : ∀ u, (t.unit u).state.isSome = (s.unit u).state.isSome
  map : ∀ u, (t.unit u).map = (s.unit u).map
  token : 1 ≤ s.token ∧ s.token ≤ 255 → 1 ≤ t.token ∧ t.token ≤ 255
  notices : s.engine.notices.length ≤ Config.noticeRoom → t.engine.notices.length ≤ Config.noticeRoom
  egress : ∀ port, (s.path.queue port).used ≤ Config.queueRoom port →
    (t.path.queue port).used ≤ Config.queueRoom port
  silent : ∀ port, s.path.linkUp port = false → t.path.queue port = s.path.queue port
  ahead : ∀ port, (s.path.queue port).ahead <+: (t.path.queue port).ahead
  sending : ∀ port f, (s.path.queue port).sending = some f → (t.path.queue port).sending = some f
  passes : ∀ port, (t.path.queue port).pass <+: (s.path.queue port).pass

/-- `t` differs from `s`, at most, in what the egress queues hold, in flags newly raised, in the notices that wait and
their number, and in the counters of advisories. -/
structure Tells (s t : State) : Prop where
  carriers : t.carriers = s.carriers
  units : t.units = s.units
  wakeQueue : t.wakeQueue = s.wakeQueue
  token : t.token = s.token
  keeps : Keeps s t

/-- From `s` to `t` nothing that belongs to a carrier other than `c` has changed, but for the coverage part of the anchor
that `c` names; and no radio unit, wake queue, token or branch egress queue has changed. -/
structure Alone (c : CarrierIx) (s t : State) : Prop where
  others : ∀ d, d ≠ c → t.carrier d = { s.carrier d with cover := (t.carrier d).cover }
  covers : ∀ d, d ≠ c → d ≠ s.anchorOf c → (t.carrier d).cover = (s.carrier d).cover
  units : t.units = s.units
  wakeQueue : t.wakeQueue = s.wakeQueue
  token : t.token = s.token
  branches : t.path.branchQueues = s.path.branchQueues
  keeps : Keeps s t

/-! ## Frames: what is carried, where it is offered, how a walk goes -/

/-- A frame that has arrived whole at a port, outside a reset, with its link up and of a length that is carried (R1): with
the four bytes of its check sequence it has 64 to 9216. -/
def Carried (s : State) (port : Port) (bytes : List Byte) : Prop :=
  s.phase = .running ∧ 60 ≤ bytes.length ∧ bytes.length ≤ 9212 ∧ s.path.linkUp port = true

/-- A copy of a pass frame has been offered to the egress queue of each port of a set, and nothing else has changed. A
queue whose link is down admits none (R6). -/
def Offered (ports : Port → Bool) (bytes : List Byte) (s t : State) : Prop :=
  (∀ q, t.path.queue q =
    if ports q = true ∧ s.path.linkUp q = true then
      (s.path.queue q).offerPass (Config.queueRoom q) { bytes := bytes, restartAnswer := false }
    else s.path.queue q) ∧
  t = { s with path := { s.path with trunkQueue := t.path.trunkQueue, branchQueues := t.path.branchQueues } }

/-- Where a frame goes that is forwarded by direction: a downlink frame to the branch ports of a set, an uplink frame to T
(R5, R36, R38, R40). -/
def towards (ports : Byte) (arrival q : Port) : Bool :=
  match arrival, q with
  | .trunk, .branch n => memberOf ports n.val
  | .trunk, .trunk => false
  | .branch _, .trunk => true
  | .branch _, .branch _ => false

/-- The table of R18: how a walk at entry `i` of a bank ends. -/
inductive WalkRow (bank : Vector Entry 64) (port : Port) (bytes : List Byte) : Fin 64 → WalkEnd → Prop where
  /-- Miss, i below 63: to entry i + 1. -/
  | miss (i : Fin 64) (h : i.val + 1 < 64) (r : WalkEnd) :
      (bank[i]).isMatch port bytes = false → WalkRow bank port bytes ⟨i.val + 1, h⟩ r → WalkRow bank port bytes i r
  /-- Miss at entry 63: action 0. -/
  | last (i : Fin 64) : i.val = 63 → (bank[i]).isMatch port bytes = false → WalkRow bank port bytes i (.action 0)
  /-- Match, outcome RESULT(a): action a. -/
  | result (i : Fin 64) (a : Nat) : (bank[i]).isMatch port bytes = true → (bank[i]).outcome = .result a →
      WalkRow bank port bytes i (.action a)
  /-- Match, outcome SKIP(n), i + n at most 63: to entry i + n. -/
  | skip (i : Fin 64) (n : Nat) (h : i.val + n < 64) (r : WalkEnd) : (bank[i]).isMatch port bytes = true →
      (bank[i]).outcome = .skip n → WalkRow bank port bytes ⟨i.val + n, h⟩ r → WalkRow bank port bytes i r
  /-- Match, outcome SKIP(n), i + n beyond 63: action 0, and R19. -/
  | overrun (i : Fin 64) (n : Nat) : 64 ≤ i.val + n → (bank[i]).isMatch port bytes = true →
      (bank[i]).outcome = .skip n → WalkRow bank port bytes i .overrun

/-- The oldest walk of a frame of its port is `w`, it ends with action number `n`, and `s'` is the state in which the frame
is handed to the Action Table: the walk is no longer under way, a swap that waited for it has completed (R27), and
CLASSIFY-FAULT is raised if a SKIP overran the bank (R18, R19, R20). The order of these is the model's choice (assumption log
22). -/
def WalkEnded (s : State) (w : Walk) (n : Nat) (s' : State) : Prop :=
  ∃ ws, takeWalk w.port s.classifier.walks = some (w, ws) ∧
    let t := (s.setClassifier { s.classifier with walks := ws }).settleSwap
    (walkBank (s.classifier.bank w.bank) w.port w.bytes = .action n ∧ s' = t) ∨
      (walkBank (s.classifier.bank w.bank) w.port w.bytes = .overrun ∧ n = 0 ∧ s' = t.raiseFlag .classifyFault)

/-- That action number is good, and names entry `a` (R34). -/
def WalkDone (s : State) (w : Walk) (a : ActionEntry) (s' : State) : Prop :=
  ∃ n, WalkEnded s w n s' ∧ n < s'.settings.actionLimit ∧ a.present = true ∧ ∃ h : n < 32, s'.actions[n] = a

/-- R27: from `s` to `u` the pending swap with its mirror option completes: the mirror copy is made if it was asked for, the
pending mark is cleared, the activated mark is set, and the ACTIVATE-BANK that waits, if any, is answered. -/
def SwapCompleted (mirror : Bool) (s u : State) : Prop :=
  ∃ b : State, b = { s with classifier := b.classifier, engine := { s.engine with activating := none } } ∧
    b.classifier = { s.classifier with swap := none, activated := true, bank0 := b.classifier.bank0,
                                       bank1 := b.classifier.bank1 } ∧
    b.classifier.bank s.classifier.selector = s.classifier.bank s.classifier.selector ∧
    b.classifier.bank (!s.classifier.selector) =
      s.classifier.bank (if mirror then s.classifier.selector else !s.classifier.selector) ∧
    (s.engine.activating = none → u = b) ∧
    ∀ r, s.engine.activating = some r → u = b.respond r .done 0
      [if s.classifier.selector then 1#8 else 0#8, if mirror then 1#8 else 0#8]

/-! ## Frames of the part's own, and what they carry -/

/-- Fields one after another, each given by its width in bytes and its value; a field of several bytes is big-endian (00,
Layouts; chapter 12). -/
def laid (fields : List (Nat × Nat)) : List Byte :=
  fields.flatMap fun f => (List.range f.1).map fun j => BitVec.ofNat 8 (f.2 / 256 ^ (f.1 - 1 - j))

/-- A mark as a number: 1 for yes, 0 for no (R182). -/
def markOf (b : Bool) : Nat := if b then 1 else 0

/-- The state once the part has injected a frame of its own at a port: destination, station address, management type value
and body, with zero bytes after the body until the frame has 64 with the four of its check sequence (R4, R182). -/
def State.sends (port : Port) (destination : Addr) (body : List (Nat × Nat)) (s : State) : State :=
  let bytes := laid ([(6, destination.toNat), (6, s.stationAddress.toNat), (2, s.settings.typeValue.toNat)] ++ body)
  s.offerInjected port { bytes := bytes ++ List.replicate (60 - bytes.length) 0#8, restartAnswer := false }

/-- The body of an advisory (12.3): BAR is kind 1, OPEN kind 2; the reason is a cause code (R162). -/
def State.advisoryLayout (s : State) (kind : Nat) (c : CarrierIx) (reason : Nat) : List (Nat × Nat) :=
  [(1, 0x31), (1, kind), (2, (s.config c).key.toNat), (1, c.val), (1, reason)]

/-- The body of a directive (12.3): CARRIER-SLEEP 1, CARRIER-DEEPEN 2, CARRIER-WAKE 3, UNIT-DEEP 4, UNIT-RELEASE 5. -/
def directiveLayout (code token link key : Nat) : List (Nat × Nat) :=
  [(1, 0x41), (1, code), (1, 0), (1, token), (1, link), (1, 0), (2, key)]

/-- The body of a notice (12.3), with its sequence number. -/
def noticeLayout (sequence : BitVec 16) : NoticeContent → List (Nat × Nat)
  | .carrierState c old new cause origin minute second =>
    [(1, 0x21), (1, 1), (2, sequence.toNat), (1, c.val), (1, old.code), (1, new.code), (1, cause.code), (1, origin.code),
     (2, minute), (1, second)]
  | .flag f => [(1, 0x21), (1, 2), (2, sequence.toNat), (1, f.position.val)]
  | .trunk restored => [(1, 0x21), (1, 3), (2, sequence.toNat), (1, markOf restored)]

/-! ## What a change of state tells, and what a wake cause does -/

/-- A CARRIER-STATE notice of a change of state, with the time of day, is generated (R97, R98; `FlagsAndNotices` says what
becomes of a notice). -/
def State.tells (c : CarrierIx) (old new : LifeState) (cause : Cause) (origin : Origin) (s : State) : State :=
  s.notify (.carrierState c old new cause origin s.calendar.minute s.calendar.second)

/-- OPEN for a carrier, with a cause as its reason, is handed on: sent, byte for byte, or withheld while the trunk is lost or
no destination is set, and counted as the one or the other (R161, R162, R167, 12.3). -/
def State.opened (c : CarrierIx) (reason : Cause) (s : State) : State :=
  if s.trunkLost = true ∨ s.settings.advisoryDestination = 0#48 then
    { s with advisories := { s.advisories with withheld := min 4294967295 (s.advisories.withheld + 1) } }
  else
    ({ s with advisories := { s.advisories with sent := min 4294967295 (s.advisories.sent + 1) } } : State).sends .trunk
      s.settings.advisoryDestination (s.advisoryLayout 2 c reason.code)

/-- R106, R133, R134: what entry to RESTORING tells: OPEN, then the notice; with a settle time of 0 a second notice, from
RESTORING to ACTIVE with SETTLED. -/
def State.tellsReturn (c : CarrierIx) (cause : Cause) (origin : Origin) (s : State) : State :=
  let told := (s.opened c cause).tells c (s.lifeState c) .restoring cause origin
  if (s.profileOf c).settleTime = 0 then told.tells c .restoring .active .settled .timed else told

/-- R135: what entry to LOST tells: CARRIER-LOST is raised, then the notice. -/
def State.tellsLoss (c : CarrierIx) (cause : Cause) (origin : Origin) (s : State) : State :=
  (s.raiseFlag .carrierLost).tells c (s.lifeState c) .lost cause origin

/-- R106, R126: what a wake cause tells of a carrier that it reaches: of one in DOZE or SLUMBER the entry to QUEUED, of one in
a drain state the entry to RESTORING; of any other nothing (R113, R124, R127). -/
def State.tellsWake (cause : Cause) (origin : Origin) (s : State) (c : CarrierIx) : State :=
  if s.lifeState c = .doze ∨ s.lifeState c = .slumber then s.tells c (s.lifeState c) .queued cause origin
  else if (s.lifeState c).isDrain = true then s.tellsReturn c cause origin else s

/-- `t` has told at T what `told` has, and no more: flags, notices, their numbers, the trunk egress queue and the counters of
advisories are those of `told`. -/
structure ToldAs (told t : State) : Prop where
  engine : t.engine = told.engine
  trunk : t.path.trunkQueue = told.path.trunkQueue
  advisories : t.advisories = told.advisories

/-- R124, R138, R139: a carrier that a wake cause of a class has reached neither dozes nor slumbers nor drains, and in RAMPDOWN
or DEEPENING it carries a wake-pending mark of that class or a higher one. -/
def Woken (cls : WakeClass) (c : CarrierIx) (t : State) : Prop :=
  t.lifeState c ≠ .doze ∧ t.lifeState c ≠ .slumber ∧ (t.lifeState c).isDrain = false ∧
    (t.lifeState c = .rampdown ∨ t.lifeState c = .deepening →
      ∃ k, (t.carrier c).life.wakePending = some k ∧ cls.code ≤ k.cls.code)

/-- The carriers that wait in a class below one (R125). -/
def WakeQueue.below (cls : WakeClass) (q : WakeQueue) : List Waiting :=
  match cls with
  | .priority => q.coverage ++ q.ordinary
  | .coverage => q.ordinary
  | .ordinary => []

/-- R126, R127: what a wake cause brings to the tail of its class, in ascending carrier index: the carriers it reaches in DOZE,
with depth LIGHT; those in SLUMBER, with depth DEEP; and those that wait in a lower class, each with the depth it has. -/
def State.broughtTo (cls : WakeClass) (reached : CarrierIx → Bool) (s : State) : List Waiting :=
  (List.finRange 32).filterMap fun c =>
    if reached c = false then none
    else if s.lifeState c = .doze then some { carrier := c, depth := .light }
    else if s.lifeState c = .slumber then some { carrier := c, depth := .deep }
    else (s.wakeQueue.below cls).find? fun w => w.carrier == c

/-- R82, R92, R123 to R127: all that a wake cause (other than traffic, which reaches DOZE alone, and WAKE on a LOST carrier)
does from `s` to `t` to the carriers it reaches, in ascending carrier index, while no slot is free (so that no grant follows):
it queues the sleepers in DOZE and SLUMBER, marks those in RAMPDOWN and DEEPENING, abandons the drains, and promotes those that
wait in a lower class; and nothing else changes but the lists of their anchors. -/
structure CauseTaken (cls : WakeClass) (cause : Cause) (origin : Origin) (reached : CarrierIx → Bool) (s t : State) :
    Prop where
  /-- R97, R123: the notices and the advisories, in ascending carrier index. -/
  told : ToldAs (((List.finRange 32).filter reached).foldl (State.tellsWake cause origin) s) t
  branches : t.path.branchQueues = s.path.branchQueues
  /-- R127: promotion to the tail of the class, behind those already there; the others keep their order. -/
  queue :
    let q := s.wakeQueue
    let stays (w : Waiting) : Bool := !reached w.carrier
    let brought := s.broughtTo cls reached
    t.wakeQueue = match cls with
      | .priority =>
        { priority := q.priority ++ brought, coverage := q.coverage.filter stays, ordinary := q.ordinary.filter stays }
      | .coverage => { q with coverage := q.coverage ++ brought, ordinary := q.ordinary.filter stays }
      | .ordinary => { q with ordinary := q.ordinary ++ brought }
  /-- R124. -/
  states : ∀ c, t.lifeState c =
    if reached c = true ∧ (s.lifeState c = .doze ∨ s.lifeState c = .slumber) then .queued
    else if reached c = true ∧ (s.lifeState c).isDrain = true then
      (if (s.profileOf c).settleTime = 0 then .active else .restoring)
    else s.lifeState c
  /-- R113, R125: the mark is set, or raised from a lower class, with the cause. -/
  marks : ∀ c, reached c = true → s.lifeState c = .rampdown ∨ s.lifeState c = .deepening →
    let new : KeptWake := { cls := cls, cause := cause }
    let kept := (s.carrier c).life.wakePending.elim new fun k => if k.cls.code < cls.code then new else k
    (t.carrier c).life = { (s.carrier c).life with wakePending := some kept }
  others : ∀ c, reached c = false → t.carrier c = { s.carrier c with cover := (t.carrier c).cover }
  /-- R118, R153: an exit from SLUMBER stops the unit deep timer. -/
  exits : ∀ u, (∃ c, reached c = true ∧ s.lifeState c = .slumber ∧ s.unitOf c = u) →
    t.unit u = { s.unit u with deepTimer := none }
  units : ∀ u, (∀ c, reached c = true → s.lifeState c = .slumber → s.unitOf c ≠ u) → t.unit u = s.unit u
  token : t.token = s.token

/-- R123: the causes that a wake-pending mark keeps, with the origin of the notice that carries each. -/
def keptCauses : List (Cause × Origin) :=
  [(.relief, .timed), (.windowClosed, .timed), (.wake, .requested), (.anchorLost, .external), (.trunkLost, .external),
   (.priority, .external)]

/-- A carrier's change of state hands nothing on to another carrier: none waits for the slot it may free (R130), and none has it
as its anchor (R82). -/
def Solitary (s : State) (c : CarrierIx) : Prop :=
  (s.lifeState c = .warmup → s.wakeQueue.entries = []) ∧ ∀ d, d ≠ c → s.isManaged d = true → s.anchorOf d ≠ c

/-! ## A unit that is UP and awaits no reply -/

/-- R146, R182: the head `d` of unit `u`'s queue has been sent, byte for byte (12.3): its attempt count is 1 and the reply
timer runs. -/
def HeadSent (u : UnitIx) (d : Directive) (s t : State) : Prop :=
  (t.unit u).sent ≠ none ∧ (t.unit u).attempts = 1 ∧
    (t.unit u).replyTimer = some (s.unitSettings u).replyTimeout.toNat ∧
    t.path.branchQueues = (s.sends (.branch u) (s.unitSettings u).address
      (directiveLayout d.kind.code d.token d.link d.key.toNat)).path.branchQueues

/-- R116, R146, R153 to R155: unit `u` has just become UP, with nothing outstanding. From `s` to `t` the head of its queue has
been considered and its unit deep timer tested. -/
structure HeadConsidered (u : UnitIx) (s t : State) : Prop where
  keeps : Keeps s t
  /-- R146, R153: a head that may be sent is sent, and nothing else changes; but the unit deep timer starts if the three
  conditions of R153 hold and it is stopped (with a delay of 0 it stands at 0, the model's choice: assumption log 18). -/
  sends : ∀ d rest, (s.unit u).queue = d :: rest →
    (d.kind = .carrierDeepen → s.engine.mode = .acting ∧ s.trunkLost = false) →
    let starts := (∃ c, s.isManaged c = true ∧ s.unitOf c = u) ∧
      (∀ c, s.isManaged c = true → s.unitOf c = u → s.lifeState c = .slumber) ∧ (s.unit u).deepTimer = none
    HeadSent u d s t ∧ ToldAs s t ∧ t.carriers = s.carriers ∧ t.wakeQueue = s.wakeQueue ∧ t.token = s.token ∧
      (∀ v, v ≠ u → t.unit v = s.unit v) ∧
      t.unit u = { s.unit u with sent := (t.unit u).sent, attempts := (t.unit u).attempts,
                                 replyTimer := (t.unit u).replyTimer, deepTimer := (t.unit u).deepTimer } ∧
      (starts → (t.unit u).deepTimer = some ((s.unitSettings u).deepDelay.toNat * 1000)) ∧
      (¬starts → (t.unit u).deepTimer = (s.unit u).deepTimer)
  /-- R116, R125, R126, R146: a CARRIER-DEEPEN outside ACTING, or with the trunk lost, is removed unsent, and its carrier
  returns to DOZE, or, with a wake-pending mark (and no slot free), is QUEUED; the head behind it, of another kind, is
  sent. -/
  withdraws : ∀ d rest c, (s.unit u).queue = d :: rest → d.kind = .carrierDeepen → d.carrier = some c →
    s.lifeState c = .deepening → (s.engine.mode ≠ .acting ∨ s.trunkLost = true) →
    ((s.carrier c).life.wakePending ≠ none → s.settings.slots ≤ s.warmups) →
    (∀ e, rest.head? = some e → e.kind ≠ .carrierDeepen) →
    t.unit u = { s.unit u with queue := rest, sent := (t.unit u).sent, attempts := (t.unit u).attempts,
                               replyTimer := (t.unit u).replyTimer, deepTimer := (t.unit u).deepTimer } ∧
      (∀ v, v ≠ u → t.unit v = s.unit v) ∧
      (rest = [] → t.unit u = { s.unit u with queue := [], deepTimer := (t.unit u).deepTimer } ∧
        t.path.branchQueues = s.path.branchQueues) ∧
      (∀ e, rest.head? = some e → HeadSent u e s t) ∧
      (∀ e, e ≠ c → t.lifeState e = s.lifeState e) ∧ (t.carrier c).life.wakePending = none ∧
      ((s.carrier c).life.wakePending = none → t.lifeState c = .doze ∧ (t.carrier c).life.doze = 0 ∧
        t.wakeQueue = s.wakeQueue ∧ ToldAs (s.tells c .deepening .doze .deepenWithdrawn .timed) t) ∧
      ∀ k, (s.carrier c).life.wakePending = some k → t.lifeState c = .queued ∧
        t.wakeQueue = s.wakeQueue.join k.cls { carrier := c, depth := .light } ∧
        ∀ p ∈ keptCauses, k.cause = p.1 → ToldAs (s.tells c .deepening .queued p.1 p.2) t
  /-- R153, R154: with nothing waiting the unit deep timer starts if the three conditions of R153 hold and it is stopped; a
  delay of 0 sends UNIT-DEEP at once if it may be, and otherwise the timer stands at 0 (the model's choice: assumption log
  18). -/
  rests : (s.unit u).queue = [] →
    let starts := (∃ c, s.isManaged c = true ∧ s.unitOf c = u) ∧
      (∀ c, s.isManaged c = true → s.unitOf c = u → s.lifeState c = .slumber) ∧ (s.unit u).deepTimer = none
    let may := (s.unitSettings u).deepPermitted = 1#8 ∧ s.engine.mode = .acting ∧ s.trunkLost = false
    let delay := (s.unitSettings u).deepDelay.toNat
    (¬starts → t = s) ∧
    (starts → delay ≠ 0 ∨ ¬may → t = s.setUnit u { s.unit u with deepTimer := some (delay * 1000) }) ∧
    (starts → delay = 0 → may →
      let d : Directive := { kind := .unitDeep, carrier := none, token := s.token, link := 0, key := 0#16 }
      HeadSent u d s t ∧ ToldAs s t ∧ t.carriers = s.carriers ∧ t.wakeQueue = s.wakeQueue ∧
      t.token = (if s.token < 255 then s.token + 1 else 1) ∧ (∀ v, v ≠ u → t.unit v = s.unit v) ∧
      t.unit u = { s.unit u with state := some .deepPending, queue := [d], sent := (t.unit u).sent,
                                 attempts := (t.unit u).attempts, replyTimer := (t.unit u).replyTimer, deepTimer := none })

/-! ## The part's own work, and the tick of 1 ms -/

/-- The work that is ready, outside a reset. -/
inductive Ready (s : State) : Instr → Prop where
  /-- R18: a frame of the port has its walk under way. -/
  | walk (w : Walk) : w ∈ s.classifier.walks → Ready s (.walkEnds w.port)
  /-- R7: the port has a frame in transmission. -/
  | transmission (port : Port) : (s.path.queue port).sending ≠ none → Ready s (.transmissionEnd port)
  /-- R27: a swap is pending, and no walk is bound to the outgoing bank. -/
  | swap : s.classifier.swap ≠ none → (∀ w ∈ s.classifier.walks, w.bank = s.classifier.selector) → Ready s .swapCompletes
  /-- R169: the oldest request waits, and no RESTART has been answered. -/
  | request (r : Request) (rest : List Request) : s.engine.restarting = false → s.engine.requests = r :: rest →
      Ready s r.command
  /-- R175: RESTART has been answered, and its response has left the trunk egress queue. -/
  | restart : s.engine.restarting = true → (∀ f ∈ s.path.trunkQueue.ahead, f.restartAnswer = false) →
      Ready s (.warmResetBegin .restart)

/-- A timer, told by the ms that remain: it loses 1 ms if it runs, and stays stopped if not. -/
def RunsDown (before after : Option Nat) : Prop :=
  (before = none → after = none) ∧ ∀ ms, before = some ms → after = some (ms - 1)

/-- R96: a count in ms gains 1 ms while it goes on, and keeps its value otherwise; at the top of its range it stays. -/
def GoesOn (going : Prop) (top before after : Nat) : Prop :=
  (going → after = min top (before + 1)) ∧ (¬going → after = before)

/-- R96: what the tick does to the record of a carrier: dwell counts in ACTIVE, up to 65,535 s (R99); drain in DRAINING, and
is frozen in DRAIN-HELD (R102, R109); doze in DOZE, up to 65,535 min (R114); settle in RESTORING (R134); since last release
once there has been one, up to 255 s (R108). -/
structure CarrierTick (x y : Carrier) : Prop where
  dwell : GoesOn (x.life.state = .active) (65535 * 1000) x.life.dwell y.life.dwell
  drain : (x.life.state = .draining → y.life.drain = x.life.drain + 1) ∧
    (x.life.state ≠ .draining → y.life.drain = x.life.drain)
  doze : GoesOn (x.life.state = .doze) (65535 * 60000) x.life.doze y.life.doze
  settle : (x.life.state = .restoring → y.life.settle = x.life.settle + 1) ∧
    (x.life.state ≠ .restoring → y.life.settle = x.life.settle)
  release : (x.life.sinceRelease = none → y.life.sinceRelease = none) ∧
    ∀ ms, x.life.sinceRelease = some ms → y.life.sinceRelease = some (min (255 * 1000) (ms + 1))
  same : y = { x with life := { x.life with
    dwell := y.life.dwell, drain := y.life.drain, doze := y.life.doze, settle := y.life.settle,
    sinceRelease := y.life.sinceRelease } }

/-- R85: the ms and the second advance. At the last ms of a minute they wait for the minute boundary, which sets all
three counts. -/
def TimeAdvances (k l : Calendar) : Prop :=
  (k.milli < 999 → l = { k with milli := k.milli + 1 }) ∧
  (k.milli = 999 → k.second < 59 → l = { k with milli := 0, second := k.second + 1 }) ∧
  (k.milli = 999 → k.second = 59 → l = k)

/-- What falls due at the tick from `s` to `t`: an event whose count or timer comes to its length there. -/
inductive FallsDue (s t : State) : Instr → Prop where
  /-- R85. -/
  | minute : s.calendar.second = 59 → s.calendar.milli = 999 → FallsDue s t .minuteBoundary
  /-- R48. Which of the two blocks takes the report first is a free value (R75; assumption log 5). -/
  | window : t.windowClock.length ≤ t.windowClock.elapsed →
      FallsDue s t (.windowEnd (if Config.reportOrder s.freeCounter then .lifecycleFirst else .coverageFirst))
  /-- R10. -/
  | grace : t.path.grace = some 0 → FallsDue s t .trunkGraceExpires
  /-- R80. -/
  | lockOut (g : SectorIx) : t.lockOuts[g] = some 0 → FallsDue s t (.lockOutTimerExpires g)
  /-- R149. -/
  | reply (u : UnitIx) : (t.unit u).replyTimer = some 0 → FallsDue s t (.replyTimerExpires u)
  /-- R155. -/
  | release (u : UnitIx) : (t.unit u).releaseTimer = some 0 → FallsDue s t (.releaseTimerExpires u)
  /-- R153. -/
  | deep (u : UnitIx) : (t.unit u).deepTimer = some 0 → FallsDue s t (.unitDeepTimerExpires u)
  /-- R102: drain elapsed has reached the length in s that its timer was started with. -/
  | drain (c : CarrierIx) : t.lifeState c = .draining →
      (t.carrier c).life.drainLength * 1000 ≤ (t.carrier c).life.drain → FallsDue s t (.drainTimerExpires c)
  /-- R134: likewise the settle timer. -/
  | settle (c : CarrierIx) : t.lifeState c = .restoring →
      (t.carrier c).life.settleLength * 1000 ≤ (t.carrier c).life.settle → FallsDue s t (.settleTimerExpires c)
  /-- R115: doze elapsed reaches the deepen delay, in min, of the profile in force. -/
  | deepen (c : CarrierIx) : t.lifeState c = .doze → (t.profileOf c).deepenDelay ≠ 0 →
      (t.carrier c).life.doze = (t.profileOf c).deepenDelay * 60000 → FallsDue s t (.deepenDelayReached c)

/-- 1 ms passes outside a reset: every count and timer that runs moves on, what falls due joins the queue of commands, each
event once, and nothing else changes. -/
structure Ticks (s t : State) : Prop where
  /-- R10. -/
  grace : RunsDown s.path.grace t.path.grace
  carriers : ∀ c, CarrierTick (s.carrier c) (t.carrier c)
  /-- R149, R153, R155. -/
  units : ∀ u, RunsDown (s.unit u).replyTimer (t.unit u).replyTimer ∧
    RunsDown (s.unit u).releaseTimer (t.unit u).releaseTimer ∧ RunsDown (s.unit u).deepTimer (t.unit u).deepTimer ∧
    t.unit u = { s.unit u with
      replyTimer := (t.unit u).replyTimer, releaseTimer := (t.unit u).releaseTimer, deepTimer := (t.unit u).deepTimer }
  /-- R80. -/
  lockOuts : ∀ g : SectorIx, RunsDown s.lockOuts[g] t.lockOuts[g]
  /-- R48. -/
  window : t.windowClock = { s.windowClock with elapsed := s.windowClock.elapsed + 1 }
  calendar : TimeAdvances s.calendar t.calendar
  due : ∀ i, i ∈ t.pending ↔ FallsDue s t i
  once : t.pending.Nodup
  same : t = { s with
    path := { s.path with grace := t.path.grace }, carriers := t.carriers, units := t.units, lockOuts := t.lockOuts,
    windowClock := t.windowClock, calendar := t.calendar, pending := t.pending, freeCounter := s.freeCounter + 1 }

/-! ## Records -/

/-- The codes of 12.5 and 12.4 that records and notices carry. -/
def CodesOfNames : Prop :=
  (∀ p ∈ [(LifeState.unmanaged, 0), (.active, 1), (.draining, 2), (.drainHeld, 3), (.rampdown, 4), (.doze, 5),
      (.deepening, 6), (.slumber, 7), (.queued, 8), (.warmup, 9), (.restoring, 10), (.lost, 11)], p.1.code = p.2) ∧
  (∀ p ∈ [(none, 255), (some UnitState.up, 0), (some .deepPending, 1), (some .deep, 2), (some .releasing, 3),
      (some .unreachable, 5)], unitStateCode p.1 = p.2) ∧
  (∀ p ∈ [(WakeClass.ordinary, 1), (.coverage, 2), (.priority, 3)], p.1.code = p.2) ∧
  (∀ p ∈ [(Depth.light, 0), (.deep, 1), (.unknown, 2)], p.1.code = p.2) ∧
  (∀ p ∈ [(DirectiveKind.carrierSleep, 1), (.carrierDeepen, 2), (.carrierWake, 3), (.unitDeep, 4), (.unitRelease, 5)],
    p.1.code = p.2) ∧
  (∀ p ∈ [(Mode.transparent, 0), (.monitor, 1), (.acting, 2)], p.1.code = p.2) ∧
  (∀ p ∈ [(TrunkState.up, 0), (.failing, 1), (.lost, 2), (.returning, 3)], p.1.code = p.2) ∧
  (∀ p ∈ [(Origin.external, 0), (.requested, 1), (.timed, 2)], p.1.code = p.2) ∧
  (∀ p ∈ [(ActionKind.pass, 0), (.meter, 1), (.triggerOrdinary, 2), (.triggerPriority, 3), (.control, 4),
      (.radioReply, 5), (.advisoryReply, 6), (.discard, 7)], p.1.code = p.2) ∧
  (∀ p ∈ [(PortFilter.trunk, 0), (.branch, 1), (.any, 2)], p.1.code = p.2) ∧
  (∀ p ∈ [(FieldTest.equal, 0), (.differ, 1), (.allSet, 2), (.allClear, 3)], p.1.code = p.2) ∧
  (∀ p ∈ [(Flag.classifyFault, 0), (.actionFault, 1), (.unknownKey, 2), (.unitsClamped, 3), (.slumberTriggerMissed, 4),
      (.carrierLost, 5), (.trunkDown, 6), (.timeUnset, 7), (.noticeDropped, 8), (.lateReply, 9), (.strayAdvisory, 10),
      (.warmRestart, 11)], p.1.position.val = p.2) ∧
  ∀ p ∈ [(Cause.idle, 1), (.sleepNow, 2), (.drainQuiet, 3), (.drained, 4), (.held, 5), (.released, 6), (.loadRose, 7),
      (.drainTimeout, 8), (.declined, 9), (.relief, 10), (.windowClosed, 11), (.anchorLost, 12), (.trunkLost, 13),
      (.priority, 14), (.wake, 15), (.mode, 16), (.asleepLight, 17), (.deepen, 18), (.asleepDeep, 19),
      (.deepenWithdrawn, 20), (.radioRefused, 21), (.radioSilent, 22), (.fault, 23), (.configured, 24), (.traffic, 25),
      (.granted, 26), (.ready, 27), (.settled, 28), (.linkDown, 29), (.linkUp, 30), (.restart, 31)], p.1.code = p.2

/-- The layouts of 12.4 of the records that are read and written. -/
def WrittenLayouts : Prop :=
  (∀ k : CarrierConfig, k.bytes = laid
    [(1, markOf k.managed), (1, k.unit.toNat), (2, k.key.toNat), (1, k.sector.toNat), (1, k.anchor.toNat),
     (1, k.protect.toNat), (1, k.slotRate.toNat), (2, k.ratio.toNat), (2, k.grantUnits.toNat), (1, k.rank.toNat),
     (1, k.classMask.toNat), (1, k.profile.toNat), (1, 0)]) ∧
  (∀ (p : Profile) (pending : Bool), p.bytes pending = laid
    [(4, p.sleepThreshold), (4, p.cancelThreshold), (4, p.ceiling), (4, p.reliefThreshold), (1, p.idleRunLength),
     (1, p.shift), (1, p.quietWindows), (1, markOf pending), (2, p.drainTimeout), (1, p.settleTime), (1, 0),
     (2, p.dwellMinimum), (2, p.deepenDelay)]) ∧
  (∀ k : UnitConfig, k.bytes = laid
    [(1, markOf k.inUse), (1, k.deepPermitted.toNat), (1, k.retries.toNat), (1, 0), (6, k.address.toNat),
     (2, k.releaseTime.toNat), (2, k.replyTimeout.toNat), (2, k.deepDelay.toNat)]) ∧
  (∀ a : ActionEntry, a.bytes = laid
    [(1, markOf a.present), (1, a.kind.code), (1, a.portSet.toNat), (1, a.sectorMask.toNat), (1, a.keyOffset),
     (1, a.keyWidth), (2, a.keyMask.toNat), (1, a.unitOffset), (1, a.unitWidth), (1, a.unitShift), (1, a.cls),
     (1, a.bodyOffset), (3, 0)]) ∧
  (∀ e : Entry, e.bytes = laid
    [(1, markOf e.inUse), (1, e.filter.code), (1, e.offset), (1, e.width), (1, e.test.code),
     (1, match e.outcome with | .result _ => 0 | .skip _ => 1), (1, match e.outcome with | .result a => a | .skip n => n),
     (1, 0), (4, e.pattern.toNat), (4, e.mask.toNat)]) ∧
  ∀ (w : QuietWindow) (mark : Bool), w.bytes mark = laid
    [(1, markOf w.inUse), (1, markOf w.deepAllowed), (2, w.start), (2, w.stop), (1, markOf mark), (1, 0),
     (4, w.carriers.toNat)]

/-- The values of the SETTINGS entries, by index (12.4, R173). -/
def State.settingsInOrder (s : State) : List Nat :=
  [s.stationAddress.toNat, s.settings.typeValue.toNat, s.settings.stationClass, s.settings.trunkGrace,
   s.settings.actionLimit, s.settings.windowLength, s.settings.lockOutTime, s.settings.holdGuard, s.settings.slots,
   s.settings.advisoryDestination.toNat, s.settings.noticeDestination.toNat, s.settings.noticeEnables.toNat,
   s.engine.mode.code, s.path.trunkState.code, s.windowClock.length, s.windowClock.elapsed] ++
  s.lockOuts.toList.map (fun l => l.getD 0 / 1000) ++
  [s.calendar.minute, s.calendar.second, markOf s.calendar.timeSet, s.calendar.quiet.toNat, s.calendar.deep.toNat,
   s.warmups, s.advisories.sent, s.advisories.withheld, s.engine.sequence.toNat, s.engine.requests.length,
   s.engine.notices.length]

/-- The record of each table at each index it has (12.4; R182 for the four tables without a layout there; assumption log 12,
13 and 14). -/
def State.RecordsRead (s : State) : Prop :=
  (∀ c : CarrierIx, s.recordAt .carrier c.val = some (s.config c).bytes) ∧
  (∀ c : CarrierIx,
    let x := s.carrier c
    let m := x.meter
    let l := x.life
    s.recordAt .carrierStatus c.val = some (laid
      [(4, m.tally), (2, m.sample), (3, m.figure), (1, m.idleRun), (1, m.quietRun), (1, markOf m.primed),
       (3, x.cover.pledge), (3, x.cover.pledgeTotal), (1, l.state.code), (2, l.dwell / 1000), (2, l.drain / 1000),
       (2, l.doze / 60000), (1, l.settle / 1000), (1, l.wakePending.elim 0 fun k => k.cls.code), (1, markOf l.hold),
       (2, l.sinceRelease.elim 0xFFFF fun ms => ms / 1000), (1, markOf x.drainedReceived),
       (1, l.wakePending.elim 0 fun k => k.cause.code), (4, x.counters.metered), (4, x.counters.heldOff),
       (4, x.counters.missed)])) ∧
  (∀ p : ProfileIx, s.recordAt .profile p.val = some ((s.profiles[p]).written.bytes (s.profiles[p]).pending)) ∧
  (∀ u : UnitIx, s.recordAt .radioUnit u.val = some (s.unitSettings u).bytes) ∧
  (∀ u : UnitIx,
    let x := s.unit u
    s.recordAt .radioStatus u.val = some (laid
      ([(1, markOf x.state.isSome), (1, unitStateCode x.state), (1, x.queue.length)] ++
       (x.queue.zipIdx.flatMap fun e => [(1, e.1.kind.code), (1, e.1.carrier.elim 0xFF Fin.val), (1, e.1.token),
         (1, markOf (e.2 == 0 && x.sent.isSome))]) ++
       [(1, x.attempts), (2, x.replyTimer.getD 0), (2, x.releaseTimer.getD 0), (2, x.deepTimer.getD 0 / 1000)] ++
       (x.map.toList.map fun c => (1, c.elim 0xFF Fin.val)) ++
       [(4, x.resends), (4, x.discarded), (1, s.token)]))) ∧
  (∀ n : Fin 32, s.recordAt .action n.val = some (s.actions[n]).bytes) ∧
  (∀ i : Fin 64, s.recordAt .classifierActive i.val = some ((s.classifier.bank s.classifier.selector)[i]).bytes ∧
    s.recordAt .classifierStandby i.val = some ((s.classifier.bank (!s.classifier.selector))[i]).bytes) ∧
  (∀ w : Fin 4, s.recordAt .window w.val = some ((s.windows[w]).bytes (memberOf s.calendar.isOpen w.val))) ∧
  (∀ k : Fin 12, s.recordAt .permission k.val = some (laid [(1, s.permissions[k])])) ∧
  (∀ i : Nat, s.recordAt .settings i = (s.settingsInOrder[i]?).map fun v => laid [(8, v)]) ∧
  s.recordAt .flags 0 = some (laid [(2, s.engine.flags.toNat)]) ∧
  (∀ i : Nat, s.recordAt .wakeQueue i = ((s.wakeQueue.priority.map (fun w => (w, 3)) ++
    s.wakeQueue.coverage.map (fun w => (w, 2)) ++ s.wakeQueue.ordinary.map (fun w => (w, 1)))[i]?).map
      fun e => laid [(1, e.1.carrier.val), (1, e.2), (1, e.1.depth.code)]) ∧
  ∀ a : CarrierIx,
    let list := if s.isManaged a = true ∧ s.anchorOf a = a then (s.cover a).sleeperList else []
    s.recordAt .sleepers a.val = some (laid ((1, list.length) ::
      list.flatMap fun c => [(1, c.val), (1, (s.lifeState c).code), (1, (s.config c).rank.toNat)]))

/-! ## Quiet and deep permission -/

/-- R91, R92: what a recomputation of the sets does to the carriers that leave the quiet set, from `b`, in which the time and the
windows are new and the sets are not: the window-close cause reaches each managed one of them; and where no carrier joins the
deep set and no slot is free, that is all that happens. -/
def WindowClose (b t : State) : Prop :=
  let new := b.reformSets.calendar
  let leaves (c : CarrierIx) : Bool :=
    b.isManaged c && memberOf b.calendar.quiet c.val && !memberOf new.quiet c.val
  (∀ c, leaves c = true → Woken .ordinary c t) ∧
  (b.settings.slots ≤ b.warmups → (∀ c : CarrierIx, memberOf new.deep c.val = true → memberOf b.calendar.deep c.val = true) →
    CauseTaken .ordinary .windowClosed .timed leaves b.reformSets t)

/-- R91, R93, R115: what a recomputation of the sets does to the deep permission of carriers, from `b`, in which the time and
the windows are new and the sets are not. With the quiet set unchanged, carriers that leave the deep set are not moved; and
one carrier that joins it tests the deepen conditions at once: it enters DEEPENING, with CARRIER-DEEPEN at the tail of its
unit's queue, exactly when it is a DOZE carrier that meets them. -/
def DeepPermission (b t : State) : Prop :=
  let new := b.reformSets.calendar
  (b.calendar.quiet = new.quiet →
    (∀ c : CarrierIx, memberOf new.deep c.val = true → memberOf b.calendar.deep c.val = true) → t = b.reformSets) ∧
  ∀ c : CarrierIx, b.calendar.quiet = new.quiet → memberOf b.calendar.deep c.val = false →
    (∀ d : CarrierIx, memberOf new.deep d.val = (memberOf b.calendar.deep d.val || d == c)) →
    let u := b.unitOf c
    let may := b.lifeState c = .doze ∧ (b.profileOf c).deepenDelay ≠ 0 ∧
      (b.profileOf c).deepenDelay * 60000 ≤ (b.carrier c).life.doze ∧ b.engine.mode = .acting ∧ b.trunkLost = false ∧
      (b.unit u).state ≠ none ∧ (b.unit u).state ≠ some .unreachable
    (¬may → t = b.reformSets) ∧
    (may → ((b.unit u).state = some .up → (b.unit u).sent = none → (b.unit u).queue = []) →
      ∃ d, t.lifeState c = .deepening ∧ (t.unit u).queue = (b.unit u).queue ++ [d] ∧ d.kind = .carrierDeepen ∧
        d.carrier = some c ∧ d.token = b.token ∧ ((b.unit u).state = some .up → (t.unit u).sent ≠ none))

/-! ## The window end -/

/-- R76, R100: a candidate at a window end, by what stands before it in `s` and, of the report and the profiles it puts in
force, after it in `t` (no later work of a window end changes those). -/
def Candidate (s t : State) (c : CarrierIx) : Prop :=
  s.lifeState c = .active ∧ s.isManaged c = true ∧ s.anchorOf c ≠ c ∧ (s.config c).protect ≠ 1#8 ∧
    s.engine.mode = .acting ∧ s.trunkLost = false ∧ s.settings.advisoryDestination ≠ 0#48 ∧
    memberOf s.calendar.quiet c.val = true ∧ (t.profileOf c).idleRunLength ≤ (t.carrier c).meter.idleRun ∧
    (t.profileOf c).dwellMinimum ≤ (s.carrier c).life.dwell / 1000

/-- R73: the pledge that a window end finds for a carrier, by the load figure of the report. -/
def State.pledgeAt (t : State) (c : CarrierIx) : Nat :=
  pledgeFor (t.carrier c).meter.figure (t.config c).ratio.toNat

/-- R103: the load test. -/
def LoadRose (t : State) (c : CarrierIx) : Prop := (t.profileOf c).cancelThreshold < (t.carrier c).meter.figure

/-- R57, R103: the quiet test of a drain, by the drain-quiet run that the report of the window end carries: one more than
before it (at most 255) with a sample of 0, and 0 otherwise. -/
def WentQuiet (s t : State) (c : CarrierIx) : Prop :=
  s.lifeState c = .draining ∧ (t.profileOf c).quietWindows ≤
    if (s.carrier c).meter.primed = true ∧ (t.carrier c).meter.sample = 0 then min 255 ((s.carrier c).meter.quietRun + 1)
    else 0

/-- R75: the anchor's figure in the report has reached its relief threshold. -/
def NeedsRelief (t : State) (a : CarrierIx) : Prop := (t.profileOf a).reliefThreshold ≤ (t.carrier a).meter.figure

/-- A window end finds nothing to act on but carrier `c`: no other one is a candidate, drains or dozes, and no anchor needs
relief. -/
def OnlyFor (c : CarrierIx) (s t : State) : Prop :=
  (∀ d, d ≠ c → ¬Candidate s t d ∧ (s.lifeState d).isDrain = false ∧ s.lifeState d ≠ .doze) ∧
    ∀ a, s.isAnchor a = true → ¬NeedsRelief t a

/-! ## The request a command takes -/

/-- The state once the head of the request queue has been taken. -/
def State.taken (rest : List Request) (s : State) : State := s.setEngine { s.engine with requests := rest }

/-- The command `row` takes the request `r` from the head of the queue, with `rest` behind it (R169). -/
def Takes (row : Instr) (s : State) (r : Request) (rest : List Request) : Prop :=
  s.phase = .running ∧ s.engine.restarting = false ∧ s.engine.requests = r :: rest ∧ r.command = row

/-- A WRITE-RECORDS with a count of 1, either direction, and one record for index `i` (12.2). -/
def OneRecord (r : Request) (i : Nat) (record : List Byte) : Prop :=
  r.count = 1 ∧ (byteAt r.body 7 = 0#8 ∨ byteAt r.body 7 = 1#8) ∧ r.indexByte.toNat = i ∧
    r.values.take record.length = record

/-- The writes of the tables that have a command of their own: the command, its table identifier (12.5), the bytes of a
record (12.4) and the number of records (section 11.3). -/
def tableWrites : List (Instr × Nat × Nat × Nat) :=
  [(.writeCarrier, 1, 16, 32), (.writeProfile, 3, 28, 8), (.writeRadioUnit, 4, 16, 8), (.writeAction, 6, 16, 32),
   (.writeClassifierStandby, 7, 16, 64), (.writeWindow, 9, 12, 4), (.writePermission, 10, 1, 12)]

/-- The writes of the SETTINGS entries: the command, the index of its entry (12.4) and the range of its values (R173). -/
def settingWrites : List (Instr × Nat × Nat × Nat) :=
  [(.writeManagementTypeValue, 1, 0x600, 0xFFFF), (.writeStationClass, 2, 0, 3), (.writeTrunkGrace, 3, 1, 10000),
   (.writeActionLimit, 4, 0, 32), (.writeWindowLength, 5, 10, 10000), (.writeLockOutTime, 6, 0, 3600),
   (.writeHoldGuard, 7, 0, 255), (.writeWarmUpSlotCount, 8, 1, 8),
   (.writeAdvisoryDestination, 9, 0, 0xFFFFFFFFFFFF), (.writeNoticeDestination, 10, 0, 0xFFFFFFFFFFFF),
   (.writeNoticeEnables, 11, 0, 7)]

/-- The commands of the other request kinds, with the kind's code (12.5). -/
def plainRequests : List (Instr × Nat) :=
  [(.identify, 0), (.readRecords, 1), (.activateBank, 3), (.setTime, 4), (.setMode, 5), (.sleepNow, 6), (.wake, 7),
   (.holdDrain, 8), (.releaseHold, 9), (.clearFlags, 10), (.restart, 11)]

/-- Every command of a known request kind, with the kind's code. -/
def requestKinds : List (Instr × Nat) :=
  plainRequests ++ [(.writeRecords, 2)] ++ tableWrites.map (fun w => (w.1, 2)) ++ settingWrites.map (fun w => (w.1, 2))

/-! ## Laws -/

/-- R173: every writable setting lies in its range. -/
def Settings.inRange (k : Settings) : Prop :=
  0x600 ≤ k.typeValue.toNat ∧ k.stationClass ≤ 3 ∧ 1 ≤ k.trunkGrace ∧ k.trunkGrace ≤ 10000 ∧ k.actionLimit ≤ 32 ∧
    10 ≤ k.windowLength ∧ k.windowLength ≤ 10000 ∧ k.lockOutTime ≤ 3600 ∧ k.holdGuard ≤ 255 ∧ 1 ≤ k.slots ∧
    k.slots ≤ 8

/-- R60: every value of a profile lies in its range. R61: the cancel threshold exceeds the sleep threshold, and the relief
threshold exceeds the ceiling. -/
def Profile.inRange (p : Profile) : Prop :=
  (p.sleepThreshold ≤ 65535 ∧ 1 ≤ p.cancelThreshold ∧ p.cancelThreshold ≤ 65536 ∧ p.ceiling ≤ 65536 ∧
    1 ≤ p.reliefThreshold ∧ p.reliefThreshold ≤ 65536 ∧ 1 ≤ p.idleRunLength ∧ p.idleRunLength ≤ 255 ∧ p.shift ≤ 7 ∧
    1 ≤ p.quietWindows ∧ p.quietWindows ≤ 15 ∧ 1 ≤ p.drainTimeout ∧ p.drainTimeout ≤ 600 ∧ p.settleTime ≤ 60 ∧
    p.dwellMinimum ≤ 65535 ∧ p.deepenDelay ≤ 1440) ∧
  p.sleepThreshold < p.cancelThreshold ∧ p.ceiling < p.reliefThreshold

/-- R66: every field of a managed carrier's record lies in its range (the key is any value of 16 bits). -/
def CarrierConfig.fits (k : CarrierConfig) : Prop :=
  k.unit.toNat ≤ 7 ∧ k.sector.toNat ≤ 7 ∧ k.anchor.toNat ≤ 31 ∧ k.protect.toNat ≤ 1 ∧
    (k.slotRate = 1#8 ∨ k.slotRate = 2#8 ∨ k.slotRate = 4#8 ∨ k.slotRate = 8#8) ∧
    1 ≤ k.ratio.toNat ∧ k.ratio.toNat ≤ 1023 ∧ 1 ≤ k.grantUnits.toNat ∧ k.grantUnits.toNat ≤ 4095 ∧
    k.rank.toNat ≤ 7 ∧ k.classMask.toNat ≤ 15 ∧ k.profile.toNat ≤ 7

/-- R142: every field of the record of a unit in use lies in its range. -/
def UnitConfig.fits (k : UnitConfig) : Prop :=
  k.deepPermitted.toNat ≤ 1 ∧ k.retries.toNat ≤ 3 ∧ k.address.getLsbD 40 = false ∧
    10 ≤ k.releaseTime.toNat ∧ k.releaseTime.toNat ≤ 5000 ∧ 10 ≤ k.replyTimeout.toNat ∧ k.replyTimeout.toNat ≤ 2550 ∧
    k.replyTimeout.toNat % 10 = 0 ∧ k.deepDelay.toNat ≤ 3600

/-- R33: what the checks of an action record keep true of it. -/
def ActionEntry.fits (a : ActionEntry) : Prop :=
  a.keyOffset ≤ 127 ∧ a.unitOffset ≤ 127 ∧ a.bodyOffset ≤ 127 ∧ (a.keyWidth = 1 ∨ a.keyWidth = 2) ∧
    (a.unitWidth = 1 ∨ a.unitWidth = 2) ∧ a.unitShift ≤ 15 ∧ a.cls ≤ 3 ∧
    (a.present = true → a.kind = .meter ∨ a.kind = .triggerOrdinary → a.keyOffset + a.keyWidth ≤ 128) ∧
    (a.present = true → a.kind = .meter → a.unitOffset + a.unitWidth ≤ 128)

/-- R24: what the checks of a classifier entry keep true of it: offset, width, RESULT action number, SKIP distance. -/
def Entry.fits (e : Entry) : Prop :=
  e.offset ≤ 127 ∧ (e.width = 1 ∨ e.width = 2 ∨ e.width = 4) ∧ (∀ a, e.outcome = .result a → a ≤ 31) ∧
    ∀ n, e.outcome = .skip n → 1 ≤ n ∧ n ≤ 15

/-- What the tables and registers hold lies in the range the manual gives it. -/
structure InRange (s : State) : Prop where
  /-- R173. -/
  settings : s.settings.inRange
  /-- R170. -/
  permissions : ∀ k : Fin 12, s.permissions[k] ≤ 3
  /-- R60, R61. -/
  profiles : ∀ p : ProfileIx, s.profiles[p].inForce.inRange ∧ s.profiles[p].written.inRange
  /-- R66, R67. -/
  carriers : ∀ c : CarrierIx, (s.config c).managed = true → (s.config c).fits
  /-- R142. -/
  radioUnits : ∀ u : UnitIx, (s.unitSettings u).inUse = true → (s.unitSettings u).fits
  /-- R33, R47. -/
  actions : ∀ n : Fin 32, s.actions[n] = ActionEntry.cold ∨ s.actions[n].fits
  /-- R24, R29: an entry is as a cold reset leaves it, or well formed. -/
  entries : ∀ (b : Bool) (i : Fin 64), (s.classifier.bank b)[i] = Entry.cold ∨ ((s.classifier.bank b)[i]).fits
  /-- R88. -/
  windows : ∀ w : Fin 4, s.windows[w].start ≤ 1439 ∧ s.windows[w].stop ≤ 1439
  /-- R85. -/
  calendar : s.calendar.minute ≤ 1439 ∧ s.calendar.second ≤ 59 ∧ s.calendar.milli ≤ 999
  /-- R147. -/
  token : 1 ≤ s.token ∧ s.token ≤ 255
  /-- R168. -/
  requests : s.engine.requests.length ≤ Config.requestRoom
  /-- R179. -/
  notices : s.engine.notices.length ≤ Config.noticeRoom

/-- R51, R54, R55: the meter part of every carrier lies in its ranges. R51, R52: while the primed mark is clear, sample,
figure and the two runs are 0. -/
def MetersInRange (s : State) : Prop :=
  ∀ c : CarrierIx, (s.carrier c).meter.tally ≤ top32 ∧ (s.carrier c).meter.sample ≤ Config.fullSample ∧
    (s.carrier c).meter.figure ≤ 65536 ∧ (s.carrier c).meter.idleRun ≤ 255 ∧ (s.carrier c).meter.quietRun ≤ 255 ∧
    ((s.carrier c).meter.primed = false →
      (s.carrier c).meter = { Meter.clear with tally := (s.carrier c).meter.tally })

/-- R72: "A self-anchored carrier or a protected carrier is never in DRAINING, DRAIN-HELD, RAMPDOWN, DOZE, DEEPENING or
SLUMBER": a carrier at rest is an unprotected dependent. -/
def RestingLaw (s : State) : Prop :=
  ∀ c : CarrierIx, (s.lifeState c).isResting = true → s.isDependent c = true ∧ (s.config c).isProtected = false

/-- Section 5.2: what the checks on a carrier record keep true of every managed carrier, and that the managed mark of
the record and the lifecycle state agree (R66). -/
structure CarrierTableLaw (s : State) : Prop where
  /-- R66. -/
  marks : ∀ c, (s.config c).managed = s.isManaged c
  /-- R68. -/
  anchors : ∀ c, s.isManaged c = true →
    s.isAnchor (s.anchorOf c) = true ∧ (s.config (s.anchorOf c)).sectorIx = (s.config c).sectorIx
  /-- R69. -/
  units : ∀ u, (s.unitCarriers u).length ≤ 4
  /-- R69. -/
  keys : ∀ c d, s.isManaged c = true → s.isManaged d = true → s.unitOf c = s.unitOf d →
    (s.config c).key = (s.config d).key → c = d

/-- R127: "A carrier is in the wake queue exactly when it is QUEUED, and it appears there once." -/
def WakeQueueLaw (s : State) : Prop :=
  (s.wakeQueue.entries.map fun e => e.1.carrier).Nodup ∧
    ∀ c, c ∈ (s.wakeQueue.entries.map fun e => e.1.carrier) ↔ s.lifeState c = .queued

/-- R130: the Wake Scheduler makes a grant whenever a slot is free and the wake queue is not empty, so between events a carrier
waits only while no slot is free. -/
def SlotLaw (s : State) : Prop := s.wakeQueue.entries ≠ [] → s.settings.slots ≤ s.warmups

/-- R74, R82: a drain begins only under an ACTIVE anchor, and an anchor's entry to LOST abandons the drains of its group, so
the anchor of a carrier in a drain state is ACTIVE. -/
def AnchorLaw (s : State) : Prop :=
  ∀ c : CarrierIx, (s.lifeState c).isDrain = true → s.lifeState (s.anchorOf c) = .active

/-- R96, R113, R166: the hold mark is set exactly in DRAIN-HELD, the DRAINED-received mark is clear outside the drain
states, and a wake-pending mark stands only in RAMPDOWN and DEEPENING. -/
def MarksLaw (s : State) : Prop :=
  ∀ c : CarrierIx, (s.carrier c).life.hold = decide (s.lifeState c = .drainHeld) ∧
    ((s.carrier c).drainedReceived = true → (s.lifeState c).isDrain = true) ∧
    ((s.carrier c).life.wakePending ≠ none → s.lifeState c = .rampdown ∨ s.lifeState c = .deepening)

/-- R74, R78, R79: "Each anchor's pledge total equals the sum of the pledges of its dependents in DRAINING or DRAIN-HELD,
and carriers in other states hold no pledge"; a carrier is on a drain list exactly in the drain states, and on a sleeper
list exactly in the sleeper states, and then only on the list of the anchor it names, once. -/
structure CoverLaw (s : State) : Prop where
  /-- R74. -/
  total : ∀ a, (s.cover a).pledgeTotal = (((List.finRange 32).filter fun c =>
    (s.lifeState c).isDrain && s.anchorOf c == a).map fun c => (s.cover c).pledge).sum
  /-- R74. -/
  none : ∀ c, (s.lifeState c).isDrain = false → (s.cover c).pledge = 0
  /-- R79. -/
  drains : ∀ a, (s.cover a).drainList.Nodup ∧
    ∀ c, c ∈ (s.cover a).drainList ↔ (s.lifeState c).isDrain = true ∧ s.anchorOf c = a
  /-- R78. -/
  sleepers : ∀ a, (s.cover a).sleeperList.Nodup ∧
    ∀ c, c ∈ (s.cover a).sleeperList ↔ (s.lifeState c).isSleeper = true ∧ s.anchorOf c = a

/-- What a window end rests on: the ranges, and the laws of the Carrier Table, of rest, of the marks, of the lists, of drains
and of the wake queue. Each is kept by every step (RangesKept, CarrierTableKept, RestingKept, WakeQueueAndMarksKept,
CoverageKept) and holds right after a reset (ResetObeysEveryLaw). -/
structure Lawful (s : State) : Prop where
  inRange : InRange s
  meters : MetersInRange s
  table : CarrierTableLaw s
  resting : RestingLaw s
  marks : MarksLaw s
  cover : CoverLaw s
  anchors : AnchorLaw s
  waiting : WakeQueueLaw s
  slots : SlotLaw s

/-- R78, R79: the drain list of an anchor stands in the order in which the drains began, the sleeper list by wake rank and
within a rank by the entry to RAMPDOWN; what came in one event stands by carrier index. (Moments are the model's numbering of
events: assumption log 20.) -/
structure OrderLaw (s : State) : Prop where
  /-- No carrier came later than now. -/
  moments : ∀ c, (s.cover c).drainMoment ≤ s.moment ∧ (s.cover c).rampMoment ≤ s.moment
  /-- R79. -/
  drains : ∀ a, (s.cover a).drainList.Pairwise fun c d =>
    (s.cover c).drainMoment < (s.cover d).drainMoment ∨ ((s.cover c).drainMoment = (s.cover d).drainMoment ∧ c < d)
  /-- R78. -/
  sleepers : ∀ a, (s.cover a).sleeperList.Pairwise fun c d =>
    (s.config c).rank.toNat < (s.config d).rank.toNat ∨ ((s.config c).rank = (s.config d).rank ∧
      ((s.cover c).rampMoment < (s.cover d).rampMoment ∨
        ((s.cover c).rampMoment = (s.cover d).rampMoment ∧ c < d)))

/-- R26, R27: a swap is pending only while a walk is bound to the outgoing bank. -/
def SwapLaw (s : State) : Prop :=
  s.classifier.swap ≠ none → ∃ w ∈ s.classifier.walks, w.bank ≠ s.classifier.selector

/-- Section 1.6: the grace timer runs exactly in FAILING and RETURNING. -/
def GraceLaw (s : State) : Prop :=
  s.path.grace.isSome = true ↔ s.path.trunkState = .failing ∨ s.path.trunkState = .returning

/-- R6: what is counted against an egress queue fits its room. -/
def EgressLaw (s : State) : Prop := ∀ port, (s.path.queue port).used ≤ Config.queueRoom port

end Sys2Proof.Machine
end

