-- ==== Sys2Proof/Certificates/Slice0/Obligations.lean ====
section
/-! DEFINITION. The statements for the provers. Each names the rule or the section it formalises; what is the model's own
choice says so and names its row of notes/assumptions. -/

open Sys2Proof Sys2Proof.Machine

/-! ## The step and the queue of commands -/

/-- A step with a command at the front of the queue carries out that command, with the rest behind it. -/
def Obligations.StepTakesTheFrontCommand : Prop :=
  ∀ (i : Instr) (s : State), step { s with pending := i :: s.pending } = exec i s

/-- Every command answers a next state, and touches neither the commands that wait nor the count of free choices (both
the model's own: assumption log 4 and 31). -/
def Obligations.EveryCommandLeavesTheQueue : Prop :=
  ∀ (i : Instr) (s : State), ∃ t, exec i s = .next t ∧ t.pending = s.pending ∧ t.freeCounter = s.freeCounter

/-- With no command waiting, a step puts the work that is ready (`Ready`: R7, R18, R27, R169, R175) into the queue, each
event once, in some order, and changes nothing else. With none ready it lets 1 ms pass (`Ticks`): dwell counts in ACTIVE
(R99), drain in DRAINING and not in DRAIN-HELD (R102, R109), doze in DOZE (R114), settle in RESTORING (R134), since last
release after a release (R108); the grace, lock-out, reply, release and unit deep timers lose 1 ms (R10, R80, R149, R153,
R155); the window and the time of day go on (R48, R85); and what falls due there (`FallsDue`), no more and no less, joins
the queue. Within a warm reset only the time of day goes on, and one from RESTART ends at the tick (R175). That an empty
queue stands for the part's own work and clock, and the order of events that fall together, are the model's choice:
assumption log 3, 4 and 5. -/
def Obligations.IdleStepQueuesWhatIsDue : Prop :=
  ∀ s : State, s.pending = [] →
    (s.phase = .running → (∃ i, Ready s i) → ∃ p, p.Nodup ∧ (∀ i, i ∈ p ↔ Ready s i) ∧
      step s = .next { s with pending := p, freeCounter := s.freeCounter + 1 }) ∧
    (s.phase = .running → (∀ i, ¬Ready s i) → ∃ t, step s = .next t ∧ Ticks s t) ∧
    (∀ source n, s.phase = .warmReset source n → ∃ t, step s = .next t ∧ TimeAdvances s.calendar t.calendar ∧
      t.pending.Nodup ∧
      (∀ i, i ∈ t.pending ↔ (i = .minuteBoundary ∧ s.calendar.second = 59 ∧ s.calendar.milli = 999) ∨
        (i = .warmResetEnd ∧ source = .restart)) ∧
      t = { s with calendar := t.calendar, phase := .warmReset source (n + 1), pending := t.pending,
                   freeCounter := s.freeCounter + 1 })

/-! ## Resets -/

/-- COLD_RESET leaves, whatever the part held: the Frame Path (R14), the Classifier (R29) and the Action Table (R47) as
their rules give, and the part out of any warm reset; every carrier UNMANAGED with its runtime part clear (R45, R64,
R66, R84, R96, R166), every unit out of use (R142, R143), the token counter at 1 (R147), the wake queue empty (R128),
the profiles at their cold values (R60, R64), and the Quiet Calendar as R95 gives; the Management Engine with empty
queues in TRANSPARENT mode, the settings of R173 and the ceilings of R170 at their cold values, every flag clear except
TIME-UNSET (R176), and the counters of R167 at 0. The model's choice: the reset is over when the command is (assumption
log 34), and the station address is that of the identity store, a free value (assumption log 7). -/
def Obligations.ColdReset : Prop :=
  (∀ s : State, ∃ t, exec .coldReset s = .next t ∧ t.phase = .running ∧
      (∀ port, t.path.queue port = { sending := none, injected := [], pass := [] }) ∧
      (∀ n, t.path.linkUp (.branch n) = memberOf s.path.branchReport n.val) ∧ t.trunkLost = false ∧
      (s.path.trunkReport = true → t.path.trunkState = .up ∧ t.path.grace = none) ∧
      (s.path.trunkReport = false → t.path.trunkState = .failing ∧ t.path.grace = some 200) ∧
      (∀ (b : Bool) (i : Fin 64), (t.classifier.bank b)[i] =
        { inUse := false, filter := .trunk, offset := 0, width := 0, test := .equal, pattern := 0#32, mask := 0#32,
          outcome := .result 0 }) ∧
      t.classifier.selector = false ∧ t.classifier.swap = none ∧ t.classifier.activated = false ∧
      t.classifier.walks = [] ∧
      (∀ n : Fin 32, t.actions[n] =
        { present := false, kind := .pass, portSet := 0#8, sectorMask := 0#8, keyOffset := 0, keyWidth := 0,
          keyMask := 0#16, unitOffset := 0, unitWidth := 0, unitShift := 0, cls := 0, bodyOffset := 0 })) ∧
  (∀ s : State, ∃ t, exec .coldReset s = .next t ∧
      (∀ c, t.config c = CarrierConfig.cold ∧ t.lifeState c = .unmanaged ∧ (t.carrier c).meter = Meter.clear ∧
        (t.carrier c).counters = FrameCounters.clear ∧ (t.carrier c).cover = Cover.clear ∧
        (t.carrier c).life = Life.clear .unmanaged ∧ (t.carrier c).drainedReceived = false) ∧
      (∀ u, t.unitSettings u = UnitConfig.cold ∧ t.unit u = RadioUnit.cold) ∧ t.token = 1 ∧
      t.wakeQueue.entries = [] ∧ (∀ g : SectorIx, t.lockedOut g = false) ∧
      (∀ p : ProfileIx, t.profiles[p] = { inForce := Profile.cold, written := Profile.cold, pending := false }) ∧
      t.windowClock = { length := 1000, elapsed := 0 } ∧ (∀ w : Fin 4, t.windows[w] = QuietWindow.cold) ∧
      t.calendar = { minute := 0, second := 0, milli := 0, timeSet := false, quiet := 0#32, deep := 0#32, isOpen := 0#4 }) ∧
  (∀ s : State, ∃ t, exec .coldReset s = .next t ∧
      t.engine.requests = [] ∧ t.engine.activating = none ∧ t.engine.restarting = false ∧ t.engine.notices = [] ∧
      t.engine.sequence = 0#16 ∧ t.engine.mode = .transparent ∧
      (∀ f, t.flagRaised f = true ↔ f = .timeUnset) ∧
      t.settings =
        { typeValue := 0x9A3C#16, stationClass := 0, trunkGrace := 200, actionLimit := 0, windowLength := 1000,
          lockOutTime := 600, holdGuard := 30, slots := 2, advisoryDestination := 0#48, noticeDestination := 0#48,
          noticeEnables := 0#3 } ∧
      (∀ k, t.ceiling k = if k = .identify ∨ k = .readRecords then 3 else 0) ∧
      t.advisories = { sent := 0, withheld := 0 } ∧ t.stationAddress = Config.stationAddress)

/-- A warm reset begins at the line's assertion, or when the response to RESTART has left the trunk egress queue (R175).
It empties the egress queues, abandons the walks and completes a pending swap (R30), empties the request queue and the
notice queue, drops the directives and stops the timers of every unit (R158; the attempt count is then 0, the model's
choice: assumption log 13), and puts pending profiles in force (R65); it changes nothing else. -/
def Obligations.WarmResetBegins : Prop :=
  ∀ (source : ResetSource) (s : State), s.phase = .running → (source = .line ∨ s.restartDue = true) →
    ∃ t, exec (.warmResetBegin source) s = .next t ∧ t.phase = .warmReset source 0 ∧
      (∀ port, t.path.queue port = { sending := none, injected := [], pass := [] }) ∧
      t.path = { s.path with trunkQueue := t.path.trunkQueue, branchQueues := t.path.branchQueues } ∧
      t.classifier.walks = [] ∧ t.classifier.swap = none ∧ t.classifier.selector = s.classifier.selector ∧
      t.classifier.activated = (s.classifier.activated || s.classifier.swap.isSome) ∧
      t.classifier.bank s.classifier.selector = s.classifier.bank s.classifier.selector ∧
      t.classifier.bank (!s.classifier.selector) =
        s.classifier.bank (if s.classifier.swap = some true then s.classifier.selector else !s.classifier.selector) ∧
      t.engine = { s.engine with requests := [], activating := none, restarting := false, notices := [] } ∧
      (∀ u, t.unit u = if (s.unit u).state = none then s.unit u else
        { s.unit u with queue := [], sent := none, attempts := 0, replyTimer := none, releaseTimer := none,
                        deepTimer := none }) ∧
      (∀ p : ProfileIx, (t.profiles[p]).pending = false ∧ (t.profiles[p]).written = (s.profiles[p]).written ∧
        (t.profiles[p]).inForce = if (s.profiles[p]).pending then (s.profiles[p]).written else (s.profiles[p]).inForce) ∧
      t = { s with path := t.path, classifier := t.classifier, engine := t.engine, units := t.units,
                   profiles := t.profiles, phase := t.phase }

/-- WARM_RESET_END: every managed carrier has been placed in QUEUED at class COVERAGE with depth UNKNOWN, in ascending carrier
index, and the slots have been granted from the head of the queue, up to W (R140): a carrier with fewer than W carriers
before it that took a slot is in WARMUP, with its CARRIER-WAKE in its unit's queue, or in LOST if the unit cannot take that,
because it is not in use or its branch port reports its link down (R131, R158); the others wait in the queue, in index
order. UNMANAGED carriers stay so. The CARRIER-STATE notices of the recovery, with cause RESTART, come in that order, before
any other but the flag notice of WARM-RESTART (R140; that it comes ahead of them is the model's choice: assumption log 24).
Meters and lifecycle counts are clear (R65, R96), the counters of R45 are kept, lock-outs are stopped (R84), a new window
begins (R65), the mode is as R174 gives, the trunk and the links as R14 gives, WARM-RESTART is raised, and no flag is
cleared (R176). The command ends a reset from the line and one from RESTART alike, however long it has lasted (the model's
choice: assumption log 23). -/
def Obligations.WarmResetEnds : Prop :=
  ∀ (source : ResetSource) (n : Nat) (s : State), s.phase = .warmReset source n →
    ∃ t, exec .warmResetEnd s = .next t ∧ t.phase = .running ∧
      (let managed := (List.finRange 32).filter fun c => s.isManaged c
       let reachable (c : CarrierIx) : Bool :=
         (s.unit (s.unitOf c)).state.isSome && memberOf s.path.branchReport (s.unitOf c).val
       (∀ c earlier later, managed = earlier ++ c :: later → t.lifeState c =
          if s.settings.slots ≤ (earlier.filter reachable).length then .queued
          else if reachable c then .warmup else .lost) ∧
        t.wakeQueue = { priority := [], ordinary := [], coverage :=
          (managed.filter fun c => t.lifeState c == .queued).map fun c => { carrier := c, depth := .unknown } } ∧
        (∀ c, t.lifeState c = .warmup →
          ∃ d ∈ (t.unit (s.unitOf c)).queue, d.kind = .carrierWake ∧ d.carrier = some c) ∧
        ((∃ c, t.lifeState c = .lost) → t.flagRaised .carrierLost = true) ∧
        (s.engine.notices = [] →
          let begun : State :=
            { s with path := { s.path with trunkState := t.path.trunkState } }.raiseFlag .warmRestart
          let told := managed.foldl (fun u c => u.notify (.carrierState c (s.lifeState c) .queued .restart
            (if source = .restart then .requested else .external) s.calendar.minute s.calendar.second)) begun
          told.engine.notices <+: t.engine.notices ∧ told.path.trunkQueue.ahead <+: t.path.trunkQueue.ahead)) ∧
      (∀ c, s.isManaged c = false → t.lifeState c = .unmanaged) ∧
      (∀ c, (t.carrier c).meter = Meter.clear ∧ (t.carrier c).counters = (s.carrier c).counters ∧
        (t.carrier c).drainedReceived = false ∧ (t.carrier c).life = Life.clear (t.lifeState c) ∧
        (t.carrier c).cover = Cover.clear) ∧
      (∀ g : SectorIx, t.lockedOut g = false) ∧
      t.windowClock = { length := s.settings.windowLength, elapsed := 0 } ∧
      t.engine.mode = (if s.engine.mode = .transparent then .transparent else .monitor) ∧
      t.flagRaised .warmRestart = true ∧ (∀ f, s.flagRaised f = true → t.flagRaised f = true) ∧
      t.path.branchUp = s.path.branchReport ∧ t.trunkLost = s.trunkLost ∧
      t.path.trunkLinkUp = s.path.trunkReport ∧
      t.path.grace = (if t.path.trunkState = .failing ∨ t.path.trunkState = .returning then some s.settings.trunkGrace
        else none) ∧
      (∀ u, (t.unit u).state = none ↔ (s.unit u).state = none) ∧
      (∀ u, (s.unit u).state ≠ none → memberOf s.path.branchReport u.val = true →
        (t.unit u).state = some .releasing) ∧
      (∀ u, (s.unit u).state ≠ none → memberOf s.path.branchReport u.val = false →
        (t.unit u).state = some .unreachable) ∧
      t.settings = s.settings ∧ t.carrierConfig = s.carrierConfig ∧ t.profiles = s.profiles ∧
      t.unitConfig = s.unitConfig ∧ t.actions = s.actions ∧ t.windows = s.windows ∧ t.permissions = s.permissions ∧
      t.classifier = s.classifier ∧ t.engine.requests = s.engine.requests ∧ t.advisories = s.advisories

/-! ## Frames on the ports -/

/-- The bytes of a frame are held without its check sequence, whose four bytes count for its length (the model's choice:
assumption log 9). R1: a frame that is broken off, fails its check, is shorter than 64 or longer than 9216 bytes, or
arrives on a port whose link is down (or within a reset, R175) is seen by no block: nothing changes. R3, R168: a frame
from T that carries the station address and the management type value is taken as a request of the station class: one
whose header cannot be read is discarded, one that finds fewer than four waiting joins the queue, one that finds four is
answered BUSY; nothing else changes, in any mode. -/
def Obligations.FramesDiscardedAndRecognized : Prop :=
  (∀ (port : Port) (bytes : List Byte) (reception : Reception) (s : State),
      (reception = .badCheck ∨ reception = .cut ∨ bytes.length + 4 < 64 ∨ 9216 < bytes.length + 4 ∨
        s.path.linkUp port = false ∨ s.phase ≠ .running) →
      exec (.frameReceived port bytes reception) s = .next s) ∧
  (∀ (bytes : List Byte) (s : State), Carried s .trunk bytes → destinationOf bytes = s.stationAddress →
      typeOf bytes = s.settings.typeValue →
      let body := bytes.drop 14
      ((body.length < 8 ∨ byteAt body 0 ≠ 1#8) → exec (.frameReceived .trunk bytes .intact) s = .next s) ∧
      (8 ≤ body.length → byteAt body 0 = 1#8 → s.engine.requests.length < 4 →
        exec (.frameReceived .trunk bytes .intact) s = .next { s with engine := { s.engine with
          requests := s.engine.requests ++
            [{ cls := s.settings.stationClass, source := sourceOf bytes, body := body }] } }) ∧
      (8 ≤ body.length → byteAt body 0 = 1#8 → 4 ≤ s.engine.requests.length →
        exec (.frameReceived .trunk bytes .intact) s = .next (s.inject .trunk (sourceOf bytes)
          [0x11#8, byteAt body 1, byteAt body 2, byteAt body 3, 1#8, 0#8, 0#8, 0#8])))

/-- R2, R5, R23: in TRANSPARENT mode a frame from T that is no request is offered to B0 to B7, one from a branch port to
T; in MONITOR and ACTING such a frame begins a walk, bound to the bank that the selector names. -/
def Obligations.FrameTakesItsRoute : Prop :=
  (∀ (port : Port) (bytes : List Byte) (s : State), s.engine.mode = .transparent → Carried s port bytes →
      ¬(port = .trunk ∧ destinationOf bytes = s.stationAddress ∧ typeOf bytes = s.settings.typeValue) →
      ∃ t, exec (.frameReceived port bytes .intact) s = .next t ∧ Offered (towards 0xFF#8 port) bytes s t) ∧
  (∀ (port : Port) (bytes : List Byte) (s : State), s.engine.mode ≠ .transparent → Carried s port bytes →
      ¬(port = .trunk ∧ destinationOf bytes = s.stationAddress ∧ typeOf bytes = s.settings.typeValue) →
      exec (.frameReceived port bytes .intact) s = .next { s with classifier := { s.classifier with
        walks := s.classifier.walks ++ [{ port := port, bytes := bytes, bank := s.classifier.selector }] } })

/-- R7: when a transmission ends, the oldest waiting injected frame starts, else the oldest waiting pass frame; the
length of the frame that was sent returns to the free capacity; no other queue and nothing else changes. -/
def Obligations.TransmissionEndStartsTheNext : Prop :=
  ∀ (port : Port) (f : Frame) (s : State), (s.path.queue port).sending = some f →
    ∃ t, exec (.transmissionEnd port) s = .next t ∧
      (t.path.queue port).used + f.length = (s.path.queue port).used ∧
      (∀ g gs, (s.path.queue port).injected = g :: gs →
        t.path.queue port = { sending := some g, injected := gs, pass := (s.path.queue port).pass }) ∧
      (∀ g gs, (s.path.queue port).injected = [] → (s.path.queue port).pass = g :: gs →
        t.path.queue port = { sending := some g, injected := [], pass := gs }) ∧
      ((s.path.queue port).injected = [] → (s.path.queue port).pass = [] →
        t.path.queue port = { sending := none, injected := [], pass := [] }) ∧
      (∀ q, q ≠ port → t.path.queue q = s.path.queue q) ∧
      t = { s with path := { s.path with trunkQueue := t.path.trunkQueue, branchQueues := t.path.branchQueues } }

/-- R6: a pass frame that fits the capacity that remains joins the tail of the queue's pass frames (an idle port with an empty
queue starts it at once, R7); one that does not fit is discarded and the queue is not disturbed. R6, R8: a pass frame and an
injected frame offered while the port's link is down are discarded, whatever its queue holds, and nothing changes. R8: while
the link is up, and a frame is in transmission, an injected frame joins the injected frames if it fits when no waiting pass
frame remains; the pass frames that stay are then the longest run of the oldest that leaves room for it. If even that is not
room enough it is discarded. At an idle port with an empty queue it starts at once. -/
def Obligations.EgressAdmission : Prop :=
  (∀ (room : Nat) (f : Frame) (q : EgressQueue),
      (room < q.used + f.length → q.offerPass room f = q) ∧
      (q.used + f.length ≤ room → (q.offerPass room f).used = q.used + f.length) ∧
      (∀ g, q.used + f.length ≤ room → q.sending = some g → q.offerPass room f = { q with pass := q.pass ++ [f] }) ∧
      (f.length ≤ room → q = { sending := none, injected := [], pass := [] } →
        q.offerPass room f = { sending := some f, injected := [], pass := [] })) ∧
  (∀ (port : Port) (f : Frame) (bytes : List Byte) (s : State),
      (s.path.linkUp port = false → s.offerInjected port f = s ∧ s.offerPass port bytes = s) ∧
      let q := (s.path.queue port).offerPass (Config.queueRoom port) { bytes := bytes, restartAnswer := false }
      (s.path.linkUp port = true → s.offerPass port bytes = { s with path := s.path.setQueue port q })) ∧
  (∀ (port : Port) (f g : Frame) (s : State), (s.path.queue port).sending = some g →
      let q := s.path.queue port
      let room := Config.queueRoom port
      let need := g.length + framesLength q.injected + f.length
      (s.path.linkUp port = true → need ≤ room → ∃ kept dropped,
        q.pass = kept ++ dropped ∧ need + framesLength kept ≤ room ∧
        (∀ h rest, dropped = h :: rest → room < need + framesLength kept + h.length) ∧
        s.offerInjected port f =
          { s with path := s.path.setQueue port { q with injected := q.injected ++ [f], pass := kept } }) ∧
      (s.path.linkUp port = true → room < need →
        s.offerInjected port f = { s with path := s.path.setQueue port { q with pass := [] } })) ∧
  ∀ (port : Port) (f : Frame) (s : State),
    s.path.queue port = { sending := none, injected := [], pass := [] } → s.path.linkUp port = true →
      (f.length ≤ Config.queueRoom port → s.offerInjected port f =
        { s with path := s.path.setQueue port { sending := some f, injected := [], pass := [] } }) ∧
      (Config.queueRoom port < f.length → s.offerInjected port f = s)

/-! ## The Classifier -/

/-- R15: a field lies within the frame when the offset plus the width does not exceed the readable length; it is then
read as one unsigned number, first byte most significant. R16, R17: when an entry matches. Bit `i` of the field is bit
`i` of the number of R15, and only the bits at the entry's width take part. -/
def Obligations.EntryMatch : Prop :=
  (∀ (bytes : List Byte) (offset width : Nat),
      (bytes.length < offset + width → fieldAt bytes offset width = none) ∧
      (offset + width ≤ bytes.length → fieldAt bytes offset width =
        some ((List.range width).map fun j => (byteAt bytes (offset + j)).toNat * 256 ^ (width - 1 - j)).sum)) ∧
  (∀ (e : Entry) (port : Port) (bytes : List Byte), (e.width = 1 ∨ e.width = 2 ∨ e.width = 4) →
      (e.isMatch port bytes = true ↔
        e.inUse = true ∧ (e.filter = .any ∨ (e.filter = .trunk ↔ port = .trunk)) ∧
        ∃ v, fieldAt bytes e.offset e.width = some v ∧
          match e.test with
          | .equal => ∀ i, i < 8 * e.width → e.mask.getLsbD i = true → v.testBit i = e.pattern.getLsbD i
          | .differ => ∃ i, i < 8 * e.width ∧ e.mask.getLsbD i = true ∧ v.testBit i ≠ e.pattern.getLsbD i
          | .allSet => ∀ i, i < 8 * e.width → e.pattern.getLsbD i = true → v.testBit i = true
          | .allClear => ∀ i, i < 8 * e.width → e.pattern.getLsbD i = true → v.testBit i = false))

/-- R18: a walk through a bank whose SKIP distances are 1 or more (R24) ends as the table says, and in no other way. -/
def Obligations.WalkFollowsTheTable : Prop :=
  ∀ (bank : Vector Entry 64) (port : Port) (bytes : List Byte),
    (∀ i : Fin 64, (bank[i]).outcome ≠ .skip 0) →
    ∀ r, WalkRow bank port bytes 0 r ↔ r = walkBank bank port bytes

/-! ## The Action Table -/

/-- R19, R34, R36: a frame whose action number is at or beyond the limit, or whose entry is not present, is forwarded by
default and ACTION-FAULT is raised; nothing else happens to it (`WalkEnded` says that CLASSIFY-FAULT is raised first
when a SKIP overran the bank, and the model's choice is that the frame is offered before ACTION-FAULT is raised:
assumption log 32). R38: PASS forwards by direction, downlink to the action's port set; DISCARD discards. Neither raises
a flag. -/
def Obligations.PassDiscardAndBadActions : Prop :=
  (∀ (w : Walk) (n : Nat) (s s' : State), WalkEnded s w n s' →
      (s'.settings.actionLimit ≤ n ∨ ∀ h : n < 32, (s'.actions[n]).present = false) →
      ∃ v, Offered (towards 0xFF#8 w.port) w.bytes s' v ∧ (v.raiseFlag .actionFault).flagRaised .actionFault = true ∧
        exec (.walkEnds w.port) s = .next (v.raiseFlag .actionFault)) ∧
  (∀ (w : Walk) (a : ActionEntry) (s s' : State), WalkDone s w a s' →
      (a.kind = .pass →
        ∃ v, Offered (towards a.portSet w.port) w.bytes s' v ∧ exec (.walkEnds w.port) s = .next v) ∧
      (a.kind = .discard → exec (.walkEnds w.port) s = .next s'))

/-- R37: a CONTROL or ADVISORY-REPLY frame from a branch port, and a RADIO-REPLY frame from T, is discarded and
ACTION-FAULT is raised; a CONTROL frame from T is taken as a request of the action's class whose body begins at the body
offset (R168): discarded with an unreadable header, queued behind fewer than four, else answered BUSY. -/
def Obligations.ControlAndWrongSide : Prop :=
  ∀ (w : Walk) (a : ActionEntry) (s s' : State), WalkDone s w a s' →
    let body := w.bytes.drop a.bodyOffset
    ((a.kind = .control ∨ a.kind = .advisoryReply) → w.port ≠ .trunk →
      exec (.walkEnds w.port) s = .next (s'.raiseFlag .actionFault)) ∧
    (a.kind = .radioReply → w.port = .trunk →
      exec (.walkEnds w.port) s = .next (s'.raiseFlag .actionFault)) ∧
    (a.kind = .control → w.port = .trunk →
      ((body.length < 8 ∨ byteAt body 0 ≠ 1#8) → exec (.walkEnds w.port) s = .next s') ∧
      (8 ≤ body.length → byteAt body 0 = 1#8 → s'.engine.requests.length < 4 →
        exec (.walkEnds w.port) s = .next { s' with engine := { s'.engine with
          requests := s'.engine.requests ++ [{ cls := a.cls, source := sourceOf w.bytes, body := body }] } }) ∧
      (8 ≤ body.length → byteAt body 0 = 1#8 → 4 ≤ s'.engine.requests.length →
        exec (.walkEnds w.port) s = .next (s'.inject .trunk (sourceOf w.bytes)
          [0x11#8, byteAt body 1, byteAt body 2, byteAt body 3, 1#8, 0#8, 0#8, 0#8])))

/-- R39: the frame's carrier. The frame key is the key field at the key mask; it equals the whole stored key of the
carrier found, which is managed and, uplink, of the unit of the arrival port; no carrier of a lower index is so. None is
found when the field does not lie within the frame, or when no carrier is so. R40: a METER or TRIGGER-ORDINARY frame
with an unknown key, or none, is forwarded by fallback and UNKNOWN-KEY is raised; nothing else happens to it (the frame
is offered first, the model's choice: assumption log 32). -/
def Obligations.CarrierLookupAndUnknownKeys : Prop :=
  (∀ (a : ActionEntry) (port : Port) (bytes : List Byte) (s : State),
      let fits (c : CarrierIx) := s.isManaged c = true ∧ (∀ n, port = .branch n → s.unitOf c = n) ∧
        ∃ v, fieldAt bytes a.keyOffset a.keyWidth = some v ∧ (s.config c).key = BitVec.ofNat 16 v &&& a.keyMask
      (∀ c, s.findCarrier a port bytes = some c ↔ fits c ∧ ∀ d, d < c → ¬fits d) ∧
      (s.findCarrier a port bytes = none ↔ ∀ c, ¬fits c)) ∧
  (∀ (w : Walk) (a : ActionEntry) (s s' : State), WalkDone s w a s' → (a.kind = .meter ∨ a.kind = .triggerOrdinary) →
      s'.findCarrier a w.port w.bytes = none →
      ∃ v, Offered (towards a.portSet w.port) w.bytes s' v ∧ (v.raiseFlag .unknownKey).flagRaised .unknownKey = true ∧
        exec (.walkEnds w.port) s = .next (v.raiseFlag .unknownKey))

/-- R42, R43, R45, R50: a frame whose carrier is found in ACTIVE, DRAINING, DRAIN-HELD, RESTORING or LOST goes to the
carrier's branch port, uplink to T. A METER frame is tallied: its grant units (R41), at most 4095, join the tally, and
the frames-metered counter goes up by one, each staying at its top; UNITS-CLAMPED is raised when they were clamped
(after the frame is offered, the model's choice: assumption log 32). A TRIGGER-ORDINARY frame is not tallied. -/
def Obligations.AwakeCarrierFrame : Prop :=
  ∀ (w : Walk) (a : ActionEntry) (c : CarrierIx) (s s' : State), WalkDone s w a s' →
    s'.findCarrier a w.port w.bytes = some c →
    (s'.lifeState c = .active ∨ s'.lifeState c = .draining ∨ s'.lifeState c = .drainHeld ∨
      s'.lifeState c = .restoring ∨ s'.lifeState c = .lost) →
    let raw := ((fieldAt w.bytes a.unitOffset a.unitWidth).getD 0) >>> a.unitShift
    let x := s'.carrier c
    let tallied : Carrier := { x with
      meter := { x.meter with tally := min 4294967295 (x.meter.tally + min raw 4095) },
      counters := { x.counters with metered := min 4294967295 (x.counters.metered + 1) } }
    ∃ v, Offered (towards (1#8 <<< (s'.unitOf c).val) w.port) w.bytes s' v ∧
      (a.kind = .triggerOrdinary → exec (.walkEnds w.port) s = .next v) ∧
      (a.kind = .meter → raw ≤ 4095 →
        exec (.walkEnds w.port) s = .next { v with carriers := v.carriers.set c tallied }) ∧
      (a.kind = .meter → 4095 < raw →
        exec (.walkEnds w.port) s =
          .next { v.raiseFlag .unitsClamped with carriers := v.carriers.set c tallied })

/-- R42, R43, R45: a frame for a carrier in RAMPDOWN, DOZE, DEEPENING, SLUMBER, QUEUED or WARMUP. Uplink it is offered
to T and not tallied. Downlink it is discarded and counted held off; in SLUMBER also as a missed trigger, with
SLUMBER-TRIGGER-MISSED; in DOZE the traffic wake cause sends the carrier to the tail of the ORDINARY class with depth
LIGHT (R124, R126), from where a free slot may take it on at once (R130); where none is free, the notice of cause TRAFFIC and
origin EXTERNAL is generated (R123), and nothing else happens. -/
def Obligations.HeldOffCarrierFrame : Prop :=
  ∀ (w : Walk) (a : ActionEntry) (c : CarrierIx) (s s' : State), WalkDone s w a s' →
    (a.kind = .meter ∨ a.kind = .triggerOrdinary) → s'.findCarrier a w.port w.bytes = some c →
    (s'.lifeState c = .rampdown ∨ s'.lifeState c = .doze ∨ s'.lifeState c = .deepening ∨ s'.lifeState c = .slumber ∨
      s'.lifeState c = .queued ∨ s'.lifeState c = .warmup) →
    let k := (s'.carrier c).counters
    let held : State := s'.setCounters c { k with heldOff := min 4294967295 (k.heldOff + 1) }
    let missed : State := s'.setCounters c { k with
      heldOff := min 4294967295 (k.heldOff + 1), missed := min 4294967295 (k.missed + 1) }
    (w.port ≠ .trunk →
      ∃ v, Offered (fun q => q == .trunk) w.bytes s' v ∧ exec (.walkEnds w.port) s = .next v) ∧
    (w.port = .trunk → s'.lifeState c ≠ .doze → s'.lifeState c ≠ .slumber →
      exec (.walkEnds w.port) s = .next held) ∧
    (w.port = .trunk → s'.lifeState c = .slumber →
      exec (.walkEnds w.port) s = .next (missed.raiseFlag .slumberTriggerMissed)) ∧
    (w.port = .trunk → s'.lifeState c = .doze →
      ∃ t, exec (.walkEnds w.port) s = .next t ∧ Keeps held t ∧
        (t.lifeState c = .queued ∨ t.lifeState c = .warmup ∨ t.lifeState c = .lost) ∧
        (s'.settings.slots ≤ s'.warmups →
          t.lifeState c = .queued ∧ (∀ d, d ≠ c → t.lifeState d = s'.lifeState d) ∧
          t.wakeQueue = { s'.wakeQueue with ordinary := s'.wakeQueue.ordinary ++ [{ carrier := c, depth := .light }] } ∧
          CauseTaken .ordinary .traffic .external (fun d => d == c) held t))

/-- R44, R80: a TRIGGER-PRIORITY frame is forwarded as a PASS frame (first, the model's choice: assumption log 32); the
lock-out timer of each sector of the mask is set to the full lock-out time, unless that time is 0, and every other timer
is left, also where the time is 0 (the model's choice: assumption log 30); then the PRIORITY causes are applied (R138;
in this order: assumption log 33): every managed carrier of those sectors that slept in DOZE or SLUMBER, or drained,
does so no more, and one in RAMPDOWN or DEEPENING that stays there carries a mark of class PRIORITY. Where no slot is free
(so wherever a carrier waits: `SlotLaw`) `CauseTaken` says all that they do: among it, that each carrier of those sectors that
is QUEUED in a lower class stands at the tail of class PRIORITY with its depth kept, in ascending index with those that come
from DOZE and SLUMBER, and the others keep their places (R127, R138). Where the mask reaches no managed carrier nothing else
changes, and where it reaches none that sleeps or drains nothing but the forwarded copies joins an egress queue. -/
def Obligations.PriorityTrigger : Prop :=
  ∀ (w : Walk) (a : ActionEntry) (s s' : State), WalkDone s w a s' → a.kind = .triggerPriority →
    ∃ v t, Offered (towards a.portSet w.port) w.bytes s' v ∧ exec (.walkEnds w.port) s = .next t ∧
      (∀ g : SectorIx, t.lockOuts[g] =
        if memberOf a.sectorMask g.val = true ∧ s'.settings.lockOutTime ≠ 0 then some (s'.settings.lockOutTime * 1000)
        else s'.lockOuts[g]) ∧
      Keeps { v with lockOuts := t.lockOuts } t ∧
      (let reached (c : CarrierIx) : Prop :=
        s'.isManaged c = true ∧ memberOf a.sectorMask (s'.config c).sectorIx.val = true
      ((∀ c, ¬reached c) → t = { v with lockOuts := t.lockOuts }) ∧
      ((∀ c, reached c → s'.lifeState c ≠ .doze ∧ s'.lifeState c ≠ .slumber ∧ (s'.lifeState c).isDrain = false) →
        t.path = v.path)) ∧
      (∀ c, s'.isManaged c = true → memberOf a.sectorMask (s'.config c).sectorIx.val = true →
        t.lifeState c ≠ .doze ∧ t.lifeState c ≠ .slumber ∧ (t.lifeState c).isDrain = false ∧
        (t.lifeState c = .rampdown ∨ t.lifeState c = .deepening →
          (t.carrier c).life.wakePending.map KeptWake.cls = some .priority)) ∧
      (WakeQueueLaw s' → s'.settings.slots ≤ s'.warmups →
        CauseTaken .priority .priority .external
          (fun c => s'.isManaged c && memberOf a.sectorMask (s'.config c).sectorIx.val) { v with lockOuts := t.lockOuts } t)

/-! ## Replies from the radio units and from the baseband -/

/-- R148, tests 1, 2 and 5, and R151 for a link number that no carrier holds or a report that is neither FAULT nor READY: the
reply is discarded, counted for a unit in use if it cannot be read or is unsolicited, and told by LATE-REPLY if it carries a
token that is not awaited. Nothing else changes. A reply that cannot be read begins no recovery, whatever its unit's state;
one that can be read is spoken of here unless its unit is UNREACHABLE with its branch link UP (of those `RadioUnitReplies`
speaks). -/
def Obligations.RadioReplyWithoutEffect : Prop :=
  ∀ (u : UnitIx) (w : Walk) (a : ActionEntry) (s s' : State), WalkDone s w a s' → a.kind = .radioReply →
    w.port = .branch u →
    let body := w.bytes.drop a.bodyOffset
    let token := (byteAt body 0).toNat
    let link := (byteAt body 1).toNat
    let report := (byteAt body 2).toNat
    let readable := 3 ≤ body.length ∧ 1 ≤ report ∧ report ≤ 6
    let recovers := (s'.unit u).state = some .unreachable ∧ s'.path.linkUp (.branch u) = true
    let counted := s'.setUnit u { s'.unit u with discarded := min 4294967295 ((s'.unit u).discarded + 1) }
    (¬readable → (s'.unit u).state = none → exec (.walkEnds w.port) s = .next s') ∧
    (¬readable → (s'.unit u).state ≠ none → exec (.walkEnds w.port) s = .next counted) ∧
    (readable → (s'.unit u).state = none → token = 0 → exec (.walkEnds w.port) s = .next s') ∧
    (readable → (s'.unit u).state = none → token ≠ 0 →
      exec (.walkEnds w.port) s = .next (s'.raiseFlag .lateReply)) ∧
    (readable → ¬recovers → (s'.unit u).state ≠ none → token ≠ 0 →
      ((s'.unit u).sent = none ∨ ∀ d, (s'.unit u).queue.head? = some d → d.token ≠ token) →
      exec (.walkEnds w.port) s = .next (s'.raiseFlag .lateReply)) ∧
    (readable → ¬recovers → (s'.unit u).state ≠ none → token = 0 →
      ((∀ h : link < 4, (s'.unit u).map[link] = none) ∨ (report ≠ 1 ∧ report ≠ 4)) →
      exec (.walkEnds w.port) s = .next counted)

/-- R135, R136, R151: an unsolicited FAULT makes the carrier that holds its link number LOST, with CARRIER-LOST raised, if it
is managed and not LOST already; an unsolicited READY brings a LOST carrier to RESTORING, or through it to ACTIVE when its
settle time is 0, with OPEN and the notice of cause READY and origin EXTERNAL, and has no effect in any other state. R82: the
loss of an anchor reaches each of its dependents with the anchor-lost cause, of class COVERAGE (`Woken`). Where no slot is
free or becomes free, and no directive of another carrier waits in its unit's queue, the whole of the loss is said:
CARRIER-LOST and the notice of cause FAULT and origin EXTERNAL first, then, for an anchor, all that the cause does to its
dependents (`CauseTaken`), the promotion of those QUEUED at ORDINARY to the tail of class COVERAGE among it (R127, R139). Of a
carrier that hands nothing on to another (`Solitary`) no more is told than that flag and that notice, whatever slots are free.
-/
def Obligations.UnsolicitedReplies : Prop :=
  ∀ (u : UnitIx) (c : CarrierIx) (link : Nat) (w : Walk) (a : ActionEntry) (s s' : State), WalkDone s w a s' →
    a.kind = .radioReply → w.port = .branch u → (s'.unit u).state ≠ none →
    ((s'.unit u).state = some .unreachable → s'.path.linkUp (.branch u) = false) →
    let body := w.bytes.drop a.bodyOffset
    let dependent (d : CarrierIx) : Bool := s'.anchorOf c == c && s'.anchorOf d == c && s'.isManaged d && d != c
    let told := s'.tellsLoss c .fault .external
    3 ≤ body.length → byteAt body 0 = 0#8 → (byteAt body 1).toNat = link →
    (∃ h : link < 4, (s'.unit u).map[link] = some c) →
    (byteAt body 2 = 4#8 → s'.lifeState c ≠ .unmanaged → s'.lifeState c ≠ .lost →
      ∃ t, exec (.walkEnds w.port) s = .next t ∧ Keeps s' t ∧ t.lifeState c = .lost ∧
        t.flagRaised .carrierLost = true ∧ (∀ d, dependent d = true → Woken .coverage d t) ∧
        ((∀ d ∈ (s'.unit (s'.unitOf c)).queue, d.carrier = some c) →
          (Solitary s' c → ToldAs told t ∧ t.path.branchQueues = s'.path.branchQueues) ∧
          (WakeQueueLaw s' → s'.lifeState c ≠ .warmup → s'.settings.slots ≤ s'.warmups → ∃ b, ToldAs told b ∧
            b.path.branchQueues = s'.path.branchQueues ∧ b.wakeQueue = s'.wakeQueue.leave c ∧ b.lifeState c = .lost ∧
            (∀ d, d ≠ c → (b.carrier d).life = (s'.carrier d).life) ∧ Keeps s' b ∧
            CauseTaken .coverage .anchorLost .external dependent b t))) ∧
    (byteAt body 2 = 4#8 → s'.lifeState c = .lost → exec (.walkEnds w.port) s = .next s') ∧
    (byteAt body 2 = 1#8 → s'.lifeState c = .lost →
      ∃ t, exec (.walkEnds w.port) s = .next t ∧ Alone c s' t ∧ ToldAs (s'.tellsReturn c .ready .external) t ∧
        t.lifeState c = (if (s'.profileOf c).settleTime = 0 then .active else .restoring)) ∧
    (byteAt body 2 = 1#8 → s'.lifeState c ≠ .lost → exec (.walkEnds w.port) s = .next s')

/-- R112, R117, R132, R150: a reply with the token of the outstanding CARRIER-SLEEP, CARRIER-DEEPEN or CARRIER-WAKE ends it.
READY brings a carrier in WARMUP, or one in RAMPDOWN whose radio refused, to RESTORING (through it to ACTIVE when its settle
time is 0), with OPEN; FAULT, and a report that does not belong to the directive (READY, UNIT-DOWN or UNIT-BUSY for a carrier
in DEEPENING), make it LOST. Where nothing waits behind the directive and no carrier for the slot it frees, what is told is
said whole: OPEN and the notice of cause READY or RADIO-REFUSED (for RADIO-REFUSED in this order by the model's choice:
assumption log 39), or, of a carrier that hands nothing on to another (`Solitary`), CARRIER-LOST and the notice of cause
FAULT; their origin is EXTERNAL (R98, R133, R135). Where READY frees no slot that another waits for, a head behind the
directive that may be sent is sent in the same event (R146). What ASLEEP-LIGHT and ASLEEP-DEEP do is said by
`ReplyPutsToSleep`. -/
def Obligations.ReplyEndsSleepOrWake : Prop :=
  ∀ (u : UnitIx) (c : CarrierIx) (d : Directive) (rest : List Directive) (w : Walk) (a : ActionEntry) (s s' : State),
    WalkDone s w a s' → a.kind = .radioReply → w.port = .branch u → (s'.unit u).state = some .up →
    (s'.unit u).sent ≠ none → (s'.unit u).queue = d :: rest → d.carrier = some c → d.token ≠ 0 →
    let body := w.bytes.drop a.bodyOffset
    let report := (byteAt body 2).toNat
    3 ≤ body.length → (byteAt body 0).toNat = d.token → 1 ≤ report → report ≤ 6 →
    ((d.kind = .carrierSleep ∧ s'.lifeState c = .rampdown) ∨ (d.kind = .carrierWake ∧ s'.lifeState c = .warmup) ∨
      (d.kind = .carrierDeepen ∧ s'.lifeState c = .deepening)) →
    (report = 1 → d.kind ≠ .carrierDeepen → ∃ t, exec (.walkEnds w.port) s = .next t ∧ Keeps s' t ∧
      t.lifeState c = (if (s'.profileOf c).settleTime = 0 then .active else .restoring) ∧
      (rest = [] → (d.kind = .carrierWake → s'.wakeQueue.entries = []) →
        ToldAs (s'.tellsReturn c (if d.kind = .carrierSleep then .radioRefused else .ready) .external) t ∧
        t.path.branchQueues = s'.path.branchQueues) ∧
      ∀ e, rest.head? = some e → (e.kind = .carrierDeepen → s'.engine.mode = .acting ∧ s'.trunkLost = false) →
        (d.kind = .carrierWake → s'.wakeQueue.entries = []) → HeadSent u e s' t ∧ (t.unit u).queue = rest) ∧
    ((d.kind = .carrierSleep → report ≠ 1 ∧ report ≠ 2) → (d.kind = .carrierWake → report ≠ 1) →
      (d.kind = .carrierDeepen → report ≠ 2 ∧ report ≠ 3) →
      ∃ t, exec (.walkEnds w.port) s = .next t ∧ Keeps s' t ∧ t.lifeState c = .lost ∧
        t.flagRaised .carrierLost = true ∧
        (rest = [] → s'.unitOf c = u → Solitary s' c →
          ToldAs (s'.tellsLoss c .fault .external) t ∧ t.path.branchQueues = s'.path.branchQueues))

/-- R112, R117, R150: with no wake-pending mark and nothing waiting behind the directive, ASLEEP-LIGHT takes a carrier from
RAMPDOWN to DOZE, and from DEEPENING back to DOZE, its doze elapsed at 0; ASLEEP-DEEP takes it from DEEPENING to SLUMBER. The
directive has ended, and the unit awaits no reply (its attempt count is then 0, the model's choice: assumption log 13); no
other carrier, no list and no other unit is touched. R118, R153: an entry to SLUMBER that leaves every managed carrier of the
unit there starts the unit deep timer if it is stopped; with a unit deep delay of 0 UNIT-DEEP, with the next token, is sent at
once (byte for byte: 12.3), or, if it may not be, the timer stands at 0 (the model's choice: assumption log 18). R125, R126:
with a wake-pending mark the same reports send the carrier to the tail of the mark's class, with depth LIGHT on ASLEEP-LIGHT
and DEEP on ASLEEP-DEEP; where no slot is free it stays there. The notices that are generated are said, each with its cause
and origin (R97, R98): ASLEEP-LIGHT and ASLEEP-DEEP, both EXTERNAL; for a carrier that goes on to QUEUED the kept cause with
its own origin (R123, R125), in a second notice behind the one of the entry to DOZE if it comes from RAMPDOWN (R112), and in
one alone if it comes from DEEPENING (R117). -/
def Obligations.ReplyPutsToSleep : Prop :=
  (∀ (u : UnitIx) (c : CarrierIx) (d : Directive) (w : Walk) (a : ActionEntry) (s s' : State),
      WalkDone s w a s' → a.kind = .radioReply → w.port = .branch u → (s'.unit u).state = some .up →
      (s'.unit u).sent ≠ none → (s'.unit u).queue = [d] → d.carrier = some c → d.token ≠ 0 →
      (s'.carrier c).life.wakePending = none →
      let body := w.bytes.drop a.bodyOffset
      3 ≤ body.length → (byteAt body 0).toNat = d.token →
      ((byteAt body 2 = 2#8 → (d.kind = .carrierSleep ∧ s'.lifeState c = .rampdown) ∨
          (d.kind = .carrierDeepen ∧ s'.lifeState c = .deepening) →
        ∃ t, exec (.walkEnds w.port) s = .next t ∧ Keeps s' t ∧
          (t.carrier c).life = { (s'.carrier c).life with state := .doze, doze := 0, hold := false } ∧
          ToldAs (s'.tells c (s'.lifeState c) .doze .asleepLight .external) t ∧
          t.path.branchQueues = s'.path.branchQueues ∧
          (∀ e, e ≠ c → t.carrier e = s'.carrier e) ∧ t.cover c = s'.cover c ∧ t.wakeQueue = s'.wakeQueue ∧
          (∀ v, v ≠ u → t.unit v = s'.unit v) ∧
          t.unit u = { s'.unit u with queue := [], sent := none, attempts := 0, replyTimer := none }) ∧
        (byteAt body 2 = 3#8 → d.kind = .carrierDeepen → s'.lifeState c = .deepening → s'.unitOf c = u →
        ∃ t, exec (.walkEnds w.port) s = .next t ∧ Keeps s' t ∧ t.lifeState c = .slumber ∧
          (t.carrier c).life = { (s'.carrier c).life with state := .slumber, hold := false } ∧
          ToldAs (s'.tells c .deepening .slumber .asleepDeep .external) t ∧
          (∀ e, e ≠ c → t.carrier e = s'.carrier e) ∧ t.cover c = s'.cover c ∧ t.wakeQueue = s'.wakeQueue ∧
          (∀ v, v ≠ u → t.unit v = s'.unit v) ∧
          let ended : RadioUnit := { s'.unit u with queue := [], sent := none, attempts := 0, replyTimer := none }
          let starts := (∀ e, e ≠ c → s'.isManaged e = true → s'.unitOf e = u → s'.lifeState e = .slumber) ∧
            (s'.unit u).deepTimer = none
          let may := (s'.unitSettings u).deepPermitted = 1#8 ∧ s'.engine.mode = .acting ∧ s'.trunkLost = false
          let delay := (s'.unitSettings u).deepDelay.toNat
          (¬starts → t.unit u = ended ∧ t.token = s'.token) ∧
          (starts → delay ≠ 0 ∨ ¬may → t.unit u = { ended with deepTimer := some (delay * 1000) } ∧ t.token = s'.token) ∧
          (starts → delay = 0 → may → ∃ x, (t.unit u).queue = [x] ∧ x.kind = .unitDeep ∧ x.carrier = none ∧
            x.token = s'.token ∧ (t.unit u).state = some .deepPending ∧ (t.unit u).sent ≠ none ∧
            (t.unit u).attempts = 1 ∧ (t.unit u).deepTimer = none ∧
            (t.unit u).replyTimer = some (s'.unitSettings u).replyTimeout.toNat ∧
            t.token = (if s'.token < 255 then s'.token + 1 else 1) ∧ t.path.branchQueues = (s'.sends (.branch u)
              (s'.unitSettings u).address (directiveLayout 4 s'.token 0 0)).path.branchQueues)))) ∧
  (∀ (u : UnitIx) (c : CarrierIx) (d : Directive) (k : KeptWake) (w : Walk) (a : ActionEntry) (s s' : State),
      WalkDone s w a s' → a.kind = .radioReply → w.port = .branch u → (s'.unit u).state = some .up →
      (s'.unit u).sent ≠ none → (s'.unit u).queue = [d] → d.carrier = some c → d.token ≠ 0 →
      (s'.carrier c).life.wakePending = some k → s'.settings.slots ≤ s'.warmups →
      let body := w.bytes.drop a.bodyOffset
      3 ≤ body.length → (byteAt body 0).toNat = d.token →
      let queued (depth : Depth) (old : LifeState) (before : State) : Prop := ∃ t, exec (.walkEnds w.port) s = .next t ∧
        Keeps s' t ∧ (∀ p ∈ keptCauses, k.cause = p.1 → ToldAs (before.tells c old .queued p.1 p.2) t) ∧
        t.lifeState c = .queued ∧ t.wakeQueue = s'.wakeQueue.join k.cls { carrier := c, depth := depth } ∧
        (t.carrier c).life.wakePending = none ∧ (∀ e, e ≠ c → t.lifeState e = s'.lifeState e) ∧
        t.unit u = { s'.unit u with queue := [], sent := none, attempts := 0, replyTimer := none }
      (byteAt body 2 = 2#8 → d.kind = .carrierSleep → s'.lifeState c = .rampdown →
        queued .light .doze (s'.tells c .rampdown .doze .asleepLight .external)) ∧
      (byteAt body 2 = 2#8 → d.kind = .carrierDeepen → s'.lifeState c = .deepening → queued .light .deepening s') ∧
      (byteAt body 2 = 3#8 → d.kind = .carrierDeepen → s'.lifeState c = .deepening → queued .deep .deepening s'))

/-- R154: the outcome of UNIT-DEEP. UNIT-DOWN leaves the unit DEEP if no directive waits and every managed carrier of it is in
SLUMBER, and otherwise sends it UNIT-RELEASE at once, byte for byte (R155, 12.3); either way its attempt count is then 0 (the
model's choice: assumption log 13). Any other report leaves it UP; the head of its queue, if any, is sent, or withdrawn if it
is a CARRIER-DEEPEN that may not be (R116, R146), and the unit deep timer starts if the three conditions of R153 hold
(`HeadConsidered`; with a unit deep delay of 0 and nothing waiting UNIT-DEEP is tried again at once, the model's choice:
assumption log 18). R148, R157: after a readable reply from an UNREACHABLE unit whose branch link is UP, with LATE-REPLY
raised if it carries a token, the unit is in RELEASING, and none of its managed carriers is LOST any more, not even one that
the reply itself reports as faulty. -/
def Obligations.RadioUnitReplies : Prop :=
  (∀ (u : UnitIx) (d : Directive) (rest : List Directive) (w : Walk) (a : ActionEntry) (s s' : State),
      WalkDone s w a s' → a.kind = .radioReply → w.port = .branch u → (s'.unit u).state = some .deepPending →
      (s'.unit u).sent ≠ none → (s'.unit u).queue = d :: rest → d.kind = .unitDeep → d.token ≠ 0 →
      let body := w.bytes.drop a.bodyOffset
      let report := (byteAt body 2).toNat
      3 ≤ body.length → (byteAt body 0).toNat = d.token → 1 ≤ report → report ≤ 6 →
      let asleep := rest = [] ∧ ∀ c, s'.isManaged c = true → s'.unitOf c = u → s'.lifeState c = .slumber
      let ended : RadioUnit := { s'.unit u with queue := rest, sent := none, attempts := 0, replyTimer := none }
      (report = 5 → asleep →
        exec (.walkEnds w.port) s = .next (s'.setUnit u { ended with state := some .deep })) ∧
      (report = 5 → ¬asleep →
        ∃ t, exec (.walkEnds w.port) s = .next t ∧ Tells (({ s' with token := t.token } : State).setUnit u { ended with
          state := some .releasing, releaseTimer := some (s'.unitSettings u).releaseTime.toNat, deepTimer := none }) t ∧
          t.path = (s'.sends (.branch u) (s'.unitSettings u).address (directiveLayout 5 s'.token 0 0)).path ∧
          t.token = (if s'.token < 255 then s'.token + 1 else 1)) ∧
      (report ≠ 5 → ∃ t, exec (.walkEnds w.port) s = .next t ∧ Keeps s' t ∧
        ((t.unit u).state = some .up ∨ (t.unit u).state = some .deepPending) ∧
        ((s'.unitSettings u).deepDelay.toNat ≠ 0 → (t.unit u).state = some .up) ∧
        HeadConsidered u (s'.setUnit u { ended with state := some .up }) t)) ∧
  (∀ (u : UnitIx) (w : Walk) (a : ActionEntry) (s s' : State), WalkDone s w a s' → a.kind = .radioReply →
      w.port = .branch u → (s'.unit u).state = some .unreachable → s'.path.linkUp (.branch u) = true →
      (s'.unit u).sent = none →
      let body := w.bytes.drop a.bodyOffset
      3 ≤ body.length → 1 ≤ (byteAt body 2).toNat → (byteAt body 2).toNat ≤ 6 →
      ∃ t, exec (.walkEnds w.port) s = .next t ∧ (t.unit u).state = some .releasing ∧
        (byteAt body 0 ≠ 0#8 → t.flagRaised .lateReply = true) ∧
        ∀ c, s'.isManaged c = true → s'.unitOf c = u → t.lifeState c ≠ .lost)

/-- R163: the carrier an advisory reply is for: of the managed carriers whose whole key it carries, the one in a drain state
of lowest index, else the one of lowest index. R163 to R165: one that cannot be read, or whose key no managed carrier has, or
whose carrier is in no drain state, raises STRAY-ADVISORY and changes nothing else. DRAINED sets the mark of a DRAIN-HELD
carrier; it ends the drain of a DRAINING one, which goes to RAMPDOWN with CARRIER-SLEEP in its unit's queue, whatever that
unit does at the time, or to LOST when its directive is not taken because the unit is not in use or UNREACHABLE (R104, R105,
R111); where the unit is UP and idle the directive is sent, and the notice of cause DRAINED and origin EXTERNAL generated.
DECLINE abandons a drain: the carrier is in RESTORING, or ACTIVE with a settle time of 0, with OPEN and the notice of cause
DECLINED and origin EXTERNAL (R106). (`moment` is the model's own numbering of events: assumption log 20.) -/
def Obligations.AdvisoryReplies : Prop :=
  (∀ (key : BitVec 16) (s : State),
      let has (c : CarrierIx) := s.isManaged c = true ∧ (s.config c).key = key
      (s.advisoryCarrier key = none ↔ ∀ c, ¬has c) ∧
      ∀ c, s.advisoryCarrier key = some c ↔ has c ∧
        (((s.lifeState c).isDrain = true ∧ ∀ d, d < c → has d → (s.lifeState d).isDrain = false) ∨
          ((∀ d, has d → (s.lifeState d).isDrain = false) ∧ ∀ d, d < c → ¬has d))) ∧
  (∀ (w : Walk) (a : ActionEntry) (s s' : State), WalkDone s w a s' → a.kind = .advisoryReply → w.port = .trunk →
      let body := w.bytes.drop a.bodyOffset
      let key := BitVec.ofNat 16 ((byteAt body 1).toNat * 256 + (byteAt body 2).toNat)
      let readable := 3 ≤ body.length ∧ (byteAt body 0 = 1#8 ∨ byteAt body 0 = 2#8)
      (¬readable ∨ s'.advisoryCarrier key = none →
        exec (.walkEnds w.port) s = .next (s'.raiseFlag .strayAdvisory)) ∧
      ∀ c, readable → s'.advisoryCarrier key = some c →
        ((s'.lifeState c).isDrain = false →
          exec (.walkEnds w.port) s = .next (s'.raiseFlag .strayAdvisory)) ∧
        (byteAt body 0 = 1#8 → s'.lifeState c = .drainHeld →
          exec (.walkEnds w.port) s = .next (s'.setCarrier c { s'.carrier c with drainedReceived := true })) ∧
        (byteAt body 0 = 1#8 → s'.lifeState c = .draining →
          let u := s'.unitOf c
          let unfit := (s'.unit u).state = none ∨ (s'.unit u).state = some .unreachable
          ∃ t, exec (.walkEnds w.port) s = .next t ∧ Keeps { s' with moment := s'.moment + 1 } t ∧
            (t.cover c).pledge = 0 ∧ (unfit → t.lifeState c = .lost) ∧
            (¬unfit → t.lifeState c = .rampdown ∧ ∃ d ∈ (t.unit u).queue, d.kind = .carrierSleep ∧ d.carrier = some c ∧
              d.key = (s'.config c).key) ∧
            ((s'.unit u).state = some .up → (s'.unit u).queue = [] → (s'.unit u).sent = none →
              (t.unit u).queue.map Directive.kind = [.carrierSleep] ∧ (t.unit u).sent ≠ none ∧
              ToldAs (s'.tells c .draining .rampdown .drained .external) t)) ∧
        (byteAt body 0 = 2#8 → (s'.lifeState c).isDrain = true →
          ∃ t, exec (.walkEnds w.port) s = .next t ∧ Alone c s' t ∧ (t.cover c).pledge = 0 ∧
            ToldAs (s'.tellsReturn c .declined .external) t ∧
            t.lifeState c = (if (s'.profileOf c).settleTime = 0 then .active else .restoring)))

/-! ## Links -/

/-- R9, R156: a branch link that goes down, while its status was UP, sets the status, empties that port's egress queue, and
makes its unit, if in use, UNREACHABLE with nothing queued, nothing awaited, every timer stopped and the attempt count at 0
(the model's choice: assumption log 13), and every managed carrier of the unit LOST; the dependents of an anchor among those
that enter LOST are reached by the anchor-lost cause (R82, `Woken`). Where one carrier of the unit enters LOST, and hands
nothing on to another (`Solitary`), what is told is CARRIER-LOST and the notice of cause LINK-DOWN and origin EXTERNAL (R135).
A report that repeats the status, or one within a reset, changes no more than what the port reports, from which the statuses
after a reset are taken (R14); every report changes that for its own port alone. R9, R157: a branch link that comes up, while
its status was DOWN, sets the status; its unit, if in use and UNREACHABLE, enters RELEASING, and its managed carriers that
were LOST stand in the wake queue or have been granted a slot. Where one carrier of the unit was LOST, the notice of its entry
to QUEUED has the cause LINK-UP and the origin EXTERNAL (R136); with no slot free it stands at the tail of class COVERAGE with
depth UNKNOWN, and with one free and nobody waiting it is in WARMUP, with a second notice, of cause GRANTED and origin TIMED
(R131). -/
def Obligations.BranchLinkReports : Prop :=
  (∀ (n : UnitIx) (s : State),
      (s.phase ≠ .running ∨ s.path.linkUp (.branch n) = false → ∃ t, exec (.branchLinkDown n) s = .next t ∧
        t = { s with path := { s.path with branchReport := t.path.branchReport } } ∧
        ∀ m : UnitIx, memberOf t.path.branchReport m.val = (memberOf s.path.branchReport m.val && m != n)) ∧
      (s.phase = .running → s.path.linkUp (.branch n) = true →
        ∃ t b, exec (.branchLinkDown n) s = .next t ∧ Keeps b t ∧ b = { s with path := b.path } ∧
          b.path = { s.path with branchUp := b.path.branchUp, branchReport := b.path.branchReport,
                                 branchQueues := b.path.branchQueues } ∧
          (∀ m : UnitIx, b.path.linkUp (.branch m) = (s.path.linkUp (.branch m) && m != n)) ∧
          (∀ m : UnitIx, memberOf b.path.branchReport m.val = (memberOf s.path.branchReport m.val && m != n)) ∧
          (∀ m : UnitIx, b.path.queue (.branch m) =
            if m = n then { sending := none, injected := [], pass := [] } else s.path.queue (.branch m)) ∧
          ((s.unit n).state = none ∨ (s.unit n).state = some .unreachable → t = b) ∧
          ((s.unit n).state ≠ none → (s.unit n).state ≠ some .unreachable →
            t.unit n = { s.unit n with state := some .unreachable, queue := [], sent := none, attempts := 0,
                                       replyTimer := none, releaseTimer := none, deepTimer := none } ∧
            (∀ c, s.isManaged c = true → s.unitOf c = n → t.lifeState c = .lost) ∧
            (∀ c d, s.isManaged c = true → s.unitOf c = n → s.lifeState c ≠ .lost → s.anchorOf c = c →
              s.isManaged d = true → s.anchorOf d = c → d ≠ c → Woken .coverage d t) ∧
            ∀ c, s.isManaged c = true → s.unitOf c = n → s.lifeState c ≠ .lost → Solitary s c →
              (∀ d, d ≠ c → s.isManaged d = true → s.unitOf d = n → s.lifeState d = .lost) →
              ToldAs (b.tellsLoss c .linkDown .external) t ∧ t.path.branchQueues = b.path.branchQueues))) ∧
  (∀ (n : UnitIx) (s : State),
      (s.phase ≠ .running ∨ s.path.linkUp (.branch n) = true → ∃ t, exec (.branchLinkUp n) s = .next t ∧
        t = { s with path := { s.path with branchReport := t.path.branchReport } } ∧
        ∀ m : UnitIx, memberOf t.path.branchReport m.val = (memberOf s.path.branchReport m.val || m == n)) ∧
      (s.phase = .running → s.path.linkUp (.branch n) = false →
        ∃ t b, exec (.branchLinkUp n) s = .next t ∧ Keeps b t ∧ b = { s with path := b.path } ∧
          b.path = { s.path with branchUp := b.path.branchUp, branchReport := b.path.branchReport } ∧
          (∀ m : UnitIx, b.path.linkUp (.branch m) = (s.path.linkUp (.branch m) || m == n)) ∧
          (∀ m : UnitIx, memberOf b.path.branchReport m.val = (memberOf s.path.branchReport m.val || m == n)) ∧
          ((s.unit n).state ≠ some .unreachable → t = b) ∧
          ((s.unit n).state = some .unreachable → (t.unit n).state = some .releasing ∧
            (∀ c, s.unitOf c = n → s.lifeState c = .lost → t.lifeState c = .queued ∨ t.lifeState c = .warmup) ∧
            ∀ c, s.unitOf c = n → s.lifeState c = .lost →
              (∀ d, d ≠ c → s.unitOf d = n → s.lifeState d ≠ .lost) →
              let told := b.tells c .lost .queued .linkUp .external
              (s.settings.slots ≤ s.warmups → ToldAs told t ∧ t.lifeState c = .queued ∧
                t.wakeQueue = s.wakeQueue.join .coverage { carrier := c, depth := .unknown }) ∧
              (s.warmups < s.settings.slots → s.wakeQueue.entries = [] →
                ToldAs (told.tells c .queued .warmup .granted .timed) t ∧ t.lifeState c = .warmup))))

/-- R10: the trunk's table for link reports, with the grace timer, and the trunk egress queue emptied as the link goes down.
When the trunk comes back to UP the notices that waited are passed on (R179). Within a reset, and where the table has no
entry, only what port T reports is kept. R10 to R12, R139: the grace timer's expiry. In FAILING the trunk is counted lost:
TRUNK-DOWN is raised and the trunk-lost cause applied, after which no carrier drains, none is in DOZE or SLUMBER, and one in
RAMPDOWN or DEEPENING has a wake-pending mark; the TRUNK notice of the loss is generated behind that flag's and ahead of what
the cause brings (the order of R11's text: assumption log 21), and where no carrier sleeps, drains or is QUEUED nothing else
happens. Where no slot is free (so wherever a carrier waits: `SlotLaw`) `CauseTaken` says all that the cause does: among it,
that each carrier QUEUED at ORDINARY stands at the tail of class COVERAGE with its depth kept, in ascending index with those
that come from DOZE and SLUMBER (R127, R139). In RETURNING it is restored: the TRUNK notice of that joins the notices that
wait, fewer than sixteen, and all are injected, oldest first, byte for byte (12.3), so that none waits any more. In UP and
LOST the timer is stopped. -/
def Obligations.TrunkReportsAndGrace : Prop :=
  (∀ s : State,
      let down := { s.path with trunkReport := false }
      let up := { s.path with trunkReport := true }
      let empty : EgressQueue := { sending := none, injected := [], pass := [] }
      (s.phase = .running → s.path.trunkState = .up → exec .trunkLinkDown s = .next { s with path := { down with
        trunkState := .failing, grace := some s.settings.trunkGrace, trunkQueue := empty } }) ∧
      (s.phase = .running → s.path.trunkState = .returning → exec .trunkLinkDown s = .next { s with path := { down with
        trunkState := .lost, grace := none, trunkQueue := empty } }) ∧
      (s.phase ≠ .running ∨ s.path.trunkState = .failing ∨ s.path.trunkState = .lost →
        exec .trunkLinkDown s = .next { s with path := down }) ∧
      (s.phase = .running → s.path.trunkState = .lost → exec .trunkLinkUp s = .next { s with path := { up with
        trunkState := .returning, grace := some s.settings.trunkGrace } }) ∧
      (s.phase = .running → s.path.trunkState = .failing → ∃ t, exec .trunkLinkUp s = .next t ∧
        Tells { s with path := { up with trunkState := .up, grace := none } } t ∧ t.engine = { s.engine with notices := [] } ∧
        (s.engine.notices = [] → t.path = { up with trunkState := .up, grace := none })) ∧
      (s.phase ≠ .running ∨ s.path.trunkState = .up ∨ s.path.trunkState = .returning →
        exec .trunkLinkUp s = .next { s with path := up })) ∧
  (∀ s : State, s.phase = .running →
      (s.path.trunkState = .failing → ∃ t, exec .trunkGraceExpires s = .next t ∧
        (let lost : State :=
          { s with path := { s.path with trunkState := .lost, grace := none, trunkQueue := EgressQueue.empty } }
        let told := (lost.raiseFlag .trunkDown).notify (.trunk false)
        Keeps lost t ∧ Keeps told t ∧ told.engine.notices <+: t.engine.notices ∧
          ((∀ c, (s.lifeState c).isDrain = false ∧ (s.lifeState c).isSleeper = false ∧ s.lifeState c ≠ .queued) →
            t = told) ∧
          (WakeQueueLaw s → s.settings.slots ≤ s.warmups →
            CauseTaken .coverage .trunkLost .external (fun _ => true) told t)) ∧
        t.flagRaised .trunkDown = true ∧
        ∀ c, (t.lifeState c).isDrain = false ∧ t.lifeState c ≠ .doze ∧ t.lifeState c ≠ .slumber ∧
          (t.lifeState c = .rampdown ∨ t.lifeState c = .deepening → (t.carrier c).life.wakePending ≠ none)) ∧
      (s.path.trunkState = .returning → ∃ t, exec .trunkGraceExpires s = .next t ∧
        Tells { s with path := { s.path with trunkState := .up, grace := none } } t ∧ t.engine.notices = []) ∧
      (s.path.trunkState = .returning → s.engine.notices.length < 16 →
        let wanted := s.settings.noticeEnables.getLsbD 2 = true ∧ s.settings.noticeDestination ≠ 0#48
        let up : State := { s with path := { s.path with trunkState := .up, grace := none } }
        let passed (notices : List Notice) (next : BitVec 16) : State :=
          { notices.foldl (fun u n => u.sends .trunk n.destination (noticeLayout n.sequence n.content)) up with
            engine := { s.engine with notices := [], sequence := next } }
        (wanted → exec .trunkGraceExpires s = .next (passed (s.engine.notices ++ [{
          destination := s.settings.noticeDestination, sequence := s.engine.sequence, content := .trunk true }])
          (s.engine.sequence + 1))) ∧
        (¬wanted → exec .trunkGraceExpires s = .next (passed s.engine.notices s.engine.sequence))) ∧
      (s.path.trunkState = .up ∨ s.path.trunkState = .lost → exec .trunkGraceExpires s = .next s))

/-! ## Load metering and the window end -/

/-- R54, with the available units of R53: the sample is the tally times 1024 over the available units, rounded down, and
1024 when the tally is the available units or more; it lies within 0 to 1024, and the available units are never 0. R55:
the new load figure. The step is the difference divided by 2 to the power `k`, rounded up; it is at least 1 and at most
the difference, the whole of it when `k` is 0, and the figure stays within 0 to 65536. Under a steady sample it reaches
that sample exactly and stays there, in at most as many windows as the first difference is great. -/
def Obligations.SampleAndFigure : Prop :=
  (∀ (k : CarrierConfig) (tally length : Nat), k.inRange = true → 10 ≤ length → length ≤ 10000 →
      let available := availableUnits k length
      available = k.grantUnits.toNat * k.slotRate.toNat * length ∧ 10 ≤ available ∧ available ≤ 327600000 ∧
      (tally < available → occupancy tally available * available ≤ tally * 1024 ∧
        tally * 1024 < (occupancy tally available + 1) * available) ∧
      (available ≤ tally → occupancy tally available = 1024) ∧ occupancy tally available ≤ 1024) ∧
  (∀ (old sample k : Nat), old ≤ 65536 → sample ≤ 1024 → k ≤ 7 →
      let target := sample * 64
      let new := nextFigure old sample k
      (old = target → new = old) ∧
      (old < target → ∃ step, 1 ≤ step ∧ step ≤ target - old ∧ (step - 1) * 2 ^ k < target - old ∧
        target - old ≤ step * 2 ^ k ∧ new = old + step) ∧
      (target < old → ∃ step, 1 ≤ step ∧ step ≤ old - target ∧ (step - 1) * 2 ^ k < old - target ∧
        old - target ≤ step * 2 ^ k ∧ new + step = old) ∧
      (k = 0 → new = target) ∧ new ≤ 65536 ∧
      ∀ windows, (target - old) + (old - target) ≤ windows → (fun x => nextFigure x sample k)^[windows] old = target)

/-- R48, R52 to R58, R62: a window end puts pending profiles in force, brings the meter part of every managed carrier up
to date with the length the window began with, passes over UNMANAGED carriers, and begins the next window with the
length in force; that is the state `b` that is published. The two blocks that take the report leave the figures as they
are. (`moment` is the model's own numbering of events: assumption log 20.) -/
def Obligations.WindowEndMeters : Prop :=
  ∀ (order : ReportOrder) (s : State), s.phase = .running →
    ∃ b t, exec (.windowEnd order) s = .next t ∧ Keeps b t ∧
      b = { s with profiles := b.profiles, carriers := b.carriers, moment := s.moment + 1,
                   windowClock := { length := s.settings.windowLength, elapsed := 0 } } ∧
      (∀ p : ProfileIx, b.profiles[p] = { (s.profiles[p]) with pending := false, inForce :=
        if (s.profiles[p]).pending then (s.profiles[p]).written else (s.profiles[p]).inForce }) ∧
      (∀ c, s.lifeState c = .unmanaged → b.carrier c = s.carrier c) ∧
      ∀ c, s.lifeState c ≠ .unmanaged →
        let m := (s.carrier c).meter
        let p := b.profileOf c
        let sample := occupancy m.tally (availableUnits (s.config c) s.windowClock.length)
        let figure := nextFigure m.figure sample p.shift
        (m.primed = false → b.carrier c = { s.carrier c with meter := { m with tally := 0, primed := true } }) ∧
        (m.primed = true → b.carrier c = { s.carrier c with meter :=
          { tally := 0, sample := sample, figure := figure, primed := true,
            idleRun := if figure ≤ p.sleepThreshold then min 255 (m.idleRun + 1) else 0,
            quietRun := if s.lifeState c = .draining ∧ sample = 0 then min 255 (m.quietRun + 1)
              else if s.lifeState c = .drainHeld then m.quietRun else 0 } })

/-- R100, R74: a carrier that a window end puts in a drain state was an ACTIVE, unprotected dependent, in ACTING with
the trunk not lost and an advisory destination set, in the quiet set, with its sector not locked out, and with the idle
run and the dwell that its profile asks for. R75, R76: in the group of an anchor below its relief threshold the candidates
are put to the admission test one after another, highest wake rank first, then lowest carrier index, each beside the
pledges of the drains that are there when the Coverage Unit takes the group (all, or those that the Lifecycle Controller
has left) and of the candidates admitted before it; one that passes is in DRAINING with its pledge recorded, its drain
elapsed 0 and its drain timer's length set (R101), one that does not stays ACTIVE. Where the window end has nothing else
to act on, BAR with reason IDLE is sent, byte for byte (R162, 12.3), and the CARRIER-STATE notice with cause IDLE follows
(R97, R98).
R103, R105, R106: a carrier in a drain state whose new load figure is above its cancel threshold is in RESTORING (ACTIVE
with a settle time of 0) and holds no pledge; where nothing else is to be done, OPEN is sent and the notice of cause LOAD-ROSE
and origin TIMED generated. Otherwise, DRAINING with a drain-quiet run that has reached its profile's
number, it completes, unless relief of its anchor comes before: it is in RAMPDOWN with CARRIER-SLEEP in its unit's queue,
or LOST if its unit cannot take that (R111); where nothing else is to be done and the unit is UP and idle, the directive is
sent with the next token, byte for byte (R146, 12.3), and the notice with cause DRAIN-QUIET generated. In every other case,
but for relief, it stays as it was, with its pledge. -/
def Obligations.WindowEndBeginsAndEndsDrains : Prop :=
  (∀ (order : ReportOrder) (c : CarrierIx) (s t : State), s.phase = .running → exec (.windowEnd order) s = .next t →
      (t.lifeState c).isDrain = true → (s.lifeState c).isDrain = false →
      s.lifeState c = .active ∧ s.isDependent c = true ∧ (s.config c).protect ≠ 1#8 ∧ s.engine.mode = .acting ∧
        s.trunkLost = false ∧ s.settings.advisoryDestination ≠ 0#48 ∧ memberOf s.calendar.quiet c.val = true ∧
        s.lockedOut (s.config c).sectorIx = false ∧ (t.profileOf c).idleRunLength ≤ (t.carrier c).meter.idleRun ∧
        (t.profileOf c).dwellMinimum ≤ (s.carrier c).life.dwell / 1000) ∧
  (∀ (order : ReportOrder) (a : CarrierIx) (candidates : List CarrierIx) (s t : State), s.phase = .running → Lawful s →
      exec (.windowEnd order) s = .next t → s.isAnchor a = true → ¬NeedsRelief t a →
      (∀ c, c ∈ candidates ↔ Candidate s t c ∧ s.anchorOf c = a) →
      (candidates.Pairwise fun c d => (s.config d).rank.toNat < (s.config c).rank.toNat ∨
        ((s.config c).rank = (s.config d).rank ∧ c < d)) →
      let there (d : CarrierIx) : Bool := (s.lifeState d).isDrain && s.anchorOf d == a &&
        (order == .coverageFirst || (t.lifeState d).isDrain)
      let pledgesThere := (((List.finRange 32).filter there).map fun d => (s.cover d).pledge).sum
      ∀ (c : CarrierIx) (earlier later : List CarrierIx), candidates = earlier ++ c :: later →
        let admittedEarlier := earlier.filter fun d => t.lifeState d == .draining
        let passes := s.lifeState a = .active ∧ s.lockOuts[(s.config c).sectorIx] = none ∧ t.pledgeAt c ≤ 65536 ∧
          (t.carrier a).meter.figure + (pledgesThere + (admittedEarlier.map t.pledgeAt).sum) + t.pledgeAt c ≤
            (t.profileOf a).ceiling
        (passes → t.lifeState c = .draining ∧ (t.cover c).pledge = t.pledgeAt c ∧ (t.carrier c).life.drain = 0 ∧
          (t.carrier c).life.drainLength = (t.profileOf c).drainTimeout) ∧
        (¬passes → t.lifeState c = .active)) ∧
  (∀ (order : ReportOrder) (c : CarrierIx) (s t : State), s.phase = .running → Lawful s →
      exec (.windowEnd order) s = .next t → Candidate s t c → OnlyFor c s t → t.lifeState c = .draining →
      let told := (s.sends .trunk s.settings.advisoryDestination (s.advisoryLayout 1 c 1)).notify
        (.carrierState c .active .draining .idle .timed s.calendar.minute s.calendar.second)
      t.path = told.path ∧ t.engine = told.engine ∧ t.units = s.units ∧ t.wakeQueue = s.wakeQueue ∧
        t.advisories = { s.advisories with sent := min 4294967295 (s.advisories.sent + 1) } ∧
        ∀ d, d ≠ c → t.lifeState d = s.lifeState d) ∧
  (∀ (order : ReportOrder) (c : CarrierIx) (s t : State), s.phase = .running → Lawful s →
      exec (.windowEnd order) s = .next t → (s.lifeState c).isDrain = true →
      let u := s.unitOf c
      let unfit := (s.unit u).state = none ∨ (s.unit u).state = some .unreachable
      (LoadRose t c → t.lifeState c = (if (t.profileOf c).settleTime = 0 then .active else .restoring) ∧
        (t.cover c).pledge = 0 ∧
        (OnlyFor c s t → ToldAs (({ s with profiles := t.profiles } : State).tellsReturn c .loadRose .timed) t)) ∧
      (¬LoadRose t c → WentQuiet s t c → order = .lifecycleFirst ∨ ¬NeedsRelief t (s.anchorOf c) →
        (t.cover c).pledge = 0 ∧ (unfit → t.lifeState c = .lost) ∧
        (¬unfit → t.lifeState c = .rampdown ∧ ∃ d ∈ (t.unit u).queue, d.kind = .carrierSleep ∧ d.carrier = some c ∧
          d.key = (s.config c).key) ∧
        ((s.unit u).state = some .up → (s.unit u).queue = [] → (s.unit u).sent = none → (t.unit u).sent ≠ none)) ∧
      (¬LoadRose t c → ¬WentQuiet s t c → ¬NeedsRelief t (s.anchorOf c) →
        t.lifeState c = s.lifeState c ∧ (t.cover c).pledge = (s.cover c).pledge)) ∧
  (∀ (order : ReportOrder) (c : CarrierIx) (s t : State), s.phase = .running → Lawful s →
      exec (.windowEnd order) s = .next t → ¬LoadRose t c → WentQuiet s t c → OnlyFor c s t →
      (s.unit (s.unitOf c)).state = some .up → (s.unit (s.unitOf c)).queue = [] → (s.unit (s.unitOf c)).sent = none →
      let u := s.unitOf c
      let told := s.notify (.carrierState c .draining .rampdown .drainQuiet .timed s.calendar.minute s.calendar.second)
      ∃ d, (t.unit u).queue = [d] ∧ d.kind = .carrierSleep ∧ d.carrier = some c ∧ d.token = s.token ∧
        d.key = (s.config c).key ∧
        (∀ l : Fin 4, (s.unit u).map[l] = some c → (∀ m : Fin 4, m < l → (s.unit u).map[m] ≠ some c) → d.link = l.val) ∧
        t.path.branchQueues = (s.sends (.branch u) (s.unitSettings u).address
          (directiveLayout 1 s.token d.link d.key.toNat)).path.branchQueues ∧
        t.path.trunkQueue = told.path.trunkQueue ∧ t.engine = told.engine ∧
        ∀ e, e ≠ c → t.lifeState e = s.lifeState e)

/-- R73: the pledge is the figure times the ratio over 256, rounded up; a pledge above 65536 is refused. R74: the admission
test. R77: relief abandons the dependent at the tail of the anchor's drain list; with no drain in progress it hands the relief
cause to the first sleeper in list order that carries no wake-pending mark; otherwise nothing is done. The notice of either
has the cause RELIEF and the origin TIMED (R123). R75, R77, at a WINDOW_END: the group of an anchor whose figure has reached
its relief threshold begins no drain. The tail of the drain list that the Coverage Unit finds (the whole list, or what the
Lifecycle Controller has left of it) is in RESTORING, or ACTIVE with a settle time of 0, and the rest of the list is left
alone. With no drain in the group the first sleeper without a mark is given the relief mark, or stands in the wake queue, in
WARMUP, or in LOST if its unit cannot take CARRIER-WAKE (R131); and no sleeper behind it is woken or marked. -/
def Obligations.PledgeAdmissionAndRelief : Prop :=
  ((∀ figure ratio : Nat, figure * ratio ≤ pledgeFor figure ratio * 256 ∧
      pledgeFor figure ratio * 256 < figure * ratio + 256) ∧ (∀ ratio, pledgeFor 0 ratio = 0) ∧
    ∀ (c : CarrierIx) (pledge : Nat) (s : State), s.admits c pledge = true ↔
      s.isManaged c = true ∧ s.anchorOf c ≠ c ∧ (s.config c).protect ≠ 1#8 ∧ s.lifeState (s.anchorOf c) = .active ∧
        s.lockOuts[(s.config c).sectorIx] = none ∧ pledge ≤ 65536 ∧
        (s.carrier (s.anchorOf c)).meter.figure + (s.cover (s.anchorOf c)).pledgeTotal + pledge ≤
          (s.profileOf (s.anchorOf c)).ceiling) ∧
  (∀ (a : CarrierIx) (report : Vector Meter 32) (s : State), s.isAnchor a = true →
      (s.profileOf a).reliefThreshold ≤ report[a].figure →
      (∀ front d, (s.cover a).drainList = front ++ [d] → (s.lifeState d).isDrain = true →
        Alone d s (groupEffect a report s).finish ∧
        ToldAs (s.tellsReturn d .relief .timed) (groupEffect a report s).finish ∧
        (groupEffect a report s).finish.lifeState d =
          (if (s.profileOf d).settleTime = 0 then .active else .restoring)) ∧
      (∀ front d rest, (s.cover a).drainList = [] → (s.cover a).sleeperList = front ++ d :: rest →
        (∀ e ∈ front, (s.carrier e).life.wakePending ≠ none) → (s.carrier d).life.wakePending = none →
        (s.lifeState d = .rampdown ∨ s.lifeState d = .deepening → (groupEffect a report s).finish =
          s.setLife d { (s.carrier d).life with wakePending := some { cls := .ordinary, cause := .relief } }) ∧
        (s.lifeState d = .doze ∨ s.lifeState d = .slumber → s.settings.slots ≤ s.warmups →
          (groupEffect a report s).finish.lifeState d = .queued ∧
          ToldAs (s.tells d (s.lifeState d) .queued .relief .timed) (groupEffect a report s).finish ∧
          (groupEffect a report s).finish.wakeQueue = s.wakeQueue.join .ordinary
            { carrier := d, depth := if s.lifeState d = .doze then .light else .deep })) ∧
      ((s.cover a).drainList = [] → (∀ d ∈ (s.cover a).sleeperList, (s.carrier d).life.wakePending ≠ none) →
        (groupEffect a report s).finish = s)) ∧
  (∀ (order : ReportOrder) (a : CarrierIx) (s t : State), s.phase = .running → Lawful s →
      exec (.windowEnd order) s = .next t → s.isAnchor a = true → NeedsRelief t a →
      (∀ c, s.anchorOf c = a → (t.lifeState c).isDrain = true → (s.lifeState c).isDrain = true) ∧
      (∀ list front d, (order = .coverageFirst → list = (s.cover a).drainList) →
        (order = .lifecycleFirst → list.Sublist (s.cover a).drainList ∧
          ∀ c, c ∈ list ↔ c ∈ (s.cover a).drainList ∧ ¬LoadRose t c ∧ ¬WentQuiet s t c) →
        list = front ++ [d] →
        t.lifeState d = (if (t.profileOf d).settleTime = 0 then .active else .restoring) ∧ (t.cover d).pledge = 0 ∧
        ∀ e ∈ front, ¬LoadRose t e → ¬WentQuiet s t e → t.lifeState e = s.lifeState e) ∧
      (∀ front d rest, (s.cover a).drainList = [] →
        (s.cover a).sleeperList = front ++ d :: rest → (∀ e ∈ front, (s.carrier e).life.wakePending ≠ none) →
        (s.carrier d).life.wakePending = none →
        let marked := (t.carrier d).life.wakePending = some { cls := .ordinary, cause := .relief }
        let woken := t.lifeState d = .queued ∨ t.lifeState d = .warmup ∨ (t.lifeState d = .lost ∧
          ((s.unit (s.unitOf d)).state = none ∨ (s.unit (s.unitOf d)).state = some .unreachable))
        (s.lifeState d = .rampdown → t.lifeState d = .rampdown ∧ marked) ∧
        (s.lifeState d = .slumber → woken) ∧
        (s.lifeState d = .doze → order = .coverageFirst → woken) ∧
        (s.lifeState d = .doze ∨ s.lifeState d = .deepening → woken ∨ (t.lifeState d = .deepening ∧ marked)) ∧
        ∀ e ∈ rest, (s.carrier e).life.wakePending = none →
          (t.carrier e).life.wakePending = none ∧ (t.lifeState e).isSleeper = true))

/-! ## Timers -/

/-- R102, R106: the drain timer of a DRAINING carrier expires: the pledge is let go, the carrier leaves the drain list
and enters RESTORING (through it ACTIVE when its settle time is 0), and OPEN with reason DRAIN-TIMEOUT is sent, byte for
byte (R161, R162, 12.3), or withheld while the trunk is lost or no destination is set (R167); then the CARRIER-STATE
notice is generated with the cause DRAIN-TIMEOUT, the origin TIMED and the time of day, and with a settle time of 0 a
second one, from RESTORING to ACTIVE with SETTLED (R97, R98, R134; `FlagsAndNotices` says what becomes of a notice). In any
other state there is no expiry. R134: the settle timer of a RESTORING carrier expires: it enters ACTIVE with its dwell
elapsed at 0, the notice is generated with the cause SETTLED, and nothing else changes (a settle elapsed below its length
is brought up to it, the model's choice: assumption log 2); in any other state there is no expiry. R80: a lock-out timer
expires: it stops, and nothing else changes. -/
def Obligations.CarrierTimerExpiries : Prop :=
  (∀ (c : CarrierIx) (s : State), s.phase = .running →
      (s.lifeState c ≠ .draining → exec (.drainTimerExpires c) s = .next s) ∧
      (s.lifeState c = .draining → s.anchorOf c ≠ c → ∃ b t, exec (.drainTimerExpires c) s = .next t ∧ Alone c s b ∧
        b.engine = s.engine ∧
        b.path = (if s.trunkLost = true ∨ s.settings.advisoryDestination = 0#48 then s.path
          else (s.sends .trunk s.settings.advisoryDestination (s.advisoryLayout 2 c 8)).path) ∧
        (let told := b.notify
          (.carrierState c .draining .restoring .drainTimeout .timed s.calendar.minute s.calendar.second)
        ((s.profileOf c).settleTime ≠ 0 → t = told) ∧
        ((s.profileOf c).settleTime = 0 → t = (told.setLife c { (b.carrier c).life with state := .active, dwell := 0 }).notify
          (.carrierState c .restoring .active .settled .timed s.calendar.minute s.calendar.second))) ∧
        Alone c s t ∧ t.lifeState c = (if (s.profileOf c).settleTime = 0 then .active else .restoring) ∧
        (t.carrier c).life.settle = 0 ∧ (t.carrier c).life.hold = false ∧
        (t.carrier c).life.settleLength = (s.profileOf c).settleTime ∧ (t.cover c).pledge = 0 ∧
        (t.cover (s.anchorOf c)).pledgeTotal = (s.cover (s.anchorOf c)).pledgeTotal - (s.cover c).pledge ∧
        (t.cover (s.anchorOf c)).drainList = (s.cover (s.anchorOf c)).drainList.filter (· != c) ∧
        (t.cover (s.anchorOf c)).sleeperList = (s.cover (s.anchorOf c)).sleeperList ∧
        t.advisories = (if s.trunkLost = true ∨ s.settings.advisoryDestination = 0#48 then
            { s.advisories with withheld := min 4294967295 (s.advisories.withheld + 1) }
          else { s.advisories with sent := min 4294967295 (s.advisories.sent + 1) }))) ∧
  ((∀ (c : CarrierIx) (s : State), s.phase = .running →
        (s.lifeState c ≠ .restoring → exec (.settleTimerExpires c) s = .next s) ∧
        (s.lifeState c = .restoring →
          let l := (s.carrier c).life
          exec (.settleTimerExpires c) s = .next ((s.setCarrier c { s.carrier c with
            life := { l with state := .active, dwell := 0, settle := max l.settle (l.settleLength * 1000),
                             wakePending := none, hold := false },
            drainedReceived := false }).notify
              (.carrierState c .restoring .active .settled .timed s.calendar.minute s.calendar.second)))) ∧
    (∀ (g : SectorIx) (s : State), s.phase = .running → ∃ t, exec (.lockOutTimerExpires g) s = .next t ∧
        t.lockedOut g = false ∧ (∀ h : SectorIx, h ≠ g → t.lockOuts[h] = s.lockOuts[h]) ∧
        t = { s with lockOuts := t.lockOuts }))

/-- R114, R115, R145: the deepen decision for a DOZE carrier whose doze elapsed, as it has been counted, has reached a deepen
delay other than 0 (by the profile in force when the decision is made). In the deep set, in ACTING, with the trunk not lost
and a unit that takes CARRIER-DEEPEN, the carrier enters DEEPENING and the directive, with the next token and the carrier's
link number and key, stands at the tail of the unit's queue; an UP unit with nothing outstanding is sent it at once, and a
DEEP one UNIT-RELEASE with the token after it (R146, R155, 12.3). The notice has the cause DEEPEN and the origin TIMED (R98).
Otherwise nothing changes. -/
def Obligations.DeepenDelayReached : Prop :=
  ∀ (c : CarrierIx) (s : State), s.phase = .running →
    let u := s.unitOf c
    let delay := (s.profileOf c).deepenDelay
    let due := s.lifeState c = .doze ∧ delay ≠ 0 ∧ delay * 60000 ≤ (s.carrier c).life.doze
    let may := memberOf s.calendar.deep c.val = true ∧ s.engine.mode = .acting ∧ s.trunkLost = false ∧
      (s.unit u).state ≠ none ∧ (s.unit u).state ≠ some .unreachable
    let toUnit (body : List (Nat × Nat)) : State := s.sends (.branch u) (s.unitSettings u).address body
    (¬(due ∧ may) → exec (.deepenDelayReached c) s = .next s) ∧
    (due → may → ((s.unit u).state = some .up → (s.unit u).sent = none → (s.unit u).queue = []) →
      ∃ t d, exec (.deepenDelayReached c) s = .next t ∧ Keeps s t ∧ t.lifeState c = .deepening ∧
        ToldAs (s.tells c .doze .deepening .deepen .timed) t ∧
        (∀ e, e ≠ c → t.carrier e = s.carrier e) ∧ t.wakeQueue = s.wakeQueue ∧
        (t.unit u).queue = (s.unit u).queue ++ [d] ∧ d.kind = .carrierDeepen ∧ d.carrier = some c ∧
        d.token = s.token ∧ d.key = (s.config c).key ∧
        (∀ l : Fin 4, (s.unit u).map[l] = some c → (∀ m : Fin 4, m < l → (s.unit u).map[m] ≠ some c) →
          d.link = l.val) ∧
        ((s.unit u).state = some .up → (t.unit u).sent ≠ none) ∧
        ((s.unit u).state = some .up → (s.unit u).sent = none →
          t.path.branchQueues = (toUnit (directiveLayout 2 s.token d.link d.key.toNat)).path.branchQueues) ∧
        ((s.unit u).state = some .deep → (t.unit u).state = some .releasing ∧ t.path.branchQueues =
          (toUnit (directiveLayout 5 (if s.token < 255 then s.token + 1 else 1) 0 0)).path.branchQueues) ∧
        ((s.unit u).state ≠ some .deep → ¬((s.unit u).state = some .up ∧ (s.unit u).sent = none) →
          t.path.branchQueues = s.path.branchQueues))

/-- R89, R90, R94: the quiet set, the deep set and the open marks that a recomputation forms. A window is open at a
minute by the three cases of R89; with the time-set mark clear both sets are empty. -/
def Obligations.QuietAndDeepSets : Prop :=
  ∀ s : State,
    let m := s.calendar.minute
    let isOpen (i : Fin 4) : Prop := s.calendar.timeSet = true ∧ (s.windows[i]).inUse = true ∧
      (((s.windows[i]).start < (s.windows[i]).stop ∧ (s.windows[i]).start ≤ m ∧ m < (s.windows[i]).stop) ∨
        ((s.windows[i]).stop < (s.windows[i]).start ∧ ((s.windows[i]).start ≤ m ∨ m < (s.windows[i]).stop)))
    (∀ c : CarrierIx, memberOf s.reformSets.calendar.quiet c.val = true ↔
      ∃ i : Fin 4, isOpen i ∧ memberOf (s.windows[i]).carriers c.val = true) ∧
    (∀ c : CarrierIx, memberOf s.reformSets.calendar.deep c.val = true ↔
      ∃ i : Fin 4, isOpen i ∧ (s.windows[i]).deepAllowed = true ∧ memberOf (s.windows[i]).carriers c.val = true) ∧
    (∀ i : Fin 4, memberOf s.reformSets.calendar.isOpen i.val = true ↔ isOpen i)

/-- R85, R91 to R93: the minute advances, from 1439 to 0, and the sets are formed anew. A managed carrier that leaves the
quiet set drains no more and is not in DOZE or SLUMBER afterwards, and in RAMPDOWN or DEEPENING it carries a wake-pending mark
(R92, R113); with no slot free, and no carrier joining the deep set, all that happens is said (`WindowClose`). With the sets
unchanged nothing is handed on; a DOZE carrier that joins the deep set tests the deepen conditions at once (`DeepPermission`,
R93). The command is the minute's boundary, whatever the second and the millisecond have reached (the model's choice:
assumption log 2). Within a reset only the counts go on (R175). -/
def Obligations.MinuteBoundary : Prop :=
  ∀ s : State,
    let minute := if s.calendar.minute < 1439 then s.calendar.minute + 1 else 0
    let counted : State := { s with calendar := { s.calendar with minute := minute, second := 0, milli := 0 } }
    (s.phase ≠ .running → exec .minuteBoundary s = .next counted) ∧
    (s.phase = .running → ∃ t, exec .minuteBoundary s = .next t ∧ Keeps counted.reformSets t ∧
      (∀ c, s.isManaged c = true → memberOf s.calendar.quiet c.val = true → memberOf t.calendar.quiet c.val = false →
        (t.lifeState c).isDrain = false ∧ t.lifeState c ≠ .doze ∧ t.lifeState c ≠ .slumber ∧
          (t.lifeState c = .rampdown ∨ t.lifeState c = .deepening → (t.carrier c).life.wakePending ≠ none)) ∧
      WindowClose counted t ∧ DeepPermission counted t ∧
      (t.calendar.quiet = s.calendar.quiet → t.calendar.deep = s.calendar.deep → t = counted.reformSets))

/-- R149: the reply timer of an outstanding directive expires. With attempts left the same frame goes out again, with the
attempt count and the resends counter up by one and the timer restarted (also a UNIT-DEEP when the mode has left ACTING or the
trunk is lost, the model's choice: assumption log 37); with the attempts used up the directive's carrier, waiting for its
outcome, is LOST (and where it hands nothing on to another, `Solitary`, and no directive waits behind, CARRIER-LOST and the
notice of cause RADIO-SILENT and origin TIMED are all that is told: R98, R135), and a unit whose UNIT-DEEP it was is
UNREACHABLE with nothing queued, every timer stopped and the attempt count at 0 (the model's choice: assumption log 13), and
its managed carriers are LOST (R154, R156). With the timer stopped there is no expiry. R146, R155: the release time ends: the
unit is UP, and the head of its queue, if any, is sent with its attempt count at 1 and the reply timer running; no carrier
changes. A CARRIER-DEEPEN is sent only in ACTING with the trunk not lost (R116): otherwise it is removed unsent, and its
carrier returns to DOZE with doze elapsed 0 and the notice of cause DEEPEN-WITHDRAWN and origin TIMED, or, with a wake-pending
mark, is QUEUED with depth LIGHT and the notice of the kept cause (R98, R125, R126); a head of another kind behind it is sent.
The unit deep timer starts when every managed carrier of the unit is in SLUMBER (R153); with a delay of 0 and no directive
waiting UNIT-DEEP is sent at once if it may be, and the timer stands at 0 if not (the model's choice: assumption log 18). All
this is said by `HeadConsidered`. -/
def Obligations.ReplyAndReleaseTimerExpiry : Prop :=
  (∀ (u : UnitIx) (s : State), s.phase = .running →
      ((s.unit u).replyTimer = none → exec (.replyTimerExpires u) s = .next s) ∧
      (∀ bytes, (s.unit u).replyTimer ≠ none → (s.unit u).sent = some bytes →
        (s.unit u).attempts < (s.unitSettings u).retries.toNat + 1 →
        exec (.replyTimerExpires u) s = .next ((s.setUnit u { s.unit u with
          attempts := (s.unit u).attempts + 1, replyTimer := some (s.unitSettings u).replyTimeout.toNat,
          resends := min 4294967295 ((s.unit u).resends + 1) }).offerInjected (.branch u)
            { bytes := bytes, restartAnswer := false })) ∧
      (∀ d rest c, (s.unit u).replyTimer ≠ none → (s.unit u).sent ≠ none → (s.unit u).queue = d :: rest →
        (s.unitSettings u).retries.toNat + 1 ≤ (s.unit u).attempts → d.carrier = some c →
        (d.kind = .carrierSleep ∧ s.lifeState c = .rampdown) ∨ (d.kind = .carrierDeepen ∧ s.lifeState c = .deepening) ∨
          (d.kind = .carrierWake ∧ s.lifeState c = .warmup) →
        ∃ t, exec (.replyTimerExpires u) s = .next t ∧ Keeps s t ∧ t.lifeState c = .lost ∧
          t.flagRaised .carrierLost = true ∧
          (rest = [] → s.unitOf c = u → Solitary s c →
            ToldAs (s.tellsLoss c .radioSilent .timed) t ∧ t.path.branchQueues = s.path.branchQueues)) ∧
      (∀ d rest, (s.unit u).state = some .deepPending → (s.unit u).replyTimer ≠ none → (s.unit u).sent ≠ none →
        (s.unit u).queue = d :: rest → d.kind = .unitDeep →
        (s.unitSettings u).retries.toNat + 1 ≤ (s.unit u).attempts →
        ∃ t, exec (.replyTimerExpires u) s = .next t ∧ Keeps s t ∧
          t.unit u = { s.unit u with state := some .unreachable, queue := [], sent := none, attempts := 0,
                                     replyTimer := none, releaseTimer := none, deepTimer := none } ∧
          (∀ c, s.isManaged c = true → s.unitOf c = u → t.lifeState c = .lost) ∧
          ∀ c, s.isManaged c = true → s.unitOf c = u → s.lifeState c ≠ .lost → Solitary s c →
            (∀ e, e ≠ c → s.isManaged e = true → s.unitOf e = u → s.lifeState e = .lost) →
            ToldAs (s.tellsLoss c .radioSilent .timed) t)) ∧
  (∀ (u : UnitIx) (s : State), s.phase = .running →
      ((s.unit u).state ≠ some .releasing → exec (.releaseTimerExpires u) s = .next s) ∧
      ((s.unit u).state = some .releasing → (s.unit u).sent = none → ∃ t, exec (.releaseTimerExpires u) s = .next t ∧
        HeadConsidered u (s.setUnit u { s.unit u with state := some .up, releaseTimer := none }) t))

/-- R153, R154: the unit deep timer expires. With every condition met UNIT-DEEP, with the next token, is the one
directive of the unit and is sent (byte for byte: 12.3, R182), and the unit is DEEP-PENDING; otherwise the timer starts
again with the full unit deep delay (also where that is 0, the model's choice: assumption log 18). -/
def Obligations.UnitDeepTimerExpiry : Prop :=
  ∀ (u : UnitIx) (s : State), s.phase = .running → (s.unit u).deepTimer ≠ none →
    let may := (s.unit u).state = some .up ∧ (s.unit u).queue = [] ∧ (s.unit u).sent = none ∧
      (∃ c, s.isManaged c = true ∧ s.unitOf c = u) ∧
      (∀ c, s.isManaged c = true → s.unitOf c = u → s.lifeState c = .slumber) ∧
      (s.unitSettings u).deepPermitted = 1#8 ∧ s.engine.mode = .acting ∧ s.trunkLost = false
    (may → ∃ t d, exec (.unitDeepTimerExpires u) s = .next t ∧ Keeps s t ∧ t.carriers = s.carriers ∧
      (t.unit u).state = some .deepPending ∧ (t.unit u).queue = [d] ∧ d.kind = .unitDeep ∧ d.token = s.token ∧
      (t.unit u).sent ≠ none ∧ (t.unit u).attempts = 1 ∧ (t.unit u).deepTimer = none ∧
      t.path = (s.sends (.branch u) (s.unitSettings u).address (directiveLayout 4 s.token 0 0)).path ∧
      t.token = (if s.token < 255 then s.token + 1 else 1) ∧ ∀ v, v ≠ u → t.unit v = s.unit v) ∧
    (¬may → exec (.unitDeepTimerExpires u) s = .next
      (s.setUnit u { s.unit u with deepTimer := some ((s.unitSettings u).deepDelay.toNat * 1000) }))

/-! ## Requests -/

/-- R168, 12.2, 12.5: which command takes a request, by the bytes of its body: its request kind; for a WRITE-RECORDS the table
identifier, and for a SETTINGS write the first index (the last is the model's choice: assumption log 27). A command whose
request is not at the head of the queue changes nothing (the model's choice: assumption log 1), and neither does one within a
warm reset or once a RESTART has been answered (R175). R169, R182, 12.2: what every response is. R169: a kind that is none of
the twelve is answered BAD-VALUE, whatever the class. R170: a request of a known kind above its ceiling is answered DENIED.
R171, R172: a read of an unknown table, and a write of a table that is unknown or only read, are answered BAD-TABLE; a
SETTINGS write that begins at no writable entry is answered BAD-VALUE with a count or direction outside its values, then
BAD-LENGTH with a body too short for its count (R172), then BAD-VALUE if it begins at a status entry (R173) and BAD-INDEX if
it begins outside the table. A refusal has count 0 and no results (read so: assumption log 15). Nothing else changes. -/
def Obligations.RequestsAndResponses : Prop :=
  ((∀ (r : Request) (row : Instr) (k : Nat), (row, k) ∈ plainRequests → (r.command = row ↔ (byteAt r.body 1).toNat = k)) ∧
    (∀ (r : Request) (row : Instr) (t size n : Nat), (row, t, size, n) ∈ tableWrites →
      (r.command = row ↔ (byteAt r.body 1).toNat = 2 ∧ (byteAt r.body 4).toNat = t)) ∧
    (∀ (r : Request) (row : Instr) (i lo hi : Nat), (row, i, lo, hi) ∈ settingWrites →
      (r.command = row ↔ (byteAt r.body 1).toNat = 2 ∧ (byteAt r.body 4).toNat = 11 ∧ (byteAt r.body 5).toNat = i)) ∧
    (∀ r : Request, r.command = .unknownRequestKind ↔ 11 < (byteAt r.body 1).toNat) ∧
    ∀ (row : Instr) (s : State), (row = .unknownRequestKind ∨ ∃ k, (row, k) ∈ requestKinds) →
      (s.phase ≠ .running ∨ s.engine.restarting = true ∨ s.engine.requests = [] ∨
        ∃ r rest, s.engine.requests = r :: rest ∧ r.command ≠ row) →
      exec row s = .next s) ∧
  ((∀ (r : Request) (status : Status) (n : Nat) (results : List Byte) (s : State),
      let whole := beBytes 6 r.source.toNat ++ beBytes 6 s.stationAddress.toNat ++ beBytes 2 s.settings.typeValue.toNat ++
        [0x11#8, byteAt r.body 1] ++ beBytes 2 (natAt r.body 2 2) ++
        [BitVec.ofNat 8 status.code, byteAt r.body 4, byteAt r.body 5, BitVec.ofNat 8 n] ++ results
      s.respond r status n results = s.offerInjected .trunk
        { bytes := whole ++ List.replicate (60 - whole.length) 0#8, restartAnswer := false }) ∧
    (∀ (r : Request) (rest : List Request) (s : State), Takes .unknownRequestKind s r rest →
      exec .unknownRequestKind s = .next ((s.taken rest).respond r .badValue 0 [])) ∧
    (∀ (row : Instr) (k : Fin 12) (r : Request) (rest : List Request) (s : State), (row, k.val) ∈ requestKinds →
      Takes row s r rest → s.permissions[k] < r.cls →
      exec row s = .next ((s.taken rest).respond r .denied 0 [])) ∧
    (∀ (r : Request) (rest : List Request) (s : State), Takes .readRecords s r rest →
      r.cls ≤ s.permissions[1] → r.table = none →
      exec .readRecords s = .next ((s.taken rest).respond r .badTable 0 [])) ∧
    (∀ (r : Request) (rest : List Request) (s : State), Takes .writeRecords s r rest → r.cls ≤ s.permissions[2] →
      let counted := 1 ≤ r.count ∧ r.count ≤ 16 ∧ (byteAt r.body 7 = 0#8 ∨ byteAt r.body 7 = 1#8)
      (r.table ≠ some .settings → exec .writeRecords s = .next ((s.taken rest).respond r .badTable 0 [])) ∧
      (r.table = some .settings → ¬counted → exec .writeRecords s = .next ((s.taken rest).respond r .badValue 0 [])) ∧
      (r.table = some .settings → counted → r.values.length < 8 * r.count →
        exec .writeRecords s = .next ((s.taken rest).respond r .badLength 0 [])) ∧
      (r.table = some .settings → counted → 8 * r.count ≤ r.values.length →
        exec .writeRecords s = .next ((s.taken rest).respond r
          (if r.indexByte.toNat < 35 then .badValue else .badIndex) 0 []))))

/-- R173: IDENTIFY returns the part code 0x3260, the revision (a free value: assumption log 8), the station address and the
mode, and changes nothing but the queues. R171: READ-RECORDS refuses a first index outside the table, then a count or
direction outside its values; otherwise it returns the records from the first index on in the given direction, each with its
index, until the count is reached or there is no further record (downward none follows index 0); the two classifier tables put
the bank and the activated mark first (R25). The records are those that stand once the request is taken; their bytes are those
of 12.4, with the codes of 12.5 (`CodesOfNames`, `WrittenLayouts`, `State.RecordsRead`). A refusal has count 0 and no results
(read so: assumption log 15); where 12.4 and R182 leave a field or its place open, what is said is the model's reading
(assumption log 12, 13 and 14). -/
def Obligations.IdentifyAndRead : Prop :=
  (∀ (r : Request) (rest : List Request) (s : State), Takes .identify s r rest → r.cls ≤ s.permissions[0] →
    exec .identify s = .next ((s.taken rest).respond r .done 0 ([0x32#8, 0x60#8, Config.revision] ++
      beBytes 6 s.stationAddress.toNat ++
      [match s.engine.mode with | .transparent => 0#8 | .monitor => 1#8 | .acting => 2#8]))) ∧
  (∀ (r : Request) (rest : List Request) (t : Table) (s : State), Takes .readRecords s r rest → r.cls ≤ s.permissions[1] →
    r.table = some t →
    let u := s.taken rest
    let counted := 1 ≤ r.count ∧ r.count ≤ 16 ∧ (byteAt r.body 7 = 0#8 ∨ byteAt r.body 7 = 1#8)
    let index (j : Nat) : Nat := if byteAt r.body 7 = 1#8 then r.indexByte.toNat - j else r.indexByte.toNat + j
    (t.size ≤ r.indexByte.toNat → exec .readRecords s = .next (u.respond r .badIndex 0 [])) ∧
    (r.indexByte.toNat < t.size → ¬counted → exec .readRecords s = .next (u.respond r .badValue 0 [])) ∧
    (r.indexByte.toNat < t.size → counted → ∃ records : List (List Byte),
      exec .readRecords s = .next (u.respond r .done records.length ((match t with
        | .classifierActive => [if s.classifier.selector then 1#8 else 0#8, if s.classifier.activated then 1#8 else 0#8]
        | .classifierStandby => [if s.classifier.selector then 0#8 else 1#8, if s.classifier.activated then 1#8 else 0#8]
        | _ => []) ++ records.flatten)) ∧
      records.length ≤ r.count ∧ (byteAt r.body 7 = 1#8 → records.length ≤ r.indexByte.toNat + 1) ∧
      (∀ (j : Nat) (h : j < records.length), ∃ b, u.recordAt t (index j) = some b ∧
        records[j] = BitVec.ofNat 8 (index j) :: b) ∧
      (records.length = r.count ∨ (byteAt r.body 7 = 1#8 ∧ records.length = r.indexByte.toNat + 1) ∨
        u.recordAt t (index records.length) = none))) ∧
  CodesOfNames ∧ WrittenLayouts ∧ ∀ s : State, s.RecordsRead

/-- R172: what is checked once for a whole write, in this order: the count and the direction (BAD-VALUE), the body
length (BAD-LENGTH); and the first record's index (BAD-INDEX). Nothing is written. R170, R172: the records of a
PERMISSION write are taken in order, in the given direction: those before the first refused one are written, and nothing
after it is looked at. The first is refused with BAD-INDEX that falls outside 0 to 11, or with BAD-VALUE that holds a
ceiling above 3. -/
def Obligations.WriteRequestChecks : Prop :=
  ((∀ (row : Instr) (t size n : Nat) (r : Request) (rest : List Request) (s : State), (row, t, size, n) ∈ tableWrites →
      Takes row s r rest → r.cls ≤ s.permissions[2] →
      let counted := 1 ≤ r.count ∧ r.count ≤ 16 ∧ (byteAt r.body 7 = 0#8 ∨ byteAt r.body 7 = 1#8)
      (¬counted → exec row s = .next ((s.taken rest).respond r .badValue 0 [])) ∧
      (counted → r.values.length < r.count * size → exec row s = .next ((s.taken rest).respond r .badLength 0 [])) ∧
      (counted → r.count * size ≤ r.values.length → n ≤ r.indexByte.toNat →
        exec row s = .next ((s.taken rest).respond r .badIndex 0 []))) ∧
    ∀ (row : Instr) (i lo hi : Nat) (r : Request) (rest : List Request) (s : State), (row, i, lo, hi) ∈ settingWrites →
      Takes row s r rest → r.cls ≤ s.permissions[2] →
      let counted := 1 ≤ r.count ∧ r.count ≤ 16 ∧ (byteAt r.body 7 = 0#8 ∨ byteAt r.body 7 = 1#8)
      (¬counted → exec row s = .next ((s.taken rest).respond r .badValue 0 [])) ∧
      (counted → r.values.length < r.count * 8 → exec row s = .next ((s.taken rest).respond r .badLength 0 []))) ∧
  (∀ (m : Nat) (r : Request) (rest : List Request) (s : State), Takes .writePermission s r rest →
      r.cls ≤ s.permissions[2] → 1 ≤ r.count → r.count ≤ 16 → (byteAt r.body 7 = 0#8 ∨ byteAt r.body 7 = 1#8) →
      r.count ≤ r.values.length →
      let index (j : Nat) : Nat := if byteAt r.body 7 = 1#8 then r.indexByte.toNat - j else r.indexByte.toNat + j
      let inside (j : Nat) : Prop := index j < 12 ∧ (byteAt r.body 7 = 1#8 → j ≤ r.indexByte.toNat)
      let good (j : Nat) : Prop := inside j ∧ (byteAt r.values j).toNat ≤ 3
      m ≤ r.count → (∀ j, j < m → good j) → (m < r.count → ¬good m) →
      ∃ t : State, exec .writePermission s = .next (t.respond r
          (if m = r.count then .done else if index m < 12 ∧ (byteAt r.body 7 = 1#8 → m ≤ r.indexByte.toNat) then .badValue
            else .badIndex) m []) ∧
        t = { s.taken rest with permissions := t.permissions } ∧
        ∀ k : Fin 12, (∀ j, j < m → k.val = index j → t.permissions[k] = (byteAt r.values j).toNat) ∧
          ((∀ j, j < m → k.val ≠ index j) → t.permissions[k] = s.permissions[k]))

/-- R33: a record of 12.4 that spells an action within the ranges of R33 (for every kind, the model's choice: assumption log
11) replaces the entry whole; one outside them is refused with BAD-VALUE. R24: likewise for the standby bank of the
Classifier, but for a pending swap (SWAP-PENDING). Nothing else changes. A record whose kind, port filter, test or outcome
byte is no code of 12.4 is refused with BAD-VALUE too, whatever else it holds, also while a swap is pending (R24, R33, R181);
and so is one whose present or in-use byte is above 1, to which 12.4 gives no codes (the model's reading: assumption log 26).
-/
def Obligations.WriteActionAndClassifier : Prop :=
  (∀ (n : Fin 32) (a : ActionEntry) (r : Request) (rest : List Request) (s : State), Takes .writeAction s r rest →
    r.cls ≤ s.permissions[2] → OneRecord r n a.bytes →
    a.keyOffset < 256 → a.keyWidth < 256 → a.unitOffset < 256 → a.unitWidth < 256 → a.unitShift < 256 → a.cls < 256 →
    a.bodyOffset < 256 →
    let inRange := a.keyOffset ≤ 127 ∧ a.unitOffset ≤ 127 ∧ a.bodyOffset ≤ 127 ∧ (a.keyWidth = 1 ∨ a.keyWidth = 2) ∧
      (a.unitWidth = 1 ∨ a.unitWidth = 2) ∧ a.unitShift ≤ 15 ∧ a.cls ≤ 3 ∧
      (a.present = true → a.kind = .meter ∨ a.kind = .triggerOrdinary → a.keyOffset + a.keyWidth ≤ 128) ∧
      (a.present = true → a.kind = .meter → a.unitOffset + a.unitWidth ≤ 128)
    (inRange → exec .writeAction s =
      .next (({ s.taken rest with actions := s.actions.set n a } : State).respond r .done 1 [])) ∧
    (¬inRange → exec .writeAction s = .next ((s.taken rest).respond r .badValue 0 []))) ∧
  (∀ (n : Fin 64) (e : Entry) (r : Request) (rest : List Request) (s : State), Takes .writeClassifierStandby s r rest →
    r.cls ≤ s.permissions[2] → OneRecord r n e.bytes → e.offset < 256 → e.width < 256 →
    (∀ a, e.outcome = .result a → a < 256) → (∀ k, e.outcome = .skip k → k < 256) →
    let inRange := e.offset ≤ 127 ∧ (e.width = 1 ∨ e.width = 2 ∨ e.width = 4) ∧ (∀ a, e.outcome = .result a → a ≤ 31) ∧
      (∀ k, e.outcome = .skip k → 1 ≤ k ∧ k ≤ 15)
    (inRange → s.classifier.swap = none → ∃ t : State, exec .writeClassifierStandby s = .next (t.respond r .done 1 []) ∧
      t = { s.taken rest with classifier := t.classifier } ∧
      t.classifier = { s.classifier with bank0 := t.classifier.bank0, bank1 := t.classifier.bank1 } ∧
      t.classifier.bank s.classifier.selector = s.classifier.bank s.classifier.selector ∧
      t.classifier.bank (!s.classifier.selector) = (s.classifier.bank (!s.classifier.selector)).set n e) ∧
    (inRange → s.classifier.swap ≠ none →
      exec .writeClassifierStandby s = .next ((s.taken rest).respond r .swapPending 0 [])) ∧
    (¬inRange → exec .writeClassifierStandby s = .next ((s.taken rest).respond r .badValue 0 []))) ∧
  (∀ (n : Fin 32) (b : List Byte) (r : Request) (rest : List Request) (s : State), Takes .writeAction s r rest →
    r.cls ≤ s.permissions[2] → OneRecord r n b → b.length = 16 → 1 < (byteAt b 0).toNat ∨ 7 < (byteAt b 1).toNat →
    exec .writeAction s = .next ((s.taken rest).respond r .badValue 0 [])) ∧
  ∀ (n : Fin 64) (b : List Byte) (r : Request) (rest : List Request) (s : State), Takes .writeClassifierStandby s r rest →
    r.cls ≤ s.permissions[2] → OneRecord r n b → b.length = 16 →
    1 < (byteAt b 0).toNat ∨ 2 < (byteAt b 1).toNat ∨ 3 < (byteAt b 4).toNat ∨ 1 < (byteAt b 5).toNat →
    exec .writeClassifierStandby s = .next ((s.taken rest).respond r .badValue 0 [])

/-- R61, R62: a PROFILE record that spells values within the ranges of R60 and the two comparisons becomes the written values
and makes the profile pending; the values in force stay. R88, R91: a WINDOW record within its ranges replaces the window, and
one recomputation follows: a managed carrier that leaves the quiet set drains no more and is not in DOZE or SLUMBER
afterwards, and in RAMPDOWN or DEEPENING it carries a wake-pending mark (R92, R113; `WindowClose`); a DOZE carrier that joins
the deep set tests the deepen conditions at once (`DeepPermission`, R93). A record outside is refused with BAD-VALUE and
changes nothing; so is one whose depth byte is no code of 12.4 (R88, R181), and one whose in-use byte is above 1, to which
12.4 gives no codes (the model's reading: assumption log 26). -/
def Obligations.WriteProfileAndWindow : Prop :=
  (∀ (n : ProfileIx) (p : Profile) (mark : Bool) (r : Request) (rest : List Request) (s : State),
    Takes .writeProfile s r rest → r.cls ≤ s.permissions[2] → OneRecord r n (p.bytes mark) →
    p.sleepThreshold < 2 ^ 32 → p.cancelThreshold < 2 ^ 32 → p.ceiling < 2 ^ 32 → p.reliefThreshold < 2 ^ 32 →
    p.idleRunLength < 256 → p.shift < 256 → p.quietWindows < 256 → p.drainTimeout < 65536 → p.settleTime < 256 →
    p.dwellMinimum < 65536 → p.deepenDelay < 65536 →
    let inRange := p.sleepThreshold ≤ 65535 ∧ 1 ≤ p.cancelThreshold ∧ p.cancelThreshold ≤ 65536 ∧ p.ceiling ≤ 65536 ∧
      1 ≤ p.reliefThreshold ∧ p.reliefThreshold ≤ 65536 ∧ 1 ≤ p.idleRunLength ∧ p.shift ≤ 7 ∧ 1 ≤ p.quietWindows ∧
      p.quietWindows ≤ 15 ∧ 1 ≤ p.drainTimeout ∧ p.drainTimeout ≤ 600 ∧ p.settleTime ≤ 60 ∧ p.deepenDelay ≤ 1440 ∧
      p.sleepThreshold < p.cancelThreshold ∧ p.ceiling < p.reliefThreshold
    let record : ProfileRecord := { inForce := (s.profiles[n]).inForce, written := p, pending := true }
    (inRange → exec .writeProfile s =
      .next (({ s.taken rest with profiles := s.profiles.set n record } : State).respond r .done 1 [])) ∧
    (¬inRange → exec .writeProfile s = .next ((s.taken rest).respond r .badValue 0 []))) ∧
  (∀ (n : Fin 4) (w : QuietWindow) (mark : Bool) (r : Request) (rest : List Request) (s : State),
    Takes .writeWindow s r rest → r.cls ≤ s.permissions[2] → OneRecord r n (w.bytes mark) →
    w.start < 65536 → w.stop < 65536 →
    let written : State := { s.taken rest with windows := s.windows.set n w }
    (w.start ≤ 1439 → w.stop ≤ 1439 → ∃ t : State, exec .writeWindow s = .next (t.respond r .done 1 []) ∧
      Keeps written.reformSets t ∧
      (∀ c, s.isManaged c = true → memberOf s.calendar.quiet c.val = true → memberOf t.calendar.quiet c.val = false →
        (t.lifeState c).isDrain = false ∧ t.lifeState c ≠ .doze ∧ t.lifeState c ≠ .slumber ∧
          (t.lifeState c = .rampdown ∨ t.lifeState c = .deepening → (t.carrier c).life.wakePending ≠ none)) ∧
      WindowClose written t ∧ DeepPermission written t ∧
      (t.calendar.quiet = s.calendar.quiet → t.calendar.deep = s.calendar.deep → t = written.reformSets)) ∧
    (1439 < w.start ∨ 1439 < w.stop → exec .writeWindow s = .next ((s.taken rest).respond r .badValue 0 []))) ∧
  ∀ (n : Fin 4) (b : List Byte) (r : Request) (rest : List Request) (s : State), Takes .writeWindow s r rest →
    r.cls ≤ s.permissions[2] → OneRecord r n b → b.length = 12 → 1 < (byteAt b 0).toNat ∨ 1 < (byteAt b 1).toNat →
    exec .writeWindow s = .next ((s.taken rest).respond r .badValue 0 [])

/-- R67 to R70: a CARRIER record is refused with the first of the checks that fails, and changes nothing; the first is a
managed byte that is neither 0 nor 1 (R181, 12.4). R66, R67, R70, R71, R144: an accepted one replaces the configuration part;
a carrier made managed is ACTIVE with its runtime part cleared and takes the lowest free link number of its unit; one that is
no longer managed is UNMANAGED, with its meter part cleared, its counters kept and its link number freed; of either the
CARRIER-STATE notice with cause CONFIGURED and origin REQUESTED is generated before the response (R71; `FlagsAndNotices` says
what becomes of a notice). One that is moved to another unit keeps its runtime part, frees its link number on the old unit and
takes the lowest free one of the new, whose deep timer is cancelled and which is released if it was DEEP (R144). A unit that a
carrier has left has its deep timer started if the carriers that stay are all in SLUMBER (R153). One that stays not managed,
whatever unit its record names, and one that stays managed on the same unit, keeps its runtime part; a sleeper is taken out of
its list and put back at the place that its new rank and its kept moment of entry give (R78; moments are the model's own
numbering of events: assumption log 20). -/
def Obligations.WriteCarrierRecord : Prop :=
  (∀ (c : CarrierIx) (b : List Byte) (r : Request) (rest : List Request) (s : State), Takes .writeCarrier s r rest →
    r.cls ≤ s.permissions[2] → OneRecord r c b → b.length = 16 → 1 < (byteAt b 0).toNat →
    exec .writeCarrier s = .next ((s.taken rest).respond r .badValue 0 [])) ∧
  ∀ (c : CarrierIx) (k : CarrierConfig) (r : Request) (rest : List Request) (s : State), Takes .writeCarrier s r rest →
    r.cls ≤ s.permissions[2] → OneRecord r c k.bytes →
    let inRange := k.unit.toNat ≤ 7 ∧ k.sector.toNat ≤ 7 ∧ k.anchor.toNat ≤ 31 ∧ k.protect.toNat ≤ 1 ∧
      (k.slotRate.toNat = 1 ∨ k.slotRate.toNat = 2 ∨ k.slotRate.toNat = 4 ∨ k.slotRate.toNat = 8) ∧
      1 ≤ k.ratio.toNat ∧ k.ratio.toNat ≤ 1023 ∧ 1 ≤ k.grantUnits.toNat ∧ k.grantUnits.toNat ≤ 4095 ∧
      k.rank.toNat ≤ 7 ∧ k.classMask.toNat ≤ 15 ∧ k.profile.toNat ≤ 7
    let badValue := k.managed = true ∧ ¬inRange
    let badAnchor := (k.managed = true ∧ k.anchorIx ≠ c ∧ ¬(s.isManaged k.anchorIx = true ∧
        s.anchorOf k.anchorIx = k.anchorIx ∧ (s.config k.anchorIx).sectorIx = k.sectorIx)) ∨
      ((∃ d, s.isManaged d = true ∧ s.anchorOf d = c ∧ d ≠ c) ∧ (k.managed = false ∨ k.anchorIx ≠ c ∨
        ∃ d, s.isManaged d = true ∧ s.anchorOf d = c ∧ d ≠ c ∧ (s.config d).sectorIx ≠ k.sectorIx))
    let unitFull := k.managed = true ∧ 4 ≤ ((s.unitCarriers k.unitIx).filter (· != c)).length
    let dupKey := k.managed = true ∧ ∃ d, d ≠ c ∧ s.isManaged d = true ∧ s.unitOf d = k.unitIx ∧
      (s.config d).key = k.key
    let old := s.config c
    let structural := k.managed ≠ old.managed ∨ k.key ≠ old.key ∨ k.unit ≠ old.unit ∨ k.sector ≠ old.sector ∨
      k.anchor ≠ old.anchor ∨ k.protect ≠ old.protect ∨ k.ratio ≠ old.ratio
    let settled (d : CarrierIx) : Prop := s.lifeState d = .unmanaged ∨ s.lifeState d = .active ∨ s.lifeState d = .lost
    let conflict := structural ∧ ¬(settled c ∧ ∀ d, s.isManaged d = true → s.anchorOf d = c → d ≠ c → settled d)
    let refusedWith (x : Status) : Prop := exec .writeCarrier s = .next ((s.taken rest).respond r x 0 [])
    let written : State := { s.taken rest with carrierConfig := s.carrierConfig.set c k }
    let toldOf (was now : LifeState) (t : State) : Prop :=
      let told := written.notify (.carrierState c was now .configured .requested s.calendar.minute s.calendar.second)
      t.engine = told.engine ∧ t.path.trunkQueue = told.path.trunkQueue
    let leftUnit (t : State) : Prop :=
      let u := s.unitOf c
      let stay := (List.finRange 32).filter fun d => s.isManaged d && s.unitOf d == u && d != c
      settled c → (s.unitSettings u).deepDelay.toNat ≠ 0 → (t.unit u).deepTimer =
        if (s.unit u).state = some .up ∧ stay ≠ [] ∧ (∀ d ∈ stay, s.lifeState d = .slumber) ∧ (s.unit u).deepTimer = none
        then some ((s.unitSettings u).deepDelay.toNat * 1000) else (s.unit u).deepTimer
    (badValue → refusedWith .badValue) ∧ (¬badValue → badAnchor → refusedWith .badAnchor) ∧
    (¬badValue → ¬badAnchor → unitFull → refusedWith .unitFull) ∧
    (¬badValue → ¬badAnchor → ¬unitFull → dupKey → refusedWith .dupKey) ∧
    (¬badValue → ¬badAnchor → ¬unitFull → ¬dupKey → conflict → refusedWith .stateConflict) ∧
    (¬badValue → ¬badAnchor → ¬unitFull → ¬dupKey → ¬conflict →
      (s.isManaged c = k.managed → (k.managed = true → s.unitOf c = k.unitIx) → (s.lifeState c).isSleeper = false →
        exec .writeCarrier s = .next (written.respond r .done 1 [])) ∧
      (s.isManaged c = true → k.managed = true → s.unitOf c = k.unitIx → (s.lifeState c).isSleeper = true →
        ∃ t : State, exec .writeCarrier s = .next (t.respond r .done 1 []) ∧ t = written.setCover (s.anchorOf c)
          { s.cover (s.anchorOf c) with sleeperList := (t.cover (s.anchorOf c)).sleeperList } ∧
          ((s.cover (s.anchorOf c)).sleeperList.Nodup → c ∈ (s.cover (s.anchorOf c)).sleeperList →
            (t.cover (s.anchorOf c)).sleeperList.Perm (s.cover (s.anchorOf c)).sleeperList) ∧
          let before (d : CarrierIx) : Prop := k.rank.toNat < (s.config d).rank.toNat ∨
            (k.rank = (s.config d).rank ∧ ((s.cover c).rampMoment < (s.cover d).rampMoment ∨
              ((s.cover c).rampMoment = (s.cover d).rampMoment ∧ c < d)))
          ∃ front back, (s.cover (s.anchorOf c)).sleeperList.filter (· != c) = front ++ back ∧
            (t.cover (s.anchorOf c)).sleeperList = front ++ c :: back ∧ (∀ d ∈ front, ¬before d) ∧
            ∀ d, back.head? = some d → before d) ∧
      (s.isManaged c = false → k.managed = true → ∃ t : State, exec .writeCarrier s = .next (t.respond r .done 1 []) ∧
        t.carrierConfig = written.carrierConfig ∧ t.lifeState c = .active ∧ (t.carrier c).life = Life.clear .active ∧
        (t.carrier c).meter = Meter.clear ∧ (t.carrier c).counters = FrameCounters.clear ∧
        (t.carrier c).cover = Cover.clear ∧ (∀ d, d ≠ c → t.carrier d = s.carrier d) ∧ t.wakeQueue = s.wakeQueue ∧
        toldOf .unmanaged .active t ∧ (t.unit k.unitIx).deepTimer = none ∧
        ((s.unit k.unitIx).state ≠ some .deep → (t.unit k.unitIx).state = (s.unit k.unitIx).state ∧ t.token = s.token) ∧
        ((s.unit k.unitIx).state = some .deep → (t.unit k.unitIx).state = some .releasing) ∧
        (∀ l : Fin 4, (s.unit k.unitIx).map[l] = none → (∀ m : Fin 4, m < l → (s.unit k.unitIx).map[m] ≠ none) →
          (t.unit k.unitIx).map = (s.unit k.unitIx).map.set l (some c))) ∧
      (s.isManaged c = true → k.managed = true → s.unitOf c ≠ k.unitIx →
        ∃ t : State, exec .writeCarrier s = .next (t.respond r .done 1 []) ∧ t.carrierConfig = written.carrierConfig ∧
        t.carriers = s.carriers ∧ t.wakeQueue = s.wakeQueue ∧
        (∀ l : Fin 4, (t.unit (s.unitOf c)).map[l] =
          if (s.unit (s.unitOf c)).map[l] = some c then none else (s.unit (s.unitOf c)).map[l]) ∧
        leftUnit t ∧
        (∀ l : Fin 4, (s.unit k.unitIx).map[l] = none → (∀ m : Fin 4, m < l → (s.unit k.unitIx).map[m] ≠ none) →
          (t.unit k.unitIx).map = (s.unit k.unitIx).map.set l (some c)) ∧
        (t.unit k.unitIx).deepTimer = none ∧ (t.unit k.unitIx).queue = (s.unit k.unitIx).queue ∧
        (t.unit k.unitIx).state =
          (if (s.unit k.unitIx).state = some .deep then some .releasing else (s.unit k.unitIx).state) ∧
        ∀ v, v ≠ s.unitOf c → v ≠ k.unitIx → t.unit v = s.unit v) ∧
      (s.isManaged c = true → k.managed = false → ∃ t : State, exec .writeCarrier s = .next (t.respond r .done 1 []) ∧
        t.carrierConfig = written.carrierConfig ∧ t.lifeState c = .unmanaged ∧ (t.carrier c).meter = Meter.clear ∧
        (t.carrier c).counters = (s.carrier c).counters ∧ (∀ d, d ≠ c → t.lifeState d = s.lifeState d) ∧
        toldOf (s.lifeState c) .unmanaged t ∧ leftUnit t ∧
        ∀ l : Fin 4, (t.unit (s.unitOf c)).map[l] =
          if (s.unit (s.unitOf c)).map[l] = some c then none else (s.unit (s.unitOf c)).map[l]))

/-- R142, R143: a RADIO-UNIT record whose in-use byte is neither 0 nor 1 is refused with BAD-VALUE; one that marks the unit in
use is refused with BAD-VALUE outside its ranges; one that changes the in-use mark or the address is refused with
STATE-CONFLICT unless the unit's managed carriers are ACTIVE or LOST and the unit, if in use, is UP or UNREACHABLE with
nothing queued or outstanding. An accepted record replaces the configuration part; a unit that comes into use is UP or
UNREACHABLE by its branch link, and one that goes out of use has its runtime part cleared but for the carrier map, its
counters too (the model's choice: assumption log 29). -/
def Obligations.WriteRadioUnitRecord : Prop :=
  (∀ (u : UnitIx) (b : List Byte) (r : Request) (rest : List Request) (s : State), Takes .writeRadioUnit s r rest →
    r.cls ≤ s.permissions[2] → OneRecord r u b → b.length = 16 → 1 < (byteAt b 0).toNat →
    exec .writeRadioUnit s = .next ((s.taken rest).respond r .badValue 0 [])) ∧
  ∀ (u : UnitIx) (k : UnitConfig) (r : Request) (rest : List Request) (s : State), Takes .writeRadioUnit s r rest →
    r.cls ≤ s.permissions[2] → OneRecord r u k.bytes →
    let badValue := k.inUse = true ∧ ¬(k.deepPermitted.toNat ≤ 1 ∧ k.retries.toNat ≤ 3 ∧ k.address.getLsbD 40 = false ∧
      10 ≤ k.releaseTime.toNat ∧ k.releaseTime.toNat ≤ 5000 ∧ 10 ≤ k.replyTimeout.toNat ∧
      k.replyTimeout.toNat ≤ 2550 ∧ k.replyTimeout.toNat % 10 = 0 ∧ k.deepDelay.toNat ≤ 3600)
    let x := s.unit u
    let settled := (∀ c, s.isManaged c = true → s.unitOf c = u → s.lifeState c = .active ∨ s.lifeState c = .lost) ∧
      (x.state = none ∨ (x.state = some .up ∨ x.state = some .unreachable) ∧ x.queue = [] ∧ x.sent = none)
    let conflict := ((s.unitSettings u).inUse ≠ k.inUse ∨ (s.unitSettings u).address ≠ k.address) ∧ ¬settled
    let written : State := { s.taken rest with unitConfig := s.unitConfig.set u k }
    (badValue → exec .writeRadioUnit s = .next ((s.taken rest).respond r .badValue 0 [])) ∧
    (¬badValue → conflict → exec .writeRadioUnit s = .next ((s.taken rest).respond r .stateConflict 0 [])) ∧
    (¬badValue → ¬conflict →
      ((s.unitSettings u).inUse = k.inUse → exec .writeRadioUnit s = .next (written.respond r .done 1 [])) ∧
      ((s.unitSettings u).inUse ≠ k.inUse → exec .writeRadioUnit s = .next ((written.setUnit u
        { state := if k.inUse = false then none
                   else if s.path.linkUp (.branch u) = true then some .up else some .unreachable,
          queue := [], sent := none, attempts := 0, replyTimer := none, releaseTimer := none, deepTimer := none,
          map := x.map, resends := 0, discarded := 0 }).respond r .done 1 [])))

/-- R173 with R4, R13, R34, R49, R81, R107, R129, R160, R178: a write of one SETTINGS entry with a value in its range
changes that entry and no other; one outside is refused with BAD-VALUE and changes nothing. Beside the entry nothing
changes, but that raising the warm-up slot count makes the grants it allows (R130): with one carrier waiting, whose unit
is UP and idle, that carrier enters WARMUP, with the notice of cause GRANTED and origin TIMED (R131). -/
def Obligations.WriteSettings : Prop :=
  ∀ (row : Instr) (i lo hi v : Nat) (r : Request) (rest : List Request) (s : State), (row, i, lo, hi) ∈ settingWrites →
    Takes row s r rest → r.cls ≤ s.permissions[2] → OneRecord r i (beBytes 8 v) → v < 2 ^ 64 →
    (¬(lo ≤ v ∧ v ≤ hi) → exec row s = .next ((s.taken rest).respond r .badValue 0 [])) ∧
    (lo ≤ v ∧ v ≤ hi → ∃ u t : State, exec row s = .next (t.respond r .done 1 []) ∧ Keeps u t ∧
      u = { s.taken rest with settings := u.settings } ∧ u.settingValue i = v ∧
      (∀ j, j ≠ i → u.settingValue j = (s.taken rest).settingValue j) ∧
      (i ≠ 8 ∨ v ≤ s.settings.slots ∨ s.wakeQueue.entries = [] → t = u) ∧
      ∀ w cls, i = 8 → s.settings.slots < v → s.warmups < v → s.wakeQueue.entries = [(w, cls)] →
        s.lifeState w.carrier = .queued → (s.unit (s.unitOf w.carrier)).state = some .up →
        (s.unit (s.unitOf w.carrier)).queue = [] → (s.unit (s.unitOf w.carrier)).sent = none →
        t.lifeState w.carrier = .warmup ∧ t.wakeQueue.entries = [] ∧
          ToldAs (u.tells w.carrier .queued .warmup .granted .timed) t ∧
          (∀ d, d ≠ w.carrier → t.lifeState d = s.lifeState d))

/-- R26, R27: ACTIVATE-BANK with a valid mirror option and no swap pending makes the standby bank the active one. With
no walk bound to the outgoing bank the swap completes at once, with the response; otherwise it is left pending, without
one. A short body, a bad option and a pending swap are refused, in this order, without results (read so: assumption log
15). A pending swap completes as the last walk bound to the outgoing bank ends (before the Action Table takes that
walk's frame, the model's choice: assumption log 22), or in SWAP_COMPLETES: the mirror copy is made if it was asked for,
the pending mark is cleared, the activated mark is set and the response is sent; while such a walk is under way neither
completes it. -/
def Obligations.BankSwap : Prop :=
  (∀ (r : Request) (rest : List Request) (s : State), Takes .activateBank s r rest → r.cls ≤ s.permissions[3] →
    let option := byteAt r.values 0
    let begun : State := { s with
      classifier := { s.classifier with selector := !s.classifier.selector, swap := some (option == 1#8) },
      engine := { s.engine with requests := rest, activating := some r } }
    (r.values = [] → exec .activateBank s = .next ((s.taken rest).respond r .badLength 0 [])) ∧
    (r.values ≠ [] → option ≠ 0#8 → option ≠ 1#8 →
      exec .activateBank s = .next ((s.taken rest).respond r .badValue 0 [])) ∧
    (r.values ≠ [] → option = 0#8 ∨ option = 1#8 → s.classifier.swap ≠ none →
      exec .activateBank s = .next ((s.taken rest).respond r .swapPending 0 [])) ∧
    (r.values ≠ [] → option = 0#8 ∨ option = 1#8 → s.classifier.swap = none →
      ((∃ w ∈ s.classifier.walks, w.bank = s.classifier.selector) → exec .activateBank s = .next begun) ∧
      ((∀ w ∈ s.classifier.walks, w.bank ≠ s.classifier.selector) →
        ∃ u, SwapCompleted (option == 1#8) begun u ∧ exec .activateBank s = .next u))) ∧
  (∀ (w : Walk) (a : ActionEntry) (mirror : Bool) (s s' : State), WalkDone s w a s' → s.classifier.swap = some mirror →
    ∃ ws, takeWalk w.port s.classifier.walks = some (w, ws) ∧
      let ended : State := { s with classifier := { s.classifier with walks := ws } }
      let next (u : State) : Prop := (s' = u ∨ s' = u.raiseFlag .classifyFault) ∧
        (a.kind = .discard → exec (.walkEnds w.port) s = .next s')
      ((∃ v ∈ ws, v.bank ≠ s.classifier.selector) → next ended) ∧
      ((∀ v ∈ ws, v.bank = s.classifier.selector) → ∃ u, SwapCompleted mirror ended u ∧ next u)) ∧
  (∀ (mirror : Bool) (s : State), s.phase = .running → s.classifier.swap = some mirror →
    ((∃ w ∈ s.classifier.walks, w.bank ≠ s.classifier.selector) → exec .swapCompletes s = .next s) ∧
    ((∀ w ∈ s.classifier.walks, w.bank = s.classifier.selector) →
      ∃ u, SwapCompleted mirror s u ∧ exec .swapCompletes s = .next u)) ∧
  ∀ s : State, s.classifier.swap = none → exec .swapCompletes s = .next s

/-- R87: SET-TIME sets the minute and the second, sets the time-set mark, clears TIME-UNSET if the mark was clear, and the
sets are formed anew (a managed carrier that leaves the quiet set drains no more and is not in DOZE or SLUMBER afterwards, and
in RAMPDOWN or DEEPENING it carries a wake-pending mark, R92, R113: `WindowClose`; a DOZE carrier that joins the deep set
tests the deepen conditions at once, R93: `DeepPermission`); then the response. A short body or a value outside its range is
refused. R174, R121: SET-MODE. A short body, then a mode other than MONITOR and ACTING, then a clear activated mark is
refused. Otherwise the mode is set; from ACTING to MONITOR every drain is abandoned, in ascending carrier index, with OPEN and
the notice of cause MODE and origin REQUESTED, before the response; every other change moves no carrier. -/
def Obligations.SetTimeAndSetMode : Prop :=
  (∀ (r : Request) (rest : List Request) (s : State), Takes .setTime s r rest → r.cls ≤ s.permissions[4] →
      let minute := (byteAt r.values 0).toNat * 256 + (byteAt r.values 1).toNat
      let second := (byteAt r.values 2).toNat
      (r.values.length < 3 → exec .setTime s = .next ((s.taken rest).respond r .badLength 0 [])) ∧
      (3 ≤ r.values.length → 1439 < minute ∨ 59 < second →
        exec .setTime s = .next ((s.taken rest).respond r .badValue 0 [])) ∧
      (3 ≤ r.values.length → minute ≤ 1439 → second ≤ 59 → ∃ b t : State, exec .setTime s = .next (t.respond r .done 0 []) ∧
        b = { s with
          calendar := { s.calendar with minute := minute, second := second, milli := 0, timeSet := true },
          engine := { s.engine with requests := rest, flags := b.engine.flags } } ∧
        (s.calendar.timeSet = true → b.engine.flags = s.engine.flags) ∧
        (s.calendar.timeSet = false → b.flagRaised .timeUnset = false ∧
          ∀ f, f ≠ .timeUnset → b.flagRaised f = s.flagRaised f) ∧
        Keeps b.reformSets t ∧
        (∀ c, s.isManaged c = true → memberOf s.calendar.quiet c.val = true → memberOf t.calendar.quiet c.val = false →
          (t.lifeState c).isDrain = false ∧ t.lifeState c ≠ .doze ∧ t.lifeState c ≠ .slumber ∧
            (t.lifeState c = .rampdown ∨ t.lifeState c = .deepening → (t.carrier c).life.wakePending ≠ none)) ∧
        WindowClose b t ∧
        (s.calendar.timeSet = false → t.flagRaised .timeUnset = false) ∧ DeepPermission b t ∧
        (t.calendar.quiet = s.calendar.quiet → t.calendar.deep = s.calendar.deep → t = b.reformSets))) ∧
  (∀ (r : Request) (rest : List Request) (s : State), Takes .setMode s r rest → r.cls ≤ s.permissions[5] →
      let value := (byteAt r.values 0).toNat
      let set (m : Mode) : State := { s with engine := { s.engine with requests := rest, mode := m } }
      (r.values = [] → exec .setMode s = .next ((s.taken rest).respond r .badLength 0 [])) ∧
      (r.values ≠ [] → value ≠ 1 → value ≠ 2 → exec .setMode s = .next ((s.taken rest).respond r .badValue 0 [])) ∧
      (r.values ≠ [] → value = 1 ∨ value = 2 → s.classifier.activated = false →
        exec .setMode s = .next ((s.taken rest).respond r .notReady 0 [])) ∧
      (r.values ≠ [] → value = 2 → s.classifier.activated = true →
        exec .setMode s = .next ((set .acting).respond r .done 0 [])) ∧
      (r.values ≠ [] → value = 1 → s.classifier.activated = true → s.engine.mode ≠ .acting →
        exec .setMode s = .next ((set .monitor).respond r .done 0 [])) ∧
      (r.values ≠ [] → value = 1 → s.classifier.activated = true → s.engine.mode = .acting →
        ∃ t : State, exec .setMode s = .next (t.respond r .done 0 []) ∧ Keeps (set .monitor) t ∧
          CauseTaken .ordinary .mode .requested (fun c => (s.lifeState c).isDrain) (set .monitor) t ∧
          ∀ c, (t.lifeState c).isDrain = false ∧ ((s.lifeState c).isDrain = false → t.lifeState c = s.lifeState c)))

/-- R119: SLEEP-NOW is refused with the first of its checks that fails, and changes nothing (a protected byte of an UNMANAGED
carrier that is neither 0 nor 1 counts as not protected, the model's choice: assumption log 40). R120, R74, R101: otherwise
the carrier drains, with its pledge recorded and added to the anchor's total, its place in the drain list (the tail, when no
other came later: R79), the drain timer at its start, BAR with reason SLEEP-NOW sent, byte for byte (R162, 12.3), and the
CARRIER-STATE notice generated with the cause SLEEP-NOW, the origin REQUESTED and the time of day (R97, R98; `FlagsAndNotices`
says what becomes of it); then the response. (`moment` is the model's own numbering of events: assumption log 20.) -/
def Obligations.SleepNow : Prop :=
  ∀ (r : Request) (rest : List Request) (s : State), Takes .sleepNow s r rest →
    (s.permissions[6] < r.cls → exec .sleepNow s = .next ((s.taken rest).respond r .denied 0 [])) ∧
    (r.cls ≤ s.permissions[6] → 32 ≤ r.indexByte.toNat → exec .sleepNow s = .next ((s.taken rest).respond r .badIndex 0 [])) ∧
    ∀ c : CarrierIx, r.cls ≤ s.permissions[6] → r.indexByte.toNat = c.val →
      let a := s.anchorOf c
      let figure := (s.carrier c).meter.figure
      let pledge := pledgeFor figure (s.config c).ratio.toNat
      let failed : Option Status :=
        if (s.config c).classMask.getLsbD r.cls = false then some .denied
        else if (s.config c).protect = 1#8 then some .isProtected
        else if s.lifeState c = .unmanaged ∨ a = c then some .notDependent
        else if s.engine.mode ≠ .acting then some .mode
        else if s.lifeState c ≠ .active then some .stateConflict
        else if s.lifeState a ≠ .active then some .noAnchor
        else if s.settings.advisoryDestination = 0#48 then some .noAdvisory
        else if s.path.trunkState = .lost ∨ s.path.trunkState = .returning then some .trunkLost
        else if s.lockOuts[(s.config c).sectorIx] ≠ none then some .lockedOut
        else if 65536 < pledge ∨
            (s.profileOf a).ceiling < (s.carrier a).meter.figure + (s.cover a).pledgeTotal + pledge then
          some .anchorFull
        else none
      (∀ status, failed = some status → exec .sleepNow s = .next ((s.taken rest).respond r status 0 [])) ∧
      (failed = none → ∃ b t : State, exec .sleepNow s = .next (t.respond r .done 0 []) ∧
        Alone c { s.taken rest with moment := s.moment + 1 } b ∧ b.engine = { s.engine with requests := rest } ∧
        b.path = (s.sends .trunk s.settings.advisoryDestination (s.advisoryLayout 1 c 2)).path ∧
        t = b.notify (.carrierState c .active .draining .sleepNow .requested s.calendar.minute s.calendar.second) ∧
        Alone c { s.taken rest with moment := s.moment + 1 } t ∧ t.lifeState c = .draining ∧
        (t.carrier c).life.drain = 0 ∧ (t.carrier c).life.drainLength = (s.profileOf c).drainTimeout ∧
        (t.carrier c).meter.quietRun = 0 ∧ (t.cover c).pledge = pledge ∧
        (t.cover a).pledgeTotal = (s.cover a).pledgeTotal + pledge ∧
        (∃ front back, (s.cover a).drainList = front ++ back ∧ (t.cover a).drainList = front ++ c :: back) ∧
        ((∀ d ∈ (s.cover a).drainList, (s.cover d).drainMoment ≤ s.moment) →
          (t.cover a).drainList = (s.cover a).drainList ++ [c]) ∧
        t.advisories = { s.advisories with sent := min 4294967295 (s.advisories.sent + 1) })

/-- R137: WAKE is refused with a short body (a refusal has no results, read so: assumption log 15), and otherwise hands the
management WAKE cause to each named carrier whose class mask holds the class, and answers DONE with the set of those skipped.
A carrier that is woken leaves DOZE, SLUMBER and the drain states, one in RAMPDOWN or DEEPENING that stays there carries a
mark (R124); a LOST one whose unit takes directives leaves LOST (R136); a set that reaches no carrier changes nothing; and a
DOZE carrier woken alone, with a slot free and its unit UP and idle, is in WARMUP with its CARRIER-WAKE sent (R126, R130,
R131, R146). A LOST carrier woken alone enters QUEUED at class COVERAGE with depth UNKNOWN, behind those that wait there, with
the notice of cause WAKE and origin REQUESTED (R136, R137); with a slot free and none waiting it is granted the slot, and is
in WARMUP with its CARRIER-WAKE queued, or LOST again if its unit cannot take that (R131). Where no slot is free and no named
carrier is LOST, all that the cause does is said (`CauseTaken`). -/
def Obligations.WakeRequest : Prop :=
  ∀ (r : Request) (rest : List Request) (s : State), Takes .wake s r rest → r.cls ≤ s.permissions[7] →
    (r.values.length < 4 → exec .wake s = .next ((s.taken rest).respond r .badLength 0 [])) ∧
    (4 ≤ r.values.length →
      let named (c : CarrierIx) : Bool := (BitVec.ofNat 32 (natAt r.values 0 4)).getLsbD c.val
      let admitted (c : CarrierIx) : Bool := (s.config c).classMask.getLsbD r.cls
      ∃ (skipped : BitVec 32) (t : State),
        exec .wake s = .next (t.respond r .done 0 (beBytes 4 skipped.toNat)) ∧
        (∀ c : CarrierIx, skipped.getLsbD c.val = (named c && !admitted c)) ∧ Keeps (s.taken rest) t ∧
        (∀ c, named c = true → admitted c = true →
          t.lifeState c ≠ .doze ∧ t.lifeState c ≠ .slumber ∧ (t.lifeState c).isDrain = false ∧
          (t.lifeState c = .rampdown ∨ t.lifeState c = .deepening → (t.carrier c).life.wakePending ≠ none)) ∧
        (∀ c, named c = true → admitted c = true → s.lifeState c = .lost → (s.unit (s.unitOf c)).state ≠ none →
          (s.unit (s.unitOf c)).state ≠ some .unreachable → t.lifeState c = .queued ∨ t.lifeState c = .warmup) ∧
        (∀ c, (∀ d, named d = true ↔ d = c) → admitted c = true → s.lifeState c = .lost →
          let told := (s.taken rest).notify
            (.carrierState c .lost .queued .wake .requested s.calendar.minute s.calendar.second)
          let takes := (s.unit (s.unitOf c)).state ≠ none ∧ (s.unit (s.unitOf c)).state ≠ some .unreachable
          (s.settings.slots ≤ s.warmups → t.lifeState c = .queued ∧
            t.wakeQueue = s.wakeQueue.join .coverage { carrier := c, depth := .unknown } ∧ t.engine = told.engine ∧
            t.path = told.path ∧ t.units = s.units ∧ ∀ d, d ≠ c → t.carrier d = s.carrier d) ∧
          (s.warmups < s.settings.slots → s.wakeQueue.entries = [] →
            (takes → t.lifeState c = .warmup ∧
              ∃ d ∈ (t.unit (s.unitOf c)).queue, d.kind = .carrierWake ∧ d.carrier = some c) ∧
            (¬takes → t.lifeState c = .lost ∧ t.flagRaised .carrierLost = true))) ∧
        ((∀ c, named c = true → admitted c = false ∨ s.lifeState c = .unmanaged ∨ s.lifeState c = .active ∨
            s.lifeState c = .restoring ∨ s.lifeState c = .warmup) → t = s.taken rest) ∧
        (s.settings.slots ≤ s.warmups → (∀ c, named c = true → admitted c = true → s.lifeState c ≠ .lost) →
          CauseTaken .ordinary .wake .requested (fun c => named c && admitted c) (s.taken rest) t) ∧
        ∀ c, (∀ d, named d = true ↔ d = c) → admitted c = true → s.lifeState c = .doze →
          s.warmups < s.settings.slots → s.wakeQueue.entries = [] → (s.unit (s.unitOf c)).state = some .up →
          (s.unit (s.unitOf c)).queue = [] → (s.unit (s.unitOf c)).sent = none →
          t.lifeState c = .warmup ∧ (t.unit (s.unitOf c)).queue.map Directive.kind = [.carrierWake] ∧
            (t.unit (s.unitOf c)).queue.map Directive.token = [s.token] ∧ (t.unit (s.unitOf c)).sent ≠ none)

/-- R108: HOLD-DRAIN is refused for a carrier that is not DRAINING, then while since last release is below the hold guard;
otherwise the carrier is DRAIN-HELD with its hold mark set, its drain elapsed, pledge and place kept. R110: RELEASE-HOLD is
refused for a carrier that is not DRAIN-HELD; otherwise the carrier is DRAINING again with its hold mark clear and since last
release at 0, and then, with the DRAINED-received mark set, its drain completes: it is in RAMPDOWN with CARRIER-SLEEP in its
unit's queue, whatever that unit does at the time, or LOST if the unit is not in use or UNREACHABLE (R105, R111). The
CARRIER-STATE notice of each change is generated, with the cause HELD, RELEASED or DRAINED, the origin REQUESTED and the time
of day (R97, R98; `FlagsAndNotices` says what becomes of it), before the response. Both follow the checks of R119 on the index
and the class mask. (`moment` is the model's own numbering of events: assumption log 20.) -/
def Obligations.HoldAndRelease : Prop :=
  ∀ (row : Instr) (kind : Fin 12) (r : Request) (rest : List Request) (s : State),
    (row = .holdDrain ∧ kind = 8 ∨ row = .releaseHold ∧ kind = 9) → Takes row s r rest → r.cls ≤ s.permissions[kind] →
    (32 ≤ r.indexByte.toNat → exec row s = .next ((s.taken rest).respond r .badIndex 0 [])) ∧
    ∀ c : CarrierIx, r.indexByte.toNat = c.val →
      let u := s.taken rest
      let l := (s.carrier c).life
      let tooSoon := ∃ ms, l.sinceRelease = some ms ∧ ms / 1000 < s.settings.holdGuard
      let released := (u.setCarrier c { s.carrier c with
        life := { l with state := .draining, hold := false, sinceRelease := some 0 } }).notify
          (.carrierState c .drainHeld .draining .released .requested s.calendar.minute s.calendar.second)
      ((s.config c).classMask.getLsbD r.cls = false → exec row s = .next (u.respond r .denied 0 [])) ∧
      ((s.config c).classMask.getLsbD r.cls = true →
        (row = .holdDrain → s.lifeState c ≠ .draining → exec row s = .next (u.respond r .notDraining 0 [])) ∧
        (row = .holdDrain → s.lifeState c = .draining → tooSoon → exec row s = .next (u.respond r .tooSoon 0 [])) ∧
        (row = .holdDrain → s.lifeState c = .draining → ¬tooSoon → l.wakePending = none →
          exec row s = .next (((u.setCarrier c { s.carrier c with
            life := { l with state := .drainHeld, hold := true } }).notify
              (.carrierState c .draining .drainHeld .held .requested s.calendar.minute s.calendar.second)).respond
            r .done 0 [])) ∧
        (row = .releaseHold → s.lifeState c ≠ .drainHeld → exec row s = .next (u.respond r .notHeld 0 [])) ∧
        (row = .releaseHold → s.lifeState c = .drainHeld → (s.carrier c).drainedReceived = false →
          l.wakePending = none → exec row s = .next (released.respond r .done 0 [])) ∧
        (row = .releaseHold → s.lifeState c = .drainHeld → (s.carrier c).drainedReceived = true →
          ∃ t : State, exec row s = .next (t.respond r .done 0 []) ∧ Keeps { u with moment := s.moment + 1 } t ∧
            (t.cover c).pledge = 0 ∧
            (let x := s.unit (s.unitOf c)
            let unfit := x.state = none ∨ x.state = some .unreachable
            (unfit → t.lifeState c = .lost) ∧
            (¬unfit → t.lifeState c = .rampdown ∧ ∃ d ∈ (t.unit (s.unitOf c)).queue, d.kind = .carrierSleep ∧
              d.carrier = some c ∧ d.key = (s.config c).key)) ∧
            ((s.unit (s.unitOf c)).state = some .up → (s.unit (s.unitOf c)).queue = [] →
              (s.unit (s.unitOf c)).sent = none → (t.unit (s.unitOf c)).sent ≠ none ∧ (l.wakePending = none →
                let told := released.notify
                  (.carrierState c .draining .rampdown .drained .requested s.calendar.minute s.calendar.second)
                t.engine = told.engine ∧ t.path.trunkQueue = told.path.trunkQueue))))

/-- R177: CLEAR-FLAGS clears the flags of its mask but for TIME-UNSET while the time-set mark is clear, leaves the
others, and answers with the flags that stay raised; a short body, and a mask with a position that is no flag, are
refused (a refusal has no results, read so: assumption log 15). R175: RESTART injects its response, after which no
further request is taken. -/
def Obligations.ClearFlagsAndRestart : Prop :=
  (∀ (r : Request) (rest : List Request) (s : State), Takes .clearFlags s r rest → r.cls ≤ s.permissions[10] →
    let mask := (byteAt r.values 0).toNat * 256 + (byteAt r.values 1).toNat
    (r.values.length < 2 → exec .clearFlags s = .next ((s.taken rest).respond r .badLength 0 [])) ∧
    (2 ≤ r.values.length → 4096 ≤ mask → exec .clearFlags s = .next ((s.taken rest).respond r .badValue 0 [])) ∧
    (2 ≤ r.values.length → mask < 4096 → ∃ t : State, exec .clearFlags s =
        .next (t.respond r .done 0 (beBytes 2 t.engine.flags.toNat)) ∧
      t = { s with engine := { s.engine with requests := rest, flags := t.engine.flags } } ∧
      ∀ f, t.flagRaised f = (s.flagRaised f &&
        !(mask.testBit f.position.val && (f != .timeUnset || s.calendar.timeSet))))) ∧
  (∀ (r : Request) (rest : List Request) (s : State), Takes .restart s r rest → r.cls ≤ s.permissions[11] →
    ∃ (f : List Byte) (t : State), (s.taken rest).respond r .done 0 [] = (s.taken rest).offerInjected .trunk
        { bytes := f, restartAnswer := false } ∧
      t = (s.taken rest).offerInjected .trunk { bytes := f, restartAnswer := true } ∧
      exec .restart s = .next { t with engine := { t.engine with restarting := true } })

/-- R176, R178, R179: a flag is raised, and a FLAG notice is generated only as it goes from clear to raised. A notice is
generated only with its kind enabled and a destination set; it takes the sequence number, which advances. In the trunk
state UP it is injected at once, byte for byte (12.3). Outside UP it joins the notice queue, oldest first, if that holds
fewer than sixteen; otherwise it is lost, NOTICE-DROPPED is raised, and the FLAG notice of that, where there is one,
takes a sequence number and is lost too. As the trunk comes back to UP the notices that waited are injected, oldest
first. -/
def Obligations.FlagsAndNotices : Prop :=
  (∀ (f : Flag) (s : State), s.flagRaised f = true → s.raiseFlag f = s) ∧
  (∀ (f : Flag) (s : State), s.flagRaised f = false → ∃ b : State, s.raiseFlag f = b.notify (.flag f) ∧
    b = { s with engine := { s.engine with flags := b.engine.flags } } ∧
    ∀ g, b.flagRaised g = (s.flagRaised g || g == f)) ∧
  (∀ (n : NoticeContent) (s : State),
    let enabled := (∃ c old new cause origin minute second, n = .carrierState c old new cause origin minute second ∧
        s.settings.noticeEnables.getLsbD 0 = true) ∨ (∃ f, n = .flag f ∧ s.settings.noticeEnables.getLsbD 1 = true) ∨
      (∃ restored, n = .trunk restored ∧ s.settings.noticeEnables.getLsbD 2 = true)
    let wanted := enabled ∧ s.settings.noticeDestination ≠ 0#48
    let made : Notice := { destination := s.settings.noticeDestination, sequence := s.engine.sequence, content := n }
    let counted : State := { s with engine := { s.engine with sequence := s.engine.sequence + 1 } }
    (¬wanted → s.notify n = s) ∧
    (wanted → s.path.trunkState = .up → s.engine.notices = [] →
      s.notify n = counted.sends .trunk s.settings.noticeDestination (noticeLayout s.engine.sequence n)) ∧
    (wanted → s.path.trunkState ≠ .up → s.engine.notices.length < 16 →
      s.notify n = { counted with engine := { counted.engine with notices := s.engine.notices ++ [made] } }) ∧
    (wanted → s.path.trunkState ≠ .up → 16 ≤ s.engine.notices.length → ∃ t : State, s.notify n = t ∧
      t.flagRaised .noticeDropped = true ∧
      t = { s with engine := { s.engine with flags := t.engine.flags, sequence := t.engine.sequence } } ∧
      t.engine.sequence = s.engine.sequence +
        (if s.flagRaised .noticeDropped = false ∧ s.settings.noticeEnables.getLsbD 1 = true then 2 else 1) ∧
      ∀ g, g ≠ .noticeDropped → t.flagRaised g = s.flagRaised g)) ∧
  ∀ s : State, s.phase = .running → s.path.trunkState = .failing →
    let up : State := { s with path := { s.path with trunkReport := true, trunkState := .up, grace := none } }
    exec .trunkLinkUp s = .next { s.engine.notices.foldl (fun u n => u.sends .trunk n.destination
      (noticeLayout n.sequence n.content)) up with engine := { s.engine with notices := [] } }

/-! ## Laws -/

/-- Every law holds right after a reset (some of its values are the model's: assumption log 6). -/
def Obligations.ResetObeysEveryLaw : Prop :=
  InRange State.reset ∧ MetersInRange State.reset ∧ GraceLaw State.reset ∧ EgressLaw State.reset ∧
    RestingLaw State.reset ∧ CarrierTableLaw State.reset ∧ WakeQueueLaw State.reset ∧ MarksLaw State.reset ∧
    CoverLaw State.reset ∧ OrderLaw State.reset ∧ SwapLaw State.reset ∧ SlotLaw State.reset ∧ AnchorLaw State.reset

/-- Every step keeps the writable tables within their ranges: CARRIER records that are managed (R66, R67) and RADIO-UNIT
records in use (R142); PROFILE records, written and in force, with the two comparisons (R60, R61); ACTION records and
classifier entries, but for those that a cold reset has left (R33, R47, R24, R29); WINDOW records (R88), ceilings (R170) and
settings (R173). It keeps the time of day (R85), the token (R147) and the lengths of the request queue (R168) and the notice
queue (R179) within theirs. R51, R52, R54, R55: every step keeps every meter part within its ranges, and while a carrier is
not primed its sample, its figure and its two runs stay at 0. -/
def Obligations.RangesKept : Prop :=
  (∀ s t : State, InRange s → step s = .next t → InRange t) ∧
  (∀ s t : State, MetersInRange s → step s = .next t → MetersInRange t)

/-- Section 1.6: after every step the grace timer runs exactly in FAILING and RETURNING. R6: no step overfills an egress
queue. R26, R27: a swap is pending only while a walk is bound to the outgoing bank. -/
def Obligations.FramePathKept : Prop :=
  (∀ s t : State, GraceLaw s → step s = .next t → GraceLaw t) ∧
    (∀ s t : State, EgressLaw s → step s = .next t → EgressLaw t) ∧
    ∀ s t : State, SwapLaw s → step s = .next t → SwapLaw t

/-- R72: no step brings a self-anchored or protected carrier into DRAINING, DRAIN-HELD, RAMPDOWN, DOZE, DEEPENING or
SLUMBER. -/
def Obligations.RestingKept : Prop := ∀ s t : State, RestingLaw s → step s = .next t → RestingLaw t

/-- R66, R68, R69: every step keeps the laws of the Carrier Table. -/
def Obligations.CarrierTableKept : Prop := ∀ s t : State, CarrierTableLaw s → step s = .next t → CarrierTableLaw t

/-- R127: after every step a carrier is in the wake queue exactly when it is QUEUED, once. R130: where the laws of the Carrier
Table hold, after every step that queue is empty, or no slot is free. R96, R113, R166: the marks
stand only in their states. -/
def Obligations.WakeQueueAndMarksKept : Prop :=
  (∀ s t : State, WakeQueueLaw s → step s = .next t → WakeQueueLaw t) ∧
    (∀ s t : State, MarksLaw s → step s = .next t → MarksLaw t) ∧
    ∀ s t : State, CarrierTableLaw s → WakeQueueLaw s → SlotLaw s → step s = .next t → SlotLaw t

/-- R74, R78, R79: every step keeps the pledges, the pledge totals, the drain lists and the sleeper lists in agreement
with the lifecycle states, and the drain lists and sleeper lists in their order (by moments, the model's own numbering
of events: assumption log 20). R74, R82: after every step the anchor of a carrier in a drain state is ACTIVE. -/
def Obligations.CoverageKept : Prop :=
  (∀ s t : State, CarrierTableLaw s → RestingLaw s → CoverLaw s → step s = .next t → CoverLaw t) ∧
  (∀ s t : State, CarrierTableLaw s → RestingLaw s → CoverLaw s → OrderLaw s → step s = .next t → OrderLaw t) ∧
  ∀ s t : State, CarrierTableLaw s → RestingLaw s → AnchorLaw s → step s = .next t → AnchorLaw t

/-- R11, R74, R100, R119, R121: whatever the command, a carrier enters a drain state from ACTIVE only, as an unprotected
dependent, in ACTING, with the trunk not lost and an advisory destination set. -/
def Obligations.DrainsBeginWhereAllowed : Prop :=
  ∀ (i : Instr) (c : CarrierIx) (s t : State), exec i s = .next t → (t.lifeState c).isDrain = true →
    (s.lifeState c).isDrain = false →
    s.lifeState c = .active ∧ s.isManaged c = true ∧ s.anchorOf c ≠ c ∧ (s.config c).protect ≠ 1#8 ∧
      s.engine.mode = .acting ∧ s.path.trunkState ≠ .lost ∧ s.path.trunkState ≠ .returning ∧
      s.settings.advisoryDestination ≠ 0#48

/-- R130: "A carrier enters WARMUP only when fewer carriers than the warm-up slot count are in WARMUP": no command
brings the number of carriers in WARMUP above the warm-up slot count, unless it was above it already, and then it does
not grow. -/
def Obligations.SlotsBoundWarmups : Prop :=
  ∀ (i : Instr) (s t : State), exec i s = .next t → t.warmups ≤ max s.warmups t.settings.slots
end

