-- ==== Sys2Proof/Laws/State.lean ====
section
/-! SUPPORT. One lemma for each field of State under each named update, and for each accessor under the updates that do
not reach it: all true by definition. -/

namespace Sys2Proof.Machine

variable (s : State)

/-! ## State.setCarrier -/

@[simp] theorem State.setCarrier_stationAddress (c : CarrierIx) (x : Carrier) : (s.setCarrier c x).stationAddress = s.stationAddress := rfl
@[simp] theorem State.setCarrier_settings (c : CarrierIx) (x : Carrier) : (s.setCarrier c x).settings = s.settings := rfl
@[simp] theorem State.setCarrier_carrierConfig (c : CarrierIx) (x : Carrier) : (s.setCarrier c x).carrierConfig = s.carrierConfig := rfl
@[simp] theorem State.setCarrier_profiles (c : CarrierIx) (x : Carrier) : (s.setCarrier c x).profiles = s.profiles := rfl
@[simp] theorem State.setCarrier_unitConfig (c : CarrierIx) (x : Carrier) : (s.setCarrier c x).unitConfig = s.unitConfig := rfl
@[simp] theorem State.setCarrier_actions (c : CarrierIx) (x : Carrier) : (s.setCarrier c x).actions = s.actions := rfl
@[simp] theorem State.setCarrier_windows (c : CarrierIx) (x : Carrier) : (s.setCarrier c x).windows = s.windows := rfl
@[simp] theorem State.setCarrier_permissions (c : CarrierIx) (x : Carrier) : (s.setCarrier c x).permissions = s.permissions := rfl
@[simp] theorem State.setCarrier_classifier (c : CarrierIx) (x : Carrier) : (s.setCarrier c x).classifier = s.classifier := rfl
@[simp] theorem State.setCarrier_path (c : CarrierIx) (x : Carrier) : (s.setCarrier c x).path = s.path := rfl
@[simp] theorem State.setCarrier_carriers (c : CarrierIx) (x : Carrier) : (s.setCarrier c x).carriers = s.carriers.set c x c.isLt := rfl
@[simp] theorem State.setCarrier_units (c : CarrierIx) (x : Carrier) : (s.setCarrier c x).units = s.units := rfl
@[simp] theorem State.setCarrier_token (c : CarrierIx) (x : Carrier) : (s.setCarrier c x).token = s.token := rfl
@[simp] theorem State.setCarrier_wakeQueue (c : CarrierIx) (x : Carrier) : (s.setCarrier c x).wakeQueue = s.wakeQueue := rfl
@[simp] theorem State.setCarrier_lockOuts (c : CarrierIx) (x : Carrier) : (s.setCarrier c x).lockOuts = s.lockOuts := rfl
@[simp] theorem State.setCarrier_windowClock (c : CarrierIx) (x : Carrier) : (s.setCarrier c x).windowClock = s.windowClock := rfl
@[simp] theorem State.setCarrier_calendar (c : CarrierIx) (x : Carrier) : (s.setCarrier c x).calendar = s.calendar := rfl
@[simp] theorem State.setCarrier_engine (c : CarrierIx) (x : Carrier) : (s.setCarrier c x).engine = s.engine := rfl
@[simp] theorem State.setCarrier_advisories (c : CarrierIx) (x : Carrier) : (s.setCarrier c x).advisories = s.advisories := rfl
@[simp] theorem State.setCarrier_phase (c : CarrierIx) (x : Carrier) : (s.setCarrier c x).phase = s.phase := rfl
@[simp] theorem State.setCarrier_moment (c : CarrierIx) (x : Carrier) : (s.setCarrier c x).moment = s.moment := rfl
@[simp] theorem State.setCarrier_freeCounter (c : CarrierIx) (x : Carrier) : (s.setCarrier c x).freeCounter = s.freeCounter := rfl
@[simp] theorem State.setCarrier_pending (c : CarrierIx) (x : Carrier) : (s.setCarrier c x).pending = s.pending := rfl
@[simp] theorem State.setCarrier_at_config (c : CarrierIx) (x : Carrier) (d : CarrierIx) :
    (s.setCarrier c x).config d = s.config d := rfl
@[simp] theorem State.setCarrier_at_anchorOf (c : CarrierIx) (x : Carrier) (d : CarrierIx) :
    (s.setCarrier c x).anchorOf d = s.anchorOf d := rfl
@[simp] theorem State.setCarrier_at_unitOf (c : CarrierIx) (x : Carrier) (d : CarrierIx) :
    (s.setCarrier c x).unitOf d = s.unitOf d := rfl
@[simp] theorem State.setCarrier_at_profileOf (c : CarrierIx) (x : Carrier) (d : CarrierIx) :
    (s.setCarrier c x).profileOf d = s.profileOf d := rfl
@[simp] theorem State.setCarrier_at_unit (c : CarrierIx) (x : Carrier) (v : UnitIx) :
    (s.setCarrier c x).unit v = s.unit v := rfl
@[simp] theorem State.setCarrier_at_unitSettings (c : CarrierIx) (x : Carrier) (v : UnitIx) :
    (s.setCarrier c x).unitSettings v = s.unitSettings v := rfl
@[simp] theorem State.setCarrier_at_trunkLost (c : CarrierIx) (x : Carrier) :
    (s.setCarrier c x).trunkLost = s.trunkLost := rfl
@[simp] theorem State.setCarrier_at_mayDeepen (c : CarrierIx) (x : Carrier) :
    (s.setCarrier c x).mayDeepen = s.mayDeepen := rfl
@[simp] theorem State.setCarrier_at_flagRaised (c : CarrierIx) (x : Carrier) (f : Flag) :
    (s.setCarrier c x).flagRaised f = s.flagRaised f := rfl
@[simp] theorem State.setCarrier_at_noticeWanted (c : CarrierIx) (x : Carrier) (n : NoticeContent) :
    (s.setCarrier c x).noticeWanted n = s.noticeWanted n := rfl

/-! ## State.setUnit -/

@[simp] theorem State.setUnit_stationAddress (u : UnitIx) (x : RadioUnit) : (s.setUnit u x).stationAddress = s.stationAddress := rfl
@[simp] theorem State.setUnit_settings (u : UnitIx) (x : RadioUnit) : (s.setUnit u x).settings = s.settings := rfl
@[simp] theorem State.setUnit_carrierConfig (u : UnitIx) (x : RadioUnit) : (s.setUnit u x).carrierConfig = s.carrierConfig := rfl
@[simp] theorem State.setUnit_profiles (u : UnitIx) (x : RadioUnit) : (s.setUnit u x).profiles = s.profiles := rfl
@[simp] theorem State.setUnit_unitConfig (u : UnitIx) (x : RadioUnit) : (s.setUnit u x).unitConfig = s.unitConfig := rfl
@[simp] theorem State.setUnit_actions (u : UnitIx) (x : RadioUnit) : (s.setUnit u x).actions = s.actions := rfl
@[simp] theorem State.setUnit_windows (u : UnitIx) (x : RadioUnit) : (s.setUnit u x).windows = s.windows := rfl
@[simp] theorem State.setUnit_permissions (u : UnitIx) (x : RadioUnit) : (s.setUnit u x).permissions = s.permissions := rfl
@[simp] theorem State.setUnit_classifier (u : UnitIx) (x : RadioUnit) : (s.setUnit u x).classifier = s.classifier := rfl
@[simp] theorem State.setUnit_path (u : UnitIx) (x : RadioUnit) : (s.setUnit u x).path = s.path := rfl
@[simp] theorem State.setUnit_carriers (u : UnitIx) (x : RadioUnit) : (s.setUnit u x).carriers = s.carriers := rfl
@[simp] theorem State.setUnit_units (u : UnitIx) (x : RadioUnit) : (s.setUnit u x).units = s.units.set u x u.isLt := rfl
@[simp] theorem State.setUnit_token (u : UnitIx) (x : RadioUnit) : (s.setUnit u x).token = s.token := rfl
@[simp] theorem State.setUnit_wakeQueue (u : UnitIx) (x : RadioUnit) : (s.setUnit u x).wakeQueue = s.wakeQueue := rfl
@[simp] theorem State.setUnit_lockOuts (u : UnitIx) (x : RadioUnit) : (s.setUnit u x).lockOuts = s.lockOuts := rfl
@[simp] theorem State.setUnit_windowClock (u : UnitIx) (x : RadioUnit) : (s.setUnit u x).windowClock = s.windowClock := rfl
@[simp] theorem State.setUnit_calendar (u : UnitIx) (x : RadioUnit) : (s.setUnit u x).calendar = s.calendar := rfl
@[simp] theorem State.setUnit_engine (u : UnitIx) (x : RadioUnit) : (s.setUnit u x).engine = s.engine := rfl
@[simp] theorem State.setUnit_advisories (u : UnitIx) (x : RadioUnit) : (s.setUnit u x).advisories = s.advisories := rfl
@[simp] theorem State.setUnit_phase (u : UnitIx) (x : RadioUnit) : (s.setUnit u x).phase = s.phase := rfl
@[simp] theorem State.setUnit_moment (u : UnitIx) (x : RadioUnit) : (s.setUnit u x).moment = s.moment := rfl
@[simp] theorem State.setUnit_freeCounter (u : UnitIx) (x : RadioUnit) : (s.setUnit u x).freeCounter = s.freeCounter := rfl
@[simp] theorem State.setUnit_pending (u : UnitIx) (x : RadioUnit) : (s.setUnit u x).pending = s.pending := rfl
@[simp] theorem State.setUnit_at_config (u : UnitIx) (x : RadioUnit) (d : CarrierIx) :
    (s.setUnit u x).config d = s.config d := rfl
@[simp] theorem State.setUnit_at_carrier (u : UnitIx) (x : RadioUnit) (d : CarrierIx) :
    (s.setUnit u x).carrier d = s.carrier d := rfl
@[simp] theorem State.setUnit_at_lifeState (u : UnitIx) (x : RadioUnit) (d : CarrierIx) :
    (s.setUnit u x).lifeState d = s.lifeState d := rfl
@[simp] theorem State.setUnit_at_isManaged (u : UnitIx) (x : RadioUnit) (d : CarrierIx) :
    (s.setUnit u x).isManaged d = s.isManaged d := rfl
@[simp] theorem State.setUnit_at_cover (u : UnitIx) (x : RadioUnit) (d : CarrierIx) :
    (s.setUnit u x).cover d = s.cover d := rfl
@[simp] theorem State.setUnit_at_anchorOf (u : UnitIx) (x : RadioUnit) (d : CarrierIx) :
    (s.setUnit u x).anchorOf d = s.anchorOf d := rfl
@[simp] theorem State.setUnit_at_unitOf (u : UnitIx) (x : RadioUnit) (d : CarrierIx) :
    (s.setUnit u x).unitOf d = s.unitOf d := rfl
@[simp] theorem State.setUnit_at_profileOf (u : UnitIx) (x : RadioUnit) (d : CarrierIx) :
    (s.setUnit u x).profileOf d = s.profileOf d := rfl
@[simp] theorem State.setUnit_at_isAnchor (u : UnitIx) (x : RadioUnit) (d : CarrierIx) :
    (s.setUnit u x).isAnchor d = s.isAnchor d := rfl
@[simp] theorem State.setUnit_at_isDependent (u : UnitIx) (x : RadioUnit) (d : CarrierIx) :
    (s.setUnit u x).isDependent d = s.isDependent d := rfl
@[simp] theorem State.setUnit_at_unitSettings (u : UnitIx) (x : RadioUnit) (v : UnitIx) :
    (s.setUnit u x).unitSettings v = s.unitSettings v := rfl
@[simp] theorem State.setUnit_at_trunkLost (u : UnitIx) (x : RadioUnit) :
    (s.setUnit u x).trunkLost = s.trunkLost := rfl
@[simp] theorem State.setUnit_at_mayDeepen (u : UnitIx) (x : RadioUnit) :
    (s.setUnit u x).mayDeepen = s.mayDeepen := rfl
@[simp] theorem State.setUnit_at_flagRaised (u : UnitIx) (x : RadioUnit) (f : Flag) :
    (s.setUnit u x).flagRaised f = s.flagRaised f := rfl
@[simp] theorem State.setUnit_at_noticeWanted (u : UnitIx) (x : RadioUnit) (n : NoticeContent) :
    (s.setUnit u x).noticeWanted n = s.noticeWanted n := rfl
@[simp] theorem State.setUnit_at_managedCarriers (u : UnitIx) (x : RadioUnit) :
    (s.setUnit u x).managedCarriers = s.managedCarriers := rfl
@[simp] theorem State.setUnit_at_unitCarriers (u : UnitIx) (x : RadioUnit) (v : UnitIx) :
    (s.setUnit u x).unitCarriers v = s.unitCarriers v := rfl
@[simp] theorem State.setUnit_at_dependents (u : UnitIx) (x : RadioUnit) (d : CarrierIx) :
    (s.setUnit u x).dependents d = s.dependents d := rfl
@[simp] theorem State.setUnit_at_warmups (u : UnitIx) (x : RadioUnit) :
    (s.setUnit u x).warmups = s.warmups := rfl

/-! ## State.setPath -/

@[simp] theorem State.setPath_stationAddress (p : FramePath) : (s.setPath p).stationAddress = s.stationAddress := rfl
@[simp] theorem State.setPath_settings (p : FramePath) : (s.setPath p).settings = s.settings := rfl
@[simp] theorem State.setPath_carrierConfig (p : FramePath) : (s.setPath p).carrierConfig = s.carrierConfig := rfl
@[simp] theorem State.setPath_profiles (p : FramePath) : (s.setPath p).profiles = s.profiles := rfl
@[simp] theorem State.setPath_unitConfig (p : FramePath) : (s.setPath p).unitConfig = s.unitConfig := rfl
@[simp] theorem State.setPath_actions (p : FramePath) : (s.setPath p).actions = s.actions := rfl
@[simp] theorem State.setPath_windows (p : FramePath) : (s.setPath p).windows = s.windows := rfl
@[simp] theorem State.setPath_permissions (p : FramePath) : (s.setPath p).permissions = s.permissions := rfl
@[simp] theorem State.setPath_classifier (p : FramePath) : (s.setPath p).classifier = s.classifier := rfl
@[simp] theorem State.setPath_path (p : FramePath) : (s.setPath p).path = p := rfl
@[simp] theorem State.setPath_carriers (p : FramePath) : (s.setPath p).carriers = s.carriers := rfl
@[simp] theorem State.setPath_units (p : FramePath) : (s.setPath p).units = s.units := rfl
@[simp] theorem State.setPath_token (p : FramePath) : (s.setPath p).token = s.token := rfl
@[simp] theorem State.setPath_wakeQueue (p : FramePath) : (s.setPath p).wakeQueue = s.wakeQueue := rfl
@[simp] theorem State.setPath_lockOuts (p : FramePath) : (s.setPath p).lockOuts = s.lockOuts := rfl
@[simp] theorem State.setPath_windowClock (p : FramePath) : (s.setPath p).windowClock = s.windowClock := rfl
@[simp] theorem State.setPath_calendar (p : FramePath) : (s.setPath p).calendar = s.calendar := rfl
@[simp] theorem State.setPath_engine (p : FramePath) : (s.setPath p).engine = s.engine := rfl
@[simp] theorem State.setPath_advisories (p : FramePath) : (s.setPath p).advisories = s.advisories := rfl
@[simp] theorem State.setPath_phase (p : FramePath) : (s.setPath p).phase = s.phase := rfl
@[simp] theorem State.setPath_moment (p : FramePath) : (s.setPath p).moment = s.moment := rfl
@[simp] theorem State.setPath_freeCounter (p : FramePath) : (s.setPath p).freeCounter = s.freeCounter := rfl
@[simp] theorem State.setPath_pending (p : FramePath) : (s.setPath p).pending = s.pending := rfl
@[simp] theorem State.setPath_at_config (p : FramePath) (d : CarrierIx) :
    (s.setPath p).config d = s.config d := rfl
@[simp] theorem State.setPath_at_carrier (p : FramePath) (d : CarrierIx) :
    (s.setPath p).carrier d = s.carrier d := rfl
@[simp] theorem State.setPath_at_lifeState (p : FramePath) (d : CarrierIx) :
    (s.setPath p).lifeState d = s.lifeState d := rfl
@[simp] theorem State.setPath_at_isManaged (p : FramePath) (d : CarrierIx) :
    (s.setPath p).isManaged d = s.isManaged d := rfl
@[simp] theorem State.setPath_at_cover (p : FramePath) (d : CarrierIx) :
    (s.setPath p).cover d = s.cover d := rfl
@[simp] theorem State.setPath_at_anchorOf (p : FramePath) (d : CarrierIx) :
    (s.setPath p).anchorOf d = s.anchorOf d := rfl
@[simp] theorem State.setPath_at_unitOf (p : FramePath) (d : CarrierIx) :
    (s.setPath p).unitOf d = s.unitOf d := rfl
@[simp] theorem State.setPath_at_profileOf (p : FramePath) (d : CarrierIx) :
    (s.setPath p).profileOf d = s.profileOf d := rfl
@[simp] theorem State.setPath_at_isAnchor (p : FramePath) (d : CarrierIx) :
    (s.setPath p).isAnchor d = s.isAnchor d := rfl
@[simp] theorem State.setPath_at_isDependent (p : FramePath) (d : CarrierIx) :
    (s.setPath p).isDependent d = s.isDependent d := rfl
@[simp] theorem State.setPath_at_unit (p : FramePath) (v : UnitIx) :
    (s.setPath p).unit v = s.unit v := rfl
@[simp] theorem State.setPath_at_unitSettings (p : FramePath) (v : UnitIx) :
    (s.setPath p).unitSettings v = s.unitSettings v := rfl
@[simp] theorem State.setPath_at_flagRaised (p : FramePath) (f : Flag) :
    (s.setPath p).flagRaised f = s.flagRaised f := rfl
@[simp] theorem State.setPath_at_noticeWanted (p : FramePath) (n : NoticeContent) :
    (s.setPath p).noticeWanted n = s.noticeWanted n := rfl
@[simp] theorem State.setPath_at_managedCarriers (p : FramePath) :
    (s.setPath p).managedCarriers = s.managedCarriers := rfl
@[simp] theorem State.setPath_at_unitCarriers (p : FramePath) (v : UnitIx) :
    (s.setPath p).unitCarriers v = s.unitCarriers v := rfl
@[simp] theorem State.setPath_at_dependents (p : FramePath) (d : CarrierIx) :
    (s.setPath p).dependents d = s.dependents d := rfl
@[simp] theorem State.setPath_at_warmups (p : FramePath) :
    (s.setPath p).warmups = s.warmups := rfl

/-! ## State.setEngine -/

@[simp] theorem State.setEngine_stationAddress (e : Engine) : (s.setEngine e).stationAddress = s.stationAddress := rfl
@[simp] theorem State.setEngine_settings (e : Engine) : (s.setEngine e).settings = s.settings := rfl
@[simp] theorem State.setEngine_carrierConfig (e : Engine) : (s.setEngine e).carrierConfig = s.carrierConfig := rfl
@[simp] theorem State.setEngine_profiles (e : Engine) : (s.setEngine e).profiles = s.profiles := rfl
@[simp] theorem State.setEngine_unitConfig (e : Engine) : (s.setEngine e).unitConfig = s.unitConfig := rfl
@[simp] theorem State.setEngine_actions (e : Engine) : (s.setEngine e).actions = s.actions := rfl
@[simp] theorem State.setEngine_windows (e : Engine) : (s.setEngine e).windows = s.windows := rfl
@[simp] theorem State.setEngine_permissions (e : Engine) : (s.setEngine e).permissions = s.permissions := rfl
@[simp] theorem State.setEngine_classifier (e : Engine) : (s.setEngine e).classifier = s.classifier := rfl
@[simp] theorem State.setEngine_path (e : Engine) : (s.setEngine e).path = s.path := rfl
@[simp] theorem State.setEngine_carriers (e : Engine) : (s.setEngine e).carriers = s.carriers := rfl
@[simp] theorem State.setEngine_units (e : Engine) : (s.setEngine e).units = s.units := rfl
@[simp] theorem State.setEngine_token (e : Engine) : (s.setEngine e).token = s.token := rfl
@[simp] theorem State.setEngine_wakeQueue (e : Engine) : (s.setEngine e).wakeQueue = s.wakeQueue := rfl
@[simp] theorem State.setEngine_lockOuts (e : Engine) : (s.setEngine e).lockOuts = s.lockOuts := rfl
@[simp] theorem State.setEngine_windowClock (e : Engine) : (s.setEngine e).windowClock = s.windowClock := rfl
@[simp] theorem State.setEngine_calendar (e : Engine) : (s.setEngine e).calendar = s.calendar := rfl
@[simp] theorem State.setEngine_engine (e : Engine) : (s.setEngine e).engine = e := rfl
@[simp] theorem State.setEngine_advisories (e : Engine) : (s.setEngine e).advisories = s.advisories := rfl
@[simp] theorem State.setEngine_phase (e : Engine) : (s.setEngine e).phase = s.phase := rfl
@[simp] theorem State.setEngine_moment (e : Engine) : (s.setEngine e).moment = s.moment := rfl
@[simp] theorem State.setEngine_freeCounter (e : Engine) : (s.setEngine e).freeCounter = s.freeCounter := rfl
@[simp] theorem State.setEngine_pending (e : Engine) : (s.setEngine e).pending = s.pending := rfl
@[simp] theorem State.setEngine_at_config (e : Engine) (d : CarrierIx) :
    (s.setEngine e).config d = s.config d := rfl
@[simp] theorem State.setEngine_at_carrier (e : Engine) (d : CarrierIx) :
    (s.setEngine e).carrier d = s.carrier d := rfl
@[simp] theorem State.setEngine_at_lifeState (e : Engine) (d : CarrierIx) :
    (s.setEngine e).lifeState d = s.lifeState d := rfl
@[simp] theorem State.setEngine_at_isManaged (e : Engine) (d : CarrierIx) :
    (s.setEngine e).isManaged d = s.isManaged d := rfl
@[simp] theorem State.setEngine_at_cover (e : Engine) (d : CarrierIx) :
    (s.setEngine e).cover d = s.cover d := rfl
@[simp] theorem State.setEngine_at_anchorOf (e : Engine) (d : CarrierIx) :
    (s.setEngine e).anchorOf d = s.anchorOf d := rfl
@[simp] theorem State.setEngine_at_unitOf (e : Engine) (d : CarrierIx) :
    (s.setEngine e).unitOf d = s.unitOf d := rfl
@[simp] theorem State.setEngine_at_profileOf (e : Engine) (d : CarrierIx) :
    (s.setEngine e).profileOf d = s.profileOf d := rfl
@[simp] theorem State.setEngine_at_isAnchor (e : Engine) (d : CarrierIx) :
    (s.setEngine e).isAnchor d = s.isAnchor d := rfl
@[simp] theorem State.setEngine_at_isDependent (e : Engine) (d : CarrierIx) :
    (s.setEngine e).isDependent d = s.isDependent d := rfl
@[simp] theorem State.setEngine_at_unit (e : Engine) (v : UnitIx) :
    (s.setEngine e).unit v = s.unit v := rfl
@[simp] theorem State.setEngine_at_unitSettings (e : Engine) (v : UnitIx) :
    (s.setEngine e).unitSettings v = s.unitSettings v := rfl
@[simp] theorem State.setEngine_at_trunkLost (e : Engine) :
    (s.setEngine e).trunkLost = s.trunkLost := rfl
@[simp] theorem State.setEngine_at_noticeWanted (e : Engine) (n : NoticeContent) :
    (s.setEngine e).noticeWanted n = s.noticeWanted n := rfl
@[simp] theorem State.setEngine_at_managedCarriers (e : Engine) :
    (s.setEngine e).managedCarriers = s.managedCarriers := rfl
@[simp] theorem State.setEngine_at_unitCarriers (e : Engine) (v : UnitIx) :
    (s.setEngine e).unitCarriers v = s.unitCarriers v := rfl
@[simp] theorem State.setEngine_at_dependents (e : Engine) (d : CarrierIx) :
    (s.setEngine e).dependents d = s.dependents d := rfl
@[simp] theorem State.setEngine_at_warmups (e : Engine) :
    (s.setEngine e).warmups = s.warmups := rfl

/-! ## State.setClassifier -/

@[simp] theorem State.setClassifier_stationAddress (k : Classifier) : (s.setClassifier k).stationAddress = s.stationAddress := rfl
@[simp] theorem State.setClassifier_settings (k : Classifier) : (s.setClassifier k).settings = s.settings := rfl
@[simp] theorem State.setClassifier_carrierConfig (k : Classifier) : (s.setClassifier k).carrierConfig = s.carrierConfig := rfl
@[simp] theorem State.setClassifier_profiles (k : Classifier) : (s.setClassifier k).profiles = s.profiles := rfl
@[simp] theorem State.setClassifier_unitConfig (k : Classifier) : (s.setClassifier k).unitConfig = s.unitConfig := rfl
@[simp] theorem State.setClassifier_actions (k : Classifier) : (s.setClassifier k).actions = s.actions := rfl
@[simp] theorem State.setClassifier_windows (k : Classifier) : (s.setClassifier k).windows = s.windows := rfl
@[simp] theorem State.setClassifier_permissions (k : Classifier) : (s.setClassifier k).permissions = s.permissions := rfl
@[simp] theorem State.setClassifier_classifier (k : Classifier) : (s.setClassifier k).classifier = k := rfl
@[simp] theorem State.setClassifier_path (k : Classifier) : (s.setClassifier k).path = s.path := rfl
@[simp] theorem State.setClassifier_carriers (k : Classifier) : (s.setClassifier k).carriers = s.carriers := rfl
@[simp] theorem State.setClassifier_units (k : Classifier) : (s.setClassifier k).units = s.units := rfl
@[simp] theorem State.setClassifier_token (k : Classifier) : (s.setClassifier k).token = s.token := rfl
@[simp] theorem State.setClassifier_wakeQueue (k : Classifier) : (s.setClassifier k).wakeQueue = s.wakeQueue := rfl
@[simp] theorem State.setClassifier_lockOuts (k : Classifier) : (s.setClassifier k).lockOuts = s.lockOuts := rfl
@[simp] theorem State.setClassifier_windowClock (k : Classifier) : (s.setClassifier k).windowClock = s.windowClock := rfl
@[simp] theorem State.setClassifier_calendar (k : Classifier) : (s.setClassifier k).calendar = s.calendar := rfl
@[simp] theorem State.setClassifier_engine (k : Classifier) : (s.setClassifier k).engine = s.engine := rfl
@[simp] theorem State.setClassifier_advisories (k : Classifier) : (s.setClassifier k).advisories = s.advisories := rfl
@[simp] theorem State.setClassifier_phase (k : Classifier) : (s.setClassifier k).phase = s.phase := rfl
@[simp] theorem State.setClassifier_moment (k : Classifier) : (s.setClassifier k).moment = s.moment := rfl
@[simp] theorem State.setClassifier_freeCounter (k : Classifier) : (s.setClassifier k).freeCounter = s.freeCounter := rfl
@[simp] theorem State.setClassifier_pending (k : Classifier) : (s.setClassifier k).pending = s.pending := rfl
@[simp] theorem State.setClassifier_at_config (k : Classifier) (d : CarrierIx) :
    (s.setClassifier k).config d = s.config d := rfl
@[simp] theorem State.setClassifier_at_carrier (k : Classifier) (d : CarrierIx) :
    (s.setClassifier k).carrier d = s.carrier d := rfl
@[simp] theorem State.setClassifier_at_lifeState (k : Classifier) (d : CarrierIx) :
    (s.setClassifier k).lifeState d = s.lifeState d := rfl
@[simp] theorem State.setClassifier_at_isManaged (k : Classifier) (d : CarrierIx) :
    (s.setClassifier k).isManaged d = s.isManaged d := rfl
@[simp] theorem State.setClassifier_at_cover (k : Classifier) (d : CarrierIx) :
    (s.setClassifier k).cover d = s.cover d := rfl
@[simp] theorem State.setClassifier_at_anchorOf (k : Classifier) (d : CarrierIx) :
    (s.setClassifier k).anchorOf d = s.anchorOf d := rfl
@[simp] theorem State.setClassifier_at_unitOf (k : Classifier) (d : CarrierIx) :
    (s.setClassifier k).unitOf d = s.unitOf d := rfl
@[simp] theorem State.setClassifier_at_profileOf (k : Classifier) (d : CarrierIx) :
    (s.setClassifier k).profileOf d = s.profileOf d := rfl
@[simp] theorem State.setClassifier_at_isAnchor (k : Classifier) (d : CarrierIx) :
    (s.setClassifier k).isAnchor d = s.isAnchor d := rfl
@[simp] theorem State.setClassifier_at_isDependent (k : Classifier) (d : CarrierIx) :
    (s.setClassifier k).isDependent d = s.isDependent d := rfl
@[simp] theorem State.setClassifier_at_unit (k : Classifier) (v : UnitIx) :
    (s.setClassifier k).unit v = s.unit v := rfl
@[simp] theorem State.setClassifier_at_unitSettings (k : Classifier) (v : UnitIx) :
    (s.setClassifier k).unitSettings v = s.unitSettings v := rfl
@[simp] theorem State.setClassifier_at_trunkLost (k : Classifier) :
    (s.setClassifier k).trunkLost = s.trunkLost := rfl
@[simp] theorem State.setClassifier_at_mayDeepen (k : Classifier) :
    (s.setClassifier k).mayDeepen = s.mayDeepen := rfl
@[simp] theorem State.setClassifier_at_flagRaised (k : Classifier) (f : Flag) :
    (s.setClassifier k).flagRaised f = s.flagRaised f := rfl
@[simp] theorem State.setClassifier_at_noticeWanted (k : Classifier) (n : NoticeContent) :
    (s.setClassifier k).noticeWanted n = s.noticeWanted n := rfl
@[simp] theorem State.setClassifier_at_managedCarriers (k : Classifier) :
    (s.setClassifier k).managedCarriers = s.managedCarriers := rfl
@[simp] theorem State.setClassifier_at_unitCarriers (k : Classifier) (v : UnitIx) :
    (s.setClassifier k).unitCarriers v = s.unitCarriers v := rfl
@[simp] theorem State.setClassifier_at_dependents (k : Classifier) (d : CarrierIx) :
    (s.setClassifier k).dependents d = s.dependents d := rfl
@[simp] theorem State.setClassifier_at_warmups (k : Classifier) :
    (s.setClassifier k).warmups = s.warmups := rfl

/-! ## State.setCalendar -/

@[simp] theorem State.setCalendar_stationAddress (k : Calendar) : (s.setCalendar k).stationAddress = s.stationAddress := rfl
@[simp] theorem State.setCalendar_settings (k : Calendar) : (s.setCalendar k).settings = s.settings := rfl
@[simp] theorem State.setCalendar_carrierConfig (k : Calendar) : (s.setCalendar k).carrierConfig = s.carrierConfig := rfl
@[simp] theorem State.setCalendar_profiles (k : Calendar) : (s.setCalendar k).profiles = s.profiles := rfl
@[simp] theorem State.setCalendar_unitConfig (k : Calendar) : (s.setCalendar k).unitConfig = s.unitConfig := rfl
@[simp] theorem State.setCalendar_actions (k : Calendar) : (s.setCalendar k).actions = s.actions := rfl
@[simp] theorem State.setCalendar_windows (k : Calendar) : (s.setCalendar k).windows = s.windows := rfl
@[simp] theorem State.setCalendar_permissions (k : Calendar) : (s.setCalendar k).permissions = s.permissions := rfl
@[simp] theorem State.setCalendar_classifier (k : Calendar) : (s.setCalendar k).classifier = s.classifier := rfl
@[simp] theorem State.setCalendar_path (k : Calendar) : (s.setCalendar k).path = s.path := rfl
@[simp] theorem State.setCalendar_carriers (k : Calendar) : (s.setCalendar k).carriers = s.carriers := rfl
@[simp] theorem State.setCalendar_units (k : Calendar) : (s.setCalendar k).units = s.units := rfl
@[simp] theorem State.setCalendar_token (k : Calendar) : (s.setCalendar k).token = s.token := rfl
@[simp] theorem State.setCalendar_wakeQueue (k : Calendar) : (s.setCalendar k).wakeQueue = s.wakeQueue := rfl
@[simp] theorem State.setCalendar_lockOuts (k : Calendar) : (s.setCalendar k).lockOuts = s.lockOuts := rfl
@[simp] theorem State.setCalendar_windowClock (k : Calendar) : (s.setCalendar k).windowClock = s.windowClock := rfl
@[simp] theorem State.setCalendar_calendar (k : Calendar) : (s.setCalendar k).calendar = k := rfl
@[simp] theorem State.setCalendar_engine (k : Calendar) : (s.setCalendar k).engine = s.engine := rfl
@[simp] theorem State.setCalendar_advisories (k : Calendar) : (s.setCalendar k).advisories = s.advisories := rfl
@[simp] theorem State.setCalendar_phase (k : Calendar) : (s.setCalendar k).phase = s.phase := rfl
@[simp] theorem State.setCalendar_moment (k : Calendar) : (s.setCalendar k).moment = s.moment := rfl
@[simp] theorem State.setCalendar_freeCounter (k : Calendar) : (s.setCalendar k).freeCounter = s.freeCounter := rfl
@[simp] theorem State.setCalendar_pending (k : Calendar) : (s.setCalendar k).pending = s.pending := rfl
@[simp] theorem State.setCalendar_at_config (k : Calendar) (d : CarrierIx) :
    (s.setCalendar k).config d = s.config d := rfl
@[simp] theorem State.setCalendar_at_carrier (k : Calendar) (d : CarrierIx) :
    (s.setCalendar k).carrier d = s.carrier d := rfl
@[simp] theorem State.setCalendar_at_lifeState (k : Calendar) (d : CarrierIx) :
    (s.setCalendar k).lifeState d = s.lifeState d := rfl
@[simp] theorem State.setCalendar_at_isManaged (k : Calendar) (d : CarrierIx) :
    (s.setCalendar k).isManaged d = s.isManaged d := rfl
@[simp] theorem State.setCalendar_at_cover (k : Calendar) (d : CarrierIx) :
    (s.setCalendar k).cover d = s.cover d := rfl
@[simp] theorem State.setCalendar_at_anchorOf (k : Calendar) (d : CarrierIx) :
    (s.setCalendar k).anchorOf d = s.anchorOf d := rfl
@[simp] theorem State.setCalendar_at_unitOf (k : Calendar) (d : CarrierIx) :
    (s.setCalendar k).unitOf d = s.unitOf d := rfl
@[simp] theorem State.setCalendar_at_profileOf (k : Calendar) (d : CarrierIx) :
    (s.setCalendar k).profileOf d = s.profileOf d := rfl
@[simp] theorem State.setCalendar_at_isAnchor (k : Calendar) (d : CarrierIx) :
    (s.setCalendar k).isAnchor d = s.isAnchor d := rfl
@[simp] theorem State.setCalendar_at_isDependent (k : Calendar) (d : CarrierIx) :
    (s.setCalendar k).isDependent d = s.isDependent d := rfl
@[simp] theorem State.setCalendar_at_unit (k : Calendar) (v : UnitIx) :
    (s.setCalendar k).unit v = s.unit v := rfl
@[simp] theorem State.setCalendar_at_unitSettings (k : Calendar) (v : UnitIx) :
    (s.setCalendar k).unitSettings v = s.unitSettings v := rfl
@[simp] theorem State.setCalendar_at_trunkLost (k : Calendar) :
    (s.setCalendar k).trunkLost = s.trunkLost := rfl
@[simp] theorem State.setCalendar_at_mayDeepen (k : Calendar) :
    (s.setCalendar k).mayDeepen = s.mayDeepen := rfl
@[simp] theorem State.setCalendar_at_flagRaised (k : Calendar) (f : Flag) :
    (s.setCalendar k).flagRaised f = s.flagRaised f := rfl
@[simp] theorem State.setCalendar_at_noticeWanted (k : Calendar) (n : NoticeContent) :
    (s.setCalendar k).noticeWanted n = s.noticeWanted n := rfl
@[simp] theorem State.setCalendar_at_managedCarriers (k : Calendar) :
    (s.setCalendar k).managedCarriers = s.managedCarriers := rfl
@[simp] theorem State.setCalendar_at_unitCarriers (k : Calendar) (v : UnitIx) :
    (s.setCalendar k).unitCarriers v = s.unitCarriers v := rfl
@[simp] theorem State.setCalendar_at_dependents (k : Calendar) (d : CarrierIx) :
    (s.setCalendar k).dependents d = s.dependents d := rfl
@[simp] theorem State.setCalendar_at_warmups (k : Calendar) :
    (s.setCalendar k).warmups = s.warmups := rfl

/-! ## State.setLockOuts -/

@[simp] theorem State.setLockOuts_stationAddress (w : Vector (Option Nat) 8) : (s.setLockOuts w).stationAddress = s.stationAddress := rfl
@[simp] theorem State.setLockOuts_settings (w : Vector (Option Nat) 8) : (s.setLockOuts w).settings = s.settings := rfl
@[simp] theorem State.setLockOuts_carrierConfig (w : Vector (Option Nat) 8) : (s.setLockOuts w).carrierConfig = s.carrierConfig := rfl
@[simp] theorem State.setLockOuts_profiles (w : Vector (Option Nat) 8) : (s.setLockOuts w).profiles = s.profiles := rfl
@[simp] theorem State.setLockOuts_unitConfig (w : Vector (Option Nat) 8) : (s.setLockOuts w).unitConfig = s.unitConfig := rfl
@[simp] theorem State.setLockOuts_actions (w : Vector (Option Nat) 8) : (s.setLockOuts w).actions = s.actions := rfl
@[simp] theorem State.setLockOuts_windows (w : Vector (Option Nat) 8) : (s.setLockOuts w).windows = s.windows := rfl
@[simp] theorem State.setLockOuts_permissions (w : Vector (Option Nat) 8) : (s.setLockOuts w).permissions = s.permissions := rfl
@[simp] theorem State.setLockOuts_classifier (w : Vector (Option Nat) 8) : (s.setLockOuts w).classifier = s.classifier := rfl
@[simp] theorem State.setLockOuts_path (w : Vector (Option Nat) 8) : (s.setLockOuts w).path = s.path := rfl
@[simp] theorem State.setLockOuts_carriers (w : Vector (Option Nat) 8) : (s.setLockOuts w).carriers = s.carriers := rfl
@[simp] theorem State.setLockOuts_units (w : Vector (Option Nat) 8) : (s.setLockOuts w).units = s.units := rfl
@[simp] theorem State.setLockOuts_token (w : Vector (Option Nat) 8) : (s.setLockOuts w).token = s.token := rfl
@[simp] theorem State.setLockOuts_wakeQueue (w : Vector (Option Nat) 8) : (s.setLockOuts w).wakeQueue = s.wakeQueue := rfl
@[simp] theorem State.setLockOuts_lockOuts (w : Vector (Option Nat) 8) : (s.setLockOuts w).lockOuts = w := rfl
@[simp] theorem State.setLockOuts_windowClock (w : Vector (Option Nat) 8) : (s.setLockOuts w).windowClock = s.windowClock := rfl
@[simp] theorem State.setLockOuts_calendar (w : Vector (Option Nat) 8) : (s.setLockOuts w).calendar = s.calendar := rfl
@[simp] theorem State.setLockOuts_engine (w : Vector (Option Nat) 8) : (s.setLockOuts w).engine = s.engine := rfl
@[simp] theorem State.setLockOuts_advisories (w : Vector (Option Nat) 8) : (s.setLockOuts w).advisories = s.advisories := rfl
@[simp] theorem State.setLockOuts_phase (w : Vector (Option Nat) 8) : (s.setLockOuts w).phase = s.phase := rfl
@[simp] theorem State.setLockOuts_moment (w : Vector (Option Nat) 8) : (s.setLockOuts w).moment = s.moment := rfl
@[simp] theorem State.setLockOuts_freeCounter (w : Vector (Option Nat) 8) : (s.setLockOuts w).freeCounter = s.freeCounter := rfl
@[simp] theorem State.setLockOuts_pending (w : Vector (Option Nat) 8) : (s.setLockOuts w).pending = s.pending := rfl
@[simp] theorem State.setLockOuts_at_config (w : Vector (Option Nat) 8) (d : CarrierIx) :
    (s.setLockOuts w).config d = s.config d := rfl
@[simp] theorem State.setLockOuts_at_carrier (w : Vector (Option Nat) 8) (d : CarrierIx) :
    (s.setLockOuts w).carrier d = s.carrier d := rfl
@[simp] theorem State.setLockOuts_at_lifeState (w : Vector (Option Nat) 8) (d : CarrierIx) :
    (s.setLockOuts w).lifeState d = s.lifeState d := rfl
@[simp] theorem State.setLockOuts_at_isManaged (w : Vector (Option Nat) 8) (d : CarrierIx) :
    (s.setLockOuts w).isManaged d = s.isManaged d := rfl
@[simp] theorem State.setLockOuts_at_cover (w : Vector (Option Nat) 8) (d : CarrierIx) :
    (s.setLockOuts w).cover d = s.cover d := rfl
@[simp] theorem State.setLockOuts_at_anchorOf (w : Vector (Option Nat) 8) (d : CarrierIx) :
    (s.setLockOuts w).anchorOf d = s.anchorOf d := rfl
@[simp] theorem State.setLockOuts_at_unitOf (w : Vector (Option Nat) 8) (d : CarrierIx) :
    (s.setLockOuts w).unitOf d = s.unitOf d := rfl
@[simp] theorem State.setLockOuts_at_profileOf (w : Vector (Option Nat) 8) (d : CarrierIx) :
    (s.setLockOuts w).profileOf d = s.profileOf d := rfl
@[simp] theorem State.setLockOuts_at_isAnchor (w : Vector (Option Nat) 8) (d : CarrierIx) :
    (s.setLockOuts w).isAnchor d = s.isAnchor d := rfl
@[simp] theorem State.setLockOuts_at_isDependent (w : Vector (Option Nat) 8) (d : CarrierIx) :
    (s.setLockOuts w).isDependent d = s.isDependent d := rfl
@[simp] theorem State.setLockOuts_at_unit (w : Vector (Option Nat) 8) (v : UnitIx) :
    (s.setLockOuts w).unit v = s.unit v := rfl
@[simp] theorem State.setLockOuts_at_unitSettings (w : Vector (Option Nat) 8) (v : UnitIx) :
    (s.setLockOuts w).unitSettings v = s.unitSettings v := rfl
@[simp] theorem State.setLockOuts_at_trunkLost (w : Vector (Option Nat) 8) :
    (s.setLockOuts w).trunkLost = s.trunkLost := rfl
@[simp] theorem State.setLockOuts_at_mayDeepen (w : Vector (Option Nat) 8) :
    (s.setLockOuts w).mayDeepen = s.mayDeepen := rfl
@[simp] theorem State.setLockOuts_at_flagRaised (w : Vector (Option Nat) 8) (f : Flag) :
    (s.setLockOuts w).flagRaised f = s.flagRaised f := rfl
@[simp] theorem State.setLockOuts_at_noticeWanted (w : Vector (Option Nat) 8) (n : NoticeContent) :
    (s.setLockOuts w).noticeWanted n = s.noticeWanted n := rfl
@[simp] theorem State.setLockOuts_at_managedCarriers (w : Vector (Option Nat) 8) :
    (s.setLockOuts w).managedCarriers = s.managedCarriers := rfl
@[simp] theorem State.setLockOuts_at_unitCarriers (w : Vector (Option Nat) 8) (v : UnitIx) :
    (s.setLockOuts w).unitCarriers v = s.unitCarriers v := rfl
@[simp] theorem State.setLockOuts_at_dependents (w : Vector (Option Nat) 8) (d : CarrierIx) :
    (s.setLockOuts w).dependents d = s.dependents d := rfl
@[simp] theorem State.setLockOuts_at_warmups (w : Vector (Option Nat) 8) :
    (s.setLockOuts w).warmups = s.warmups := rfl

/-! ## State.setWakeQueue -/

@[simp] theorem State.setWakeQueue_stationAddress (q : WakeQueue) : (s.setWakeQueue q).stationAddress = s.stationAddress := rfl
@[simp] theorem State.setWakeQueue_settings (q : WakeQueue) : (s.setWakeQueue q).settings = s.settings := rfl
@[simp] theorem State.setWakeQueue_carrierConfig (q : WakeQueue) : (s.setWakeQueue q).carrierConfig = s.carrierConfig := rfl
@[simp] theorem State.setWakeQueue_profiles (q : WakeQueue) : (s.setWakeQueue q).profiles = s.profiles := rfl
@[simp] theorem State.setWakeQueue_unitConfig (q : WakeQueue) : (s.setWakeQueue q).unitConfig = s.unitConfig := rfl
@[simp] theorem State.setWakeQueue_actions (q : WakeQueue) : (s.setWakeQueue q).actions = s.actions := rfl
@[simp] theorem State.setWakeQueue_windows (q : WakeQueue) : (s.setWakeQueue q).windows = s.windows := rfl
@[simp] theorem State.setWakeQueue_permissions (q : WakeQueue) : (s.setWakeQueue q).permissions = s.permissions := rfl
@[simp] theorem State.setWakeQueue_classifier (q : WakeQueue) : (s.setWakeQueue q).classifier = s.classifier := rfl
@[simp] theorem State.setWakeQueue_path (q : WakeQueue) : (s.setWakeQueue q).path = s.path := rfl
@[simp] theorem State.setWakeQueue_carriers (q : WakeQueue) : (s.setWakeQueue q).carriers = s.carriers := rfl
@[simp] theorem State.setWakeQueue_units (q : WakeQueue) : (s.setWakeQueue q).units = s.units := rfl
@[simp] theorem State.setWakeQueue_token (q : WakeQueue) : (s.setWakeQueue q).token = s.token := rfl
@[simp] theorem State.setWakeQueue_wakeQueue (q : WakeQueue) : (s.setWakeQueue q).wakeQueue = q := rfl
@[simp] theorem State.setWakeQueue_lockOuts (q : WakeQueue) : (s.setWakeQueue q).lockOuts = s.lockOuts := rfl
@[simp] theorem State.setWakeQueue_windowClock (q : WakeQueue) : (s.setWakeQueue q).windowClock = s.windowClock := rfl
@[simp] theorem State.setWakeQueue_calendar (q : WakeQueue) : (s.setWakeQueue q).calendar = s.calendar := rfl
@[simp] theorem State.setWakeQueue_engine (q : WakeQueue) : (s.setWakeQueue q).engine = s.engine := rfl
@[simp] theorem State.setWakeQueue_advisories (q : WakeQueue) : (s.setWakeQueue q).advisories = s.advisories := rfl
@[simp] theorem State.setWakeQueue_phase (q : WakeQueue) : (s.setWakeQueue q).phase = s.phase := rfl
@[simp] theorem State.setWakeQueue_moment (q : WakeQueue) : (s.setWakeQueue q).moment = s.moment := rfl
@[simp] theorem State.setWakeQueue_freeCounter (q : WakeQueue) : (s.setWakeQueue q).freeCounter = s.freeCounter := rfl
@[simp] theorem State.setWakeQueue_pending (q : WakeQueue) : (s.setWakeQueue q).pending = s.pending := rfl
@[simp] theorem State.setWakeQueue_at_config (q : WakeQueue) (d : CarrierIx) :
    (s.setWakeQueue q).config d = s.config d := rfl
@[simp] theorem State.setWakeQueue_at_carrier (q : WakeQueue) (d : CarrierIx) :
    (s.setWakeQueue q).carrier d = s.carrier d := rfl
@[simp] theorem State.setWakeQueue_at_lifeState (q : WakeQueue) (d : CarrierIx) :
    (s.setWakeQueue q).lifeState d = s.lifeState d := rfl
@[simp] theorem State.setWakeQueue_at_isManaged (q : WakeQueue) (d : CarrierIx) :
    (s.setWakeQueue q).isManaged d = s.isManaged d := rfl
@[simp] theorem State.setWakeQueue_at_cover (q : WakeQueue) (d : CarrierIx) :
    (s.setWakeQueue q).cover d = s.cover d := rfl
@[simp] theorem State.setWakeQueue_at_anchorOf (q : WakeQueue) (d : CarrierIx) :
    (s.setWakeQueue q).anchorOf d = s.anchorOf d := rfl
@[simp] theorem State.setWakeQueue_at_unitOf (q : WakeQueue) (d : CarrierIx) :
    (s.setWakeQueue q).unitOf d = s.unitOf d := rfl
@[simp] theorem State.setWakeQueue_at_profileOf (q : WakeQueue) (d : CarrierIx) :
    (s.setWakeQueue q).profileOf d = s.profileOf d := rfl
@[simp] theorem State.setWakeQueue_at_isAnchor (q : WakeQueue) (d : CarrierIx) :
    (s.setWakeQueue q).isAnchor d = s.isAnchor d := rfl
@[simp] theorem State.setWakeQueue_at_isDependent (q : WakeQueue) (d : CarrierIx) :
    (s.setWakeQueue q).isDependent d = s.isDependent d := rfl
@[simp] theorem State.setWakeQueue_at_unit (q : WakeQueue) (v : UnitIx) :
    (s.setWakeQueue q).unit v = s.unit v := rfl
@[simp] theorem State.setWakeQueue_at_unitSettings (q : WakeQueue) (v : UnitIx) :
    (s.setWakeQueue q).unitSettings v = s.unitSettings v := rfl
@[simp] theorem State.setWakeQueue_at_trunkLost (q : WakeQueue) :
    (s.setWakeQueue q).trunkLost = s.trunkLost := rfl
@[simp] theorem State.setWakeQueue_at_mayDeepen (q : WakeQueue) :
    (s.setWakeQueue q).mayDeepen = s.mayDeepen := rfl
@[simp] theorem State.setWakeQueue_at_flagRaised (q : WakeQueue) (f : Flag) :
    (s.setWakeQueue q).flagRaised f = s.flagRaised f := rfl
@[simp] theorem State.setWakeQueue_at_noticeWanted (q : WakeQueue) (n : NoticeContent) :
    (s.setWakeQueue q).noticeWanted n = s.noticeWanted n := rfl
@[simp] theorem State.setWakeQueue_at_managedCarriers (q : WakeQueue) :
    (s.setWakeQueue q).managedCarriers = s.managedCarriers := rfl
@[simp] theorem State.setWakeQueue_at_unitCarriers (q : WakeQueue) (v : UnitIx) :
    (s.setWakeQueue q).unitCarriers v = s.unitCarriers v := rfl
@[simp] theorem State.setWakeQueue_at_dependents (q : WakeQueue) (d : CarrierIx) :
    (s.setWakeQueue q).dependents d = s.dependents d := rfl
@[simp] theorem State.setWakeQueue_at_warmups (q : WakeQueue) :
    (s.setWakeQueue q).warmups = s.warmups := rfl

/-! ## State.setSettings -/

@[simp] theorem State.setSettings_stationAddress (k : Settings) : (s.setSettings k).stationAddress = s.stationAddress := rfl
@[simp] theorem State.setSettings_settings (k : Settings) : (s.setSettings k).settings = k := rfl
@[simp] theorem State.setSettings_carrierConfig (k : Settings) : (s.setSettings k).carrierConfig = s.carrierConfig := rfl
@[simp] theorem State.setSettings_profiles (k : Settings) : (s.setSettings k).profiles = s.profiles := rfl
@[simp] theorem State.setSettings_unitConfig (k : Settings) : (s.setSettings k).unitConfig = s.unitConfig := rfl
@[simp] theorem State.setSettings_actions (k : Settings) : (s.setSettings k).actions = s.actions := rfl
@[simp] theorem State.setSettings_windows (k : Settings) : (s.setSettings k).windows = s.windows := rfl
@[simp] theorem State.setSettings_permissions (k : Settings) : (s.setSettings k).permissions = s.permissions := rfl
@[simp] theorem State.setSettings_classifier (k : Settings) : (s.setSettings k).classifier = s.classifier := rfl
@[simp] theorem State.setSettings_path (k : Settings) : (s.setSettings k).path = s.path := rfl
@[simp] theorem State.setSettings_carriers (k : Settings) : (s.setSettings k).carriers = s.carriers := rfl
@[simp] theorem State.setSettings_units (k : Settings) : (s.setSettings k).units = s.units := rfl
@[simp] theorem State.setSettings_token (k : Settings) : (s.setSettings k).token = s.token := rfl
@[simp] theorem State.setSettings_wakeQueue (k : Settings) : (s.setSettings k).wakeQueue = s.wakeQueue := rfl
@[simp] theorem State.setSettings_lockOuts (k : Settings) : (s.setSettings k).lockOuts = s.lockOuts := rfl
@[simp] theorem State.setSettings_windowClock (k : Settings) : (s.setSettings k).windowClock = s.windowClock := rfl
@[simp] theorem State.setSettings_calendar (k : Settings) : (s.setSettings k).calendar = s.calendar := rfl
@[simp] theorem State.setSettings_engine (k : Settings) : (s.setSettings k).engine = s.engine := rfl
@[simp] theorem State.setSettings_advisories (k : Settings) : (s.setSettings k).advisories = s.advisories := rfl
@[simp] theorem State.setSettings_phase (k : Settings) : (s.setSettings k).phase = s.phase := rfl
@[simp] theorem State.setSettings_moment (k : Settings) : (s.setSettings k).moment = s.moment := rfl
@[simp] theorem State.setSettings_freeCounter (k : Settings) : (s.setSettings k).freeCounter = s.freeCounter := rfl
@[simp] theorem State.setSettings_pending (k : Settings) : (s.setSettings k).pending = s.pending := rfl
@[simp] theorem State.setSettings_at_config (k : Settings) (d : CarrierIx) :
    (s.setSettings k).config d = s.config d := rfl
@[simp] theorem State.setSettings_at_carrier (k : Settings) (d : CarrierIx) :
    (s.setSettings k).carrier d = s.carrier d := rfl
@[simp] theorem State.setSettings_at_lifeState (k : Settings) (d : CarrierIx) :
    (s.setSettings k).lifeState d = s.lifeState d := rfl
@[simp] theorem State.setSettings_at_isManaged (k : Settings) (d : CarrierIx) :
    (s.setSettings k).isManaged d = s.isManaged d := rfl
@[simp] theorem State.setSettings_at_cover (k : Settings) (d : CarrierIx) :
    (s.setSettings k).cover d = s.cover d := rfl
@[simp] theorem State.setSettings_at_anchorOf (k : Settings) (d : CarrierIx) :
    (s.setSettings k).anchorOf d = s.anchorOf d := rfl
@[simp] theorem State.setSettings_at_unitOf (k : Settings) (d : CarrierIx) :
    (s.setSettings k).unitOf d = s.unitOf d := rfl
@[simp] theorem State.setSettings_at_profileOf (k : Settings) (d : CarrierIx) :
    (s.setSettings k).profileOf d = s.profileOf d := rfl
@[simp] theorem State.setSettings_at_isAnchor (k : Settings) (d : CarrierIx) :
    (s.setSettings k).isAnchor d = s.isAnchor d := rfl
@[simp] theorem State.setSettings_at_isDependent (k : Settings) (d : CarrierIx) :
    (s.setSettings k).isDependent d = s.isDependent d := rfl
@[simp] theorem State.setSettings_at_unit (k : Settings) (v : UnitIx) :
    (s.setSettings k).unit v = s.unit v := rfl
@[simp] theorem State.setSettings_at_unitSettings (k : Settings) (v : UnitIx) :
    (s.setSettings k).unitSettings v = s.unitSettings v := rfl
@[simp] theorem State.setSettings_at_trunkLost (k : Settings) :
    (s.setSettings k).trunkLost = s.trunkLost := rfl
@[simp] theorem State.setSettings_at_mayDeepen (k : Settings) :
    (s.setSettings k).mayDeepen = s.mayDeepen := rfl
@[simp] theorem State.setSettings_at_flagRaised (k : Settings) (f : Flag) :
    (s.setSettings k).flagRaised f = s.flagRaised f := rfl
@[simp] theorem State.setSettings_at_managedCarriers (k : Settings) :
    (s.setSettings k).managedCarriers = s.managedCarriers := rfl
@[simp] theorem State.setSettings_at_unitCarriers (k : Settings) (v : UnitIx) :
    (s.setSettings k).unitCarriers v = s.unitCarriers v := rfl
@[simp] theorem State.setSettings_at_dependents (k : Settings) (d : CarrierIx) :
    (s.setSettings k).dependents d = s.dependents d := rfl
@[simp] theorem State.setSettings_at_warmups (k : Settings) :
    (s.setSettings k).warmups = s.warmups := rfl

/-! ## State.setConfig -/

@[simp] theorem State.setConfig_stationAddress (c : CarrierIx) (k : CarrierConfig) : (s.setConfig c k).stationAddress = s.stationAddress := rfl
@[simp] theorem State.setConfig_settings (c : CarrierIx) (k : CarrierConfig) : (s.setConfig c k).settings = s.settings := rfl
@[simp] theorem State.setConfig_carrierConfig (c : CarrierIx) (k : CarrierConfig) : (s.setConfig c k).carrierConfig = s.carrierConfig.set c k c.isLt := rfl
@[simp] theorem State.setConfig_profiles (c : CarrierIx) (k : CarrierConfig) : (s.setConfig c k).profiles = s.profiles := rfl
@[simp] theorem State.setConfig_unitConfig (c : CarrierIx) (k : CarrierConfig) : (s.setConfig c k).unitConfig = s.unitConfig := rfl
@[simp] theorem State.setConfig_actions (c : CarrierIx) (k : CarrierConfig) : (s.setConfig c k).actions = s.actions := rfl
@[simp] theorem State.setConfig_windows (c : CarrierIx) (k : CarrierConfig) : (s.setConfig c k).windows = s.windows := rfl
@[simp] theorem State.setConfig_permissions (c : CarrierIx) (k : CarrierConfig) : (s.setConfig c k).permissions = s.permissions := rfl
@[simp] theorem State.setConfig_classifier (c : CarrierIx) (k : CarrierConfig) : (s.setConfig c k).classifier = s.classifier := rfl
@[simp] theorem State.setConfig_path (c : CarrierIx) (k : CarrierConfig) : (s.setConfig c k).path = s.path := rfl
@[simp] theorem State.setConfig_carriers (c : CarrierIx) (k : CarrierConfig) : (s.setConfig c k).carriers = s.carriers := rfl
@[simp] theorem State.setConfig_units (c : CarrierIx) (k : CarrierConfig) : (s.setConfig c k).units = s.units := rfl
@[simp] theorem State.setConfig_token (c : CarrierIx) (k : CarrierConfig) : (s.setConfig c k).token = s.token := rfl
@[simp] theorem State.setConfig_wakeQueue (c : CarrierIx) (k : CarrierConfig) : (s.setConfig c k).wakeQueue = s.wakeQueue := rfl
@[simp] theorem State.setConfig_lockOuts (c : CarrierIx) (k : CarrierConfig) : (s.setConfig c k).lockOuts = s.lockOuts := rfl
@[simp] theorem State.setConfig_windowClock (c : CarrierIx) (k : CarrierConfig) : (s.setConfig c k).windowClock = s.windowClock := rfl
@[simp] theorem State.setConfig_calendar (c : CarrierIx) (k : CarrierConfig) : (s.setConfig c k).calendar = s.calendar := rfl
@[simp] theorem State.setConfig_engine (c : CarrierIx) (k : CarrierConfig) : (s.setConfig c k).engine = s.engine := rfl
@[simp] theorem State.setConfig_advisories (c : CarrierIx) (k : CarrierConfig) : (s.setConfig c k).advisories = s.advisories := rfl
@[simp] theorem State.setConfig_phase (c : CarrierIx) (k : CarrierConfig) : (s.setConfig c k).phase = s.phase := rfl
@[simp] theorem State.setConfig_moment (c : CarrierIx) (k : CarrierConfig) : (s.setConfig c k).moment = s.moment := rfl
@[simp] theorem State.setConfig_freeCounter (c : CarrierIx) (k : CarrierConfig) : (s.setConfig c k).freeCounter = s.freeCounter := rfl
@[simp] theorem State.setConfig_pending (c : CarrierIx) (k : CarrierConfig) : (s.setConfig c k).pending = s.pending := rfl
@[simp] theorem State.setConfig_at_carrier (c : CarrierIx) (k : CarrierConfig) (d : CarrierIx) :
    (s.setConfig c k).carrier d = s.carrier d := rfl
@[simp] theorem State.setConfig_at_lifeState (c : CarrierIx) (k : CarrierConfig) (d : CarrierIx) :
    (s.setConfig c k).lifeState d = s.lifeState d := rfl
@[simp] theorem State.setConfig_at_isManaged (c : CarrierIx) (k : CarrierConfig) (d : CarrierIx) :
    (s.setConfig c k).isManaged d = s.isManaged d := rfl
@[simp] theorem State.setConfig_at_cover (c : CarrierIx) (k : CarrierConfig) (d : CarrierIx) :
    (s.setConfig c k).cover d = s.cover d := rfl
@[simp] theorem State.setConfig_at_unit (c : CarrierIx) (k : CarrierConfig) (v : UnitIx) :
    (s.setConfig c k).unit v = s.unit v := rfl
@[simp] theorem State.setConfig_at_unitSettings (c : CarrierIx) (k : CarrierConfig) (v : UnitIx) :
    (s.setConfig c k).unitSettings v = s.unitSettings v := rfl
@[simp] theorem State.setConfig_at_trunkLost (c : CarrierIx) (k : CarrierConfig) :
    (s.setConfig c k).trunkLost = s.trunkLost := rfl
@[simp] theorem State.setConfig_at_mayDeepen (c : CarrierIx) (k : CarrierConfig) :
    (s.setConfig c k).mayDeepen = s.mayDeepen := rfl
@[simp] theorem State.setConfig_at_flagRaised (c : CarrierIx) (k : CarrierConfig) (f : Flag) :
    (s.setConfig c k).flagRaised f = s.flagRaised f := rfl
@[simp] theorem State.setConfig_at_noticeWanted (c : CarrierIx) (k : CarrierConfig) (n : NoticeContent) :
    (s.setConfig c k).noticeWanted n = s.noticeWanted n := rfl
@[simp] theorem State.setConfig_at_managedCarriers (c : CarrierIx) (k : CarrierConfig) :
    (s.setConfig c k).managedCarriers = s.managedCarriers := rfl
@[simp] theorem State.setConfig_at_warmups (c : CarrierIx) (k : CarrierConfig) :
    (s.setConfig c k).warmups = s.warmups := rfl

/-! ## State.advanceToken -/

@[simp] theorem State.advanceToken_stationAddress : (s.advanceToken).stationAddress = s.stationAddress := rfl
@[simp] theorem State.advanceToken_settings : (s.advanceToken).settings = s.settings := rfl
@[simp] theorem State.advanceToken_carrierConfig : (s.advanceToken).carrierConfig = s.carrierConfig := rfl
@[simp] theorem State.advanceToken_profiles : (s.advanceToken).profiles = s.profiles := rfl
@[simp] theorem State.advanceToken_unitConfig : (s.advanceToken).unitConfig = s.unitConfig := rfl
@[simp] theorem State.advanceToken_actions : (s.advanceToken).actions = s.actions := rfl
@[simp] theorem State.advanceToken_windows : (s.advanceToken).windows = s.windows := rfl
@[simp] theorem State.advanceToken_permissions : (s.advanceToken).permissions = s.permissions := rfl
@[simp] theorem State.advanceToken_classifier : (s.advanceToken).classifier = s.classifier := rfl
@[simp] theorem State.advanceToken_path : (s.advanceToken).path = s.path := rfl
@[simp] theorem State.advanceToken_carriers : (s.advanceToken).carriers = s.carriers := rfl
@[simp] theorem State.advanceToken_units : (s.advanceToken).units = s.units := rfl
@[simp] theorem State.advanceToken_token : (s.advanceToken).token = nextToken s.token := rfl
@[simp] theorem State.advanceToken_wakeQueue : (s.advanceToken).wakeQueue = s.wakeQueue := rfl
@[simp] theorem State.advanceToken_lockOuts : (s.advanceToken).lockOuts = s.lockOuts := rfl
@[simp] theorem State.advanceToken_windowClock : (s.advanceToken).windowClock = s.windowClock := rfl
@[simp] theorem State.advanceToken_calendar : (s.advanceToken).calendar = s.calendar := rfl
@[simp] theorem State.advanceToken_engine : (s.advanceToken).engine = s.engine := rfl
@[simp] theorem State.advanceToken_advisories : (s.advanceToken).advisories = s.advisories := rfl
@[simp] theorem State.advanceToken_phase : (s.advanceToken).phase = s.phase := rfl
@[simp] theorem State.advanceToken_moment : (s.advanceToken).moment = s.moment := rfl
@[simp] theorem State.advanceToken_freeCounter : (s.advanceToken).freeCounter = s.freeCounter := rfl
@[simp] theorem State.advanceToken_pending : (s.advanceToken).pending = s.pending := rfl
@[simp] theorem State.advanceToken_at_config (d : CarrierIx) :
    (s.advanceToken).config d = s.config d := rfl
@[simp] theorem State.advanceToken_at_carrier (d : CarrierIx) :
    (s.advanceToken).carrier d = s.carrier d := rfl
@[simp] theorem State.advanceToken_at_lifeState (d : CarrierIx) :
    (s.advanceToken).lifeState d = s.lifeState d := rfl
@[simp] theorem State.advanceToken_at_isManaged (d : CarrierIx) :
    (s.advanceToken).isManaged d = s.isManaged d := rfl
@[simp] theorem State.advanceToken_at_cover (d : CarrierIx) :
    (s.advanceToken).cover d = s.cover d := rfl
@[simp] theorem State.advanceToken_at_anchorOf (d : CarrierIx) :
    (s.advanceToken).anchorOf d = s.anchorOf d := rfl
@[simp] theorem State.advanceToken_at_unitOf (d : CarrierIx) :
    (s.advanceToken).unitOf d = s.unitOf d := rfl
@[simp] theorem State.advanceToken_at_profileOf (d : CarrierIx) :
    (s.advanceToken).profileOf d = s.profileOf d := rfl
@[simp] theorem State.advanceToken_at_isAnchor (d : CarrierIx) :
    (s.advanceToken).isAnchor d = s.isAnchor d := rfl
@[simp] theorem State.advanceToken_at_isDependent (d : CarrierIx) :
    (s.advanceToken).isDependent d = s.isDependent d := rfl
@[simp] theorem State.advanceToken_at_unit (v : UnitIx) :
    (s.advanceToken).unit v = s.unit v := rfl
@[simp] theorem State.advanceToken_at_unitSettings (v : UnitIx) :
    (s.advanceToken).unitSettings v = s.unitSettings v := rfl
@[simp] theorem State.advanceToken_at_trunkLost :
    (s.advanceToken).trunkLost = s.trunkLost := rfl
@[simp] theorem State.advanceToken_at_mayDeepen :
    (s.advanceToken).mayDeepen = s.mayDeepen := rfl
@[simp] theorem State.advanceToken_at_flagRaised (f : Flag) :
    (s.advanceToken).flagRaised f = s.flagRaised f := rfl
@[simp] theorem State.advanceToken_at_noticeWanted (n : NoticeContent) :
    (s.advanceToken).noticeWanted n = s.noticeWanted n := rfl
@[simp] theorem State.advanceToken_at_managedCarriers :
    (s.advanceToken).managedCarriers = s.managedCarriers := rfl
@[simp] theorem State.advanceToken_at_unitCarriers (v : UnitIx) :
    (s.advanceToken).unitCarriers v = s.unitCarriers v := rfl
@[simp] theorem State.advanceToken_at_dependents (d : CarrierIx) :
    (s.advanceToken).dependents d = s.dependents d := rfl
@[simp] theorem State.advanceToken_at_warmups :
    (s.advanceToken).warmups = s.warmups := rfl

/-! ## State.newMoment -/

@[simp] theorem State.newMoment_stationAddress : (s.newMoment).stationAddress = s.stationAddress := rfl
@[simp] theorem State.newMoment_settings : (s.newMoment).settings = s.settings := rfl
@[simp] theorem State.newMoment_carrierConfig : (s.newMoment).carrierConfig = s.carrierConfig := rfl
@[simp] theorem State.newMoment_profiles : (s.newMoment).profiles = s.profiles := rfl
@[simp] theorem State.newMoment_unitConfig : (s.newMoment).unitConfig = s.unitConfig := rfl
@[simp] theorem State.newMoment_actions : (s.newMoment).actions = s.actions := rfl
@[simp] theorem State.newMoment_windows : (s.newMoment).windows = s.windows := rfl
@[simp] theorem State.newMoment_permissions : (s.newMoment).permissions = s.permissions := rfl
@[simp] theorem State.newMoment_classifier : (s.newMoment).classifier = s.classifier := rfl
@[simp] theorem State.newMoment_path : (s.newMoment).path = s.path := rfl
@[simp] theorem State.newMoment_carriers : (s.newMoment).carriers = s.carriers := rfl
@[simp] theorem State.newMoment_units : (s.newMoment).units = s.units := rfl
@[simp] theorem State.newMoment_token : (s.newMoment).token = s.token := rfl
@[simp] theorem State.newMoment_wakeQueue : (s.newMoment).wakeQueue = s.wakeQueue := rfl
@[simp] theorem State.newMoment_lockOuts : (s.newMoment).lockOuts = s.lockOuts := rfl
@[simp] theorem State.newMoment_windowClock : (s.newMoment).windowClock = s.windowClock := rfl
@[simp] theorem State.newMoment_calendar : (s.newMoment).calendar = s.calendar := rfl
@[simp] theorem State.newMoment_engine : (s.newMoment).engine = s.engine := rfl
@[simp] theorem State.newMoment_advisories : (s.newMoment).advisories = s.advisories := rfl
@[simp] theorem State.newMoment_phase : (s.newMoment).phase = s.phase := rfl
@[simp] theorem State.newMoment_moment : (s.newMoment).moment = s.moment + 1 := rfl
@[simp] theorem State.newMoment_freeCounter : (s.newMoment).freeCounter = s.freeCounter := rfl
@[simp] theorem State.newMoment_pending : (s.newMoment).pending = s.pending := rfl
@[simp] theorem State.newMoment_at_config (d : CarrierIx) :
    (s.newMoment).config d = s.config d := rfl
@[simp] theorem State.newMoment_at_carrier (d : CarrierIx) :
    (s.newMoment).carrier d = s.carrier d := rfl
@[simp] theorem State.newMoment_at_lifeState (d : CarrierIx) :
    (s.newMoment).lifeState d = s.lifeState d := rfl
@[simp] theorem State.newMoment_at_isManaged (d : CarrierIx) :
    (s.newMoment).isManaged d = s.isManaged d := rfl
@[simp] theorem State.newMoment_at_cover (d : CarrierIx) :
    (s.newMoment).cover d = s.cover d := rfl
@[simp] theorem State.newMoment_at_anchorOf (d : CarrierIx) :
    (s.newMoment).anchorOf d = s.anchorOf d := rfl
@[simp] theorem State.newMoment_at_unitOf (d : CarrierIx) :
    (s.newMoment).unitOf d = s.unitOf d := rfl
@[simp] theorem State.newMoment_at_profileOf (d : CarrierIx) :
    (s.newMoment).profileOf d = s.profileOf d := rfl
@[simp] theorem State.newMoment_at_isAnchor (d : CarrierIx) :
    (s.newMoment).isAnchor d = s.isAnchor d := rfl
@[simp] theorem State.newMoment_at_isDependent (d : CarrierIx) :
    (s.newMoment).isDependent d = s.isDependent d := rfl
@[simp] theorem State.newMoment_at_unit (v : UnitIx) :
    (s.newMoment).unit v = s.unit v := rfl
@[simp] theorem State.newMoment_at_unitSettings (v : UnitIx) :
    (s.newMoment).unitSettings v = s.unitSettings v := rfl
@[simp] theorem State.newMoment_at_trunkLost :
    (s.newMoment).trunkLost = s.trunkLost := rfl
@[simp] theorem State.newMoment_at_mayDeepen :
    (s.newMoment).mayDeepen = s.mayDeepen := rfl
@[simp] theorem State.newMoment_at_flagRaised (f : Flag) :
    (s.newMoment).flagRaised f = s.flagRaised f := rfl
@[simp] theorem State.newMoment_at_noticeWanted (n : NoticeContent) :
    (s.newMoment).noticeWanted n = s.noticeWanted n := rfl
@[simp] theorem State.newMoment_at_managedCarriers :
    (s.newMoment).managedCarriers = s.managedCarriers := rfl
@[simp] theorem State.newMoment_at_unitCarriers (v : UnitIx) :
    (s.newMoment).unitCarriers v = s.unitCarriers v := rfl
@[simp] theorem State.newMoment_at_dependents (d : CarrierIx) :
    (s.newMoment).dependents d = s.dependents d := rfl
@[simp] theorem State.newMoment_at_warmups :
    (s.newMoment).warmups = s.warmups := rfl

/-! ## Reading back one record -/

/-- A carrier record is read back as it was written, and every other as before. -/
@[simp] theorem State.setCarrier_carrier (c d : CarrierIx) (x : Carrier) :
    (s.setCarrier c x).carrier d = if d = c then x else s.carrier d := by
  rcases eq_or_ne d c with h | h
  · subst h; simp [State.setCarrier, State.carrier]
  · have : c.val ≠ d.val := fun e => h (Fin.ext e.symm)
    simp [State.setCarrier, State.carrier, h, this]

/-- A radio-unit record is read back as it was written, and every other as before. -/
@[simp] theorem State.setUnit_unit (u v : UnitIx) (x : RadioUnit) :
    (s.setUnit u x).unit v = if v = u then x else s.unit v := by
  rcases eq_or_ne v u with h | h
  · subst h; simp [State.setUnit, State.unit]
  · have : u.val ≠ v.val := fun e => h (Fin.ext e.symm)
    simp [State.setUnit, State.unit, h, this]

/-- A configuration part is read back as it was written, and every other as before. -/
@[simp] theorem State.setConfig_config (c d : CarrierIx) (k : CarrierConfig) :
    (s.setConfig c k).config d = if d = c then k else s.config d := by
  rcases eq_or_ne d c with h | h
  · subst h; simp [State.setConfig, State.config]
  · have : c.val ≠ d.val := fun e => h (Fin.ext e.symm)
    simp [State.setConfig, State.config, h, this]

/-- An egress queue is read back as it was written, and every other as before. -/
@[simp] theorem FramePath.setQueue_queue (p : FramePath) (port other : Port) (q : EgressQueue) :
    (p.setQueue port q).queue other = if other = port then q else p.queue other := by
  cases port with
  | trunk => cases other <;> simp [FramePath.setQueue, FramePath.queue]
  | branch n =>
    cases other with
    | trunk => simp [FramePath.setQueue, FramePath.queue]
    | branch m =>
      rcases eq_or_ne m n with h | h
      · subst h; simp [FramePath.setQueue, FramePath.queue]
      · have : n.val ≠ m.val := fun e => h (Fin.ext e.symm)
        simp [FramePath.setQueue, FramePath.queue, h, this]

/-- What the Frame Path holds beside the queues. -/
@[simp] theorem FramePath.setQueue_branchUp (p : FramePath) (port : Port) (q : EgressQueue) :
    (p.setQueue port q).branchUp = p.branchUp := by cases port <;> rfl
@[simp] theorem FramePath.setQueue_branchReport (p : FramePath) (port : Port) (q : EgressQueue) :
    (p.setQueue port q).branchReport = p.branchReport := by cases port <;> rfl
@[simp] theorem FramePath.setQueue_trunkReport (p : FramePath) (port : Port) (q : EgressQueue) :
    (p.setQueue port q).trunkReport = p.trunkReport := by cases port <;> rfl
@[simp] theorem FramePath.setQueue_trunkState (p : FramePath) (port : Port) (q : EgressQueue) :
    (p.setQueue port q).trunkState = p.trunkState := by cases port <;> rfl
@[simp] theorem FramePath.setQueue_grace (p : FramePath) (port : Port) (q : EgressQueue) :
    (p.setQueue port q).grace = p.grace := by cases port <;> rfl
@[simp] theorem FramePath.setQueue_linkUp (p : FramePath) (port other : Port) (q : EgressQueue) :
    (p.setQueue port q).linkUp other = p.linkUp other := by
  cases other <;> simp [FramePath.linkUp, FramePath.trunkLinkUp]

end Sys2Proof.Machine
end

