-- ==== Sys2Proof/Laws/Keeps.lean ====
section
/-! SUPPORT. What every shared operation leaves as it was: `Keeps` for each, up to the whole cascade of one event. -/

namespace Sys2Proof.Machine

variable {s t u : State}

/-! ## The relation -/

theorem Keeps.refl (s : State) : Keeps s s := by
  constructor <;> intros <;>
    first | exact Nat.le_refl _ | rfl | exact List.prefix_refl _ | assumption | exact Or.inl ‹_›

/-- What a drain needs is not changed by what `Keeps` allows. -/
theorem Keeps.config (h : Keeps s t) (c : CarrierIx) : t.config c = s.config c := by
  simp [State.config, h.carrierConfig]

theorem Keeps.isDependent (h : Keeps s t) (c : CarrierIx) : t.isDependent c = s.isDependent c := by
  simp [State.isDependent, State.anchorOf, h.managed, h.config]

theorem Keeps.trunkLost (h : Keeps s t) : t.trunkLost = s.trunkLost := by
  simp [State.trunkLost, h.trunkState]

theorem Keeps.mayBeginDrain (h : Keeps s t) (c : CarrierIx) : t.mayBeginDrain c = s.mayBeginDrain c := by
  simp [State.mayBeginDrain, h.isDependent, h.config, h.mode, h.trunkLost, h.settings]

theorem Keeps.linkUp (h : Keeps s t) (port : Port) : t.path.linkUp port = s.path.linkUp port := by
  cases port <;> simp [FramePath.linkUp, FramePath.trunkLinkUp, h.trunkState, h.branchUp]

theorem Keeps.trans (h : Keeps s t) (k : Keeps t u) : Keeps s u where
  stationAddress := k.stationAddress.trans h.stationAddress
  settings := k.settings.trans h.settings
  carrierConfig := k.carrierConfig.trans h.carrierConfig
  profiles := k.profiles.trans h.profiles
  unitConfig := k.unitConfig.trans h.unitConfig
  actions := k.actions.trans h.actions
  windows := k.windows.trans h.windows
  permissions := k.permissions.trans h.permissions
  classifier := k.classifier.trans h.classifier
  lockOuts := k.lockOuts.trans h.lockOuts
  windowClock := k.windowClock.trans h.windowClock
  calendar := k.calendar.trans h.calendar
  phase := k.phase.trans h.phase
  moment := k.moment.trans h.moment
  freeCounter := k.freeCounter.trans h.freeCounter
  pending := k.pending.trans h.pending
  mode := k.mode.trans h.mode
  requests := k.requests.trans h.requests
  activating := k.activating.trans h.activating
  restarting := k.restarting.trans h.restarting
  flags f hf := k.flags f (h.flags f hf)
  timeUnset := k.timeUnset.trans h.timeUnset
  branchUp := k.branchUp.trans h.branchUp
  branchReport := k.branchReport.trans h.branchReport
  trunkReport := k.trunkReport.trans h.trunkReport
  trunkState := k.trunkState.trans h.trunkState
  grace := k.grace.trans h.grace
  counters c := (k.counters c).trans (h.counters c)
  tally c := (k.tally c).trans (h.tally c)
  sample c := (k.sample c).trans (h.sample c)
  figure c := (k.figure c).trans (h.figure c)
  idleRun c := (k.idleRun c).trans (h.idleRun c)
  primed c := (k.primed c).trans (h.primed c)
  quietRun c := (k.quietRun c).trans (h.quietRun c)
  managed c := (k.managed c).trans (h.managed c)
  drains c hc := (k.drains c hc).elim (h.drains c) fun b => .inr ((h.mayBeginDrain c) ▸ b)
  rests c hc := (k.rests c hc).elim (h.rests c) fun b => .inr ((h.mayBeginDrain c) ▸ b)
  inUse v := (k.inUse v).trans (h.inUse v)
  map v := (k.map v).trans (h.map v)
  token b := k.token (h.token b)
  notices b := k.notices (h.notices b)
  egress p b := k.egress p (h.egress p b)
  silent p b := (k.silent p (by rw [h.linkUp]; exact b)).trans (h.silent p b)
  ahead p := (h.ahead p).trans (k.ahead p)
  sending p f e := k.sending p f (h.sending p f e)
  passes p := (k.passes p).trans (h.passes p)

/-! ## Primitive updates -/

/-- An egress queue whose link is up is written: it fits its room if it did, frames have joined it behind the injected
frames only, and pass frames have gone from the tail only. -/
theorem keeps_setQueue (s : State) (port : Port) (q : EgressQueue) (up : s.path.linkUp port = true)
    (h : (s.path.queue port).used ≤ Config.queueRoom port → q.used ≤ Config.queueRoom port)
    (ahead : (s.path.queue port).ahead <+: q.ahead)
    (sending : ∀ f, (s.path.queue port).sending = some f → q.sending = some f)
    (passes : q.pass <+: (s.path.queue port).pass) :
    Keeps s (s.setPath (s.path.setQueue port q)) := by
  constructor
  case ahead =>
    intro p
    rw [State.setPath_path, FramePath.setQueue_queue]
    split
    · subst p; exact ahead
    · exact List.prefix_refl _
  case sending =>
    intro p
    rw [State.setPath_path, FramePath.setQueue_queue]
    split
    · subst p; exact sending
    · exact fun _ e => e
  case passes =>
    intro p
    rw [State.setPath_path, FramePath.setQueue_queue]
    split
    · subst p; exact passes
    · exact List.prefix_refl _
  case egress =>
    intro p hp
    rw [State.setPath_path, FramePath.setQueue_queue]
    split
    · subst p; exact h hp
    · exact hp
  case silent =>
    intro p hp
    rw [State.setPath_path, FramePath.setQueue_queue]
    split
    · subst p; simp [up] at hp
    · rfl
  all_goals intros; first | exact Nat.le_refl _ | rfl | exact List.prefix_refl _ | assumption | exact Or.inl ‹_› | simp

/-- What the engine may change in an event: flags newly raised, notices, the sequence number. -/
theorem keeps_setEngine (s : State) (e : Engine) (mode : e.mode = s.engine.mode)
    (requests : e.requests = s.engine.requests) (activating : e.activating = s.engine.activating)
    (restarting : e.restarting = s.engine.restarting)
    (flags : ∀ f : Flag, memberOf s.engine.flags f.position.val = true → memberOf e.flags f.position.val = true)
    (timeUnset : memberOf e.flags Flag.timeUnset.position.val = memberOf s.engine.flags Flag.timeUnset.position.val)
    (notices : s.engine.notices.length ≤ Config.noticeRoom → e.notices.length ≤ Config.noticeRoom) :
    Keeps s (s.setEngine e) := by
  constructor <;> intros <;>
    first
    | exact Nat.le_refl _
    | rfl
    | assumption
    | exact Or.inl ‹_›
    | exact List.prefix_refl _
    | (apply flags; assumption)
    | exact timeUnset
    | (apply notices; assumption)

/-- What a radio unit may change in an event: all but whether it is in use, and its carrier map. -/
theorem keeps_setUnit (s : State) (v : UnitIx) (x : RadioUnit)
    (inUse : x.state.isSome = (s.unit v).state.isSome) (map : x.map = (s.unit v).map) : Keeps s (s.setUnit v x) := by
  constructor <;> intros <;>
    first
    | exact Nat.le_refl _
    | rfl
    | assumption
    | exact Or.inl ‹_›
    | exact List.prefix_refl _
    | (rw [State.setUnit_unit]; split <;> simp_all)

/-- R147: the token that follows is a token. -/
theorem nextToken_range (t : Nat) : 1 ≤ nextToken t ∧ nextToken t ≤ 255 := by
  unfold nextToken; split <;> omega

theorem keeps_advanceToken (s : State) : Keeps s s.advanceToken := by
  constructor <;> intros <;>
    first
    | exact Nat.le_refl _
    | rfl
    | exact List.prefix_refl _
    | assumption
    | exact Or.inl ‹_›
    | exact nextToken_range _

theorem keeps_setWakeQueue (s : State) (q : WakeQueue) : Keeps s (s.setWakeQueue q) := by
  constructor <;> intros <;>
    first | exact Nat.le_refl _ | rfl | exact List.prefix_refl _ | assumption | exact Or.inl ‹_›

/-- What one carrier's runtime part may change in an event. -/
structure CarrierKeeps (s : State) (c : CarrierIx) (x : Carrier) : Prop where
  counters : x.counters = (s.carrier c).counters
  tally : x.meter.tally = (s.carrier c).meter.tally
  sample : x.meter.sample = (s.carrier c).meter.sample
  figure : x.meter.figure = (s.carrier c).meter.figure
  idleRun : x.meter.idleRun = (s.carrier c).meter.idleRun
  primed : x.meter.primed = (s.carrier c).meter.primed
  quietRun : x.meter.quietRun ≤ (s.carrier c).meter.quietRun
  managed : (x.life.state != .unmanaged) = s.isManaged c
  drains : x.life.state.isDrain = true → (s.lifeState c).isDrain = true ∨ s.mayBeginDrain c = true
  rests : x.life.state.isResting = true → (s.lifeState c).isResting = true ∨ s.mayBeginDrain c = true

theorem keeps_setCarrier (h : CarrierKeeps s c x) : Keeps s (s.setCarrier c x) := by
  have key : ∀ (P : Carrier → Carrier → Prop), (∀ y, P y y) → P x (s.carrier c) →
      ∀ d, P ((s.setCarrier c x).carrier d) (s.carrier d) := by
    intro P hr hx d
    rw [State.setCarrier_carrier]
    split
    · subst d; exact hx
    · exact hr _
  constructor
  case counters => exact key (fun a b => a.counters = b.counters) (fun _ => rfl) h.counters
  case tally => exact key (fun a b => a.meter.tally = b.meter.tally) (fun _ => rfl) h.tally
  case sample => exact key (fun a b => a.meter.sample = b.meter.sample) (fun _ => rfl) h.sample
  case figure => exact key (fun a b => a.meter.figure = b.meter.figure) (fun _ => rfl) h.figure
  case idleRun => exact key (fun a b => a.meter.idleRun = b.meter.idleRun) (fun _ => rfl) h.idleRun
  case primed => exact key (fun a b => a.meter.primed = b.meter.primed) (fun _ => rfl) h.primed
  case quietRun => exact key (fun a b => a.meter.quietRun ≤ b.meter.quietRun) (fun _ => Nat.le_refl _) h.quietRun
  case managed =>
    intro d
    simp only [State.isManaged, State.lifeState, State.setCarrier_carrier]
    split
    · subst d; exact h.managed
    · rfl
  case drains =>
    intro d
    simp only [State.lifeState, State.setCarrier_carrier]
    split
    · subst d; exact h.drains
    · exact Or.inl
  case rests =>
    intro d
    simp only [State.lifeState, State.setCarrier_carrier]
    split
    · subst d; exact h.rests
    · exact Or.inl
  all_goals intros; first | exact Nat.le_refl _ | rfl | exact List.prefix_refl _ | assumption

/-- A carrier's coverage part is written. -/
theorem keeps_setCover (s : State) (c : CarrierIx) (x : Cover) : Keeps s (s.setCover c x) :=
  keeps_setCarrier ⟨rfl, rfl, rfl, rfl, rfl, rfl, Nat.le_refl _, rfl, Or.inl, Or.inl⟩

/-- A carrier's lifecycle part is written and its state kept. -/
theorem keeps_setLife (s : State) (c : CarrierIx) (x : Life) (h : x.state = s.lifeState c) :
    Keeps s (s.setLife c x) := by
  refine keeps_setCarrier ⟨rfl, rfl, rfl, rfl, rfl, rfl, Nat.le_refl _, ?_, ?_, ?_⟩ <;> simp only [h]
  · rfl
  · exact Or.inl
  · exact Or.inl

/-! ## Egress queues -/

theorem framesLength_append (fs gs : List Frame) : framesLength (fs ++ gs) = framesLength fs + framesLength gs := by
  simp [framesLength]

@[simp] theorem framesLength_nil : framesLength [] = 0 := rfl

@[simp] theorem framesLength_cons (f : Frame) (fs : List Frame) :
    framesLength (f :: fs) = f.length + framesLength fs := by simp [framesLength]

/-- R7: starting a frame moves it within the queue. -/
@[simp] theorem used_start (q : EgressQueue) : q.start.used = q.used := by
  rcases q with ⟨sending, injected, pass⟩
  cases sending <;> cases injected <;> cases pass <;>
    simp [EgressQueue.start, EgressQueue.used]

/-- R8: what is kept fits. -/
theorem keepFitting_length (room : Nat) (fs : List Frame) : framesLength (keepFitting room fs) ≤ room := by
  induction fs generalizing room with
  | nil => simp [keepFitting]
  | cons f fs ih =>
    unfold keepFitting; split
    · have := ih (room - f.length); simp; omega
    · simp

/-- R6: a pass frame that is admitted fits. -/
theorem used_offerPass (room : Nat) (f : Frame) (q : EgressQueue) (h : q.used ≤ room) :
    (q.offerPass room f).used ≤ room := by
  unfold EgressQueue.offerPass; split
  · rw [used_start]; simp_all [EgressQueue.used, framesLength_append]; omega
  · exact h

/-- R8: an injected frame that is admitted fits. -/
theorem used_offerInjected (room : Nat) (f : Frame) (q : EgressQueue) (h : q.used ≤ room) :
    (q.offerInjected room f).used ≤ room := by
  unfold EgressQueue.offerInjected; dsimp only; split
  · have := keepFitting_length (room - ((q.sending.elim 0 Frame.length) + framesLength q.injected + f.length)) q.pass
    rw [used_start]; simp [EgressQueue.used, framesLength_append]; omega
  · rw [used_start]; simp [EgressQueue.used] at h ⊢; omega

theorem keepFitting_prefix (room : Nat) (fs : List Frame) : keepFitting room fs <+: fs := by
  induction fs generalizing room with
  | nil => exact List.prefix_refl _
  | cons f fs ih =>
    unfold keepFitting; split
    · exact (List.prefix_cons_inj f).mpr (ih _)
    · exact List.nil_prefix

/-- R7: a frame in transmission stays there. -/
theorem start_sending (q : EgressQueue) (h : q.sending = some f) : q.start.sending = some f := by
  simp [EgressQueue.start, h]

/-- R7: with an injected frame waiting, or no pass frame, a start changes nothing of what goes ahead, nor the pass
frames. -/
theorem start_ahead (q : EgressQueue) (h : q.injected ≠ [] ∨ q.pass = []) :
    q.start.ahead = q.ahead ∧ q.start.pass = q.pass := by
  rcases q with ⟨sending, injected, pass⟩
  cases sending <;> cases injected <;> cases pass <;> simp_all [EgressQueue.start, EgressQueue.ahead]

/-- R8: an offered injected frame goes behind all that goes ahead, or nowhere. -/
theorem ahead_offerInjected (room : Nat) (f : Frame) (q : EgressQueue) :
    q.ahead <+: (q.offerInjected room f).ahead ∧ (q.offerInjected room f).pass <+: q.pass ∧
      ∀ g, q.sending = some g → (q.offerInjected room f).sending = some g := by
  unfold EgressQueue.offerInjected; dsimp only; split
  · obtain ⟨a, b⟩ := start_ahead { q with
      injected := q.injected ++ [f],
      pass := keepFitting (room - ((q.sending.elim 0 Frame.length) + framesLength q.injected + f.length)) q.pass }
      (.inl (by simp))
    refine ⟨a ▸ ?_, b ▸ keepFitting_prefix _ _, fun g hg => ?_⟩
    · simp [EgressQueue.ahead, ← List.append_assoc]
    · exact start_sending _ hg
  · obtain ⟨a, b⟩ := start_ahead { q with pass := [] } (.inr rfl)
    refine ⟨a ▸ List.prefix_refl _, b ▸ List.nil_prefix, fun g hg => ?_⟩
    exact start_sending _ hg

theorem keeps_offerInjected (s : State) (port : Port) (f : Frame) : Keeps s (s.offerInjected port f) := by
  unfold State.offerInjected; split
  · obtain ⟨a, b, c⟩ := ahead_offerInjected (Config.queueRoom port) f (s.path.queue port)
    exact keeps_setQueue _ _ _ ‹_› (used_offerInjected _ _ _) a c b
  · exact Keeps.refl _

theorem keeps_inject (s : State) (port : Port) (a : Addr) (body : List Byte) : Keeps s (s.inject port a body) :=
  keeps_offerInjected ..

/-- A list of operations that each keep. -/
theorem keeps_foldl {α : Type} (f : State → α → State) (h : ∀ s a, Keeps s (f s a)) (l : List α) (s : State) :
    Keeps s (l.foldl f s) := by
  induction l generalizing s with
  | nil => exact Keeps.refl s
  | cons a as ih => exact (h s a).trans (ih (f s a))

/-! ## Flags and notices -/

theorem memberOf_or (a b : BitVec 12) (i : Nat) (h : memberOf a i = true) : memberOf (a ||| b) i = true := by
  simp_all [memberOf]

/-- R86: no other flag is TIME-UNSET. -/
theorem timeUnset_or (flags : BitVec 12) (f : Flag) (h : f ≠ .timeUnset) :
    memberOf (flags ||| f.mask) Flag.timeUnset.position.val = memberOf flags Flag.timeUnset.position.val := by
  cases f <;> simp_all [memberOf, Flag.mask, Flag.position]

theorem keeps_setFlag (s : State) (f : Flag) (h : f ≠ .timeUnset) : Keeps s (s.setFlag f) :=
  keeps_setEngine s _ rfl rfl rfl rfl (fun _ h => memberOf_or _ _ _ h) (timeUnset_or _ f h) id

@[simp] theorem offerInjected_engine (s : State) (port : Port) (f : Frame) :
    (s.offerInjected port f).engine = s.engine := by unfold State.offerInjected; split <;> rfl

@[simp] theorem inject_engine (s : State) (port : Port) (a : Addr) (body : List Byte) :
    (s.inject port a body).engine = s.engine := offerInjected_engine ..

theorem foldl_engine {α : Type} (f : State → α → State) (h : ∀ s a, (f s a).engine = s.engine) (l : List α)
    (s : State) : (l.foldl f s).engine = s.engine := by
  induction l generalizing s with
  | nil => rfl
  | cons a as ih => exact (ih (f s a)).trans (h s a)

theorem keeps_passNotices (s : State) : Keeps s s.passNotices := by
  have e := foldl_engine (fun (s : State) (n : Notice) => s.inject .trunk n.destination n.body)
    (fun _ _ => inject_engine ..) s.engine.notices s
  refine (keeps_foldl (fun (s : State) (n : Notice) => s.inject .trunk n.destination n.body)
    (fun _ _ => keeps_inject ..) s.engine.notices s).trans (keeps_setEngine _ _ ?_ ?_ ?_ ?_ ?_ ?_ ?_) <;>
    simp [e]

theorem keeps_passIfUp (s : State) : Keeps s s.passIfUp := by
  unfold State.passIfUp; split
  · exact keeps_passNotices s
  · exact Keeps.refl s

theorem keeps_offerNotice (s : State) (n : NoticeContent) : Keeps s (s.offerNotice n).1 := by
  have k (s : State) (q : BitVec 16) : Keeps s (s.setEngine { s.engine with sequence := q }) :=
    keeps_setEngine s _ rfl rfl rfl rfl (fun _ h => h) rfl id
  have k' (s : State) (l : List Notice) (h : l.length ≤ Config.noticeRoom) :
      Keeps s (s.setEngine { s.engine with notices := l }) :=
    keeps_setEngine s _ rfl rfl rfl rfl (fun _ h => h) rfl (fun _ => h)
  unfold State.offerNotice; split
  · dsimp only; split
    · rename_i h
      exact ((k s _).trans (k' _ _ (by simpa using h))).trans (keeps_passIfUp _)
    · exact k s _
  · exact Keeps.refl s

theorem keeps_notify (s : State) (n : NoticeContent) : Keeps s (s.notify n) := by
  unfold State.notify; dsimp only; split
  · exact ((keeps_offerNotice s n).trans (keeps_setFlag _ _ (by decide))).trans (keeps_offerNotice _ _)
  · exact keeps_offerNotice s n

theorem keeps_raiseFlag (s : State) (f : Flag) (h : f ≠ .timeUnset) : Keeps s (s.raiseFlag f) := by
  unfold State.raiseFlag; split
  · exact Keeps.refl s
  · exact (keeps_setFlag s f h).trans (keeps_notify _ _)

theorem keeps_notifyState (s : State) (c : CarrierIx) (old new : LifeState) (cause : Cause) (origin : Origin) :
    Keeps s (s.notifyState c old new cause origin) := keeps_notify ..

/-! ## The radio link -/

theorem keeps_transmit (s : State) (v : UnitIx) (d : Directive) : Keeps s (s.transmit v d) := by
  unfold State.transmit
  exact Keeps.trans (keeps_setUnit _ _ _ (by rfl) (by rfl)) (keeps_offerInjected ..)

theorem keeps_stopDeepTimer (s : State) (v : UnitIx) : Keeps s (s.stopDeepTimer v) := keeps_setUnit s v _ rfl rfl

theorem keeps_releaseUnit (s : State) (v : UnitIx) (h : (s.unit v).state.isSome = true) :
    Keeps s (s.releaseUnit v) := by
  unfold State.releaseUnit
  exact Keeps.trans (Keeps.trans (keeps_advanceToken s) (keeps_setUnit _ _ _ (by simp [h]) (by rfl))) (keeps_inject ..)

/-- A unit in which R153's conditions hold is in use. -/
theorem deepReady_state (h : s.deepReady v = true) : (s.unit v).state = some .up := by
  simp_all [State.deepReady]

theorem keeps_deepExpire (s : State) (v : UnitIx) : Keeps s (s.deepExpire v) := by
  unfold State.deepExpire; dsimp only; split
  · rename_i h
    have hs : (s.unit v).state = some .up := deepReady_state (by simp_all)
    exact Keeps.trans (Keeps.trans (keeps_advanceToken s) (keeps_setUnit _ _ _ (by simp [hs]) (by rfl)))
      (keeps_transmit ..)
  · exact keeps_setUnit s v _ rfl rfl

theorem keeps_deepTest (s : State) (v : UnitIx) : Keeps s (s.deepTest v) := by
  unfold State.deepTest; split
  · split
    · exact keeps_deepExpire s v
    · exact keeps_setUnit s v _ rfl rfl
  · exact Keeps.refl s

theorem keeps_handDirective (h : s.handDirective kind c = some t) : Keeps s t := by
  have base (x : RadioUnit) (hm : x.map = (s.unit (s.unitOf c)).map) (hs : x.state = (s.unit (s.unitOf c)).state) :
      Keeps s (s.advanceToken.setUnit (s.unitOf c) x) :=
    (keeps_advanceToken s).trans (keeps_setUnit s.advanceToken _ _ (by simp [hs]) hm)
  unfold State.handDirective at h
  dsimp only at h
  split at h
  · cases h
  · cases h
  · rename_i hs
    cases h
    exact Keeps.trans (base _ (by rfl) (by rfl)) (keeps_releaseUnit _ _ (by simp [hs]))
  all_goals (cases h; exact base _ (by rfl) (by rfl))

theorem keeps_dropHead (s : State) (v : UnitIx) : Keeps s (s.dropHead v) := keeps_setUnit s v _ rfl rfl

theorem keeps_removeDirective (s : State) (c : CarrierIx) : Keeps s (s.removeDirective c) := by
  unfold State.removeDirective
  exact keeps_setUnit s _ _ (by dsimp only; split <;> rfl) (by dsimp only; split <;> rfl)

/-! ## Coverage -/

theorem keeps_joinDrain (s : State) (c : CarrierIx) (pledge : Nat) : Keeps s (s.joinDrain c pledge) :=
  (keeps_setCover s c _).trans (keeps_setCover ..)

theorem keeps_leaveDrain (s : State) (c : CarrierIx) : Keeps s (s.leaveDrain c) :=
  (keeps_setCover s _ _).trans (keeps_setCover ..)

theorem keeps_placeSleeper (s : State) (c : CarrierIx) : Keeps s (s.placeSleeper c) := keeps_setCover ..

theorem keeps_joinSleepers (s : State) (c : CarrierIx) : Keeps s (s.joinSleepers c) :=
  (keeps_setCover s c _).trans (keeps_placeSleeper ..)

theorem keeps_leaveSleepers (s : State) (c : CarrierIx) : Keeps s (s.leaveSleepers c) := keeps_setCover ..

/-! ## Changes of state -/

/-- `f s` keeps, chosen by a condition. -/
theorem keeps_ite (b : Prop) [Decidable b] (h : Keeps s t) : Keeps s (if b then t else s) := by
  split
  · exact h
  · exact Keeps.refl s

theorem keeps_movePlaces (s : State) (c : CarrierIx) (old new : LifeState) : Keeps s (s.movePlaces c old new) :=
  (((keeps_ite _ (keeps_leaveDrain s c)).trans (keeps_ite _ (keeps_leaveSleepers _ c))).trans
    (keeps_ite _ (keeps_joinSleepers _ c))).trans (keeps_ite _ (keeps_setWakeQueue _ _))

theorem keeps_moveSlumber (s : State) (c : CarrierIx) (old new : LifeState) : Keeps s (s.moveSlumber c old new) := by
  unfold State.moveSlumber; split
  · exact keeps_stopDeepTimer ..
  · exact keeps_ite _ (keeps_deepTest ..)

/-- What a change of state must respect to keep: neither end is UNMANAGED, and a carrier comes to drain or to rest
only from there or where it may begin a drain. -/
structure MoveAllowed (s : State) (c : CarrierIx) (new : LifeState) : Prop where
  managed : (new != .unmanaged) = s.isManaged c
  drains : new.isDrain = true → (s.lifeState c).isDrain = true ∨ s.mayBeginDrain c = true
  rests : new.isResting = true → (s.lifeState c).isResting = true ∨ s.mayBeginDrain c = true

/-- Nothing of a carrier but its coverage part is touched by the places it takes and gives up. -/
theorem movePlaces_lifeState (s : State) (c d : CarrierIx) (old new : LifeState) :
    (s.movePlaces c old new).lifeState d = s.lifeState d := by
  have cov (s : State) (a : CarrierIx) (x : Cover) : (s.setCover a x).lifeState d = s.lifeState d := by
    simp only [State.lifeState, State.setCover, State.setCarrier_carrier]
    split <;> simp_all
  have ld (s : State) : (s.leaveDrain c).lifeState d = s.lifeState d := by
    unfold State.leaveDrain; dsimp only; rw [cov, cov]
  have ls (s : State) : (s.leaveSleepers c).lifeState d = s.lifeState d := by
    unfold State.leaveSleepers; dsimp only; rw [cov]
  have js (s : State) : (s.joinSleepers c).lifeState d = s.lifeState d := by
    unfold State.joinSleepers State.placeSleeper; dsimp only; rw [cov, cov]
  unfold State.movePlaces
  split <;> split <;> split <;> split <;> simp [ld, ls, js]

theorem keeps_moveTo (h : MoveAllowed s c new) : Keeps s (s.moveTo c new) := by
  unfold State.moveTo; dsimp only
  have k := keeps_movePlaces s c (s.lifeState c) new
  refine k.trans (Keeps.trans (keeps_setCarrier ?_) (keeps_moveSlumber ..))
  have meter (old new : LifeState) (m : Meter) : (m.onMove old new).tally = m.tally ∧
      (m.onMove old new).sample = m.sample ∧ (m.onMove old new).figure = m.figure ∧
      (m.onMove old new).idleRun = m.idleRun ∧ (m.onMove old new).primed = m.primed ∧
      (m.onMove old new).quietRun ≤ m.quietRun := by
    unfold Meter.onMove; split
    · simp
    · split <;> simp
  refine ⟨rfl, (meter ..).1, (meter ..).2.1, (meter ..).2.2.1, (meter ..).2.2.2.1, (meter ..).2.2.2.2.1,
    (meter ..).2.2.2.2.2, ?_, ?_, ?_⟩
  · rw [k.managed]; exact h.managed
  · rw [movePlaces_lifeState, k.mayBeginDrain]; exact h.drains
  · rw [movePlaces_lifeState, k.mayBeginDrain]; exact h.rests

/-- A managed carrier may always move to a state of neither group. -/
theorem moveAllowed_awake (hm : s.isManaged c = true) (hn : new ≠ .unmanaged) (hr : new.isResting = false) :
    MoveAllowed s c new := by
  refine ⟨by simp [hm, hn], fun h => ?_, fun h => ?_⟩
  · simp [LifeState.isResting, h] at hr
  · simp [h] at hr

/-- A carrier at rest may always move to a sleeper state. -/
theorem moveAllowed_sleeper (hr : (s.lifeState c).isResting = true) (hn : new.isSleeper = true) :
    MoveAllowed s c new := by
  refine ⟨?_, fun h => ?_, fun _ => .inl hr⟩
  · have : s.lifeState c ≠ .unmanaged := by intro e; simp [e, LifeState.isResting, LifeState.isDrain, LifeState.isSleeper] at hr
    have hn' : new ≠ .unmanaged := by intro e; simp [e, LifeState.isSleeper] at hn
    rw [State.isManaged, bne_iff_ne.mpr hn', bne_iff_ne.mpr this]
  · cases new <;> simp_all [LifeState.isSleeper, LifeState.isDrain]

theorem managed_of (h : s.lifeState c = st) (hn : st ≠ .unmanaged) : s.isManaged c = true := by
  simp [State.isManaged, h, hn]

theorem keeps_moveAndTell (h : MoveAllowed s c new) : Keeps s (s.moveAndTell c new cause) :=
  (keeps_moveTo h).trans (keeps_notifyState ..)

theorem keeps_setAdvisories (s : State) (a : AdvisoryCounters) : Keeps s { s with advisories := a } := by
  constructor <;> intros <;>
    first | exact Nat.le_refl _ | rfl | exact List.prefix_refl _ | assumption | exact Or.inl ‹_›

theorem keeps_advise (s : State) (k : Advisory) (c : CarrierIx) (reason : Cause) : Keeps s (s.advise k c reason) := by
  unfold State.advise; split
  · exact keeps_setAdvisories ..
  · exact (keeps_setAdvisories s _).trans (keeps_inject ..)

theorem keeps_settleNow (s : State) (c : CarrierIx) : Keeps s (s.settleNow c) := by
  unfold State.settleNow; split
  · rename_i h
    exact keeps_moveAndTell (moveAllowed_awake (managed_of h (by simp)) (by simp) rfl)
  · exact Keeps.refl s

theorem keeps_enterRestoring (hm : s.isManaged c = true) : Keeps s (s.enterRestoring c cause) := by
  unfold State.enterRestoring; dsimp only
  have k : Keeps s (((s.moveTo c .restoring).advise .openUp c cause).notifyState c (s.lifeState c) .restoring cause
      cause.origin) :=
    ((keeps_moveTo (moveAllowed_awake hm (by simp) rfl)).trans (keeps_advise ..)).trans (keeps_notifyState ..)
  split
  · exact k.trans (keeps_settleNow ..)
  · exact k

theorem keeps_enterQueued (hm : s.isManaged c = true) : Keeps s (s.enterQueued c cls depth cause) :=
  ((keeps_moveTo (moveAllowed_awake hm (by simp) rfl)).trans (keeps_setWakeQueue ..)).trans (keeps_notifyState ..)

/-- R101: what may begin a drain keeps. -/
theorem keeps_beginDrain (hm : s.isManaged c = true) (hb : s.mayBeginDrain c = true) :
    Keeps s (s.beginDrain c pledge cause) := by
  have k := keeps_joinDrain s c pledge
  refine ((k.trans (keeps_moveTo ⟨?_, fun _ => .inr ?_, fun _ => .inr ?_⟩)).trans (keeps_advise ..)).trans
    (keeps_notifyState ..)
  · rw [k.managed, hm]; rfl
  · rw [k.mayBeginDrain, hb]
  · rw [k.mayBeginDrain, hb]

theorem keeps_keepWake (s : State) (c : CarrierIx) (cls : WakeClass) (cause : Cause) :
    Keeps s (s.keepWake c cls cause) := keeps_setLife s c _ rfl

/-! ## Tasks -/

theorem isDrain_managed (h : (s.lifeState c).isDrain = true) : s.isManaged c = true := by
  cases e : s.lifeState c <;> simp_all [State.isManaged, LifeState.isDrain]

theorem keeps_abandonEffect (c : CarrierIx) (cause : Cause) (s : State) : Keeps s (abandonEffect c cause s).1 := by
  unfold abandonEffect; split
  · rename_i h; exact keeps_enterRestoring (isDrain_managed h)
  · exact Keeps.refl s

theorem keeps_wakeEffect (c : CarrierIx) (k : WakeKind) (s : State) : Keeps s (wakeEffect c k s).1 := by
  unfold wakeEffect
  split <;> rename_i h <;> (try split) <;>
    first
    | exact Keeps.refl s
    | exact keeps_enterQueued (managed_of h (by simp))
    | exact keeps_keepWake ..
    | exact keeps_abandonEffect ..
    | exact keeps_setWakeQueue ..

theorem keeps_grantTo (c : CarrierIx) (s : State) : Keeps s (grantTo c s).1 := by
  unfold grantTo; split
  · rename_i h
    have k := keeps_moveAndTell (cause := .granted) (moveAllowed_awake (new := .warmup) (managed_of h (by simp))
      (by simp) rfl)
    dsimp only; split
    · exact k.trans (keeps_handDirective ‹_›)
    · exact k
  · exact Keeps.refl s

theorem keeps_grantsEffect (s : State) : Keeps s (grantsEffect s).1 := by
  unfold grantsEffect; split
  · split
    · exact Keeps.refl s
    · exact keeps_grantTo ..
  · exact Keeps.refl s

theorem keeps_loseEffect (c : CarrierIx) (cause : Cause) (s : State) : Keeps s (loseEffect c cause s).1 := by
  unfold loseEffect; dsimp only; split
  · exact Keeps.refl s
  · rename_i h
    have hm : s.isManaged c = true := by simp [State.isManaged]; tauto
    exact (((keeps_moveTo (moveAllowed_awake hm (by simp) rfl)).trans (keeps_removeDirective ..)).trans
      (keeps_raiseFlag _ _ (by decide))).trans (keeps_notifyState ..)

theorem keeps_sendHeadEffect (v : UnitIx) (s : State) : Keeps s (sendHeadEffect v s).1 := by
  unfold sendHeadEffect; dsimp only; split
  · split
    · exact Keeps.refl s
    · split
      · exact keeps_setUnit s v _ (by rfl) (by rfl)
      · exact keeps_transmit ..
  · exact Keeps.refl s

theorem keeps_withdrawnEffect (c : CarrierIx) (s : State) : Keeps s (withdrawnEffect c s).1 := by
  unfold withdrawnEffect; split
  · rename_i h
    split
    · exact keeps_moveAndTell (moveAllowed_sleeper (by rw [h]; rfl) rfl)
    · exact keeps_enterQueued (managed_of h (by simp))
  · exact Keeps.refl s

theorem keeps_sleepEnded (c : CarrierIx) (how : DirectiveEnd) (s : State) (h : s.lifeState c = .rampdown) :
    Keeps s (sleepEnded c how s).1 := by
  have hm : s.isManaged c = true := managed_of h (by simp)
  have k : Keeps s (s.moveAndTell c .doze .asleepLight) :=
    keeps_moveAndTell (moveAllowed_sleeper (by rw [h]; rfl) rfl)
  unfold sleepEnded
  split
  · dsimp only; split
    · exact k
    · exact k.trans (keeps_enterQueued (by rw [k.managed, hm]))
  · exact keeps_enterRestoring hm
  all_goals exact Keeps.refl s

theorem keeps_deepenEnded (c : CarrierIx) (how : DirectiveEnd) (s : State) (h : s.lifeState c = .deepening) :
    Keeps s (deepenEnded c how s).1 := by
  have hm : s.isManaged c = true := managed_of h (by simp)
  unfold deepenEnded
  dsimp only
  split
  · split
    · exact keeps_moveAndTell (moveAllowed_sleeper (by rw [h]; rfl) rfl)
    · exact keeps_enterQueued hm
  · split
    · exact keeps_moveAndTell (moveAllowed_sleeper (by rw [h]; rfl) rfl)
    · exact keeps_enterQueued hm
  all_goals exact Keeps.refl s

theorem keeps_wakeEnded (c : CarrierIx) (how : DirectiveEnd) (s : State) (h : s.lifeState c = .warmup) :
    Keeps s (wakeEnded c how s).1 := by
  unfold wakeEnded
  split
  · exact keeps_enterRestoring (managed_of h (by simp))
  all_goals exact Keeps.refl s

theorem keeps_endedEffect (c : CarrierIx) (kind : DirectiveKind) (how : DirectiveEnd) (s : State) :
    Keeps s (endedEffect c kind how s).1 := by
  unfold endedEffect
  split
  · split
    · exact keeps_sleepEnded c how s ‹_›
    · exact Keeps.refl s
  · split
    · exact keeps_deepenEnded c how s ‹_›
    · exact Keeps.refl s
  · split
    · exact keeps_wakeEnded c how s ‹_›
    · exact Keeps.refl s
  all_goals exact Keeps.refl s

theorem keeps_linkUpEffect (c : CarrierIx) (s : State) : Keeps s (linkUpEffect c s).1 := by
  unfold linkUpEffect; split
  · exact keeps_enterQueued (managed_of ‹_› (by simp))
  · exact Keeps.refl s

@[simp] theorem offerInjected_carriers (s : State) (port : Port) (f : Frame) :
    (s.offerInjected port f).carriers = s.carriers := by unfold State.offerInjected; split <;> rfl

@[simp] theorem inject_carriers (s : State) (port : Port) (a : Addr) (body : List Byte) :
    (s.inject port a body).carriers = s.carriers := offerInjected_carriers ..

@[simp] theorem releaseUnit_carriers (s : State) (v : UnitIx) : (s.releaseUnit v).carriers = s.carriers := by
  simp [State.releaseUnit]

/-- Taking a directive touches no carrier record (R145). -/
theorem handDirective_carriers (h : s.handDirective kind c = some t) : t.carriers = s.carriers := by
  unfold State.handDirective at h
  dsimp only at h
  split at h <;> cases h <;> simp

theorem lifeState_of_carriers (h : t.carriers = s.carriers) (c : CarrierIx) : t.lifeState c = s.lifeState c := by
  simp [State.lifeState, State.carrier, h]

theorem keeps_deepenEffect (c : CarrierIx) (s : State) : Keeps s (deepenEffect c s).1 := by
  unfold deepenEffect; split
  · rename_i h
    have hd : s.lifeState c = .doze := by simp_all [State.deepenDue]
    split
    · rename_i t ht
      have k := keeps_handDirective ht
      refine k.trans (keeps_moveAndTell ⟨?_, ?_, fun _ => ?_⟩)
      · rw [k.managed, managed_of hd (by simp)]; rfl
      · intro e; cases e
      · rw [lifeState_of_carriers (handDirective_carriers ht), hd]; exact .inl rfl
    · exact Keeps.refl s
  · exact Keeps.refl s

theorem keeps_completeDrain (c : CarrierIx) (cause : Cause) (origin : Origin) (s : State) :
    Keeps s (completeDrain c cause origin s).1 := by
  unfold completeDrain; split
  · rename_i h
    have k : Keeps s (s.moveTo c .rampdown) := keeps_moveTo (moveAllowed_sleeper (by rw [h]; rfl) rfl)
    dsimp only; split
    · exact (k.trans (keeps_handDirective ‹_›)).trans (keeps_notifyState ..)
    · exact k.trans (keeps_notifyState ..)
  · exact Keeps.refl s

theorem keeps_reportEffect (c : CarrierIx) (m : Meter) (s : State) : Keeps s (reportEffect c m s).1 := by
  unfold reportEffect; dsimp only
  split
  · split
    · exact keeps_abandonEffect ..
    · split
      · exact keeps_completeDrain ..
      · exact Keeps.refl s
  · split
    · exact keeps_abandonEffect ..
    · exact Keeps.refl s
  · exact keeps_deepenEffect ..
  all_goals exact Keeps.refl s

theorem keeps_reliefEffect (a : CarrierIx) (s : State) : Keeps s (reliefEffect a s).1 := by
  unfold reliefEffect
  split
  · exact keeps_abandonEffect ..
  · split <;> exact Keeps.refl s

/-- R76, R100: what makes a candidate is what every drain needs. -/
theorem candidate_may (h : s.isCandidate c m = true) : s.mayBeginDrain c = true ∧ s.isManaged c = true := by
  simp_all [State.isCandidate, State.mayBeginDrain, State.isManaged]

theorem keeps_tryAdmit (report : Vector Meter 32) (s : State) (c : CarrierIx) (hm : s.isManaged c = true)
    (hb : s.mayBeginDrain c = true) : Keeps s (State.tryAdmit report s c) := by
  unfold State.tryAdmit; dsimp only; split
  · exact keeps_beginDrain hm hb
  · exact Keeps.refl s

theorem candidates_may (h : c ∈ s.candidates a report) : s.isManaged c = true ∧ s.mayBeginDrain c = true := by
  have : s.isCandidate c report[c] = true := by
    simp only [State.candidates, List.mem_flatMap, List.mem_filter] at h
    obtain ⟨_, _, ⟨_, h⟩, _⟩ := h
    exact h
  exact ⟨(candidate_may this).2, (candidate_may this).1⟩

theorem keeps_admissions (report : Vector Meter 32) (l : List CarrierIx) (s : State)
    (h : ∀ c ∈ l, s.isManaged c = true ∧ s.mayBeginDrain c = true) : Keeps s (l.foldl (State.tryAdmit report) s) := by
  induction l generalizing s with
  | nil => exact Keeps.refl s
  | cons a as ih =>
    have k := keeps_tryAdmit report s a (h a (by simp)).1 (h a (by simp)).2
    refine k.trans (ih _ fun c hc => ?_)
    rw [k.managed, k.mayBeginDrain]
    exact h c (by simp [hc])

theorem keeps_groupEffect (a : CarrierIx) (report : Vector Meter 32) (s : State) :
    Keeps s (groupEffect a report s).1 := by
  unfold groupEffect; split
  · split
    · exact keeps_reliefEffect ..
    · exact keeps_admissions _ _ _ fun _ hc => candidates_may hc
  · exact Keeps.refl s

theorem keeps_recoverEffect (v : UnitIx) (s : State) : Keeps s (recoverEffect v s).1 := by
  unfold recoverEffect; split
  · rename_i h; exact keeps_releaseUnit _ _ (by simp [h])
  · exact Keeps.refl s

theorem keeps_task (k : Task) (s : State) : Keeps s (k.effect s).1 := by
  cases k with
  | wake c k => exact keeps_wakeEffect ..
  | grants => exact keeps_grantsEffect ..
  | anchorLost a => exact Keeps.refl s
  | sendHead v => exact keeps_sendHeadEffect ..
  | lose c cause => exact keeps_loseEffect ..
  | ended c kind how => exact keeps_endedEffect ..
  | withdrawn c => exact keeps_withdrawnEffect ..
  | linkUp c => exact keeps_linkUpEffect ..
  | deepen c => exact keeps_deepenEffect ..
  | abandon c cause => exact keeps_abandonEffect ..
  | report c m => exact keeps_reportEffect ..
  | group a rep => exact keeps_groupEffect ..
  | deepTest v => exact keeps_deepTest ..
  | recover v => exact keeps_recoverEffect ..

/-! ## The cascade -/

/-- A relation that the tasks of a class respect holds across a task of the class with all that it sets off, when such
tasks keep an invariant and set off only tasks of the class. -/
theorem runTask_induction_on (I : State → Prop) (P : Task → Prop) (R : State → State → Prop) (hr : ∀ s, R s s)
    (ht : ∀ {s t u}, R s t → R t u → R s u) (hi : ∀ (k : Task) (s : State), I s → P k → I (k.effect s).1)
    (hc : ∀ (k : Task) (s : State), I s → P k → ∀ l ∈ (k.effect s).2, P l)
    (hk : ∀ (k : Task) (s : State), I s → P k → R s (k.effect s).1) (n : Nat) (k : Task) (s : State) (h : I s)
    (hp : P k) : R s (runTask n k s) ∧ I (runTask n k s) := by
  induction n generalizing k s with
  | zero => exact ⟨hr s, h⟩
  | succ n ih =>
    have fold (l : List Task) (s : State) (h : I s) (hl : ∀ k ∈ l, P k) :
        R s (l.foldl (fun s u => runTask n u s) s) ∧ I (l.foldl (fun s u => runTask n u s) s) := by
      induction l generalizing s with
      | nil => exact ⟨hr s, h⟩
      | cons a as ih' =>
        have ha := ih a s h (hl a (List.mem_cons_self ..))
        have hs := ih' _ ha.2 fun k hk => hl k (List.mem_cons_of_mem _ hk)
        exact ⟨ht ha.1 hs.1, hs.2⟩
    have hs := fold _ _ (hi k s h hp) (hc k s h hp)
    exact ⟨ht (hk k s h hp) hs.1, hs.2⟩

/-- A relation that the tasks of a class respect holds across the tasks of one event, if all are of the class. -/
theorem work_induction_on (I : State → Prop) (P : Task → Prop) (R : State → State → Prop) (hr : ∀ s, R s s)
    (ht : ∀ {s t u}, R s t → R t u → R s u) (hi : ∀ (k : Task) (s : State), I s → P k → I (k.effect s).1)
    (hc : ∀ (k : Task) (s : State), I s → P k → ∀ l ∈ (k.effect s).2, P l)
    (hk : ∀ (k : Task) (s : State), I s → P k → R s (k.effect s).1) (l : List Task) (s : State) (h : I s)
    (hl : ∀ k ∈ l, P k) : R s (s.work l) ∧ I (s.work l) := by
  unfold State.work
  generalize s.taskFuel = fuel
  induction l generalizing s with
  | nil => exact ⟨hr s, h⟩
  | cons a as ih =>
    have ha := runTask_induction_on I P R hr ht hi hc hk fuel a s h (hl a (List.mem_cons_self ..))
    have hs := ih _ ha.2 fun k hk => hl k (List.mem_cons_of_mem _ hk)
    exact ⟨ht ha.1 hs.1, hs.2⟩

/-- A relation that every task respects holds across the tasks of one event. -/
theorem work_induction (R : State → State → Prop) (hr : ∀ s, R s s) (ht : ∀ {s t u}, R s t → R t u → R s u)
    (hk : ∀ (k : Task) (s : State), R s (k.effect s).1) (l : List Task) (s : State) : R s (s.work l) :=
  (work_induction_on (fun _ => True) (fun _ => True) R hr ht (fun _ _ _ _ => trivial) (fun _ _ _ _ _ _ => trivial)
    (fun k s _ _ => hk k s) l s trivial fun _ _ => trivial).1

/-- The cascade of one event keeps. -/
theorem keeps_work (l : List Task) (s : State) : Keeps s (s.work l) :=
  work_induction Keeps Keeps.refl Keeps.trans keeps_task l s

theorem keeps_finish (e : Effect) (h : Keeps s e.1) : Keeps s e.finish := h.trans (keeps_work ..)

end Sys2Proof.Machine
end

