-- ==== Sys2Proof/Laws/Moves.lean ====
section
/-! SUPPORT. What the shared operations that tell (frames, notices, flags, advisories) touch, and all that one change of
lifecycle state does. -/

namespace Sys2Proof.Machine

variable (s : State)

/-! ## Telling touches the egress queues, the engine and the advisory counters only -/

theorem Tells.refl (s : State) : Tells s s := ⟨rfl, rfl, rfl, rfl, Keeps.refl s⟩

theorem Tells.trans {s t u : State} (h : Tells s t) (k : Tells t u) : Tells s u :=
  ⟨k.carriers.trans h.carriers, k.units.trans h.units, k.wakeQueue.trans h.wakeQueue, k.token.trans h.token,
    h.keeps.trans k.keeps⟩

theorem Tells.lifeState {s t : State} (h : Tells s t) (c : CarrierIx) : t.lifeState c = s.lifeState c := by
  simp [State.lifeState, State.carrier, h.carriers]

theorem Tells.carrier {s t : State} (h : Tells s t) (c : CarrierIx) : t.carrier c = s.carrier c := by
  simp [State.carrier, h.carriers]

theorem Tells.unit {s t : State} (h : Tells s t) (v : UnitIx) : t.unit v = s.unit v := by
  simp [State.unit, h.units]

theorem tells_offerInjected (port : Port) (f : Frame) : Tells s (s.offerInjected port f) := by
  refine ⟨?_, ?_, ?_, ?_, keeps_offerInjected ..⟩ <;> unfold State.offerInjected <;> split <;> rfl

theorem tells_inject (port : Port) (a : Addr) (body : List Byte) : Tells s (s.inject port a body) :=
  tells_offerInjected ..

theorem tells_foldl {α : Type} (f : State → α → State) (h : ∀ s a, Tells s (f s a)) (l : List α) (s : State) :
    Tells s (l.foldl f s) := by
  induction l generalizing s with
  | nil => exact Tells.refl s
  | cons a as ih => exact (h s a).trans (ih (f s a))

theorem tells_respond (r : Request) (status : Status) (n : Nat) (results : List Byte) :
    Tells s (s.respond r status n results) := tells_inject ..

theorem tells_setFlag (f : Flag) (h : f ≠ .timeUnset) : Tells s (s.setFlag f) :=
  ⟨rfl, rfl, rfl, rfl, keeps_setFlag s f h⟩

theorem tells_passNotices : Tells s s.passNotices := by
  have h := tells_foldl (fun (s : State) (n : Notice) => s.inject .trunk n.destination n.body)
    (fun _ _ => tells_inject ..) s.engine.notices s
  exact ⟨h.carriers, h.units, h.wakeQueue, h.token, keeps_passNotices s⟩

theorem tells_offerNotice (n : NoticeContent) : Tells s (s.offerNotice n).1 := by
  have up (s : State) : Tells s s.passIfUp := by
    unfold State.passIfUp; split
    · exact tells_passNotices s
    · exact Tells.refl s
  refine ⟨?_, ?_, ?_, ?_, keeps_offerNotice s n⟩ <;> unfold State.offerNotice <;> split <;> (try dsimp only) <;>
    (try split) <;> first | rfl | exact (up _).carriers | exact (up _).units | exact (up _).wakeQueue | exact (up _).token

theorem tells_notify (n : NoticeContent) : Tells s (s.notify n) := by
  unfold State.notify; dsimp only; split
  · exact ((tells_offerNotice s n).trans (tells_setFlag _ _ (by decide))).trans (tells_offerNotice _ _)
  · exact tells_offerNotice s n

theorem tells_raiseFlag (f : Flag) (h : f ≠ .timeUnset) : Tells s (s.raiseFlag f) := by
  unfold State.raiseFlag; split
  · exact Tells.refl s
  · exact (tells_setFlag s f h).trans (tells_notify _ _)

theorem tells_notifyState (c : CarrierIx) (old new : LifeState) (cause : Cause) (origin : Origin) :
    Tells s (s.notifyState c old new cause origin) := tells_notify ..

theorem tells_advise (k : Advisory) (c : CarrierIx) (reason : Cause) : Tells s (s.advise k c reason) := by
  have a (x : AdvisoryCounters) : Tells s { s with advisories := x } := ⟨rfl, rfl, rfl, rfl, keeps_setAdvisories s x⟩
  unfold State.advise; split
  · exact a _
  · exact (a _).trans (tells_inject ..)

/-- A flag that is raised stands raised. -/
theorem setFlag_raised (f : Flag) : (s.setFlag f).flagRaised f = true := by
  cases f <;> simp [State.setFlag, State.flagRaised, memberOf, Flag.mask, Flag.position]

theorem raiseFlag_raised (f : Flag) : (s.raiseFlag f).flagRaised f = true := by
  unfold State.raiseFlag; split
  · assumption
  · exact (tells_notify _ _).keeps.flags f (setFlag_raised s f)

/-! ## The unit timers touch no carrier -/

@[simp] theorem transmit_carriers (v : UnitIx) (d : Directive) : (s.transmit v d).carriers = s.carriers := by
  simp [State.transmit]

@[simp] theorem deepExpire_carriers (v : UnitIx) : (s.deepExpire v).carriers = s.carriers := by
  unfold State.deepExpire; dsimp only; split <;> simp

@[simp] theorem deepTest_carriers (v : UnitIx) : (s.deepTest v).carriers = s.carriers := by
  unfold State.deepTest; split
  · split <;> simp
  · rfl

@[simp] theorem moveSlumber_carriers (c : CarrierIx) (old new : LifeState) :
    (s.moveSlumber c old new).carriers = s.carriers := by
  unfold State.moveSlumber; split
  · simp [State.stopDeepTimer]
  · split <;> simp

@[simp] theorem removeDirective_carriers (c : CarrierIx) : (s.removeDirective c).carriers = s.carriers := rfl

/-! ## One change of state -/

/-- The lists and places touch no lifecycle part, meter, counter or mark. -/
theorem movePlaces_carrier (c d : CarrierIx) (old new : LifeState) :
    ((s.movePlaces c old new).carrier d) = { s.carrier d with cover := ((s.movePlaces c old new).carrier d).cover } := by
  have cov (s t : State) (a : CarrierIx) (x : Cover) (h : s.carrier d = { t.carrier d with cover := (s.carrier d).cover }) :
      ((s.setCover a x).carrier d) = { t.carrier d with cover := ((s.setCover a x).carrier d).cover } := by
    simp only [State.setCover, State.setCarrier_carrier]
    split
    · subst d; rw [h]
    · exact h
  have ld (s t : State) (h : s.carrier d = { t.carrier d with cover := (s.carrier d).cover }) :
      ((s.leaveDrain c).carrier d) = { t.carrier d with cover := ((s.leaveDrain c).carrier d).cover } :=
    cov _ _ _ _ (cov _ _ _ _ h)
  have ls (s t : State) (h : s.carrier d = { t.carrier d with cover := (s.carrier d).cover }) :
      ((s.leaveSleepers c).carrier d) = { t.carrier d with cover := ((s.leaveSleepers c).carrier d).cover } :=
    cov _ _ _ _ h
  have js (s t : State) (h : s.carrier d = { t.carrier d with cover := (s.carrier d).cover }) :
      ((s.joinSleepers c).carrier d) = { t.carrier d with cover := ((s.joinSleepers c).carrier d).cover } :=
    cov _ _ _ _ (cov _ _ _ _ h)
  have ite (b : Prop) [Decidable b] (s s' t : State) (h : s.carrier d = { t.carrier d with cover := (s.carrier d).cover })
      (h' : s'.carrier d = { t.carrier d with cover := (s'.carrier d).cover }) :
      ((if b then s' else s).carrier d) = { t.carrier d with cover := ((if b then s' else s).carrier d).cover } := by
    split
    · exact h'
    · exact h
  unfold State.movePlaces
  dsimp only
  have h1 := ite (old.isDrain && !new.isDrain) s (s.leaveDrain c) s rfl (ld _ _ rfl)
  have h2 := ite (old.isSleeper && !new.isSleeper) _ _ s h1 (ls _ _ h1)
  have h3 := ite (!old.isSleeper && new.isSleeper) _ _ s h2 (js _ _ h2)
  exact ite (old = .queued) _ _ s h3 h3

/-- R97: after a change of state of carrier `c`, what its record holds beside its coverage part. -/
theorem moveTo_carrier (c : CarrierIx) (new : LifeState) :
    ((s.moveTo c new).carrier c).life = (s.carrier c).life.enter new (s.profileOf c) ∧
      ((s.moveTo c new).carrier c).meter = (s.carrier c).meter.onMove (s.lifeState c) new ∧
      ((s.moveTo c new).carrier c).counters = (s.carrier c).counters ∧
      ((s.moveTo c new).carrier c).drainedReceived =
        ((s.carrier c).drainedReceived && (s.lifeState c).isDrain && new.isDrain) := by
  have k := keeps_movePlaces s c (s.lifeState c) new
  have p : (s.movePlaces c (s.lifeState c) new).profileOf c = s.profileOf c := by
    simp [State.profileOf, k.profiles, k.config]
  have e : (s.moveTo c new).carrier c =
      ((s.movePlaces c (s.lifeState c) new).carrier c).onMove new (s.profileOf c) := by
    unfold State.moveTo; dsimp only
    rw [State.carrier, moveSlumber_carriers, ← State.carrier, State.setCarrier_carrier, if_pos rfl, p]
  rw [e, movePlaces_carrier]
  simp [Carrier.onMove, State.lifeState]

/-- R97: a change of state of one carrier leaves every other's state, meter, counters and marks. -/
theorem moveTo_other (c d : CarrierIx) (new : LifeState) (h : d ≠ c) :
    (s.moveTo c new).carrier d = { s.carrier d with cover := ((s.moveTo c new).carrier d).cover } := by
  have e : (s.moveTo c new).carrier d = (s.movePlaces c (s.lifeState c) new).carrier d := by
    unfold State.moveTo; dsimp only
    rw [State.carrier, moveSlumber_carriers, ← State.carrier, State.setCarrier_carrier, if_neg h]
  rw [e]; exact movePlaces_carrier ..

/-- R97: the state of every carrier after a change of state of one. -/
@[simp] theorem moveTo_lifeState (c d : CarrierIx) (new : LifeState) :
    (s.moveTo c new).lifeState d = if d = c then new else s.lifeState d := by
  split
  · subst d
    rw [State.lifeState, (moveTo_carrier s c new).1]; rfl
  · rw [State.lifeState, moveTo_other s c d new ‹_›]; rfl

/-- The state of every carrier after a change of state that is told. -/
@[simp] theorem moveAndTell_lifeState (c d : CarrierIx) (new : LifeState) (cause : Cause) :
    (s.moveAndTell c new cause).lifeState d = if d = c then new else s.lifeState d := by
  rw [State.moveAndTell, (tells_notifyState _ _ _ _ _ _).lifeState, moveTo_lifeState]

/-- R126: the state of every carrier after one enters QUEUED. -/
@[simp] theorem enterQueued_lifeState (c d : CarrierIx) (cls : WakeClass) (depth : Depth) (cause : Cause) :
    (s.enterQueued c cls depth cause).lifeState d = if d = c then .queued else s.lifeState d := by
  rw [State.enterQueued, (tells_notifyState _ _ _ _ _ _).lifeState, State.setWakeQueue_at_lifeState, moveTo_lifeState]

/-- R101: the state of every carrier after one begins to drain. -/
@[simp] theorem beginDrain_lifeState (c d : CarrierIx) (pledge : Nat) (cause : Cause) :
    (s.beginDrain c pledge cause).lifeState d = if d = c then .draining else s.lifeState d := by
  have cov (s : State) (a d : CarrierIx) (x : Cover) : (s.setCover a x).lifeState d = s.lifeState d := by
    simp only [State.lifeState, State.setCover, State.setCarrier_carrier]
    split <;> simp_all
  rw [State.beginDrain, (tells_notifyState _ _ _ _ _ _).lifeState, (tells_advise _ _ _ _).lifeState, moveTo_lifeState]
  simp [State.joinDrain, cov]

/-- R133, R134: the state of every carrier after one enters RESTORING: it passes through to ACTIVE when its settle time
is 0. -/
theorem enterRestoring_lifeState (c d : CarrierIx) (cause : Cause) :
    (s.enterRestoring c cause).lifeState d =
      if d = c then (if (s.profileOf c).settleTime = 0 then .active else .restoring) else s.lifeState d := by
  have m := (moveTo_carrier s c .restoring).1
  have t : Tells (s.moveTo c .restoring)
      (((s.moveTo c .restoring).advise .openUp c cause).notifyState c (s.lifeState c) .restoring cause cause.origin) :=
    (tells_advise _ _ _ _).trans (tells_notifyState _ _ _ _ _ _)
  unfold State.enterRestoring
  dsimp only
  rw [t.carrier c, m]
  simp only [Life.enter, if_true]
  by_cases h : (s.profileOf c).settleTime = 0
  · simp only [h, if_true, State.settleNow, t.lifeState, moveTo_lifeState, moveAndTell_lifeState]
    split <;> simp_all
  · simp only [h, if_false, t.lifeState, moveTo_lifeState]

end Sys2Proof.Machine
end

