-- ==== Sys2Proof/Laws/Requests.lean ====
section
/-! SUPPORT. What the shared operations of the request path do: taking a request, answering it, the checks in their order,
and writing one record; and that the bytes of a number read back as the number. -/

namespace Sys2Proof.Machine

variable {row : Instr} {s : State} {r : Request} {rest : List Request}

/-! ## Numbers as bytes -/

@[simp] theorem beBytes_length (n w : Nat) : (beBytes n w).length = n := by
  induction n with
  | zero => rfl
  | succ n ih => simp [beBytes, ih]

theorem beNat_append (as bs : List Byte) : beNat (as ++ bs) = beNat as * 256 ^ bs.length + beNat bs := by
  unfold beNat
  rw [List.foldl_append]
  generalize List.foldl (fun (acc : Nat) (b : Byte) => acc * 256 + b.toNat) 0 as = x
  induction bs generalizing x with
  | nil => simp
  | cons b bs ih =>
    simp only [List.foldl_cons, List.length_cons, Nat.zero_mul, Nat.zero_add]
    rw [ih (x * 256 + b.toNat), ih b.toNat, Nat.pow_succ]
    ring

@[simp] theorem beNat_nil : beNat [] = 0 := rfl

@[simp] theorem beNat_cons (b : Byte) (bs : List Byte) : beNat (b :: bs) = b.toNat * 256 ^ bs.length + beNat bs := by
  have := beNat_append [b] bs
  simpa [beNat] using this

/-- The bytes of a number read back as the number. -/
@[simp] theorem beNat_beBytes (n w : Nat) (h : w < 256 ^ n) : beNat (beBytes n w) = w := by
  have key (n w : Nat) : beNat (beBytes n w) = w % 256 ^ n := by
    induction n with
    | zero => simp [beBytes, Nat.mod_one]
    | succ n ih =>
      rw [beBytes, beNat_cons, ih, beBytes_length, BitVec.toNat_ofNat, show (2 : Nat) ^ 8 = 256 from rfl, Nat.pow_succ,
        Nat.mod_mul]
      ring
  rw [key, Nat.mod_eq_of_lt h]

/-- A field, byte by byte, is its bytes. -/
theorem laid_field (n w : Nat) : ((List.range n).map fun j => BitVec.ofNat 8 (w / 256 ^ (n - 1 - j))) = beBytes n w := by
  induction n with
  | zero => rfl
  | succ n ih =>
    rw [List.range_succ_eq_map, beBytes, List.map_cons, List.map_map, ← ih]
    congr 1
    refine List.map_congr_left fun j hj => ?_
    have := List.mem_range.mp hj
    simp only [Function.comp, show n + 1 - 1 - (j + 1) = n - 1 - j by omega]

/-- Fields one after another are their bytes one after another. -/
@[simp] theorem laid_nil : laid [] = [] := rfl

@[simp] theorem laid_cons (f : Nat × Nat) (fs : List (Nat × Nat)) : laid (f :: fs) = beBytes f.1 f.2 ++ laid fs := by
  simp [laid, laid_field]

theorem laid_append (fs gs : List (Nat × Nat)) : laid (fs ++ gs) = laid fs ++ laid gs := by simp [laid]

/-- A field of one byte. -/
@[simp] theorem beBytes_one (w : Nat) : beBytes 1 w = [BitVec.ofNat 8 w] := by simp [beBytes]

/-- R4, R182: an injected frame is its fields, filled up. -/
theorem inject_sends (port : Port) (a : Addr) (body : List (Nat × Nat)) (s : State) :
    s.inject port a (laid body) = s.sends port a body := by
  simp [State.inject, State.sends, State.ownFrame, buildFrame, Config.minFrame, Config.checkBytes]

/-! ## The completion of a swap -/

/-- R27: a swap that completes. -/
theorem swapCompleted_answerSwap (mirror : Bool) (s : State) :
    SwapCompleted mirror s ((s.setClassifier (s.classifier.completeSwap mirror)).answerSwap mirror) := by
  refine ⟨{ s with classifier := s.classifier.completeSwap mirror, engine := { s.engine with activating := none } },
    rfl, ?_, ?_, ?_, fun h => ?_, fun r h => ?_⟩
  · cases mirror <;> cases h : s.classifier.selector <;> simp [Classifier.completeSwap, Classifier.setBank, h]
  · cases mirror <;> cases h : s.classifier.selector <;>
      simp [Classifier.completeSwap, Classifier.setBank, Classifier.bank, h]
  · cases mirror <;> cases h : s.classifier.selector <;>
      simp [Classifier.completeSwap, Classifier.setBank, Classifier.bank, h]
  · simp only [State.answerSwap, State.setClassifier, h]
    rw [← h]
  · have e : (s.classifier.completeSwap mirror).selector = s.classifier.selector := by
      cases mirror <;> cases k : s.classifier.selector <;> simp [Classifier.completeSwap, Classifier.setBank, k]
    simp [State.answerSwap, State.setClassifier, State.setEngine, h, e, markByte]

/-- R26, R27: all that `settleSwap` can do. -/
theorem settleSwap_cases (s : State) :
    (s.classifier.swap = none ∧ s.settleSwap = s) ∨
    ∃ mirror, s.classifier.swap = some mirror ∧
      ((s.classifier.outgoingFree = false ∧ s.settleSwap = s) ∨
        (s.classifier.outgoingFree = true ∧ SwapCompleted mirror s s.settleSwap)) := by
  unfold State.settleSwap
  split
  · exact .inl ⟨‹_›, rfl⟩
  · rename_i mirror h
    refine .inr ⟨mirror, h, ?_⟩
    split
    · exact .inr ⟨‹_›, swapCompleted_answerSwap ..⟩
    · rename_i k; exact .inl ⟨by simpa using k, rfl⟩

/-! ## Taking a request -/

theorem takeRequest_takes (h : Takes row s r rest) : s.takeRequest row = some (r, s.taken rest) := by
  obtain ⟨h1, h2, h3, h4⟩ := h
  simp [State.takeRequest, h1, h2, h3, h4, State.taken]

/-- A command whose request is at the head of the queue makes of it what its answer says. -/
theorem onRequest_takes (answer : Request → State → State) (h : Takes row s r rest) :
    onRequest row answer s = .next (answer r (s.taken rest)) := by
  simp [onRequest, takeRequest_takes h]

/-- A command whose request is not at the head of the queue, or that may not be taken, changes nothing. -/
theorem onRequest_idle (answer : Request → State → State)
    (h : s.phase ≠ .running ∨ s.engine.restarting = true ∨ s.engine.requests = [] ∨
      ∃ r rest, s.engine.requests = r :: rest ∧ r.command ≠ row) : onRequest row answer s = .next s := by
  have : s.takeRequest row = none := by
    unfold State.takeRequest
    obtain h | h | h | ⟨r, rest, h, k⟩ := h <;> split <;> simp_all
  simp [onRequest, this]

@[simp] theorem taken_engine (s : State) : (s.taken rest).engine = { s.engine with requests := rest } := rfl
@[simp] theorem taken_permissions (s : State) : (s.taken rest).permissions = s.permissions := rfl
@[simp] theorem taken_classifier (s : State) : (s.taken rest).classifier = s.classifier := rfl
@[simp] theorem taken_settings (s : State) : (s.taken rest).settings = s.settings := rfl
@[simp] theorem taken_calendar (s : State) : (s.taken rest).calendar = s.calendar := rfl
@[simp] theorem taken_lifeState (s : State) (c : CarrierIx) : (s.taken rest).lifeState c = s.lifeState c := rfl
@[simp] theorem taken_carrier (s : State) (c : CarrierIx) : (s.taken rest).carrier c = s.carrier c := rfl
@[simp] theorem taken_config (s : State) (c : CarrierIx) : (s.taken rest).config c = s.config c := rfl
@[simp] theorem taken_isManaged (s : State) (c : CarrierIx) : (s.taken rest).isManaged c = s.isManaged c := rfl
@[simp] theorem taken_unit (s : State) (u : UnitIx) : (s.taken rest).unit u = s.unit u := rfl
@[simp] theorem taken_flagRaised (s : State) (f : Flag) : (s.taken rest).flagRaised f = s.flagRaised f := rfl

/-! ## Answering -/

@[simp] theorem answer_some (status : Status) (k : State → State) (s : State) :
    s.answer r (some status) k = s.respond r status 0 [] := rfl
@[simp] theorem answer_none (k : State → State) (s : State) : s.answer r none k = k s := rfl
@[simp] theorem firstOf_some (status : Status) (b : Option Status) : firstOf (some status) b = some status := rfl
@[simp] theorem firstOf_none (b : Option Status) : firstOf none b = b := rfl
@[simp] theorem failIf_true (status : Status) : failIf true status = some status := rfl
@[simp] theorem failIf_false (status : Status) : failIf false status = none := rfl

theorem permission_ok (k : RequestKind) (h : r.cls ≤ s.permissions[k.code]) : s.permission r k = none := by
  simp only [State.permission, State.permits, State.ceiling, h, decide_true, Bool.not_true, failIf_false]

theorem permission_denied (k : RequestKind) (h : s.permissions[k.code] < r.cls) :
    s.permission r k = some .denied := by
  have : ¬r.cls ≤ s.permissions[k.code] := by omega
  simp only [State.permission, State.permits, State.ceiling, this, decide_false, Bool.not_false, failIf_true]

theorem holds_ok (n : Nat) (h : n ≤ r.values.length) : r.holds n = none := by
  have : ¬r.values.length < n := by omega
  simp [Request.holds, this]

theorem holds_short (n : Nat) (h : r.values.length < n) : r.holds n = some .badLength := by simp [Request.holds, h]

/-- The count and the direction are within their values (R171, R172). -/
theorem countOrDirectionBad_iff : r.countOrDirectionBad = false ↔
    1 ≤ r.count ∧ r.count ≤ 16 ∧ (byteAt r.body 7 = 0#8 ∨ byteAt r.body 7 = 1#8) := by
  unfold Request.countOrDirectionBad Request.direction readMark
  split
  · rename_i h; simp [h]; omega
  · split
    · rename_i h; simp [h]; omega
    · simp [*]

/-! ## Writing -/

/-- The checks of a whole write that passes them (R172). -/
theorem answerWrite_ok (t : Table) (owner : OwnerWrite) (after : Nat → State → State)
    (hp : r.cls ≤ s.permissions[2]) (hc : r.countOrDirectionBad = false)
    (hl : r.count * t.recordBytes ≤ r.values.length) :
    s.answerWrite r t owner after =
      (after (s.writeRecordsOf r t owner).count (s.writeRecordsOf r t owner).state).respond r
        (s.writeRecordsOf r t owner).status (s.writeRecordsOf r t owner).count [] := by
  have p : s.permission r .writeRecords = none := permission_ok _ hp
  simp [State.answerWrite, State.writeChecks, p, hc, holds_ok _ hl]

/-- A write of one record: the owner's answer decides (R172). -/
theorem writeRecordsOf_one (t : Table) (owner : OwnerWrite) (i : Nat) (record : List Byte)
    (h : OneRecord r i record) (hl : record.length = t.recordBytes) (hi : i < t.size) :
    s.writeRecordsOf r t owner = match owner i record s with
      | .error status => { state := s, count := 0, status := status }
      | .ok u => { state := u, count := 1, status := .done } := by
  obtain ⟨h1, h2, h3, h4⟩ := h
  rw [hl] at h4
  simp only [State.writeRecordsOf, h1, h3, chunks, h4]
  unfold writeEach
  simp only [hi, if_true]
  cases owner i record s with
  | error status => rfl
  | ok u => simp only [writeEach]

/-- A write of one record, whole: refused by its owner, or written and answered DONE (R172). -/
theorem answerWrite_one (t : Table) (owner : OwnerWrite) (after : Nat → State → State) (i : Nat) (record : List Byte)
    (hp : r.cls ≤ s.permissions[2]) (h : OneRecord r i record) (hl : record.length = t.recordBytes) (hi : i < t.size) :
    s.answerWrite r t owner after = match owner i record s with
      | .error status => (after 0 s).respond r status 0 []
      | .ok u => (after 1 u).respond r .done 1 [] := by
  have h' := h
  obtain ⟨h1, h2, h3, h4⟩ := h
  have hc : r.countOrDirectionBad = false := countOrDirectionBad_iff.mpr ⟨by omega, by omega, h2⟩
  have hv : r.count * t.recordBytes ≤ r.values.length := by
    have := congrArg List.length h4
    simp only [List.length_take] at this
    rw [h1]; omega
  rw [answerWrite_ok t owner after hp hc hv, writeRecordsOf_one t owner i record h' hl hi]
  cases owner i record s <;> rfl

end Sys2Proof.Machine
end

