-- ==== Sys2Proof/Laws/Tick.lean ====
section
/-! SUPPORT. What the part does on its own: the order in which events are put leaves each in once, and the events that are
ready and those that fall due at a tick, as the manual tells them. -/

namespace Sys2Proof.Machine

/-! ## The order of events -/

theorem placeEvent_perm (e : Nat × Instr) (l : List (Nat × Instr)) : (placeEvent e l).Perm (e :: l) := by
  induction l with
  | nil => exact .refl _
  | cons f fs ih =>
    unfold placeEvent; split
    · exact .refl _
    · exact (ih.cons f).trans (.swap e f fs)

/-- Whatever the free values are, the events are put in some order, none is lost and none comes twice. -/
theorem arrange_perm (count : Nat) (events : List Instr) : (arrange count events).Perm events := by
  have fold (l : List (Nat × Instr)) : (l.foldr placeEvent []).Perm l := by
    induction l with
    | nil => exact .refl _
    | cons e l ih => exact (placeEvent_perm e _).trans (ih.cons e)
  have := (fold (events.zipIdx.map fun e => (Config.eventPlace count e.2, e.1))).map Prod.snd
  simpa [arrange, List.map_map, Function.comp_def] using this

@[simp] theorem mem_dueIf (due : Bool) (i j : Instr) : j ∈ dueIf due i ↔ due = true ∧ j = i := by
  unfold dueIf; split <;> simp_all

theorem dueIf_nodup (due : Bool) (i : Instr) : (dueIf due i).Nodup := by unfold dueIf; split <;> simp

/-! ## Work that is ready -/

theorem mem_allPorts (p : Port) : p ∈ allPorts := by cases p <;> simp [allPorts]

theorem allPorts_nodup : allPorts.Nodup := by decide

/-- A request is taken in a command of its own. -/
theorem command_ne (r : Request) : (∀ p, r.command ≠ .walkEnds p) ∧ (∀ p, r.command ≠ .transmissionEnd p) ∧
    r.command ≠ .swapCompletes ∧ ∀ source, r.command ≠ .warmResetBegin source := by
  have w : ∀ n, (∀ p, settingCommand n ≠ .walkEnds p) ∧ (∀ p, settingCommand n ≠ .transmissionEnd p) ∧
      settingCommand n ≠ .swapCompletes ∧ ∀ source, settingCommand n ≠ .warmResetBegin source := by
    intro n; unfold settingCommand; split <;> simp
  unfold Request.command
  split
  case h_3 =>
    unfold Request.writeCommand
    split <;> first | exact w _ | simp
  all_goals simp

theorem restartDue_iff (s : State) : s.restartDue = true ↔
    s.engine.restarting = true ∧ ∀ f ∈ s.path.trunkQueue.ahead, f.restartAnswer = false := by
  unfold State.restartDue EgressQueue.holdsRestartAnswer EgressQueue.ahead
  cases s.path.trunkQueue.sending <;> simp

/-- The work that is ready is what `Ready` says. -/
theorem mem_readyEvents (s : State) (h : s.phase = .running) (i : Instr) : i ∈ s.readyEvents ↔ Ready s i := by
  have walk : i ∈ s.walkEvents ↔ ∃ w ∈ s.classifier.walks, i = .walkEnds w.port := by
    simp only [State.walkEvents, List.mem_flatMap, mem_dueIf, List.any_eq_true, beq_iff_eq, mem_allPorts, true_and]
    constructor
    · rintro ⟨p, ⟨w, hw, rfl⟩, rfl⟩; exact ⟨w, hw, rfl⟩
    · rintro ⟨w, hw, rfl⟩; exact ⟨w.port, ⟨w, hw, rfl⟩, rfl⟩
  have send : i ∈ s.sendEvents ↔ ∃ p, (s.path.queue p).sending ≠ none ∧ i = .transmissionEnd p := by
    simp only [State.sendEvents, List.mem_flatMap, mem_dueIf, mem_allPorts, true_and, Option.isSome_iff_ne_none]
  have swap : i ∈ s.swapEvents ↔ (s.classifier.swap ≠ none ∧ ∀ w ∈ s.classifier.walks, w.bank = s.classifier.selector) ∧
      i = .swapCompletes := by
    simp [State.swapEvents, Classifier.outgoingFree, Option.isSome_iff_ne_none]
  have req : i ∈ s.requestEvents ↔ s.engine.restarting = false ∧
      ∃ r rest, s.engine.requests = r :: rest ∧ i = r.command := by
    unfold State.requestEvents
    cases s.engine.restarting <;> cases h : s.engine.requests <;> simp [eq_comm]
  have last : i ∈ s.restartEvents ↔ s.restartDue = true ∧ i = .warmResetBegin .restart := by simp [State.restartEvents]
  rw [State.readyEvents, if_pos h]
  simp only [List.mem_append, walk, send, swap, req, last, restartDue_iff]
  constructor
  · rintro ((((⟨w, hw, rfl⟩ | ⟨p, hp, rfl⟩) | ⟨⟨h1, h2⟩, rfl⟩) | ⟨h1, r, rest, h2, rfl⟩) | ⟨⟨h1, h2⟩, rfl⟩)
    · exact .walk w hw
    · exact .transmission p hp
    · exact .swap h1 h2
    · exact .request r rest h1 h2
    · exact .restart h1 h2
  · rintro (⟨w, hw⟩ | ⟨p, hp⟩ | ⟨h1, h2⟩ | ⟨r, rest, h1, h2⟩ | ⟨h1, h2⟩)
    · exact .inl (.inl (.inl (.inl ⟨w, hw, rfl⟩)))
    · exact .inl (.inl (.inl (.inr ⟨p, hp, rfl⟩)))
    · exact .inl (.inl (.inr ⟨⟨h1, h2⟩, rfl⟩))
    · exact .inl (.inr ⟨h1, r, rest, h2, rfl⟩)
    · exact .inr ⟨⟨h1, h2⟩, rfl⟩

/-- A list of events for the members of a list, each with its own. -/
theorem flatMap_nodup {α : Type} (l : List α) (f : α → List Instr) (hl : l.Nodup) (hf : ∀ a, (f a).Nodup)
    (disjoint : ∀ a b, a ≠ b → ∀ i, i ∈ f a → i ∉ f b) : (l.flatMap f).Nodup := by
  induction l with
  | nil => simp
  | cons a as ih =>
    rw [List.flatMap_cons, List.nodup_append]
    have ⟨ha, hs⟩ := List.nodup_cons.mp hl
    refine ⟨hf a, ih hs, fun i hi j hj e => ?_⟩
    obtain ⟨b, hb, hj⟩ := List.mem_flatMap.mp hj
    exact disjoint a b (fun e => ha (e ▸ hb)) i hi (e ▸ hj)

/-- Each piece of work that is ready stands among it once. -/
theorem readyEvents_nodup (s : State) : s.readyEvents.Nodup := by
  unfold State.readyEvents
  split
  · have n := command_ne
    simp only [List.nodup_append, List.mem_append]
    refine ⟨⟨⟨⟨flatMap_nodup _ _ allPorts_nodup (fun _ => dueIf_nodup ..) (by simp +contextual),
      flatMap_nodup _ _ allPorts_nodup (fun _ => dueIf_nodup ..) (by simp +contextual), ?_⟩, dueIf_nodup .., ?_⟩, ?_, ?_⟩,
      dueIf_nodup .., ?_⟩
    · simp only [State.walkEvents, State.sendEvents, List.mem_flatMap, mem_dueIf]
      rintro _ ⟨p, -, -, rfl⟩ _ ⟨q, -, -, rfl⟩; simp
    · simp only [State.walkEvents, State.sendEvents, State.swapEvents, List.mem_flatMap, mem_dueIf]
      rintro _ (⟨p, -, -, rfl⟩ | ⟨p, -, -, rfl⟩) _ ⟨-, rfl⟩ <;> simp
    · unfold State.requestEvents; split
      · simp
      · cases s.engine.requests <;> simp
    · simp only [State.walkEvents, State.sendEvents, State.swapEvents, List.mem_flatMap, mem_dueIf]
      intro a ha b hb
      have : ∃ r : Request, b = r.command := by
        unfold State.requestEvents at hb
        split at hb
        · simp at hb
        · cases h : s.engine.requests <;> simp_all
      obtain ⟨r, rfl⟩ := this
      rcases ha with (⟨p, -, -, rfl⟩ | ⟨p, -, -, rfl⟩) | ⟨-, rfl⟩
      · exact ((n r).1 p).symm
      · exact ((n r).2.1 p).symm
      · exact (n r).2.2.1.symm
    · simp only [State.walkEvents, State.sendEvents, State.swapEvents, State.restartEvents, List.mem_flatMap, mem_dueIf]
      rintro a ha _ ⟨-, rfl⟩
      rcases ha with ((⟨p, -, -, rfl⟩ | ⟨p, -, -, rfl⟩) | ⟨-, rfl⟩) | hb
      · simp
      · simp
      · simp
      · have : ∃ r : Request, a = r.command := by
          unfold State.requestEvents at hb
          split at hb
          · simp at hb
          · cases h : s.engine.requests <;> simp_all
        obtain ⟨r, rfl⟩ := this
        exact (n r).2.2.2 _
  · simp

/-! ## The tick -/

/-- Everything that `countOn` and the events of a tick are, in the manual's terms. -/
theorem mem_tickEvents (s t : State) (hw : t.freeCounter = s.freeCounter) (i : Instr) :
    i ∈ t.tickEvents s.calendar.minuteOver ↔ FallsDue s t i := by
  have minute : s.calendar.minuteOver = true ↔ s.calendar.second = 59 ∧ s.calendar.milli = 999 := by
    simp [Calendar.minuteOver]
  have order : t.freeOrder = if Config.reportOrder s.freeCounter then .lifecycleFirst else .coverageFirst := by
    simp only [State.freeOrder, hw]
  simp only [State.tickEvents, State.unitEvents, State.carrierEvents, List.mem_append, List.mem_flatMap, mem_dueIf, minute,
    order, ranOut, decide_eq_true_eq, beq_iff_eq, List.mem_finRange, true_and, Bool.and_eq_true, bne_iff_ne, ne_eq]
  constructor
  · rintro (((((⟨⟨h1, h2⟩, rfl⟩ | ⟨h, rfl⟩) | ⟨h, rfl⟩) | ⟨g, h, rfl⟩) | ⟨u, (⟨h, rfl⟩ | ⟨h, rfl⟩) | ⟨h, rfl⟩⟩) |
      ⟨c, (⟨⟨h1, h2⟩, rfl⟩ | ⟨⟨h1, h2⟩, rfl⟩) | ⟨⟨⟨h1, h2⟩, h3⟩, rfl⟩⟩)
    · exact .minute h1 h2
    · exact .window h
    · exact .grace h
    · exact .lockOut g h
    · exact .reply u h
    · exact .release u h
    · exact .deep u h
    · exact .drain c h1 h2
    · exact .settle c h1 h2
    · exact .deepen c h1 h2 h3
  · rintro (⟨h1, h2⟩ | h | h | ⟨g, h⟩ | ⟨u, h⟩ | ⟨u, h⟩ | ⟨u, h⟩ | ⟨c, h1, h2⟩ | ⟨c, h1, h2⟩ | ⟨c, h1, h2, h3⟩)
    · exact .inl (.inl (.inl (.inl (.inl ⟨⟨h1, h2⟩, rfl⟩))))
    · exact .inl (.inl (.inl (.inl (.inr ⟨h, rfl⟩))))
    · exact .inl (.inl (.inl (.inr ⟨h, rfl⟩)))
    · exact .inl (.inl (.inr ⟨g, h, rfl⟩))
    · exact .inl (.inr ⟨u, .inl (.inl ⟨h, rfl⟩)⟩)
    · exact .inl (.inr ⟨u, .inl (.inr ⟨h, rfl⟩)⟩)
    · exact .inl (.inr ⟨u, .inr ⟨h, rfl⟩⟩)
    · exact .inr ⟨c, .inl (.inl ⟨⟨h1, h2⟩, rfl⟩)⟩
    · exact .inr ⟨c, .inl (.inr ⟨⟨h1, h2⟩, rfl⟩)⟩
    · exact .inr ⟨c, .inr ⟨⟨⟨h1, h2⟩, h3⟩, rfl⟩⟩

/-- Each event falls due once. -/
theorem tickEvents_nodup (s : State) (minuteOver : Bool) : (s.tickEvents minuteOver).Nodup := by
  have units : ((List.finRange 8).flatMap s.unitEvents).Nodup := by
    refine flatMap_nodup _ _ (List.nodup_finRange 8) (fun u => ?_) (fun u v h i hi => ?_)
    · simp only [State.unitEvents, List.nodup_append, dueIf_nodup, true_and, List.mem_append, mem_dueIf]
      refine ⟨?_, ?_⟩
      · rintro _ ⟨-, rfl⟩ _ ⟨-, rfl⟩; simp
      · rintro _ (⟨-, rfl⟩ | ⟨-, rfl⟩) _ ⟨-, rfl⟩ <;> simp
    · simp only [State.unitEvents, List.mem_append, mem_dueIf] at hi ⊢
      rcases hi with (⟨-, rfl⟩ | ⟨-, rfl⟩) | ⟨-, rfl⟩ <;> simp [h]
  have carriers : ((List.finRange 32).flatMap s.carrierEvents).Nodup := by
    refine flatMap_nodup _ _ (List.nodup_finRange 32) (fun c => ?_) (fun c d h i hi => ?_)
    · simp only [State.carrierEvents, List.nodup_append, dueIf_nodup, true_and, List.mem_append, mem_dueIf]
      refine ⟨?_, ?_⟩
      · rintro _ ⟨-, rfl⟩ _ ⟨-, rfl⟩; simp
      · rintro _ (⟨-, rfl⟩ | ⟨-, rfl⟩) _ ⟨-, rfl⟩ <;> simp
    · simp only [State.carrierEvents, List.mem_append, mem_dueIf] at hi ⊢
      rcases hi with (⟨-, rfl⟩ | ⟨-, rfl⟩) | ⟨-, rfl⟩ <;> simp [h]
  have locks : ((List.finRange 8).flatMap fun (g : SectorIx) => dueIf (ranOut s.lockOuts[g]) (.lockOutTimerExpires g)).Nodup := by
    refine flatMap_nodup _ _ (List.nodup_finRange 8) (fun _ => dueIf_nodup ..) (fun g h k i hi => ?_)
    simp only [mem_dueIf] at hi ⊢
    obtain ⟨-, rfl⟩ := hi
    simp [k]
  simp only [State.tickEvents, List.nodup_append, dueIf_nodup, locks, units, carriers, true_and, List.mem_append,
    List.mem_flatMap, mem_dueIf, State.unitEvents, State.carrierEvents]
  refine ⟨⟨⟨⟨?_, ?_⟩, ?_⟩, ?_⟩, ?_⟩
  · rintro _ ⟨-, rfl⟩ _ ⟨-, rfl⟩; simp
  · rintro _ (⟨-, rfl⟩ | ⟨-, rfl⟩) _ ⟨-, rfl⟩ <;> simp
  · rintro _ ((⟨-, rfl⟩ | ⟨-, rfl⟩) | ⟨-, rfl⟩) _ ⟨g, -, -, rfl⟩ <;> simp
  · rintro _ (((⟨-, rfl⟩ | ⟨-, rfl⟩) | ⟨-, rfl⟩) | ⟨g, -, -, rfl⟩) _ ⟨u, -, (⟨-, rfl⟩ | ⟨-, rfl⟩) | ⟨-, rfl⟩⟩ <;> simp
  · rintro _ ((((⟨-, rfl⟩ | ⟨-, rfl⟩) | ⟨-, rfl⟩) | ⟨g, -, -, rfl⟩) | ⟨u, -, (⟨-, rfl⟩ | ⟨-, rfl⟩) | ⟨-, rfl⟩⟩) _
      ⟨c, -, (⟨-, rfl⟩ | ⟨-, rfl⟩) | ⟨-, rfl⟩⟩ <;> simp

theorem runsDown_countDown (t : Option Nat) : RunsDown t (countDown t) := by cases t <;> simp [RunsDown, countDown]

theorem timeAdvances_tick (k : Calendar) : TimeAdvances k k.tick := by
  unfold TimeAdvances Calendar.tick
  refine ⟨fun h => by simp [h], fun h k => by simp [h, k], fun h k => by simp [h, k]⟩

theorem carrierTick_tick (x : Carrier) : CarrierTick x { x with life := x.life.tick } := by
  constructor <;> simp +contextual [GoesOn, Life.tick, addCapped, topDwell, topDoze, topRelease, msPerSecond, msPerMinute]

end Sys2Proof.Machine
end

