-- ==== Sys2Proof/Tests/Slice0.lean ====
section
/-! SUPPORT. Tests of single commands, with results taken from the worked examples of spec/ or from its rules by hand; the
smoke test of WellFormed; and for every statement with hypotheses a state and operands that meet them. -/

namespace Sys2Proof.Tests

set_option Elab.async false

open Sys2Proof Sys2Proof.Machine

/-! ## Small states -/

/-- What a command answers; every command answers a next state. -/
def run (i : Instr) (s : State) : State :=
  match exec i s with
  | .next t => t
  | .fault _ => s
  | .refused _ => s

/-- A managed record as the examples write it: 272 grant units per slot, slot rate 2, sector group 0, every class. -/
def carrierRecord (unit : Byte) (key : BitVec 16) (anchor rank : Byte) (ratio : BitVec 16) : CarrierConfig where
  managed := true
  unit := unit
  key := key
  sector := 0#8
  anchor := anchor
  protect := 0#8
  slotRate := 2#8
  ratio := ratio
  grantUnits := 272#16
  rank := rank
  classMask := 15#8
  profile := 0#8

/-- A carrier with its record, in a lifecycle state, primed, and out of the lists. -/
def withCarrier (c : CarrierIx) (k : CarrierConfig) (state : LifeState) (s : State) : State :=
  { s with
    carrierConfig := s.carrierConfig.set c k,
    carriers := s.carriers.set c { Carrier.cold with
      life := { Life.clear state with hold := state == .drainHeld }, meter := { Meter.clear with primed := true } } }

/-- A carrier in another lifecycle state. -/
def inState (c : CarrierIx) (state : LifeState) (s : State) : State :=
  s.setLife c { (s.carrier c).life with state := state, hold := state == .drainHeld }

/-- A radio unit in use and in a state. -/
def withUnit (u : UnitIx) (state : UnitState) (s : State) : State :=
  { s with
    unitConfig := s.unitConfig.set u { UnitConfig.cold with inUse := true, deepPermitted := 1#8, address := 0x020000000010#48 },
    units := s.units.set u { RadioUnit.cold with state := some state } }

/-- The site of Examples 5-1 and 7-2, cut down: anchor 1 on unit 0, its dependents 5 and 6 on unit 2, in ACTING, with an
advisory destination. -/
def site : State :=
  withCarrier 6 (carrierRecord 2#8 0x0106#16 1#8 4#8 512#16) .active
    (withCarrier 5 (carrierRecord 2#8 0x0105#16 1#8 6#8 512#16) .active
      (withCarrier 1 (carrierRecord 0#8 0x0101#16 1#8 0#8 256#16) .active
        (withUnit 2 .up (withUnit 0 .up
          { State.reset with
            stationAddress := 0x020000000001#48,
            settings := { Settings.cold with advisoryDestination := 0x0200000000AA#48 },
            permissions := Vector.replicate 12 3,
            classifier := { Classifier.cold with activated := true },
            engine := { Engine.cold with mode := .acting } }))))

/-- The body of a request (12.2), with tag 7. -/
def body (kind table index count direction : Byte) (values : List Byte) : List Byte :=
  [1#8, kind, 0#8, 7#8, table, index, count, direction] ++ values

/-- A request of class 2. -/
def request (b : List Byte) : Request where
  cls := 2
  source := 0x0A0000000001#48
  body := b

/-- A state with one request waiting. -/
def asked (b : List Byte) (s : State) : State := { s with engine := { s.engine with requests := [request b] } }

/-- The body of the frame that is in transmission at T, past its envelope. -/
def answer (s : State) : List Byte := s.path.trunkQueue.sending.elim [] fun f => f.bytes.drop 14

/-- An entry that matches every frame, with an outcome. -/
def always (outcome : EntryOutcome) : Entry := { Entry.cold with inUse := true, filter := .any, width := 1, test := .allClear, outcome := outcome }

/-- A frame's walk under way and no swap, in a bank whose entry 0 sends every frame to action 1, which is `a`. -/
def walking (port : Port) (bytes : List Byte) (a : ActionEntry) (s : State) : State :=
  { s with
    settings := { s.settings with actionLimit := 2 },
    actions := s.actions.set 1 a,
    classifier := { s.classifier with
      swap := none,
      bank0 := (Vector.replicate 64 Entry.cold).set 0 (always (.result 1)),
      walks := [{ port := port, bytes := bytes, bank := false }] } }

/-- The same state with the walk ended. -/
def walked (port : Port) (bytes : List Byte) (a : ActionEntry) (s : State) : State :=
  let t := walking port bytes a s
  t.setClassifier { t.classifier with walks := [] }

/-- A frame of 60 bytes with some bytes from an offset on. -/
def frameWith (offset : Nat) (bytes : List Byte) : List Byte :=
  List.replicate offset 0#8 ++ bytes ++ List.replicate (60 - offset - bytes.length) 0#8

/-- An action of a kind, present. -/
def action (kind : ActionKind) : ActionEntry := { ActionEntry.cold with present := true, kind := kind, bodyOffset := 14 }

/-- The METER action of Example 3-1. -/
def meterAction : ActionEntry where
  present := true
  kind := .meter
  portSet := 0xFF#8
  sectorMask := 0#8
  keyOffset := 16
  keyWidth := 2
  keyMask := 0x0FFF#16
  unitOffset := 20
  unitWidth := 2
  unitShift := 4
  cls := 0
  bodyOffset := 0

theorem takes_asked (row : Instr) (b : List Byte) (s : State) (h1 : s.phase = .running)
    (h2 : s.engine.restarting = false) (h3 : (request b).command = row) : Takes row (asked b s) (request b) [] :=
  ⟨h1, h2, rfl, h3⟩

theorem walkDone_walking (port : Port) (bytes : List Byte) (a : ActionEntry) (s : State) (ha : a.present = true)
    (h : walkBank ((Vector.replicate 64 Entry.cold).set 0 (always (.result 1))) port bytes = .action 1) :
    WalkDone (walking port bytes a s) { port := port, bytes := bytes, bank := false } a (walked port bytes a s) := by
  refine ⟨1, ⟨[], ?_, .inl ⟨h, rfl⟩⟩, by show 1 < 2; decide, ha, by decide, ?_⟩
  · simp [walking, takeWalk]
  · show (s.actions.set 1 a)[1] = a
    simp

/-! ## Well-formed commands -/

theorem test_wellFormed_refuses_fragment : (Instr.frameReceived .trunk (List.replicate 13 0#8) .intact).wellFormed = false := by decide
theorem test_wellFormed_accepts_envelope : (Instr.frameReceived .trunk (List.replicate 14 0#8) .intact).wellFormed = true := by decide
theorem test_wellFormed_accepts_cut_fragment : (Instr.frameReceived (.branch 3) [] .cut).wellFormed = true := by decide
theorem test_no_word_spells_a_command : decodeTableWord 16 0 = none := rfl

/-! ## Commands, by the examples of spec/ -/

/-- Example 1-1: a frame of a length, check sequence included. -/
def sized (n : Nat) : Frame := { bytes := List.replicate (n - 4) 0#8, restartAnswer := false }

/-- Example 1-1, its queue by lengths: in transmission, waiting injected, waiting pass, occupancy. -/
def lengths (q : EgressQueue) : Option Nat × List Nat × List Nat × Nat :=
  (q.sending.map Frame.length, q.injected.map Frame.length, q.pass.map Frame.length, q.used)

/-- Example 1-1, the start. -/
def example11 : EgressQueue := { sending := some (sized 9000), injected := [], pass := [sized 9000, sized 9000] }

theorem test_example_1_1_offered : lengths ((example11.offerInjected 262144 (sized 64)).offerPass 262144 (sized 9000)) =
    (some 9000, [64], [9000, 9000, 9000], 36064) := by decide +kernel
theorem test_example_1_1_sent :
    lengths ((example11.offerInjected 262144 (sized 64)).offerPass 262144 (sized 9000)).finish =
      (some 64, [], [9000, 9000, 9000], 27064) := by decide +kernel

/-- Example 1-2. -/
theorem test_example_1_2_fails : (run .trunkGraceExpires (run .trunkLinkDown State.reset)).path.trunkState = .lost := by decide +kernel
theorem test_example_1_2_returns :
    (run .trunkGraceExpires (run .trunkLinkUp (run .trunkGraceExpires (run .trunkLinkDown State.reset)))).path.trunkState = .up := by decide +kernel
theorem test_trunk_flap_restores :
    (run .trunkLinkUp (run .trunkLinkDown State.reset)).path.trunkState = .up := by decide +kernel
theorem test_branch_link_down_loses_carriers :
    ((run (.branchLinkDown 2) site).lifeState 5, (run (.branchLinkDown 2) site).lifeState 1) = (.lost, .active) := by decide +kernel
theorem test_branch_link_up_recovers :
    (run (.branchLinkUp 2) (run (.branchLinkDown 2) site)).lifeState 5 = .warmup := by decide +kernel

/-- Example 2-1: the entries of its bank. -/
def entryOf (filter : PortFilter) (offset width : Nat) (test : FieldTest) (pattern mask : BitVec 32) (outcome : EntryOutcome) : Entry where
  inUse := true
  filter := filter
  offset := offset
  width := width
  test := test
  pattern := pattern
  mask := mask
  outcome := outcome

/-- Example 2-1. -/
def bank21 : Vector Entry 64 :=
  (((((((Vector.replicate 64 Entry.cold
    |>.set 0 (entryOf .any 12 2 .equal 0x9A3C#32 0xFFFF#32 (.skip 4)))
    |>.set 1 (entryOf .any 12 2 .differ 0x9B10#32 0xFFFF#32 (.result 1)))
    |>.set 2 (entryOf .any 14 1 .allSet 0x80#32 0#32 (.result 2)))
    |>.set 3 (entryOf .any 14 1 .allClear 0#32 0#32 (.result 1)))
    |>.set 4 (entryOf .trunk 14 1 .equal 1#32 0xFF#32 (.result 4)))
    |>.set 5 (entryOf .branch 14 1 .equal 2#32 0xFF#32 (.result 5)))
    |>.set 6 (entryOf .trunk 14 1 .equal 3#32 0xFF#32 (.result 6)))
    |>.set 7 (entryOf .any 0 1 .allClear 0#32 0#32 (.result 7))

theorem test_example_2_1_scheduling : walkBank bank21 .trunk (frameWith 12 [0x9B#8, 0x10#8, 0x85#8]) = .action 2 := by decide +kernel
theorem test_example_2_1_advisory : walkBank bank21 .trunk (frameWith 12 [0x9A#8, 0x3C#8, 1#8]) = .action 4 := by decide +kernel
theorem test_example_2_1_from_B6 : walkBank bank21 (.branch 6) (frameWith 12 [0x9A#8, 0x3C#8, 7#8]) = .action 7 := by decide +kernel
theorem test_example_2_1_neither : walkBank bank21 (.branch 1) (frameWith 12 [0x08#8, 0x06#8]) = .action 1 := by decide +kernel
/-- Example 2-1, its last paragraph. -/
theorem test_example_2_1_overrun : walkBank (Vector.replicate 64 (always (.skip 14))) .trunk (frameWith 0 []) = .overrun := by decide +kernel

/-- Example 3-1: a frame with a key field and a grant-unit field. -/
def frame31 (key units : List Byte) : List Byte := frameWith 16 (key ++ [0#8, 0#8] ++ units)

/-- Example 3-1, frame 1. -/
theorem test_example_3_1_tallied :
    ((run (.walkEnds .trunk) (walking .trunk (frame31 [0x71#8, 0x05#8] [0x11#8, 0#8]) meterAction site)).carrier 5).meter.tally = 272 := by decide +kernel
/-- Example 3-1, frame 7. -/
theorem test_example_3_1_clamped :
    ((run (.walkEnds .trunk) (walking .trunk (frame31 [0x01#8, 0x05#8] [0x11#8, 0#8]) { meterAction with unitShift := 0 } site)).carrier 5).meter.tally = 4095 := by decide +kernel
/-- Example 3-1, frame 2. -/
theorem test_example_3_1_held_off :
    let t := run (.walkEnds .trunk) (walking .trunk (frame31 [0x01#8, 0x05#8] [0xFF#8, 0xF0#8]) meterAction (inState 5 .doze site))
    ((t.carrier 5).counters.heldOff, t.lifeState 5, (t.carrier 5).meter.tally) = (1, .warmup, 0) := by decide +kernel
/-- Example 3-1, frame 4. -/
theorem test_example_3_1_missed :
    let t := run (.walkEnds .trunk) (walking .trunk (frame31 [0x01#8, 0x05#8] [0#8, 0x40#8]) meterAction (inState 5 .slumber site))
    ((t.carrier 5).counters.missed, t.lifeState 5, t.flagRaised .slumberTriggerMissed) = (1, .slumber, true) := by decide +kernel
/-- Example 3-1, frame 6. -/
theorem test_example_3_1_unknown :
    (run (.walkEnds (.branch 3)) (walking (.branch 3) (frame31 [0x01#8, 0x05#8] [0x01#8, 0#8]) meterAction site)).flagRaised .unknownKey = true := by decide +kernel

/-- Example 4-1: window ends 1 and 3. -/
theorem test_example_4_1_first : (occupancy 13600 544000, nextFigure 2000 25 2) = (25, 1900) := by decide +kernel
theorem test_example_4_1_third : (occupancy 108800 544000, nextFigure 1425 204 2, nextFigure 1425 188 2) = (204, 4333, 4077) := by decide +kernel
/-- Example 4-2. -/
theorem test_example_4_2 : (nextFigure 1603 25 2, nextFigure 1602 25 2, nextFigure 1601 25 2, nextFigure 65530 1024 7) = (1602, 1601, 1600, 65531) := by decide +kernel
/-- Example 5-1. -/
theorem test_example_5_1_pledges : (pledgeFor 1900 512, pledgeFor 2040 1023, pledgeFor 2010 1023) = (3800, 8153, 8033) := by decide +kernel

/-- Example 5-1, window end A: the meter of a carrier whose sample brings its figure to a value. -/
def settled (figure idleRun : Nat) : Meter := { Meter.clear with figure := figure, idleRun := idleRun, primed := true }

/-- Example 7-2 at 23:00:01.5: the figure falls from 2000 to 1900 on a tally of 13,600, and the idle run reaches N. -/
def evening : State :=
  let s := (site.setMeter 5 { settled 2000 5 with tally := 13600 }).setMeter 1 { settled 20992 0 with tally := 174250 }
  let s := s.setLife 5 { (s.carrier 5).life with dwell := 1800000 }
  { s with calendar := { Calendar.cold with timeSet := true, quiet := 0x60#32 } }

theorem test_example_7_2_admitted :
    let t := run (.windowEnd .coverageFirst) evening
    (t.lifeState 5, (t.cover 5).pledge, (t.cover 1).pledgeTotal, (t.cover 1).drainList) = (.draining, 3800, 3800, [5]) := by decide +kernel
theorem test_window_end_waits_for_dwell :
    (run (.windowEnd .coverageFirst) (evening.setLife 5 { (evening.carrier 5).life with dwell := 1799999 })).lifeState 5 = .active := by decide +kernel

/-- Example 6-1: 06:00 closes window 0. -/
def night : State :=
  let s := inState 5 .slumber (inState 6 .doze site)
  { s with
    windows := s.windows.set 0 { inUse := true, start := 1380, stop := 360, carriers := 0x60#32, deepAllowed := false },
    calendar := { Calendar.cold with minute := 359, timeSet := true, quiet := 0x60#32, isOpen := 1#4 } }

theorem test_example_6_1_close :
    let t := run .minuteBoundary night
    (t.calendar.minute, t.calendar.quiet, t.lifeState 5, t.lifeState 6) = (360, 0#32, .warmup, .warmup) := by decide +kernel
theorem test_minute_wraps : (run .minuteBoundary { night with calendar := { night.calendar with minute := 1439 } }).calendar.minute = 0 := by decide +kernel
/-- Example 6-2. -/
theorem test_example_6_2 :
    let t := run .setTime (asked (body 4#8 0#8 0#8 0#8 0#8 [0x01#8, 0x90#8, 15#8]) (inState 5 .deepening (inState 6 .doze night)))
    (t.calendar.minute, t.calendar.second, t.lifeState 6, (t.carrier 5).life.wakePending.map KeptWake.cls) =
      (400, 15, .warmup, some .ordinary) := by decide +kernel

/-- Example 7-1: the hold guard of 30 s. -/
def draining : State := inState 5 .draining site
theorem test_example_7_1_hold : (run .holdDrain (asked (body 8#8 0#8 5#8 0#8 0#8 []) draining)).lifeState 5 = .drainHeld := by decide +kernel
theorem test_example_7_1_too_soon :
    let t := run .holdDrain (asked (body 8#8 0#8 5#8 0#8 0#8 []) (draining.setLife 5 { (draining.carrier 5).life with sinceRelease := some 29999 }))
    (t.lifeState 5, (answer t).take 5) = (.draining, [0x11#8, 8#8, 0#8, 7#8, 21#8]) := by decide +kernel
theorem test_example_7_1_release :
    let t := run .releaseHold (asked (body 9#8 0#8 5#8 0#8 0#8 []) (inState 5 .drainHeld site))
    (t.lifeState 5, (t.carrier 5).life.sinceRelease) = (.draining, some 0) := by decide +kernel
/-- Example 10-1: a DRAINED during the hold. -/
theorem test_example_10_1_release :
    (run .releaseHold (asked (body 9#8 0#8 5#8 0#8 0#8 [])
      ((inState 5 .drainHeld site).setCarrier 5 { (inState 5 .drainHeld site).carrier 5 with drainedReceived := true }))).lifeState 5 = .rampdown := by decide +kernel
theorem test_drain_timeout : (run (.drainTimerExpires 5) draining).lifeState 5 = .restoring := by decide +kernel
theorem test_settle : (run (.settleTimerExpires 5) (inState 5 .restoring site)).lifeState 5 = .active := by decide +kernel
theorem test_sleepNow_drains :
    let t := run .sleepNow (asked (body 6#8 0#8 5#8 0#8 0#8 []) site)
    (t.lifeState 5, (answer t).take 6) = (.draining, [0x31#8, 1#8, 0x01#8, 0x05#8, 5#8, 2#8]) := by decide +kernel
theorem test_sleepNow_refuses_anchor :
    (answer (run .sleepNow (asked (body 6#8 0#8 1#8 0#8 0#8 []) site))).take 5 = [0x11#8, 6#8, 0#8, 7#8, 12#8] := by decide +kernel

/-- Example 7-2: the night of carriers 5 and 6 on unit 2. -/
theorem test_example_7_2_deepens :
    let s := inState 5 .doze site
    let s := s.setCarrier 5 { s.carrier 5 with life := { (s.carrier 5).life with doze := 79 * 60000 } }
    let s := { s with profiles := s.profiles.set 0 { ProfileRecord.cold with inForce := { Profile.cold with deepenDelay := 60 } },
                      calendar := { Calendar.cold with timeSet := true, deep := 0x20#32 } }
    let t := run (.deepenDelayReached 5) s
    (t.lifeState 5, (t.unit 2).queue.map Directive.kind, (t.unit 2).sent.isSome) = (.deepening, [.carrierDeepen], true) := by decide +kernel

/-- R114, R115: a doze elapsed below the deepen delay decides nothing. -/
theorem test_deepen_waits_for_doze :
    let s := inState 5 .doze { site with
      profiles := site.profiles.set 0 { ProfileRecord.cold with inForce := { Profile.cold with deepenDelay := 120 } },
      calendar := { Calendar.cold with timeSet := true, deep := 0x20#32 } }
    let s := s.setLife 5 { (s.carrier 5).life with doze := 60 * 60000 }
    let t := run (.deepenDelayReached 5) s
    (t.lifeState 5, (t.carrier 5).life.doze) = (.doze, 60 * 60000) := by decide +kernel

/-- Example 7-2 at 01:05: both carriers of unit 2 sleep deep, and the unit deep timer expires. -/
def deepNight : State :=
  let s := inState 5 .slumber (inState 6 .slumber site)
  s.setUnit 2 { s.unit 2 with deepTimer := some 0 }
theorem test_example_7_2_unit_deep : ((run (.unitDeepTimerExpires 2) deepNight).unit 2).state = some .deepPending := by decide +kernel
theorem test_unit_deep_not_in_monitor :
    ((run (.unitDeepTimerExpires 2) { deepNight with engine := { deepNight.engine with mode := .monitor } }).unit 2).deepTimer = some 300000 := by decide +kernel

/-- A CARRIER-SLEEP for carrier 5, outstanding with token 57. -/
def sleeping : State :=
  let s := inState 5 .rampdown site
  s.setUnit 2 { s.unit 2 with
    queue := [{ kind := .carrierSleep, carrier := some 5, token := 57, link := 0, key := 0x0105#16 }],
    sent := some [], attempts := 1, replyTimer := some 200 }

/-- A radio reply from unit 2. -/
def reply (token link report : Byte) : List Byte := frameWith 14 [token, link, report]

/-- Example 7-2 at 23:00:04.1. -/
theorem test_example_7_2_asleep :
    (run (.walkEnds (.branch 2)) (walking (.branch 2) (reply 57#8 0#8 2#8) (action .radioReply) sleeping)).lifeState 5 = .doze := by decide +kernel
/-- Example 10-1: the radio answers READY. -/
theorem test_example_10_1_refused :
    (run (.walkEnds (.branch 2)) (walking (.branch 2) (reply 57#8 0#8 1#8) (action .radioReply) sleeping)).lifeState 5 = .restoring := by decide +kernel
/-- Example 9-1: the first expiry repeats the directive, and the attempts used up lose the carrier. -/
theorem test_example_9_1_repeats :
    let t := run (.replyTimerExpires 2) sleeping
    ((t.unit 2).attempts, (t.unit 2).resends, t.lifeState 5) = (2, 1, .rampdown) := by decide +kernel
theorem test_example_9_1_gives_up :
    (run (.replyTimerExpires 2) (sleeping.setUnit 2 { sleeping.unit 2 with attempts := 3 })).lifeState 5 = .lost := by decide +kernel
theorem test_release_ends :
    ((run (.releaseTimerExpires 2) (site.setUnit 2 { site.unit 2 with state := some .releasing, releaseTimer := some 0 })).unit 2).state = some .up := by decide +kernel
theorem test_lock_out_stops :
    (run (.lockOutTimerExpires 0) { site with lockOuts := site.lockOuts.set 0 (some 0) }).lockedOut 0 = false := by decide +kernel

/-- Example 8-1: a priority trigger reaches the sleepers and the drains of its sector, and locks it out for 600 s. -/
theorem test_priority_trigger :
    let t := run (.walkEnds .trunk) (walking .trunk (frameWith 0 []) { action .triggerPriority with sectorMask := 1#8 }
      (inState 5 .slumber (inState 6 .draining { site with settings := { site.settings with slots := 1 } })))
    (t.lifeState 5, t.lifeState 6, t.lockOuts[0]) = (.warmup, .restoring, some 600000) := by decide +kernel

/-! ## Frames and transmissions -/

theorem test_received_frame_is_fanned_out :
    ((run (.frameReceived .trunk (frameWith 0 []) .intact) { site with engine := Engine.cold }).path.queue (.branch 7)).sending.isSome = true := by decide +kernel
theorem test_bad_frame_is_dropped :
    run (.frameReceived .trunk (frameWith 0 []) .badCheck) site = site := by rfl
theorem test_transmission_ends :
    ((run (.transmissionEnd (.branch 7)) (run (.frameReceived .trunk (frameWith 0 []) .intact) { site with engine := Engine.cold })).path.queue (.branch 7)).sending = none := by decide +kernel

/-! ## Requests -/

theorem test_identify :
    let t := run .identify (asked (body 0#8 0#8 0#8 0#8 0#8 []) site)
    ((answer t).take 10, (answer t).drop 11 |>.take 7) =
      ([0x11#8, 0#8, 0#8, 7#8, 0#8, 0#8, 0#8, 0#8, 0x32#8, 0x60#8], [2#8, 0#8, 0#8, 0#8, 0#8, 1#8, 2#8]) := by decide +kernel
theorem test_read_flags :
    ((answer (run .readRecords (asked (body 1#8 12#8 0#8 1#8 0#8 []) site))).drop 4).take 7 =
      [0#8, 12#8, 0#8, 1#8, 0#8, 0#8, 0x80#8] := by decide +kernel
theorem test_read_down_stops :
    ((answer (run .readRecords (asked (body 1#8 10#8 1#8 16#8 1#8 []) site))).drop 4).take 8 =
      [0#8, 10#8, 1#8, 2#8, 1#8, 3#8, 0#8, 3#8] := by decide +kernel
theorem test_write_unknown_table :
    ((answer (run .writeRecords (asked (body 2#8 99#8 0#8 1#8 0#8 []) site))).drop 4).take 1 = [3#8] := by decide +kernel
theorem test_unknown_kind :
    ((answer (run .unknownRequestKind (asked (body 12#8 0#8 0#8 0#8 0#8 []) site))).drop 4).take 1 = [5#8] := by decide +kernel

/-- A WRITE-RECORDS of one record. -/
def writing (table index : Byte) (record : List Byte) : State := asked (body 2#8 table index 1#8 0#8 record) site

theorem test_write_carrier :
    let t := run .writeCarrier (writing 1#8 9#8 (carrierRecord 2#8 0x0109#16 1#8 3#8 256#16).bytes)
    (t.lifeState 9, (t.unit 2).map[0], ((answer t).drop 4).take 4) = (.active, some 9, [0#8, 1#8, 9#8, 1#8]) := by decide +kernel
theorem test_write_carrier_duplicate_key :
    ((answer (run .writeCarrier (writing 1#8 9#8 (carrierRecord 2#8 0x0105#16 1#8 3#8 256#16).bytes))).drop 4).take 1 = [9#8] := by decide +kernel
theorem test_write_profile_waits :
    let t := run .writeProfile (writing 3#8 4#8 ({ Profile.cold with shift := 7 }.bytes false))
    ((t.profiles[4]).inForce.shift, (t.profiles[4]).written.shift, (t.profiles[4]).pending) = (2, 7, true) := by decide +kernel
theorem test_write_radio_unit :
    ((run .writeRadioUnit (writing 4#8 5#8 { UnitConfig.cold with inUse := true }.bytes)).unit 5).state = some .up := by decide +kernel
theorem test_write_radio_unit_group_address :
    ((answer (run .writeRadioUnit (writing 4#8 5#8 { UnitConfig.cold with inUse := true, address := 0x010000000000#48 }.bytes))).drop 4).take 1 = [5#8] := by decide +kernel
theorem test_write_action : (run .writeAction (writing 6#8 31#8 meterAction.bytes)).actions[31] = meterAction := by decide +kernel
theorem test_write_classifier :
    ((run .writeClassifierStandby (writing 7#8 63#8 (always (.result 31)).bytes)).classifier.bank1)[63] = always (.result 31) := by decide +kernel
theorem test_write_window :
    (run .writeWindow (writing 9#8 3#8 (night.windows[0].bytes false))).windows[3] = night.windows[0] := by decide +kernel
theorem test_write_permission : (run .writePermission (writing 10#8 11#8 [2#8])).permissions[11] = 2 := by decide +kernel
theorem test_write_type_value : (run .writeManagementTypeValue (writing 11#8 1#8 (beBytes 8 0x600))).settings.typeValue = 0x600#16 := by decide +kernel
theorem test_write_station_class : (run .writeStationClass (writing 11#8 2#8 (beBytes 8 3))).settings.stationClass = 3 := by decide +kernel
theorem test_write_trunk_grace : (run .writeTrunkGrace (writing 11#8 3#8 (beBytes 8 10000))).settings.trunkGrace = 10000 := by decide +kernel
theorem test_write_action_limit : (run .writeActionLimit (writing 11#8 4#8 (beBytes 8 32))).settings.actionLimit = 32 := by decide +kernel
theorem test_write_window_length : (run .writeWindowLength (writing 11#8 5#8 (beBytes 8 9))).settings.windowLength = 1000 := by decide +kernel
theorem test_write_lock_out_time : (run .writeLockOutTime (writing 11#8 6#8 (beBytes 8 0))).settings.lockOutTime = 0 := by decide +kernel
theorem test_write_hold_guard : (run .writeHoldGuard (writing 11#8 7#8 (beBytes 8 256))).settings.holdGuard = 30 := by decide +kernel
theorem test_write_slots : (run .writeWarmUpSlotCount (writing 11#8 8#8 (beBytes 8 8))).settings.slots = 8 := by decide +kernel
theorem test_write_advisory_destination :
    (run .writeAdvisoryDestination (writing 11#8 9#8 (beBytes 8 0x0A0B0C0D0E0F))).settings.advisoryDestination = 0x0A0B0C0D0E0F#48 := by decide +kernel
theorem test_write_notice_destination :
    (run .writeNoticeDestination (writing 11#8 10#8 (beBytes 8 (2 ^ 48)))).settings.noticeDestination = 0#48 := by decide +kernel
theorem test_write_notice_enables : (run .writeNoticeEnables (writing 11#8 11#8 (beBytes 8 5))).settings.noticeEnables = 5#3 := by decide +kernel

/-- Example 2-2: ACTIVATE-BANK with mirror yes, and its completion. -/
def swapping : State := run .activateBank (asked (body 3#8 0#8 0#8 0#8 0#8 [1#8]) (walking .trunk (frameWith 0 []) meterAction site))
theorem test_example_2_2_taken : (swapping.classifier.selector, swapping.classifier.swap, answer swapping) = (true, some true, []) := by decide +kernel
theorem test_example_2_2_waits_for_walks : (run .swapCompletes swapping).classifier.swap = some true := by decide +kernel
theorem test_example_2_2_completes :
    let t := run .swapCompletes (swapping.setClassifier { swapping.classifier with walks := [] })
    (t.classifier.swap, t.classifier.bank0 == t.classifier.bank1, (answer t).take 10) =
      (none, true, [0x11#8, 3#8, 0#8, 7#8, 0#8, 0#8, 0#8, 0#8, 1#8, 1#8]) := by decide +kernel
/-- Example 2-2: the last walk bound to the outgoing bank completes the swap as it ends. -/
theorem test_example_2_2_walk_completes :
    let t := run (.walkEnds .trunk) swapping
    (t.classifier.swap, t.classifier.activated, (answer t).take 10) =
      (none, true, [0x11#8, 3#8, 0#8, 7#8, 0#8, 0#8, 0#8, 0#8, 1#8, 1#8]) := by decide +kernel
/-- R26: with no walk under way the swap completes at once. -/
theorem test_activate_bank_completes_at_once :
    let t := run .activateBank (asked (body 3#8 0#8 0#8 0#8 0#8 [0#8]) site)
    (t.classifier.selector, t.classifier.swap, (answer t).take 10) =
      (true, none, [0x11#8, 3#8, 0#8, 7#8, 0#8, 0#8, 0#8, 0#8, 1#8, 0#8]) := by decide +kernel
theorem test_set_mode_abandons : (run .setMode (asked (body 5#8 0#8 0#8 0#8 0#8 [1#8]) draining)).lifeState 5 = .restoring := by decide +kernel
theorem test_set_mode_not_ready :
    ((answer (run .setMode (asked (body 5#8 0#8 0#8 0#8 0#8 [2#8]) { State.reset with permissions := Vector.replicate 12 3 }))).drop 4).take 1 = [22#8] := by decide +kernel
theorem test_wake : (run .wake (asked (body 7#8 0#8 0#8 0#8 0#8 [0#8, 0#8, 0#8, 0x20#8]) (inState 5 .doze site))).lifeState 5 = .warmup := by decide +kernel
theorem test_clear_flags_keeps_time_unset :
    ((answer (run .clearFlags (asked (body 10#8 0#8 0#8 0#8 0#8 [0x0F#8, 0xFF#8]) site))).drop 8).take 2 = [0#8, 0x80#8] := by decide +kernel
theorem test_restart :
    let t := run .restart (asked (body 11#8 0#8 0#8 0#8 0#8 []) site)
    (t.restartDue, (run (.transmissionEnd .trunk) t).restartDue) = (false, true) := by decide +kernel

/-! ## Resets -/

theorem test_cold_reset_unmanages : (run .coldReset site).lifeState 5 = .unmanaged := by decide +kernel
theorem test_warm_reset_begins : (run (.warmResetBegin .line) site).phase = .warmReset .line 0 := by rfl
/-- R140, R158: the carriers are granted in index order; unit 2 is released first, so the directive waits. -/
theorem test_warm_reset_recovers :
    let t := run .warmResetEnd (run (.warmResetBegin .line) site)
    (t.lifeState 1, t.lifeState 5, t.lifeState 6, t.engine.mode, (t.unit 2).state) =
      (.warmup, .warmup, .queued, .monitor, some .releasing) := by decide +kernel

/-! ## States that meet the hypotheses of the statements

`witness_X` is about `Obligations.X`: for each of its clauses a state and operands that meet the hypotheses together, at the
bounds of the ranges they name. -/

/-- The walk of a frame that `walking` has under way. -/
def arrival (port : Port) (bytes : List Byte) : Walk := { port := port, bytes := bytes, bank := false }

/-- A frame of zeros that is `n` bytes long without its check sequence. -/
def zeros (n : Nat) : List Byte := List.replicate n 0#8

/-- A frame from T for the station, with the cold management type value and a body. -/
def toStation (b : List Byte) : List Byte :=
  beBytes 6 0x020000000001 ++ beBytes 6 0x0A0000000001 ++ beBytes 2 0x9A3C ++ b ++ List.replicate (46 - b.length) 0#8

/-- The site with some requests waiting. -/
def waiting (n : Nat) : State := { site with engine := { site.engine with requests := List.replicate n (request []) } }

/-- The site in another mode. -/
def inMode (m : Mode) (s : State) : State := { s with engine := { s.engine with mode := m } }

/-- The site with something in transmission at T. -/
def busy (injected pass : List Frame) : State :=
  { site with path := { site.path with trunkQueue := { sending := some (sized 64), injected := injected, pass := pass } } }

/-- The site with the trunk in another state, its grace timer to match, and the port's report. -/
def trunkIn (state : TrunkState) (report : Bool) (s : State) : State :=
  { s with path := { s.path with trunkState := state, trunkReport := report,
                                 grace := if state = .failing ∨ state = .returning then some 0 else none } }

/-- TRUNK notices enabled, to a destination. -/
def telling (enables : BitVec 3) (s : State) : State :=
  { s with settings := { s.settings with noticeEnables := enables, noticeDestination := 1#48 } }

/-- A branch link down. -/
def linkDown (s : State) : State := { s with path := { s.path with branchUp := 0xFB#8 } }

/-- A warm reset in progress. -/
def resetting (source : ResetSource) (s : State) : State := { s with phase := .warmReset source 0 }

theorem witness_IdleStepQueuesWhatIsDue :
    ((waiting 1).pending = [] ∧ (waiting 1).phase = .running ∧ ∃ i, Ready (waiting 1) i) ∧
    (site.pending = [] ∧ site.phase = .running ∧ ∀ i, ¬Ready site i) ∧
    ((resetting .restart site).pending = [] ∧ (resetting .restart site).phase = .warmReset .restart 0) :=
  ⟨⟨rfl, rfl, _, .request (request []) [] rfl rfl⟩,
    ⟨rfl, rfl, fun i h => by
      have none : site.readyEvents = [] := by decide +kernel
      have := (mem_readyEvents site rfl i).mpr h
      rw [none] at this
      cases this⟩, by decide +kernel⟩

/-- Example 7-1: the drain elapsed of 40 s counts in DRAINING and is frozen in DRAIN-HELD, and at the last ms of 120 s the
drain timer expires; R85: the second goes on after ms 999. -/
theorem test_tick :
    (let at40 (st : LifeState) : State :=
      (inState 5 st site).setLife 5 { ((inState 5 st site).carrier 5).life with drain := 40000, drainLength := 120 }
     ((at40 .draining).countOn.carrier 5).life.drain = 40001 ∧ ((at40 .drainHeld).countOn.carrier 5).life.drain = 40000) ∧
    (let last : State := (draining.setLife 5 { (draining.carrier 5).life with drain := 119999, drainLength := 120 }).countOn
     last.carrierEvents 5 = [.drainTimerExpires 5]) ∧
    { Calendar.cold with second := 4, milli := 999 }.tick = { Calendar.cold with second := 5 } := by decide +kernel

theorem witness_ColdReset : site.path.trunkReport = true ∧ (trunkIn .up false site).path.trunkReport = false := by decide +kernel

theorem witness_WarmResetBegins : site.phase = .running ∧
    (let t := run (.transmissionEnd .trunk) (run .restart (asked (body 11#8 0#8 0#8 0#8 0#8 []) site))
     t.phase = .running ∧ t.restartDue = true) := by decide +kernel

/-- Units 0 and 2 are in use; the link of unit 2 is up in the first state and reported down in the second. -/
theorem witness_WarmResetEnds :
    let s := resetting .line site
    let t : State := { s with path := { s.path with branchReport := 0xFB#8 } }
    s.phase = .warmReset .line 0 ∧ t.phase = .warmReset .line 0 ∧ s.isManaged 5 = true ∧ s.isManaged 7 = false ∧
      s.flagRaised .timeUnset = true ∧ (s.unit 2).state ≠ none ∧ memberOf s.path.branchReport 2 = true ∧
      (t.unit 2).state ≠ none ∧ memberOf t.path.branchReport 2 = false ∧
      ((List.finRange 32).filter fun c => s.isManaged c) = [1] ++ 5 :: [6] ∧ s.engine.notices = [] := by decide +kernel

/-- R140, R131, R158: with one slot and the link of unit 0 down, carrier 1 is lost, carrier 5 takes the slot and carrier 6
waits; the recovery's notices, with cause RESTART, wait for the trunk in index order. -/
theorem test_recovery :
    let s := resetting .restart (telling 1#3 (inState 6 .doze site))
    let t := run .warmResetEnd { s with
      settings := { s.settings with slots := 1 }, path := { s.path with branchReport := 0xFE#8, trunkReport := false } }
    (t.lifeState 1, t.lifeState 5, t.lifeState 6) = (.lost, .warmup, .queued) ∧
      t.wakeQueue = { priority := [], coverage := [{ carrier := 6, depth := .unknown }], ordinary := [] } ∧
      (t.engine.notices.take 3).map Notice.content =
        [.carrierState 1 .active .queued .restart .requested 0 0, .carrierState 5 .active .queued .restart .requested 0 0,
         .carrierState 6 .doze .queued .restart .requested 0 0] := by decide +kernel

/-- The shortest and the longest frame that is carried. -/
theorem carried_site (n : Nat) (h : n = 60 ∨ n = 9212) (port : Port) (hp : site.path.linkUp port = true) :
    Carried site port (zeros n) := by
  refine ⟨rfl, ?_, ?_, hp⟩ <;> simp only [zeros, List.length_replicate] <;> omega

/-- A request whose body has the protocol version 1, with three and with four waiting, and one whose header cannot be read. -/
theorem witness_FramesDiscardedAndRecognized :
    ((zeros 59).length + 4 < 64 ∧ (linkDown site).path.linkUp (.branch 2) = false ∧ (resetting .line site).phase ≠ .running) ∧
    (∀ n ∈ [3, 4], ∀ v ∈ [1#8, 2#8],
      ((waiting n).phase = .running ∧ 60 ≤ (toStation [v]).length ∧ (toStation [v]).length ≤ 9212 ∧
        (waiting n).path.linkUp .trunk = true) ∧ destinationOf (toStation [v]) = (waiting n).stationAddress ∧
      typeOf (toStation [v]) = (waiting n).settings.typeValue ∧ 8 ≤ ((toStation [v]).drop 14).length ∧
      byteAt ((toStation [v]).drop 14) 0 = v) ∧
    (waiting 3).engine.requests.length < 4 ∧ 4 ≤ (waiting 4).engine.requests.length := by decide +kernel

theorem witness_FrameTakesItsRoute : site.path.linkUp .trunk = true ∧ site.path.linkUp (.branch 7) = true ∧
    (inMode .transparent site).engine.mode = .transparent ∧ site.engine.mode ≠ .transparent ∧
    (inMode .monitor site).engine.mode ≠ .transparent ∧ destinationOf (zeros 60) ≠ site.stationAddress := by decide +kernel

theorem witness_TransmissionEndStartsTheNext :
    ∀ s ∈ [busy [sized 64] [sized 64], busy [] [sized 64], busy [] []], (s.path.queue .trunk).sending = some (sized 64) := by
  decide +kernel

/-- A frame that fits exactly, and with one byte less room not; the same for an injected frame at T; and a port whose link is
down, its queue empty (as R9 leaves it) and not. -/
theorem witness_EgressAdmission :
    let q : EgressQueue := { sending := some (sized 100), injected := [], pass := [] }
    (q.used + (sized 64).length ≤ 164 ∧ 163 < q.used + (sized 64).length ∧ (sized 64).length ≤ 64) ∧
    (((busy [] [sized 64]).path.queue .trunk).sending = some (sized 64) ∧ (busy [] [sized 64]).path.linkUp .trunk = true ∧
      64 + framesLength [] + 524224 ≤ Config.queueRoom .trunk ∧ Config.queueRoom .trunk < 64 + framesLength [] + 524225) ∧
    (let s : State := { (linkDown site) with path := (linkDown site).path.setQueue (.branch 2) q }
     (s.path.queue (.branch 2)).sending = some (sized 100) ∧ s.path.linkUp (.branch 2) = false) ∧
    ((linkDown site).path.queue (.branch 2) = { sending := none, injected := [], pass := [] } ∧
      (linkDown site).path.linkUp (.branch 2) = false) := by decide +kernel

/-- R8: an injected frame offered while the port's link is down is discarded, and its queue stays empty. -/
theorem test_injected_while_down :
    ((linkDown site).offerInjected (.branch 2) (sized 64)).path.queue (.branch 2) =
      { sending := none, injected := [], pass := [] } := by decide +kernel

theorem length_sized (n : Nat) (h : 4 ≤ n) : (sized n).length = n := by
  rw [Frame.length, sized, List.length_replicate, Config.checkBytes]; omega

/-- The idle port with an empty queue. -/
theorem witness_EgressAdmission_idle :
    (site.path.queue .trunk = { sending := none, injected := [], pass := [] } ∧ site.path.linkUp .trunk = true) ∧
      (sized 524288).length ≤ Config.queueRoom .trunk ∧ Config.queueRoom .trunk < (sized 524289).length := by
  rw [length_sized 524288 (by decide), length_sized 524289 (by decide)]; decide +kernel

theorem witness_EntryMatch :
    ((zeros 60).length < 59 + 2 ∧ 58 + 2 ≤ (zeros 60).length) ∧
    ∀ w ∈ [1, 2, 4], ∀ test ∈ [FieldTest.equal, .differ, .allSet, .allClear],
      let e := entryOf .any 56 w test 0#32 0xFF#32 (.result 1)
      e.width = 1 ∨ e.width = 2 ∨ e.width = 4 := by decide +kernel

/-- The bank of Example 2-1, and one whose SKIP of 15 at entry 49 overruns. -/
theorem witness_WalkFollowsTheTable :
    (∀ i : Fin 64, (bank21[i]).outcome ≠ .skip 0) ∧
    (∀ i : Fin 64, ((Vector.replicate 64 (always (.skip 15)))[i]).outcome ≠ .skip 0) := by decide +kernel

/-- The walks of `walking` end well, whatever the state. -/
theorem walkDone_here (port : Port) (b : Byte) (v : List Byte) (a : ActionEntry) (ha : a.present = true) (s : State) :
    WalkDone (walking port (b :: v) a s) (arrival port (b :: v)) a (walked port (b :: v) a s) := by
  refine walkDone_walking port (b :: v) a s ha ?_
  have h : ((((Vector.replicate 64 Entry.cold).set 0 (always (.result 1)))[(0 : Fin 64)]).isMatch port (b :: v)) = true := by
    simp [Entry.isMatch, always, Entry.testHolds, fieldAt, PortFilter.passes, Entry.cold, natAt]
  unfold walkBank walkFrom
  rw [if_pos h]
  rfl

/-! ### Walks -/

/-- A TRIGGER-ORDINARY action with the fields of Example 3-1. -/
def triggerAction : ActionEntry := { meterAction with kind := .triggerOrdinary }

/-- The frame of Example 3-1 for a carrier, with a field of grant units. -/
def grantFrame (key : Byte) (units : List Byte) : List Byte := 0#8 :: List.replicate 15 0#8 ++ [1#8, key, 0#8, 0#8] ++ units

/-- A frame whose body from byte 14 on is as given, or a body of Example 10-1 kind with nothing behind it. -/
def bodyFrame (v : List Byte) : List Byte := 0#8 :: List.replicate 13 0#8 ++ v

/-- A bank that overruns, and one with a walk that ends with action 2, at the limit, or 1, whose entry is not present. -/
theorem witness_PassDiscardAndBadActions :
    (∃ s', WalkEnded (walking .trunk (bodyFrame []) (action .pass) site) (arrival .trunk (bodyFrame [])) 1 s' ∧
      1 < s'.settings.actionLimit) ∧
    (let s : State := { walking .trunk (bodyFrame []) ActionEntry.cold site with settings := { site.settings with actionLimit := 1 } }
     ∃ s', WalkEnded s (arrival .trunk (bodyFrame [])) 1 s' ∧ s'.settings.actionLimit ≤ 1) ∧
    (let s := walking .trunk (bodyFrame []) ActionEntry.cold site
     ∃ s', WalkEnded s (arrival .trunk (bodyFrame [])) 1 s' ∧ ∀ h : 1 < 32, (s'.actions[1]).present = false) ∧
    (∀ kind ∈ [ActionKind.pass, .discard], ∀ s, WalkDone (walking .trunk (bodyFrame []) (action kind) s)
      (arrival .trunk (bodyFrame [])) (action kind) (walked .trunk (bodyFrame []) (action kind) s)) := by
  have e (a : ActionEntry) (s : State) (h : s.classifier = (walking .trunk (bodyFrame []) a site).classifier) :
      WalkEnded s (arrival .trunk (bodyFrame [])) 1 (s.setClassifier { s.classifier with walks := [] }) := by
    refine ⟨[], ?_, .inl ⟨?_, by simp [State.settleSwap, State.setClassifier, h, walking]⟩⟩
    · rw [h]; simp [walking, takeWalk, arrival]
    · rw [h]
      show walkBank ((Vector.replicate 64 Entry.cold).set 0 (always (.result 1))) .trunk (bodyFrame []) = .action 1
      decide +kernel
  exact ⟨⟨_, e _ _ rfl, by decide +kernel⟩, ⟨_, e ActionEntry.cold _ rfl, by decide +kernel⟩,
    ⟨_, e ActionEntry.cold _ rfl, by decide +kernel⟩, fun kind _ s => walkDone_here .trunk _ _ (action kind) rfl s⟩

/-- The walks of the next statements end as their hypothesis asks: a request of 8 bytes and of 7, a queue of 3 and of 4, and
the kinds that come from the wrong side. -/
theorem witness_ControlAndWrongSide :
    (∀ port ∈ [Port.trunk, .branch 2], ∀ kind ∈ [ActionKind.control, .advisoryReply, .radioReply], ∀ v ∈ [[], [1#8], List.replicate 8 1#8],
      ∀ n ∈ [3, 4], WalkDone (walking port (bodyFrame v) (action kind) (waiting n)) (arrival port (bodyFrame v)) (action kind)
        (walked port (bodyFrame v) (action kind) (waiting n))) ∧
    ((bodyFrame (List.replicate 7 1#8)).drop 14).length < 8 ∧ 8 ≤ ((bodyFrame (List.replicate 8 1#8)).drop 14).length ∧
    byteAt ((bodyFrame (List.replicate 8 1#8)).drop 14) 0 = 1#8 ∧ (waiting 3).engine.requests.length < 4 ∧
    4 ≤ (waiting 4).engine.requests.length :=
  ⟨fun port _ kind _ v _ n _ => walkDone_here port _ _ (action kind) rfl _, by decide +kernel⟩

/-- A key that no carrier has, and a frame too short for the key field. -/
theorem witness_CarrierLookupAndUnknownKeys :
    (∀ a ∈ [meterAction, triggerAction], ∀ f ∈ [grantFrame 0x77#8 [], bodyFrame []],
      (walked .trunk f a site).findCarrier a .trunk f = none) ∧
    (∀ a ∈ [meterAction, triggerAction], WalkDone (walking .trunk (bodyFrame []) a site) (arrival .trunk (bodyFrame [])) a
      (walked .trunk (bodyFrame []) a site)) :=
  ⟨by decide +kernel, fun a h => walkDone_here .trunk _ _ a (by simp at h; rcases h with rfl | rfl <;> rfl) _⟩

theorem walkDone_grant (port : Port) (units : List Byte) (a : ActionEntry) (ha : a.present = true) (s : State) :
    WalkDone (walking port (grantFrame 5#8 units) a s) (arrival port (grantFrame 5#8 units)) a
      (walked port (grantFrame 5#8 units) a s) := walkDone_here port _ _ a ha s

/-- Carrier 5 in each awake state; 4095 and 4096 grant units before the clamp. -/
theorem witness_AwakeCarrierFrame :
    (∀ a ∈ [{ meterAction with unitShift := 0 }, triggerAction], ∀ port ∈ [Port.trunk, .branch 2], ∀ units ∈ [[0x0F#8, 0xFF#8], [0x10#8, 0#8]],
      ∀ st ∈ [LifeState.active, .draining, .drainHeld, .restoring, .lost],
        (walked port (grantFrame 5#8 units) a (inState 5 st site)).findCarrier a port (grantFrame 5#8 units) = some 5 ∧
        (walked port (grantFrame 5#8 units) a (inState 5 st site)).lifeState 5 = st) ∧
    ((fieldAt (grantFrame 5#8 [0x0F#8, 0xFF#8]) 20 2).getD 0) >>> 0 = 4095 ∧
    ((fieldAt (grantFrame 5#8 [0x10#8, 0#8]) 20 2).getD 0) >>> 0 = 4096 := by decide +kernel

/-- Carrier 5 in each state that holds frames off; in the last, both slots are taken. -/
theorem witness_HeldOffCarrierFrame :
    (∀ a ∈ [meterAction, triggerAction], ∀ port ∈ [Port.trunk, .branch 2],
      ∀ st ∈ [LifeState.rampdown, .doze, .deepening, .slumber, .queued, .warmup],
        (walked port (grantFrame 5#8 []) a (inState 5 st site)).findCarrier a port (grantFrame 5#8 []) = some 5 ∧
        (walked port (grantFrame 5#8 []) a (inState 5 st site)).lifeState 5 = st) ∧
    (let s := walked .trunk (grantFrame 5#8 []) meterAction (inState 5 .doze (inState 6 .warmup (inState 1 .warmup site)))
     s.lifeState 5 = .doze ∧ s.settings.slots ≤ s.warmups) := by decide +kernel

/-- A lock-out time of 600 s and one of 0; sector group 0 in the mask, with a carrier of it asleep; a mask of sector group 1
alone, which no carrier is of; and a site where no carrier sleeps or drains. -/
theorem witness_PriorityTrigger :
    let a := { action .triggerPriority with sectorMask := 1#8 }
    (∀ s, WalkDone (walking .trunk (bodyFrame []) a s) (arrival .trunk (bodyFrame [])) a (walked .trunk (bodyFrame []) a s)) ∧
    a.kind = .triggerPriority ∧
    (∀ n ∈ [600, 0],
      let s := walked .trunk (bodyFrame []) a { inState 5 .slumber site with settings := { site.settings with lockOutTime := n } }
      s.settings.lockOutTime = n ∧ s.isManaged 5 = true ∧ memberOf a.sectorMask (s.config 5).sectorIx.val = true) ∧
    (let s := walked .trunk (bodyFrame []) a site
     (∀ c, s.isManaged c = true → memberOf 2#8 (s.config c).sectorIx.val = false) ∧
       ∀ c, s.isManaged c = true → s.lifeState c = .active) :=
  ⟨fun s => walkDone_here .trunk _ _ _ rfl s, rfl, by decide +kernel⟩

/-- The one slot taken by carrier 6, and carrier 5 waiting at ORDINARY with depth DEEP. -/
def waitsOrdinary : State :=
  let s := inState 5 .queued (inState 6 .warmup { site with settings := { site.settings with slots := 1 } })
  { s with wakeQueue := WakeQueue.empty.join .ordinary { carrier := 5, depth := .deep } }

/-- An action of kind TRIGGER-PRIORITY for sector group 0. -/
def priorityAction : ActionEntry := { action .triggerPriority with sectorMask := 1#8 }

/-- A wake cause that finds no slot free and carrier 5 QUEUED in a lower class: by a TRIGGER-PRIORITY frame, and by the loss of
the trunk. -/
theorem witness_CauseTaken :
    ∀ s ∈ [walked .trunk (bodyFrame []) priorityAction waitsOrdinary, trunkIn .failing false waitsOrdinary],
      WakeQueueLaw s ∧ s.settings.slots ≤ s.warmups ∧ s.lifeState 5 = .queued ∧ s.isManaged 5 = true := by
  unfold WakeQueueLaw; decide +kernel

/-- R127, R138, R139: promotion by a TRIGGER-PRIORITY frame, by the loss of the trunk, and by the loss of the anchor. -/
theorem test_promoted :
    let five : List Waiting := [{ carrier := 5, depth := .deep }]
    (run (.walkEnds .trunk) (walking .trunk (bodyFrame []) priorityAction waitsOrdinary)).wakeQueue = ⟨five, [], []⟩ ∧
      (run .trunkGraceExpires (trunkIn .failing false waitsOrdinary)).wakeQueue = ⟨[], five, []⟩ ∧
      (run (.branchLinkDown 0) waitsOrdinary).wakeQueue = ⟨[], five, []⟩ := by decide +kernel

/-! ### Replies -/

/-- The walk of a radio reply from unit 2. -/
theorem walkDone_reply (v : List Byte) (s : State) :
    WalkDone (walking (.branch 2) (bodyFrame v) (action .radioReply) s) (arrival (.branch 2) (bodyFrame v)) (action .radioReply)
      (walked (.branch 2) (bodyFrame v) (action .radioReply) s) := walkDone_here _ _ _ _ rfl s

/-- The state after that walk. -/
def replied (v : List Byte) (s : State) : State := walked (.branch 2) (bodyFrame v) (action .radioReply) s

/-- A body of 2 bytes, reports of 0 and 7, and a reply that can be read; unit 2 in use and not in use, awaiting another
token; a link number that no carrier holds, one beyond 3, and a report that is neither FAULT nor READY. -/
theorem witness_RadioReplyWithoutEffect :
    (((bodyFrame [0#8, 0#8]).drop 14).length < 3 ∧
      (byteAt ((bodyFrame [0#8, 0#8, 7#8]).drop 14) 2).toNat = 7 ∧ 3 ≤ ((bodyFrame [0#8, 0#8, 6#8]).drop 14).length ∧
      (byteAt ((bodyFrame [0#8, 0#8, 6#8]).drop 14) 2).toNat = 6) ∧
    (((replied [1#8, 0#8, 1#8] (State.cold 0xFF#8 true)).unit 2).state = none ∧
      ((replied [1#8, 0#8, 1#8] sleeping).unit 2).state = some .up ∧
      (∀ d, ((replied [1#8, 0#8, 1#8] sleeping).unit 2).queue.head? = some d → d.token ≠ 1) ∧
      ((replied [1#8, 0#8, 1#8] site).unit 2).sent = none) ∧
    ((∀ h : 3 < 4, ((replied [0#8, 3#8, 1#8] site).unit 2).map[3] = none) ∧ ¬(255 < 4)) := by
  refine ⟨by decide +kernel, ⟨by decide +kernel, by decide +kernel, ?_, by decide +kernel⟩, by decide +kernel, by decide⟩
  intro d h
  have e : ((replied [1#8, 0#8, 1#8] sleeping).unit 2).queue.head? =
    some { kind := .carrierSleep, carrier := some 5, token := 57, link := 0, key := 0x0105#16 } := by decide +kernel
  rw [e] at h; cases h; decide

/-- Unit 2 UNREACHABLE with its branch link UP and DOWN: a reply that cannot be read from the one, and from the other a report
that is neither FAULT nor READY and a token that is not awaited. -/
theorem witness_RadioReplyWithoutEffect_unreachable :
    let gone (s : State) : State := s.setUnit 2 { s.unit 2 with state := some .unreachable }
    (((replied [1#8, 0#8, 7#8] (gone site)).unit 2).state = some .unreachable ∧
      (replied [1#8, 0#8, 7#8] (gone site)).path.linkUp (.branch 2) = true) ∧
    ∀ v ∈ [[0#8, 3#8, 5#8], [9#8, 3#8, 1#8]], let s := replied v (gone (linkDown site))
      s.path.linkUp (.branch 2) = false ∧ (s.unit 2).state = some .unreachable ∧ (s.unit 2).sent = none := by
  decide +kernel

/-- R148: of a reply that cannot be read no recovery begins, and it is counted. -/
theorem test_unreadable_reply_from_unreachable :
    let s := site.setUnit 2 { site.unit 2 with state := some .unreachable }
    let t := run (.walkEnds (.branch 2)) (walking (.branch 2) (reply 0#8 0#8 0#8) (action .radioReply) s)
    (t.unit 2).state = some .unreachable ∧ (t.unit 2).discarded = 1 := by decide +kernel

/-- Carrier 5 holds link number 3 of unit 2, ACTIVE and LOST. -/
theorem witness_UnsolicitedReplies :
    ∀ st ∈ [LifeState.active, .lost], ∀ report ∈ [1#8, 4#8],
      let s := replied [0#8, 3#8, report] (inState 5 st (site.setUnit 2 { site.unit 2 with map := (site.unit 2).map.set 3 (some 5) }))
      (s.unit 2).state ≠ none ∧ (s.unit 2).state ≠ some .unreachable ∧ (∃ h : 3 < 4, (s.unit 2).map[3] = some 5) ∧
        s.lifeState 5 = st ∧ 3 ≤ ((bodyFrame [0#8, 3#8, report]).drop 14).length ∧ Solitary s 5 ∧
        (s.unit (s.unitOf 5)).queue = [] := by unfold Solitary; decide +kernel

/-- Anchor 1 holds link number 3 of unit 0, with carrier 5 asleep in each depth, and with it waiting at ORDINARY while no slot is
free. -/
theorem witness_UnsolicitedReplies_anchor :
    let linked (s : State) : State := s.setUnit 0 { s.unit 0 with map := (s.unit 0).map.set 3 (some 1) }
    let faulted (s : State) : State :=
      walked (.branch 0) (bodyFrame [0#8, 3#8, 4#8]) (action .radioReply) (linked s)
    ((∀ st ∈ [LifeState.rampdown, .doze, .deepening, .slumber], let s := faulted (inState 5 st site)
        (∃ h : 3 < 4, (s.unit 0).map[3] = some 1) ∧ s.lifeState 1 = .active ∧ s.anchorOf 1 = 1 ∧ s.anchorOf 5 = 1 ∧
          s.lifeState 5 = st) ∧
      (let s := faulted waitsOrdinary
       WakeQueueLaw s ∧ s.lifeState 1 ≠ .warmup ∧ s.settings.slots ≤ s.warmups ∧ (s.unit (s.unitOf 1)).queue = [] ∧
         s.lifeState 5 = .queued)) := by unfold WakeQueueLaw; decide +kernel

/-- A directive of each kind outstanding with a token for carrier 5, in the state that waits for its outcome. -/
def outstanding (kind : DirectiveKind) (st : LifeState) : State :=
  let s := inState 5 st site
  s.setUnit 2 { s.unit 2 with
    queue := [{ kind := kind, carrier := some 5, token := 255, link := 0, key := 0x0105#16 }],
    sent := some [], attempts := 1, replyTimer := some 200 }

/-- Each of the three with READY and with UNIT-BUSY. -/
theorem witness_ReplyEndsSleepOrWake :
    ∀ k ∈ [(DirectiveKind.carrierSleep, LifeState.rampdown), (.carrierWake, .warmup), (.carrierDeepen, .deepening)],
      ∀ report ∈ [1#8, 6#8],
      let s := replied [255#8, 0#8, report] (outstanding k.1 k.2)
      (s.unit 2).state = some .up ∧ (s.unit 2).sent ≠ none ∧
        (s.unit 2).queue = [{ kind := k.1, carrier := some 5, token := 255, link := 0, key := 0x0105#16 }] ∧
        s.lifeState 5 = k.2 ∧ (byteAt ((bodyFrame [255#8, 0#8, report]).drop 14) 0).toNat = 255 ∧ s.wakeQueue.entries = [] ∧
        s.unitOf 5 = 2 ∧ Solitary s 5 := by unfold Solitary; decide +kernel

/-- A CARRIER-WAKE for carrier 6 behind each of the two that READY ends. -/
theorem witness_ReplyEndsSleepOrWake_head :
    ∀ k ∈ [(DirectiveKind.carrierSleep, LifeState.rampdown), (.carrierWake, .warmup)],
      let e : Directive := { kind := .carrierWake, carrier := some 6, token := 1, link := 1, key := 0x0106#16 }
      let o := inState 6 .warmup (outstanding k.1 k.2)
      let s := replied [255#8, 0#8, 1#8] (o.setUnit 2 { o.unit 2 with queue := (o.unit 2).queue ++ [e] })
      (s.unit 2).queue.tail.head? = some e ∧ s.lifeState 5 = k.2 ∧ s.wakeQueue.entries = [] := by decide +kernel

/-- R117: READY does not belong to CARRIER-DEEPEN. -/
theorem test_deepen_ready_loses :
    (run (.walkEnds (.branch 2)) (walking (.branch 2) (reply 255#8 0#8 1#8) (action .radioReply)
      (outstanding .carrierDeepen .deepening))).lifeState 5 = .lost := by decide +kernel

/-- CARRIER-DEEPEN outstanding for carrier 5, with the other carrier of its unit in a state, a unit deep delay, and a mode. -/
def deepens (st : LifeState) (delay : BitVec 16) (m : Mode) : State :=
  let o := inMode m (inState 6 st (outstanding .carrierDeepen .deepening))
  { o with unitConfig := o.unitConfig.set 2 { o.unitConfig[2] with deepDelay := delay } }

/-- The other carrier in SLUMBER and not; a unit deep delay of 0 and of 1 s; in ACTING and not. -/
theorem witness_ReplyPutsToSleep_deep (st : LifeState) (hs : st = .slumber ∨ st = .active) (delay : BitVec 16)
    (hd : delay = 0#16 ∨ delay = 1#16) (m : Mode) (hm : m = .acting ∨ m = .monitor) :
    let s := replied [255#8, 0#8, 3#8] (deepens st delay m)
    ((s.unit 2).queue = [{ kind := .carrierDeepen, carrier := some 5, token := 255, link := 0, key := 0x0105#16 }] ∧
      s.lifeState 5 = .deepening ∧ (s.carrier 5).life.wakePending = none ∧ s.unitOf 5 = 2) ∧
    ((∀ e : Fin 32, e ≠ 5 → s.isManaged e = true → s.unitOf e = 2 → s.lifeState e = .slumber) ↔ st = .slumber) ∧
    ((s.unit 2).deepTimer = none ∧ (s.unitSettings 2).deepDelay = delay ∧ (s.unitSettings 2).deepPermitted = 1#8 ∧
      s.engine.mode = m ∧ s.trunkLost = false) := by
  rcases hs with rfl | rfl <;> rcases hd with rfl | rfl <;> rcases hm with rfl | rfl <;> decide +kernel

/-- R153: with a delay of 0 UNIT-DEEP follows at once, with a delay of 1 s the timer runs. -/
theorem test_last_slumber :
    let after (delay : BitVec 16) := (run (.walkEnds (.branch 2)) (walking (.branch 2) (bodyFrame [255#8, 0#8, 3#8])
      (action .radioReply) (deepens .slumber delay .acting))).unit 2
    (after 0#16).state = some .deepPending ∧ (after 1#16).deepTimer = some 1000 := by decide +kernel

/-- With no wake-pending mark, and with one while both slots are taken. -/
theorem witness_ReplyPutsToSleep :
    (∀ k ∈ [(DirectiveKind.carrierSleep, LifeState.rampdown), (.carrierDeepen, .deepening)],
      let s := replied [255#8, 0#8, 2#8] (outstanding k.1 k.2)
      (s.unit 2).state = some .up ∧ (s.unit 2).sent ≠ none ∧
        (s.unit 2).queue = [{ kind := k.1, carrier := some 5, token := 255, link := 0, key := 0x0105#16 }] ∧
        s.lifeState 5 = k.2 ∧ (s.carrier 5).life.wakePending = none ∧ s.unitOf 5 = 2) ∧
    (∀ k ∈ [(DirectiveKind.carrierSleep, LifeState.rampdown), (.carrierDeepen, .deepening)],
      let o := inState 6 .warmup (inState 1 .warmup (outstanding k.1 k.2))
      let s := replied [255#8, 0#8, 3#8]
        (o.setLife 5 { (o.carrier 5).life with wakePending := some { cls := .ordinary, cause := .relief } })
      (s.unit 2).queue = [{ kind := k.1, carrier := some 5, token := 255, link := 0, key := 0x0105#16 }] ∧
        (s.carrier 5).life.wakePending = some { cls := .ordinary, cause := .relief } ∧ s.settings.slots ≤ s.warmups ∧
        s.lifeState 5 = k.2 ∧ (Cause.relief, Origin.timed) ∈ keptCauses) := by decide +kernel

/-- R98, R112, R125: a carrier that falls asleep with a kept wake of a WAKE tells of two changes of state. -/
theorem test_kept_wake_notices :
    let o := telling 1#3 (trunkIn .failing false (inState 6 .warmup (inState 1 .warmup (outstanding .carrierSleep .rampdown))))
    let s := o.setLife 5 { (o.carrier 5).life with wakePending := some { cls := .ordinary, cause := .wake } }
    (run (.walkEnds (.branch 2)) (walking (.branch 2) (reply 255#8 0#8 2#8) (action .radioReply) s)).engine.notices.map
      Notice.content = [.carrierState 5 .rampdown .doze .asleepLight .external 0 0,
        .carrierState 5 .doze .queued .wake .requested 0 0] := by decide +kernel

/-- UNIT-DEEP outstanding with every carrier of unit 2 asleep, and with one awake; and an UNREACHABLE unit whose link is UP. -/
theorem witness_RadioUnitReplies :
    let d : Directive := { kind := .unitDeep, carrier := none, token := 1, link := 0, key := 0#16 }
    let pending (s : State) : State :=
      s.setUnit 2 { s.unit 2 with state := some .deepPending, queue := [d], sent := some [], attempts := 1, replyTimer := some 9 }
    (let s := replied [1#8, 0#8, 5#8] (pending (inState 5 .slumber (inState 6 .slumber site)))
     (s.unit 2).state = some .deepPending ∧ (s.unit 2).sent ≠ none ∧ (s.unit 2).queue = [d] ∧
       (∀ c, s.isManaged c = true → s.unitOf c = 2 → s.lifeState c = .slumber)) ∧
    (let s := replied [1#8, 0#8, 5#8] (pending site)
     (s.unit 2).queue = [d] ∧ ¬(∀ c, s.isManaged c = true → s.unitOf c = 2 → s.lifeState c = .slumber) ∧
       (s.unitSettings 2).deepDelay.toNat ≠ 0) ∧
    (let s := replied [0#8, 0#8, 6#8] (inState 5 .lost (site.setUnit 2 { site.unit 2 with state := some .unreachable }))
     (s.unit 2).state = some .unreachable ∧ s.path.linkUp (.branch 2) = true ∧ (s.unit 2).sent = none ∧
       s.isManaged 5 = true ∧ s.unitOf 5 = 2) := by decide +kernel

/-- The unit in DEEP-PENDING with a directive waiting behind UNIT-DEEP: one that may be sent, with every carrier in SLUMBER and
not, and a CARRIER-DEEPEN outside ACTING, alone and with another behind it; and with none waiting and a unit deep delay of 0. -/
theorem witness_RadioUnitReplies_head :
    let deep : Directive := { kind := .unitDeep, carrier := none, token := 1, link := 0, key := 0#16 }
    let d (kind : DirectiveKind) (c : CarrierIx) : Directive := { kind := kind, carrier := some c, token := 2, link := 0, key := 0#16 }
    let pending (rest : List Directive) (s : State) : State := replied [1#8, 0#8, 6#8] (s.setUnit 2 { s.unit 2 with
      state := some .deepPending, queue := deep :: rest, sent := some [], attempts := 1, replyTimer := some 9, deepTimer := none })
    (∀ st ∈ [LifeState.warmup, .slumber], let s := pending [d .carrierWake 5] (inState 5 st (inState 6 .slumber site))
      (s.unit 2).queue = [deep, d .carrierWake 5] ∧ s.lifeState 5 = st ∧ s.lifeState 6 = .slumber ∧ (s.unit 2).deepTimer = none) ∧
    (∀ rest ∈ [[], [d .carrierWake 6]], let s := pending (d .carrierDeepen 5 :: rest) (inMode .monitor (inState 5 .deepening site))
      (s.unit 2).queue = deep :: d .carrierDeepen 5 :: rest ∧ s.lifeState 5 = .deepening ∧ s.engine.mode ≠ .acting ∧
        (s.carrier 5).life.wakePending = none) ∧
    (let n := inState 5 .slumber (inState 6 .slumber site)
     let s := pending [] { n with unitConfig := n.unitConfig.set 2 { n.unitSettings 2 with deepDelay := 0#16 } }
     (s.unit 2).queue = [deep] ∧ (s.unitSettings 2).deepDelay.toNat = 0 ∧ s.engine.mode = .acting ∧ s.trunkLost = false ∧
       (s.unitSettings 2).deepPermitted = 1#8 ∧
       ∀ c, s.isManaged c = true → s.unitOf c = 2 → s.lifeState c = .slumber) := by decide +kernel

/-- R154: UNIT-BUSY with a CARRIER-WAKE waiting: it is sent. -/
theorem test_unit_busy_sends_head :
    let deep : Directive := { kind := .unitDeep, carrier := none, token := 1, link := 0, key := 0#16 }
    let wake : Directive := { kind := .carrierWake, carrier := some 5, token := 2, link := 0, key := 0x0105#16 }
    let s := site.setUnit 2 { site.unit 2 with
      state := some .deepPending, queue := [deep, wake], sent := some [], attempts := 1, replyTimer := some 9 }
    let t := run (.walkEnds (.branch 2)) (walking (.branch 2) (reply 1#8 0#8 6#8) (action .radioReply) s)
    (t.unit 2).queue = [wake] ∧ (t.unit 2).sent ≠ none := by decide +kernel

/-- Replies that cannot be read, that no carrier is found for, and DRAINED and DECLINE for carrier 5 in each state. -/
theorem witness_AdvisoryReplies :
    (∀ v, ∀ s, WalkDone (walking .trunk (bodyFrame v) (action .advisoryReply) s) (arrival .trunk (bodyFrame v))
      (action .advisoryReply) (walked .trunk (bodyFrame v) (action .advisoryReply) s)) ∧
    (((bodyFrame [1#8, 1#8]).drop 14).length < 3 ∧ site.advisoryCarrier 0x0777#16 = none ∧
      ∀ st ∈ [LifeState.active, .draining, .drainHeld],
        let s := walked .trunk (bodyFrame [1#8, 1#8, 5#8]) (action .advisoryReply) (inState 5 st site)
        s.advisoryCarrier 0x0105#16 = some 5 ∧ s.lifeState 5 = st ∧ (s.unit (s.unitOf 5)).state = some .up ∧
          (s.unit (s.unitOf 5)).queue = [] ∧ (s.unit (s.unitOf 5)).sent = none) ∧
    (let s := inState 5 .draining (site.setUnit 2 { site.unit 2 with state := some .unreachable })
     s.lifeState 5 = .draining ∧ (s.unit (s.unitOf 5)).state = some .unreachable) ∧
    (∀ st ∈ [UnitState.up, .deepPending, .deep, .releasing],
      let s := walked .trunk (bodyFrame [1#8, 1#8, 5#8]) (action .advisoryReply)
        (inState 5 .draining (site.setUnit 2 { (outstanding .carrierWake .draining).unit 2 with state := some st }))
      s.advisoryCarrier 0x0105#16 = some 5 ∧ s.lifeState 5 = .draining ∧ (s.unit (s.unitOf 5)).state = some st ∧
        (s.unit (s.unitOf 5)).queue ≠ []) :=
  ⟨fun v s => walkDone_here .trunk _ _ _ rfl s, by decide +kernel⟩

/-! ### Links, windows, timers -/

theorem witness_BranchLinkReports :
    (site.phase = .running ∧ site.path.linkUp (.branch 2) = true ∧ (site.unit 2).state = some .up ∧ (site.unit 7).state = none ∧
      site.path.linkUp (.branch 7) = true ∧ site.isManaged 5 = true ∧ site.unitOf 5 = 2) ∧
    (let s := inState 5 .lost (linkDown (site.setUnit 2 { site.unit 2 with state := some .unreachable }))
     s.phase = .running ∧ s.path.linkUp (.branch 2) = false ∧ (s.unit 2).state = some .unreachable ∧ s.unitOf 5 = 2 ∧
       s.lifeState 5 = .lost) ∧
    ((linkDown State.reset).path.linkUp (.branch 2) = false ∧ ((linkDown State.reset).unit 2).state ≠ some .unreachable) ∧
    (resetting .line site).phase ≠ .running := by decide +kernel

/-- Carrier 5 the one of its unit that is not LOST, and the one that is, with no slot free and with one; and an anchor whose unit
goes out of reach, with a dependent in each sleeper state. -/
theorem witness_BranchLinkReports_single :
    (let s := inState 6 .lost site
     s.isManaged 5 = true ∧ s.unitOf 5 = 2 ∧ s.lifeState 5 ≠ .lost ∧ Solitary s 5 ∧
       ∀ d, d ≠ 5 → s.isManaged d = true → s.unitOf d = 2 → s.lifeState d = .lost) ∧
    (let s := inState 5 .lost (linkDown (site.setUnit 2 { site.unit 2 with state := some .unreachable }))
     (∀ d, d ≠ 5 → s.unitOf d = 2 → s.lifeState d ≠ .lost) ∧ s.warmups < s.settings.slots ∧ s.wakeQueue.entries = [] ∧
       (let t := inState 1 .warmup (inState 6 .warmup s)
        t.lifeState 5 = .lost ∧ t.settings.slots ≤ t.warmups)) ∧
    (∀ st ∈ [LifeState.rampdown, .doze, .deepening, .slumber], let s := inState 5 st site
      s.isManaged 1 = true ∧ s.unitOf 1 = 0 ∧ s.lifeState 1 ≠ .lost ∧ s.anchorOf 1 = 1 ∧ s.isManaged 5 = true ∧
        s.anchorOf 5 = 1 ∧ s.lifeState 5 = st) := by unfold Solitary; decide +kernel

/-- R98, R131, R136: the notices of a carrier that its unit's recovery queues and that is granted a slot at once. -/
theorem test_recovery_notices :
    (run (.branchLinkUp 2) (telling 1#3 (trunkIn .failing false (inState 5 .lost
      (linkDown (site.setUnit 2 { site.unit 2 with state := some .unreachable })))))).engine.notices.map Notice.content =
      [.carrierState 5 .lost .queued .linkUp .external 0 0, .carrierState 5 .queued .warmup .granted .timed 0 0] := by
  decide +kernel

/-- Each trunk state, with TRUNK notices wanted and not, every carrier in ACTIVE, and fifteen notices waiting. -/
theorem witness_TrunkReportsAndGrace :
    (∀ st ∈ [TrunkState.up, .failing, .lost, .returning], ∀ enables ∈ [0#3, 4#3],
      let s := telling enables (trunkIn st true site)
      s.phase = .running ∧ s.path.trunkState = st ∧ s.engine.notices = [] ∧
        (s.settings.noticeEnables.getLsbD 2 = true ↔ enables = 4#3) ∧
        ∀ c, (s.lifeState c).isDrain = false ∧ (s.lifeState c).isSleeper = false ∧ s.lifeState c ≠ .queued) ∧
    (let s := { trunkIn .returning true site with engine := { site.engine with
       notices := List.replicate 15 { destination := 1#48, sequence := 0#16, content := .trunk false } } }
     s.phase = .running ∧ s.path.trunkState = .returning ∧ s.engine.notices.length < 16) ∧
    (resetting .line site).phase ≠ .running := by decide +kernel

/-- R11: the notice of the loss waits while the trunk is lost. -/
theorem test_trunk_notice :
    (run .trunkGraceExpires (telling 4#3 (trunkIn .failing false site))).engine.notices =
      [{ destination := 1#48, sequence := 0#16, content := .trunk false }] := by decide +kernel

/-- The least and the greatest of the ranges, a tally one below the available units and one at them, and the figures and
samples at their ends. -/
theorem witness_SampleAndFigure :
    (let k := { carrierRecord 0#8 0#16 0#8 0#8 1#16 with grantUnits := 1#16, slotRate := 1#8 }
     let m := { carrierRecord 0#8 0#16 0#8 0#8 1#16 with grantUnits := 4095#16, slotRate := 8#8 }
     k.inRange = true ∧ m.inRange = true ∧ availableUnits k 10 = 10 ∧ availableUnits m 10000 = 327600000 ∧
       9 < availableUnits k 10 ∧ availableUnits k 10 ≤ 10) ∧
    ((0 : Nat) ≤ 65536 ∧ (0 : Nat) < 1024 * 64 ∧ 0 * 64 < (65536 : Nat) ∧ (1024 : Nat) * 64 = 65536) := by decide +kernel

/-- Carriers that are UNMANAGED, primed and not primed; a sample of 0 in DRAINING and in DRAIN-HELD. -/
theorem witness_WindowEndMeters : evening.phase = .running ∧ evening.lifeState 7 = .unmanaged ∧
    evening.lifeState 5 ≠ .unmanaged ∧ (evening.carrier 5).meter.primed = true ∧
    ((evening.setMeter 5 Meter.clear).carrier 5).meter.primed = false ∧
    (inState 6 .draining evening).lifeState 6 = .draining ∧ (inState 6 .drainHeld evening).lifeState 6 = .drainHeld := by decide +kernel

/-- What `Lawful` asks of the tables and registers, written out for entries and actions as a cold reset leaves them. -/
abbrev LawfulTables (s : State) : Prop :=
  (0x600 ≤ s.settings.typeValue.toNat ∧ s.settings.stationClass ≤ 3 ∧ 1 ≤ s.settings.trunkGrace ∧
    s.settings.trunkGrace ≤ 10000 ∧ s.settings.actionLimit ≤ 32 ∧ 10 ≤ s.settings.windowLength ∧
    s.settings.windowLength ≤ 10000 ∧ s.settings.lockOutTime ≤ 3600 ∧ s.settings.holdGuard ≤ 255 ∧ 1 ≤ s.settings.slots ∧
    s.settings.slots ≤ 8) ∧
  (∀ k : Fin 12, s.permissions[k] ≤ 3) ∧
  (∀ p : Fin 8, ∀ q ∈ [s.profiles[p].inForce, s.profiles[p].written],
    (q.sleepThreshold ≤ 65535 ∧ 1 ≤ q.cancelThreshold ∧ q.cancelThreshold ≤ 65536 ∧ q.ceiling ≤ 65536 ∧
      1 ≤ q.reliefThreshold ∧ q.reliefThreshold ≤ 65536 ∧ 1 ≤ q.idleRunLength ∧ q.idleRunLength ≤ 255 ∧ q.shift ≤ 7 ∧
      1 ≤ q.quietWindows ∧ q.quietWindows ≤ 15 ∧ 1 ≤ q.drainTimeout ∧ q.drainTimeout ≤ 600 ∧ q.settleTime ≤ 60 ∧
      q.dwellMinimum ≤ 65535 ∧ q.deepenDelay ≤ 1440) ∧
    q.sleepThreshold < q.cancelThreshold ∧ q.ceiling < q.reliefThreshold) ∧
  (∀ b ∈ [true, false], ∀ i : Fin 64, (s.classifier.bank b)[i] = Entry.cold) ∧
  (s.calendar.minute ≤ 1439 ∧ s.calendar.second ≤ 59 ∧ s.calendar.milli ≤ 999) ∧ (1 ≤ s.token ∧ s.token ≤ 255) ∧
  s.engine.requests.length ≤ 4 ∧ s.engine.notices.length ≤ 16

/-- Likewise of the other records. -/
abbrev LawfulRecords (s : State) : Prop :=
  (∀ c : Fin 32, (s.config c).managed = true → (s.config c).unit.toNat ≤ 7 ∧ (s.config c).sector.toNat ≤ 7 ∧
    (s.config c).anchor.toNat ≤ 31 ∧ (s.config c).protect.toNat ≤ 1 ∧
    ((s.config c).slotRate = 1#8 ∨ (s.config c).slotRate = 2#8 ∨ (s.config c).slotRate = 4#8 ∨
      (s.config c).slotRate = 8#8) ∧
    1 ≤ (s.config c).ratio.toNat ∧ (s.config c).ratio.toNat ≤ 1023 ∧ 1 ≤ (s.config c).grantUnits.toNat ∧
    (s.config c).grantUnits.toNat ≤ 4095 ∧ (s.config c).rank.toNat ≤ 7 ∧ (s.config c).classMask.toNat ≤ 15 ∧
    (s.config c).profile.toNat ≤ 7) ∧
  (∀ u : Fin 8, (s.unitSettings u).inUse = true → (s.unitSettings u).deepPermitted.toNat ≤ 1 ∧
    (s.unitSettings u).retries.toNat ≤ 3 ∧ (s.unitSettings u).address.getLsbD 40 = false ∧
    10 ≤ (s.unitSettings u).releaseTime.toNat ∧ (s.unitSettings u).releaseTime.toNat ≤ 5000 ∧
    10 ≤ (s.unitSettings u).replyTimeout.toNat ∧ (s.unitSettings u).replyTimeout.toNat ≤ 2550 ∧
    (s.unitSettings u).replyTimeout.toNat % 10 = 0 ∧ (s.unitSettings u).deepDelay.toNat ≤ 3600) ∧
  (∀ n : Fin 32, s.actions[n] = ActionEntry.cold) ∧
  ∀ w : Fin 4, s.windows[w].start ≤ 1439 ∧ s.windows[w].stop ≤ 1439

/-- Likewise of the meters, the Carrier Table and the carriers at rest. -/
abbrev LawfulCarriers (s : State) : Prop :=
  (∀ c : Fin 32, (s.carrier c).meter.tally ≤ top32 ∧ (s.carrier c).meter.sample ≤ 1024 ∧
    (s.carrier c).meter.figure ≤ 65536 ∧ (s.carrier c).meter.idleRun ≤ 255 ∧ (s.carrier c).meter.quietRun ≤ 255 ∧
    ((s.carrier c).meter.primed = false →
      (s.carrier c).meter = { Meter.clear with tally := (s.carrier c).meter.tally })) ∧
  (∀ c : Fin 32, (s.config c).managed = s.isManaged c) ∧
  (∀ c : Fin 32, s.isManaged c = true →
    s.isAnchor (s.anchorOf c) = true ∧ (s.config (s.anchorOf c)).sectorIx = (s.config c).sectorIx) ∧
  (∀ u : Fin 8, (s.unitCarriers u).length ≤ 4) ∧
  (∀ c d : Fin 32, s.isManaged c = true → s.isManaged d = true → s.unitOf c = s.unitOf d →
    (s.config c).key = (s.config d).key → c = d) ∧
  (∀ c : Fin 32, (s.lifeState c).isResting = true → s.isDependent c = true ∧ (s.config c).isProtected = false)

/-- Likewise of the marks and the lists. -/
abbrev LawfulLists (s : State) : Prop :=
  (∀ c : Fin 32, (s.carrier c).life.hold = decide (s.lifeState c = .drainHeld) ∧
    ((s.carrier c).drainedReceived = true → (s.lifeState c).isDrain = true) ∧
    ((s.carrier c).life.wakePending ≠ none → s.lifeState c = .rampdown ∨ s.lifeState c = .deepening)) ∧
  (∀ a : Fin 32, (s.cover a).pledgeTotal = (((List.finRange 32).filter fun c =>
    (s.lifeState c).isDrain && s.anchorOf c == a).map fun c => (s.cover c).pledge).sum) ∧
  (∀ c : Fin 32, (s.lifeState c).isDrain = false → (s.cover c).pledge = 0) ∧
  (∀ a : Fin 32, (s.cover a).drainList.Nodup ∧
    ∀ c : Fin 32, c ∈ (s.cover a).drainList ↔ (s.lifeState c).isDrain = true ∧ s.anchorOf c = a) ∧
  (∀ a : Fin 32, (s.cover a).sleeperList.Nodup ∧
    ∀ c : Fin 32, c ∈ (s.cover a).sleeperList ↔ (s.lifeState c).isSleeper = true ∧ s.anchorOf c = a) ∧
  (∀ c : Fin 32, (s.lifeState c).isDrain = true → s.lifeState (s.anchorOf c) = .active) ∧
  ((s.wakeQueue.entries.map fun e => e.1.carrier).Nodup ∧
    ∀ c : Fin 32, c ∈ (s.wakeQueue.entries.map fun e => e.1.carrier) ↔ s.lifeState c = .queued) ∧
  (s.wakeQueue.entries ≠ [] → s.settings.slots ≤ s.warmups)

theorem inRange_of (s : State) (tables : LawfulTables s) (records : LawfulRecords s) : InRange s := by
  obtain ⟨h1, h2, h3, h4, h5, h6, h7, h8⟩ := tables
  obtain ⟨hc, hu, ha, hw⟩ := records
  exact ⟨h1, h2, fun p => ⟨h3 p _ (by simp), h3 p _ (by simp)⟩, hc, hu, fun n => .inl (ha n),
    fun b i => .inl (h4 b (by cases b <;> simp) i), hw, h5, h6, h7, h8⟩

theorem lawful_of (s : State) (tables : LawfulTables s) (records : LawfulRecords s) (carriers : LawfulCarriers s) (lists : LawfulLists s) :
    Lawful s := by
  obtain ⟨h9, h10, h11, h12, h13, h14⟩ := carriers
  obtain ⟨h15, h16, h17, h18, h19, h20, h21, h22⟩ := lists
  exact ⟨inRange_of s tables records, h9, ⟨h10, h11, h12, h13⟩, h14, h15, ⟨h16, h17, h18, h19⟩, h20, h21, h22⟩

/-- Window end A of Example 5-1 without its carrier 9, carrier 6 standing for 22: pledges of 3800 and 8149 on an anchor at
21,120, and carrier 5 of the higher rank. -/
def rivals : State :=
  let s := (evening.setMeter 6 { settled 2058 8 with tally := 16469 }).setMeter 1 { settled 21120 0 with tally := 175313 }
  let s := s.setLife 6 { (s.carrier 6).life with dwell := 1800000 }
  { s with carrierConfig := s.carrierConfig.set 6 { s.config 6 with ratio := 1023#16 } }

theorem test_example_5_1_rivals : ∀ order ∈ [ReportOrder.lifecycleFirst, .coverageFirst],
    let t := run (.windowEnd order) rivals
    (t.lifeState 5, t.lifeState 6, (t.cover 1).pledgeTotal) = (.draining, .active, 3800) := by decide +kernel

/-- The drain of Example 7-2 under way; at its number of drain-quiet windows, and there with its unit UNREACHABLE; with its
figure above the cancel threshold; and with its anchor above the relief threshold. -/
def drain72 : State := run (.windowEnd .coverageFirst) evening
def quiet72 : State := drain72.setMeter 5 { settled 0 6 with quietRun := 2 }
def unfit72 : State := quiet72.setUnit 2 { quiet72.unit 2 with state := some .unreachable }
def rose72 : State := drain72.setMeter 5 { settled 2000 0 with tally := 544000 }
def relief72 : State := drain72.setMeter 1 { settled 65536 0 with tally := 544000 }

/-- Carrier 5 on the sleeper list, in a sleeper state, with its anchor above the relief threshold. -/
def asleep72 (st : LifeState) : State :=
  (inState 5 st (run (.windowEnd .coverageFirst) quiet72)).setMeter 1 { settled 65536 0 with tally := 544000 }

theorem lawful_rivals : Lawful rivals := lawful_of _ (by decide +kernel) (by decide +kernel) (by decide +kernel)
  (by decide +kernel)
theorem lawful_evening : Lawful evening := lawful_of _ (by decide +kernel) (by decide +kernel) (by decide +kernel)
  (by decide +kernel)
theorem lawful_drain72 : Lawful drain72 := lawful_of _ (by decide +kernel) (by decide +kernel) (by decide +kernel)
  (by decide +kernel)
theorem lawful_quiet72 : Lawful quiet72 := lawful_of _ (by decide +kernel) (by decide +kernel) (by decide +kernel)
  (by decide +kernel)
theorem lawful_unfit72 : Lawful unfit72 := lawful_of _ (by decide +kernel) (by decide +kernel) (by decide +kernel)
  (by decide +kernel)
theorem lawful_rose72 : Lawful rose72 := lawful_of _ (by decide +kernel) (by decide +kernel) (by decide +kernel)
  (by decide +kernel)
theorem lawful_relief72 : Lawful relief72 := lawful_of _ (by decide +kernel) (by decide +kernel) (by decide +kernel)
  (by decide +kernel)
theorem lawful_asleep72 : ∀ st ∈ [LifeState.rampdown, .doze, .deepening, .slumber], Lawful (asleep72 st) :=
  fun st h => by
    simp only [List.mem_cons, List.not_mem_nil, or_false] at h
    rcases h with rfl | rfl | rfl | rfl <;>
      exact lawful_of _ (by decide +kernel) (by decide +kernel) (by decide +kernel) (by decide +kernel)

/-- The drain of Example 7-2 begins, alone and before a rival; and a drain ends at its number of drain-quiet windows, one by
its figure, and one goes on. -/
theorem witness_WindowEndBeginsAndEndsDrains :
    (evening.phase = .running ∧ (evening.lifeState 5).isDrain = false ∧ (drain72.lifeState 5).isDrain = true) ∧
    (Lawful rivals ∧ (let t := run (.windowEnd .coverageFirst) rivals
      exec (.windowEnd .coverageFirst) rivals = .next t ∧ rivals.phase = .running ∧ rivals.isAnchor 1 = true ∧
        ¬NeedsRelief t 1 ∧ (∀ c : Fin 32, c ∈ [(5 : Fin 32), 6] ↔ Candidate rivals t c ∧ rivals.anchorOf c = 1) ∧
        [(5 : Fin 32), 6].Pairwise (fun c d => (rivals.config d).rank.toNat < (rivals.config c).rank.toNat ∨
          ((rivals.config c).rank = (rivals.config d).rank ∧ c < d)) ∧ [(5 : Fin 32), 6] = [] ++ 5 :: [6])) ∧
    (Lawful evening ∧ exec (.windowEnd .coverageFirst) evening = .next drain72 ∧ Candidate evening drain72 5 ∧
      OnlyFor 5 evening drain72 ∧ drain72.lifeState 5 = .draining) ∧
    (Lawful rose72 ∧ (let t := run (.windowEnd .coverageFirst) rose72
      exec (.windowEnd .coverageFirst) rose72 = .next t ∧ (rose72.lifeState 5).isDrain = true ∧ LoadRose t 5 ∧
        OnlyFor 5 rose72 t)) ∧
    (Lawful drain72 ∧ (let t := run (.windowEnd .coverageFirst) drain72
      exec (.windowEnd .coverageFirst) drain72 = .next t ∧ (drain72.lifeState 5).isDrain = true ∧ ¬LoadRose t 5 ∧
        ¬WentQuiet drain72 t 5 ∧ ¬NeedsRelief t (drain72.anchorOf 5))) ∧
    (Lawful quiet72 ∧ (let t := run (.windowEnd .lifecycleFirst) quiet72
      exec (.windowEnd .lifecycleFirst) quiet72 = .next t ∧ ¬LoadRose t 5 ∧ WentQuiet quiet72 t 5 ∧ OnlyFor 5 quiet72 t ∧
        (quiet72.unit (quiet72.unitOf 5)).state = some .up ∧ (quiet72.unit (quiet72.unitOf 5)).queue = [] ∧
        (quiet72.unit (quiet72.unitOf 5)).sent = none)) := by
  unfold OnlyFor NeedsRelief Candidate LoadRose WentQuiet
  exact ⟨by decide +kernel, ⟨lawful_rivals, rfl, by decide +kernel⟩, ⟨lawful_evening, rfl, by decide +kernel⟩,
    ⟨lawful_rose72, rfl, by decide +kernel⟩, ⟨lawful_drain72, rfl, by decide +kernel⟩, lawful_quiet72, rfl, by decide +kernel⟩

/-- R105, R111: a drain that completes for a unit that cannot take CARRIER-SLEEP. -/
theorem test_drain_quiet_lost :
    Lawful unfit72 ∧ (let t := run (.windowEnd .lifecycleFirst) unfit72
      ¬LoadRose t 5 ∧ WentQuiet unfit72 t 5 ∧ (unfit72.unit (unfit72.unitOf 5)).state = some .unreachable ∧
        t.lifeState 5 = .lost) := by
  unfold LoadRose WentQuiet; exact ⟨lawful_unfit72, by decide +kernel⟩

/-- A pledge of exactly the room under the ceiling and one above it; an anchor at its relief threshold with a drain, with
sleepers, and with none left to wake. -/
theorem witness_PledgeAdmissionAndRelief :
    (site.admits 5 32768 = true ∧ site.admits 5 32769 = false) ∧
    (let r := evening.windowReport.set 1 (settled 45875 0)
     let s := (inState 5 .draining site).setCover 1 { Cover.clear with drainList := [5] }
     s.isAnchor 1 = true ∧ (s.profileOf 1).reliefThreshold ≤ r[(1 : CarrierIx)].figure ∧
       (s.cover 1).drainList = [] ++ [5] ∧ (s.lifeState 5).isDrain = true) ∧
    (∀ st ∈ [LifeState.rampdown, .doze, .deepening, .slumber],
      let t := inState 6 .warmup (inState 5 st site)
      let s := ({ t with settings := { t.settings with slots := 1 } } : State).setCover 1 { Cover.clear with sleeperList := [5] }
      s.isAnchor 1 = true ∧ (s.cover 1).drainList = [] ∧ (s.cover 1).sleeperList = [] ++ 5 :: [] ∧
        (s.carrier 5).life.wakePending = none ∧ s.lifeState 5 = st ∧ s.settings.slots ≤ s.warmups) ∧
    ((site.cover 1).drainList = [] ∧ (site.cover 1).sleeperList = []) := by decide +kernel

/-- The same at a WINDOW_END, whichever block takes the report first. -/
theorem witness_PledgeAdmissionAndRelief_windowEnd :
    (∀ order ∈ [ReportOrder.lifecycleFirst, .coverageFirst], let t := run (.windowEnd order) relief72
      exec (.windowEnd order) relief72 = .next t ∧ relief72.phase = .running ∧ relief72.isAnchor 1 = true ∧
        NeedsRelief t 1 ∧ (relief72.cover 1).drainList = [] ++ [5] ∧ ¬LoadRose t 5 ∧ ¬WentQuiet relief72 t 5) ∧
    (∀ st ∈ [LifeState.rampdown, .doze, .deepening, .slumber], let s := asleep72 st
      let t := run (.windowEnd .coverageFirst) s
      exec (.windowEnd .coverageFirst) s = .next t ∧ s.phase = .running ∧ s.isAnchor 1 = true ∧ NeedsRelief t 1 ∧
        (s.cover 1).drainList = [] ∧ s.lifeState 1 ≠ .queued ∧ (s.cover 1).sleeperList = [] ++ 5 :: [] ∧
        (s.carrier 5).life.wakePending = none ∧ s.lifeState 5 = st) ∧
    Lawful relief72 ∧ (∀ st ∈ [LifeState.rampdown, .doze, .deepening, .slumber], Lawful (asleep72 st)) := by
  unfold NeedsRelief LoadRose WentQuiet
  exact ⟨fun order h => ⟨rfl, by revert order; decide +kernel⟩, fun st h => ⟨rfl, by revert st; decide +kernel⟩,
    lawful_relief72, lawful_asleep72⟩

/-- Each state with an expiry and one without; a settle time of 5 s and of 0; the trunk lost and not; and a notice wanted. -/
theorem witness_CarrierTimerExpiries :
    (draining.phase = .running ∧ draining.lifeState 5 = .draining ∧ draining.anchorOf 5 ≠ 5 ∧ site.lifeState 5 ≠ .draining ∧
      site.lifeState 5 ≠ .restoring ∧ (inState 5 .restoring site).lifeState 5 = .restoring) ∧
    ((draining.profileOf 5).settleTime ≠ 0 ∧
      (let s := { draining with profiles := draining.profiles.set 0 { ProfileRecord.cold with
         inForce := { Profile.cold with settleTime := 0 } } }
       s.phase = .running ∧ s.lifeState 5 = .draining ∧ s.anchorOf 5 ≠ 5 ∧ (s.profileOf 5).settleTime = 0)) ∧
    ((trunkIn .lost true draining).trunkLost = true ∧ draining.trunkLost = false ∧
      draining.settings.advisoryDestination ≠ 0#48 ∧ draining.settings.noticeDestination = 0#48 ∧
      (telling 1#3 draining).noticeWanted (.carrierState 5 .draining .restoring .drainTimeout .timed 0 0) = true) := by
  decide +kernel

/-- R97, R98: the notice of a settled carrier, while the trunk is FAILING. -/
theorem test_settled_notice :
    (run (.settleTimerExpires 5) (telling 1#3 (trunkIn .failing false (inState 5 .restoring site)))).engine.notices =
      [{ destination := 1#48, sequence := 0#16, content := .carrierState 5 .restoring .active .settled .timed 0 0 }] := by
  decide +kernel

/-- Carrier 5 in DOZE for a minute, with a deepen delay of a minute and in the deep set. -/
def dozing : State :=
  let s := inState 5 .doze { site with
    profiles := site.profiles.set 0 { ProfileRecord.cold with inForce := { Profile.cold with deepenDelay := 1 } },
    calendar := { Calendar.cold with timeSet := true, deep := 0x20#32 } }
  s.setLife 5 { (s.carrier 5).life with doze := 60000 }

/-- A carrier that may deepen, at the very minute of its delay, on a unit that is UP and idle, UP with a directive outstanding,
DEEP, and RELEASING; and one that may not, a millisecond before the delay or in MONITOR. -/
theorem witness_DeepenDelayReached :
    (dozing.phase = .running ∧ dozing.lifeState 5 = .doze ∧ (dozing.profileOf 5).deepenDelay ≠ 0 ∧
      (dozing.profileOf 5).deepenDelay * 60000 ≤ (dozing.carrier 5).life.doze ∧
      memberOf dozing.calendar.deep 5 = true ∧ dozing.engine.mode = .acting ∧ dozing.trunkLost = false ∧
      (dozing.unit 2).state = some .up ∧ (dozing.unit 2).sent = none ∧ (dozing.unit 2).queue = [] ∧ dozing.unitOf 5 = 2) ∧
    (∀ st ∈ [UnitState.deep, .releasing],
      ((dozing.setUnit 2 { dozing.unit 2 with state := some st }).unit 2).state = some st) ∧
    ((dozing.setUnit 2 { dozing.unit 2 with sent := some [] }).unit 2).sent ≠ none ∧
    ¬(1 * 60000 ≤ ((dozing.setLife 5 { (dozing.carrier 5).life with doze := 59999 }).carrier 5).life.doze) ∧
    (inMode .monitor dozing).engine.mode ≠ .acting ∧
    ((dozing.setUnit 2 { dozing.unit 2 with map := (dozing.unit 2).map.set 3 (some 5) }).unit 2).map[3] = some 5 := by decide +kernel

/-- Carrier 5 in DOZE for a minute and about to join the deep set, with no carrier in the quiet set. -/
def joining : State :=
  { dozing with
    windows := dozing.windows.set 0 { inUse := true, start := 1, stop := 9, carriers := 0x60#32, deepAllowed := false }
      |>.set 1 { inUse := true, start := 2, stop := 9, carriers := 0x20#32, deepAllowed := true },
    calendar := { Calendar.cold with minute := 2, timeSet := true, quiet := 0x60#32, isOpen := 1#4 } }

/-- A recomputation in which carrier 5 alone joins the deep set and the quiet set stays; the carrier may deepen, and may not;
and one in which it leaves the deep set. -/
theorem witness_DeepPermission :
    (let new := joining.reformSets.calendar
     joining.calendar.quiet = new.quiet ∧ memberOf joining.calendar.deep 5 = false ∧
       (∀ d : CarrierIx, memberOf new.deep d.val = (memberOf joining.calendar.deep d.val || d == 5)) ∧
       joining.lifeState 5 = .doze ∧ (joining.profileOf 5).deepenDelay ≠ 0 ∧
       (joining.profileOf 5).deepenDelay * 60000 ≤ (joining.carrier 5).life.doze ∧ joining.engine.mode = .acting ∧
       joining.trunkLost = false ∧ (joining.unit (joining.unitOf 5)).state = some .up ∧
       (joining.unit (joining.unitOf 5)).queue = [] ∧ (inMode .monitor joining).engine.mode ≠ .acting) ∧
    (let old : State := { joining with calendar := { joining.calendar with deep := 0x60#32 } }
     let new := old.reformSets.calendar
     old.calendar.quiet = new.quiet ∧
       ∀ d : CarrierIx, memberOf new.deep d.val = true → memberOf old.calendar.deep d.val = true) := by decide +kernel

/-- R93: the carrier deepens as it joins the deep set, whichever recomputation brings it there. -/
theorem test_joins_deep_set :
    let s : State := { joining with calendar := { joining.calendar with minute := 1, second := 59, milli := 999 } }
    let t := run .minuteBoundary s
    let u := run .setTime (asked (body 4#8 0#8 0#8 0#8 0#8 [0#8, 2#8, 0#8]) joining)
    (t.lifeState 5, (t.unit 2).queue.map Directive.kind, u.lifeState 5) = (.deepening, [.carrierDeepen], .deepening) := by decide +kernel

theorem witness_MinuteBoundary :
    (night.phase = .running ∧ night.calendar.minute = 359 ∧ night.isManaged 5 = true ∧ memberOf night.calendar.quiet 5 = true ∧
      memberOf (run .minuteBoundary night).calendar.quiet 5 = false) ∧
    (run .minuteBoundary site).calendar.quiet = site.calendar.quiet ∧ (run .minuteBoundary site).calendar.deep = site.calendar.deep ∧
    (resetting .line site).phase ≠ .running := by decide +kernel

/-- A recomputation in which carrier 5 leaves the quiet set and none joins the deep set, with no slot free; its waking marks a
carrier whose directive is in flight. -/
theorem witness_WindowClose :
    let b := (inState 6 .warmup { night with settings := { night.settings with slots := 1 } }).nextMinute
    let new := b.reformSets.calendar
    (b.isManaged 5 && memberOf b.calendar.quiet 5 && !memberOf new.quiet 5) = true ∧ b.settings.slots ≤ b.warmups ∧
      (∀ c : CarrierIx, memberOf new.deep c.val = true → memberOf b.calendar.deep c.val = true) ∧
      ∀ st ∈ [LifeState.rampdown, .deepening],
        ((run .minuteBoundary (inState 5 st night)).carrier 5).life.wakePending =
          some { cls := .ordinary, cause := .windowClosed } := by decide +kernel

/-- Attempts left and used up, for each kind; a unit in RELEASING with a directive, and with none. -/
theorem witness_ReplyAndReleaseTimerExpiry :
    (∀ k ∈ [(DirectiveKind.carrierSleep, LifeState.rampdown), (.carrierDeepen, .deepening), (.carrierWake, .warmup)],
      let s := outstanding k.1 k.2
      s.phase = .running ∧ (s.unit 2).replyTimer ≠ none ∧ (s.unit 2).sent = some [] ∧
        (s.unit 2).attempts < (s.unitSettings 2).retries.toNat + 1 ∧ s.lifeState 5 = k.2 ∧
        (let t := s.setUnit 2 { s.unit 2 with attempts := 3 }
         (t.unit 2).replyTimer ≠ none ∧ (t.unit 2).sent ≠ none ∧ (t.unitSettings 2).retries.toNat + 1 ≤ (t.unit 2).attempts ∧
           (t.unit 2).queue = [{ kind := k.1, carrier := some 5, token := 255, link := 0, key := 0x0105#16 }])) ∧
    (let o := outstanding .carrierWake .warmup
     let s := o.setUnit 2 { o.unit 2 with state := some .releasing, sent := none, attempts := 0, replyTimer := none }
     (s.unit 2).state = some .releasing ∧ (s.unit 2).sent = none ∧
       (s.unit 2).queue = [{ kind := .carrierWake, carrier := some 5, token := 255, link := 0, key := 0x0105#16 }]) ∧
    (let d : Directive := { kind := .unitDeep, carrier := none, token := 1, link := 0, key := 0#16 }
     let s := site.setUnit 2 { site.unit 2 with
       state := some .deepPending, queue := [d], sent := some [], attempts := 3, replyTimer := some 0 }
     (s.unit 2).state = some .deepPending ∧ (s.unit 2).replyTimer ≠ none ∧ (s.unit 2).sent ≠ none ∧
       (s.unit 2).queue = [d] ∧ (s.unitSettings 2).retries.toNat + 1 ≤ (s.unit 2).attempts ∧ s.isManaged 5 = true ∧
       s.unitOf 5 = 2) ∧
    (site.unit 2).replyTimer = none ∧ (site.unit 2).state ≠ some .releasing := by decide +kernel

/-- A used-up carrier directive whose carrier hands nothing on; and a used-up UNIT-DEEP of a unit with one carrier not LOST. -/
theorem witness_ReplyAndReleaseTimerExpiry_single :
    (∀ k ∈ [(DirectiveKind.carrierSleep, LifeState.rampdown), (.carrierDeepen, .deepening), (.carrierWake, .warmup)],
      (outstanding k.1 k.2).unitOf 5 = 2 ∧ Solitary (outstanding k.1 k.2) 5) ∧
    (let s := inState 6 .lost (inState 5 .slumber site)
     s.lifeState 5 ≠ .lost ∧ Solitary s 5 ∧ ∀ e, e ≠ 5 → s.isManaged e = true → s.unitOf e = 2 → s.lifeState e = .lost) := by
  unfold Solitary; decide +kernel

/-- A CARRIER-DEEPEN at the head of a unit whose release ends outside ACTING or with the trunk lost, with no wake-pending mark
and with one while both slots are taken. -/
theorem witness_ReplyAndReleaseTimerExpiry_withdrawal :
    let o := inState 6 .warmup (inState 1 .warmup (outstanding .carrierDeepen .deepening))
    let s := o.setUnit 2 { o.unit 2 with state := some .releasing, sent := none, attempts := 0, replyTimer := none }
    ∀ t ∈ [inMode .monitor s, trunkIn .lost false s,
        inMode .monitor (s.setLife 5 { (s.carrier 5).life with wakePending := some { cls := .ordinary, cause := .relief } })],
      t.phase = .running ∧ (t.unit 2).state = some .releasing ∧ (t.unit 2).sent = none ∧
        (t.unit 2).queue = [{ kind := .carrierDeepen, carrier := some 5, token := 255, link := 0, key := 0x0105#16 }] ∧
        t.lifeState 5 = .deepening ∧ (t.engine.mode ≠ .acting ∨ t.trunkLost = true) ∧ t.settings.slots ≤ t.warmups := by decide +kernel

/-- Unit 2 at the end of its release with no directive waiting: its carriers asleep or awake, with a delay and without one,
permitted in ACTING and not. -/
theorem witness_ReplyAndReleaseTimerExpiry_empty :
    let released (s : State) : State := s.setUnit 2 { s.unit 2 with state := some .releasing, deepTimer := none }
    let undelayed (s : State) : State :=
      { s with unitConfig := s.unitConfig.set 2 { s.unitSettings 2 with deepDelay := 0#16 } }
    (∀ s ∈ [released deepNight, released (undelayed deepNight), released (undelayed (inMode .monitor deepNight))],
      (s.unit 2).state = some .releasing ∧ (s.unit 2).sent = none ∧ (s.unit 2).queue = [] ∧
        (s.unit 2).deepTimer = none ∧ s.isManaged 5 = true ∧ s.unitOf 5 = 2 ∧
        (∀ c, s.isManaged c = true → s.unitOf c = 2 → s.lifeState c = .slumber) ∧
        (s.unitSettings 2).deepPermitted = 1#8 ∧ s.trunkLost = false) ∧
    ((released deepNight).unitSettings 2).deepDelay.toNat ≠ 0 ∧
    ((released (undelayed deepNight)).unitSettings 2).deepDelay.toNat = 0 ∧ deepNight.engine.mode = .acting ∧
    (inMode .monitor deepNight).engine.mode ≠ .acting ∧ (released site).isManaged 5 = true ∧
    (released site).unitOf 5 = 2 ∧ (released site).lifeState 5 ≠ .slumber := by decide +kernel

theorem witness_UnitDeepTimerExpiry :
    (deepNight.phase = .running ∧ (deepNight.unit 2).deepTimer ≠ none ∧ (deepNight.unit 2).state = some .up ∧
      (deepNight.unit 2).queue = [] ∧ (deepNight.unit 2).sent = none ∧ deepNight.isManaged 5 = true ∧
      deepNight.unitOf 5 = 2 ∧ (∀ c, deepNight.isManaged c = true → deepNight.unitOf c = 2 → deepNight.lifeState c = .slumber) ∧
      (deepNight.unitSettings 2).deepPermitted = 1#8 ∧ deepNight.engine.mode = .acting ∧ deepNight.trunkLost = false) ∧
    (inMode .monitor deepNight).engine.mode ≠ .acting ∧ ((inMode .monitor deepNight).unit 2).deepTimer ≠ none := by decide +kernel

/-! ### Requests -/

/-- A request that its command takes at the site; its class, 2, is at most every ceiling there. -/
def Met (row : Instr) (kind : Fin 12) (b : List Byte) (s : State) : Prop :=
  Takes row (asked b s) (request b) [] ∧ (request b).cls ≤ (asked b s).permissions[kind]

/-- A WRITE-RECORDS of one record. -/
def oneWrite (table index : Byte) (record : List Byte) : List Byte := body 2#8 table index 1#8 1#8 record

/-- A request of each kind and each table write is taken by its command; the last is of no kind. -/
theorem witness_RequestsAndResponses :
    (∀ p ∈ plainRequests, ((request (body (BitVec.ofNat 8 p.2) 0#8 0#8 0#8 0#8 [])).command = p.1)) ∧
    (∀ p ∈ tableWrites, (request (oneWrite (BitVec.ofNat 8 p.2.1) 0#8 [])).command = p.1) ∧
    (∀ p ∈ settingWrites, (request (oneWrite 11#8 (BitVec.ofNat 8 p.2.1) [])).command = p.1) ∧
    (request (body 12#8 0#8 0#8 0#8 0#8 [])).command = .unknownRequestKind ∧ site.engine.requests = [] ∧
    Met .unknownRequestKind 0 (body 12#8 0#8 0#8 0#8 0#8 []) site ∧
    (∀ k : Fin 12, ({ site with permissions := Vector.replicate 12 1 } : State).permissions[k] < (request []).cls) ∧
    Met .readRecords 1 (body 1#8 0#8 0#8 1#8 0#8 []) site ∧ (request (body 1#8 0#8 0#8 1#8 0#8 [])).table = none ∧
    Met .writeRecords 2 (oneWrite 2#8 0#8 []) site ∧ (request (oneWrite 2#8 0#8 [])).table ≠ some .settings ∧
    (∀ i ∈ [0#8, 34#8, 35#8], Met .writeRecords 2 (oneWrite 11#8 i (zeros 8)) site ∧
      (request (oneWrite 11#8 i (zeros 8))).table = some .settings) ∧
    (∀ b ∈ [body 2#8 11#8 12#8 0#8 0#8 (zeros 8), body 2#8 11#8 12#8 17#8 0#8 (zeros 8), body 2#8 11#8 12#8 1#8 2#8 (zeros 8),
        body 2#8 11#8 12#8 1#8 0#8 (zeros 7)],
      Met .writeRecords 2 b site ∧ (request b).table = some .settings) := by
  unfold Met Takes; decide +kernel

/-- R171: downward from index 1 there are two records. -/
theorem test_read_down_ends_at_zero :
    ((answer (run .readRecords (asked (body 1#8 10#8 1#8 16#8 1#8 []) site))).take 12) =
      [0x11#8, 1#8, 0#8, 7#8, 0#8, 10#8, 1#8, 2#8, 1#8, 3#8, 0#8, 3#8] := by decide +kernel

/-- The first index at and before the end of PERMISSION, counts of 0, 1, 16 and 17, and directions 0, 1 and 2. -/
theorem witness_IdentifyAndRead : Met .identify 0 (body 0#8 0#8 0#8 0#8 0#8 []) site ∧
    ∀ i ∈ [0#8, 11#8, 12#8], ∀ n ∈ [0#8, 1#8, 16#8, 17#8], ∀ d ∈ [0#8, 1#8, 2#8],
      Met .readRecords 1 (body 1#8 10#8 i n d []) site ∧ (request (body 1#8 10#8 i n d [])).table = some .permission := by
  unfold Met Takes; decide +kernel

/-- Every write, with counts of 0, 1, 16 and 17, and records that are there and that are missing; and PERMISSION records of
which the second is good, holds 4, or lies outside the table. -/
theorem witness_WriteRequestChecks :
    (∀ p ∈ tableWrites, ∀ n ∈ [0#8, 1#8, 16#8, 17#8], Met p.1 2 (body 2#8 (BitVec.ofNat 8 p.2.1) 0#8 n 0#8 []) site) ∧
    (∀ p ∈ settingWrites, ∀ n ∈ [0#8, 1#8, 16#8, 17#8], Met p.1 2 (body 2#8 11#8 (BitVec.ofNat 8 p.2.1) n 2#8 []) site) ∧
    (∀ p ∈ tableWrites, Met p.1 2 (oneWrite (BitVec.ofNat 8 p.2.1) 255#8 (zeros p.2.2.1)) site ∧
      p.2.2.2 ≤ (request (oneWrite (BitVec.ofNat 8 p.2.1) 255#8 (zeros p.2.2.1))).indexByte.toNat) ∧
    (∀ first ∈ [10#8, 11#8], ∀ direction ∈ [0#8, 1#8], ∀ second ∈ [3#8, 4#8],
      Met .writePermission 2 (body 2#8 10#8 first 2#8 direction [3#8, second]) site) ∧
    (request (body 2#8 10#8 10#8 2#8 0#8 [3#8, 4#8])).count = 2 ∧
    (request (body 2#8 10#8 10#8 2#8 0#8 [3#8, 4#8])).values = [3#8, 4#8] := by
  unfold Met Takes
  exact ⟨by decide +kernel, by decide +kernel, by decide +kernel, by decide +kernel, by decide, by decide⟩

/-- Actions at the ends of R33's ranges and beyond them; classifier entries with SKIP distances 0, 1, 15 and 16, with no swap
pending and with one. -/
theorem witness_WriteActionAndClassifier :
    (∀ a ∈ [{ meterAction with keyOffset := 126, unitOffset := 127, unitWidth := 1, bodyOffset := 127, unitShift := 15, cls := 3 },
        { meterAction with keyOffset := 127 }, { meterAction with cls := 4 }, { meterAction with bodyOffset := 128 }],
      Met .writeAction 2 (oneWrite 6#8 31#8 a.bytes) site ∧ OneRecord (request (oneWrite 6#8 31#8 a.bytes)) 31 a.bytes) ∧
    (∀ n ∈ [0, 1, 15, 16], ∀ offset ∈ [127, 128],
      let e := { always (.skip n) with offset := offset }
      Met .writeClassifierStandby 2 (oneWrite 7#8 63#8 e.bytes) site ∧
        OneRecord (request (oneWrite 7#8 63#8 e.bytes)) 63 e.bytes) ∧
    site.classifier.swap = none ∧ swapping.classifier.swap ≠ none := by
  unfold Met Takes OneRecord; decide +kernel

/-- Records with one byte that is no code: the least beyond its codes, and 255. -/
theorem witness_UncodedRecords :
    let bytes (i : Nat) (v : Byte) (n : Nat) : List Byte := zeros i ++ v :: zeros (n - i - 1)
    (∀ p ∈ [(0, 2#8), (0, 255#8), (1, 8#8), (1, 255#8)],
      Met .writeAction 2 (oneWrite 6#8 31#8 (bytes p.1 p.2 16)) site ∧
        OneRecord (request (oneWrite 6#8 31#8 (bytes p.1 p.2 16))) 31 (bytes p.1 p.2 16) ∧ byteAt (bytes p.1 p.2 16) p.1 = p.2) ∧
    (∀ p ∈ [(0, 2#8), (1, 3#8), (4, 4#8), (5, 2#8), (5, 255#8)],
      Met .writeClassifierStandby 2 (oneWrite 7#8 63#8 (bytes p.1 p.2 16)) site ∧
        OneRecord (request (oneWrite 7#8 63#8 (bytes p.1 p.2 16))) 63 (bytes p.1 p.2 16) ∧
        byteAt (bytes p.1 p.2 16) p.1 = p.2) ∧
    (∀ p ∈ [(0, 2#8), (1, 2#8), (1, 255#8)],
      Met .writeWindow 2 (oneWrite 9#8 3#8 (bytes p.1 p.2 12)) site ∧
        OneRecord (request (oneWrite 9#8 3#8 (bytes p.1 p.2 12))) 3 (bytes p.1 p.2 12) ∧ byteAt (bytes p.1 p.2 12) p.1 = p.2) := by
  unfold Met Takes OneRecord; decide +kernel

/-- CARRIER and RADIO-UNIT records whose first byte is neither 0 nor 1. -/
theorem witness_UncodedRecords_marks :
    ∀ v ∈ [2#8, 255#8], let record : List Byte := v :: zeros 15
      (Met .writeCarrier 2 (oneWrite 1#8 31#8 record) site ∧ OneRecord (request (oneWrite 1#8 31#8 record)) 31 record) ∧
        Met .writeRadioUnit 2 (oneWrite 4#8 7#8 record) site ∧ OneRecord (request (oneWrite 4#8 7#8 record)) 7 record := by
  unfold Met Takes OneRecord; decide +kernel

/-- A profile at the ends of its ranges. -/
def widestProfile : Profile :=
  { Profile.cold with sleepThreshold := 65535, cancelThreshold := 65536, ceiling := 65535, reliefThreshold := 65536, settleTime := 60 }

/-- Profiles at the ends of the ranges of R60 and beyond them; windows that end at 1439 and at 1440, with and without a
carrier that leaves the quiet set. -/
theorem witness_WriteProfileAndWindow :
    (∀ p ∈ [widestProfile, { Profile.cold with cancelThreshold := 2048 }, { Profile.cold with drainTimeout := 601 }, { Profile.cold with idleRunLength := 0 }],
      Met .writeProfile 2 (oneWrite 3#8 7#8 (p.bytes true)) site ∧
        OneRecord (request (oneWrite 3#8 7#8 (p.bytes true))) 7 (p.bytes true)) ∧
    (∀ stop ∈ [1439, 1440],
      let w : QuietWindow := { inUse := true, start := 1439, stop := stop, carriers := 0x20#32, deepAllowed := true }
      Met .writeWindow 2 (oneWrite 9#8 3#8 (w.bytes false)) site ∧
        OneRecord (request (oneWrite 9#8 3#8 (w.bytes false))) 3 (w.bytes false)) ∧
    (let t := run .writeWindow (asked (oneWrite 9#8 0#8 (QuietWindow.cold.bytes false)) night)
     night.isManaged 5 = true ∧ memberOf night.calendar.quiet 5 = true ∧ memberOf t.calendar.quiet 5 = false) ∧
    (let t := run .writeWindow (asked (oneWrite 9#8 3#8 (QuietWindow.cold.bytes false)) night)
     t.calendar.quiet = night.calendar.quiet ∧ t.calendar.deep = night.calendar.deep) := by
  unfold Met Takes OneRecord; decide +kernel

/-- What a CARRIER record of the site is answered, with what stands in its way; and that it is taken. -/
def written (c : Byte) (k : CarrierConfig) (s : State) : Byte :=
  byteAt (answer (run .writeCarrier (asked (oneWrite 1#8 c k.bytes) s))) 4

/-- Four carriers on unit 2. -/
def crowded : State :=
  withCarrier 2 (carrierRecord 2#8 0x0102#16 1#8 0#8 1#16) .active (withCarrier 3 (carrierRecord 2#8 0x0103#16 1#8 0#8 1#16) .active site)

/-- Each check fails alone, in turn; and records are accepted that make carrier 7 managed (its unit UP, and DEEP), that change
the rank of an ACTIVE carrier and of a sleeper, that take carrier 5 out, and that move it to another unit. -/
theorem witness_WriteCarrierRecord :
    (∀ k ∈ [{ carrierRecord 8#8 7#16 1#8 0#8 1#16 with unit := 8#8 }, carrierRecord 2#8 7#16 7#8 0#8 1#16, CarrierConfig.cold],
      Met .writeCarrier 2 (oneWrite 1#8 7#8 k.bytes) site ∧ OneRecord (request (oneWrite 1#8 7#8 k.bytes)) 7 k.bytes) ∧
    (written 7#8 (carrierRecord 8#8 7#16 7#8 0#8 1#16) site = 5#8 ∧ written 7#8 (carrierRecord 2#8 7#16 5#8 0#8 1#16) site = 7#8 ∧
      written 7#8 (carrierRecord 2#8 0x0107#16 7#8 0#8 1#16) crowded = 8#8 ∧
      written 7#8 (carrierRecord 2#8 0x0105#16 7#8 0#8 1#16) site = 9#8 ∧
      written 5#8 (carrierRecord 2#8 0x0105#16 1#8 6#8 513#16) (inState 5 .doze site) = 10#8) ∧
    (written 7#8 (carrierRecord 2#8 7#16 7#8 0#8 1#16) site = 0#8 ∧
      written 7#8 (carrierRecord 2#8 7#16 7#8 0#8 1#16) (site.setUnit 2 { site.unit 2 with state := some .deep }) = 0#8 ∧
      (site.unit 2).map[0] = none ∧
      written 5#8 (carrierRecord 2#8 0x0105#16 1#8 7#8 512#16) site = 0#8 ∧
      written 5#8 (carrierRecord 2#8 0x0105#16 1#8 7#8 512#16) (inState 5 .doze site) = 0#8 ∧
      written 5#8 CarrierConfig.cold site = 0#8 ∧
      (written 20#8 { carrierRecord 7#8 0x0777#16 1#8 4#8 1#16 with managed := false } site = 0#8 ∧ site.unitOf 20 = 0) ∧
      written 5#8 (carrierRecord 0#8 0x0105#16 1#8 6#8 512#16) site = 0#8 ∧
      site.unitOf 5 ≠ (carrierRecord 0#8 0x0105#16 1#8 6#8 512#16).unitIx) ∧
    (4 ≤ ((crowded.unitCarriers 2).filter (· != 7)).length ∧
      5 ∈ ((asleep72 .doze).cover ((asleep72 .doze).anchorOf 5)).sleeperList ∧
      (site.unitSettings 2).deepDelay.toNat ≠ 0) := by
  unfold Met Takes OneRecord; decide +kernel

/-- R71: the notice of a carrier made managed, while the trunk is FAILING. -/
theorem test_configured_notice :
    (run .writeCarrier (asked (oneWrite 1#8 7#8 (carrierRecord 2#8 7#16 7#8 0#8 1#16).bytes)
      (telling 1#3 (trunkIn .failing false site)))).engine.notices.map Notice.content =
      [.carrierState 7 .unmanaged .active .configured .requested 0 0] := by decide +kernel

/-- R144, R153: a carrier that leaves a unit whose other carrier is in SLUMBER starts the unit deep timer, of 300 s. -/
theorem test_leaving_starts_deep_timer :
    ((run .writeCarrier (asked (oneWrite 1#8 5#8 CarrierConfig.cold.bytes) (inState 6 .slumber site))).unit 2).deepTimer =
      some 300000 := by decide +kernel

/-- Records at the ends of R142's ranges and beyond them; a unit that goes out of use while idle, and one with a directive
queued. -/
theorem witness_WriteRadioUnitRecord :
    let k : UnitConfig := { inUse := true, deepPermitted := 1#8, retries := 3#8, address := 0x020000000010#48,
                            releaseTime := 5000#16, replyTimeout := 2550#16, deepDelay := 3600#16 }
    (∀ x ∈ [k, { k with releaseTime := 10#16, replyTimeout := 10#16, deepDelay := 0#16 }, { k with releaseTime := 5001#16 },
        { k with replyTimeout := 2545#16 }, { k with address := 0x010000000010#48 }, UnitConfig.cold],
      Met .writeRadioUnit 2 (oneWrite 4#8 2#8 x.bytes) site ∧ OneRecord (request (oneWrite 4#8 2#8 x.bytes)) 2 x.bytes) ∧
    (site.unitSettings 2).inUse ≠ UnitConfig.cold.inUse ∧ (site.unit 2).queue = [] ∧ (sleeping.unit 2).queue ≠ [] ∧
    (site.unitSettings 2).inUse = k.inUse ∧ (site.unitSettings 2).address = k.address := by
  unfold Met Takes OneRecord; decide +kernel

/-- Each setting at its least and greatest value and one beyond; and a slot count raised with one carrier waiting. -/
theorem witness_WriteSettings :
    (∀ p ∈ settingWrites, ∀ v ∈ [p.2.2.1, p.2.2.2, p.2.2.2 + 1],
      let b := oneWrite 11#8 (BitVec.ofNat 8 p.2.1) (beBytes 8 v)
      Met p.1 2 b site ∧ OneRecord (request b) p.2.1 (beBytes 8 v) ∧ v < 2 ^ 64) ∧
    (let q := inState 5 .queued (inState 6 .warmup (inState 1 .warmup site))
     let s : State := { q with wakeQueue := { WakeQueue.empty with ordinary := [{ carrier := 5, depth := .light }] } }
     s.settings.slots < 3 ∧ s.warmups < 3 ∧ s.wakeQueue.entries = [({ carrier := 5, depth := .light }, .ordinary)] ∧
       s.lifeState 5 = .queued ∧ (s.unit (s.unitOf 5)).state = some .up ∧ (s.unit (s.unitOf 5)).queue = [] ∧
       (s.unit (s.unitOf 5)).sent = none) := by
  unfold Met Takes OneRecord
  exact ⟨by decide +kernel, by decide +kernel⟩

/-- Each mirror option, a wrong one and none; a swap pending, with a walk bound to the outgoing bank and with none. -/
theorem witness_BankSwap :
    (∀ v ∈ [[], [0#8], [1#8], [2#8]], Met .activateBank 3 (body 3#8 0#8 0#8 0#8 0#8 v) site) ∧
    site.classifier.swap = none ∧ swapping.phase = .running ∧ swapping.classifier.swap = some true ∧
    (∃ w ∈ swapping.classifier.walks, w.bank ≠ swapping.classifier.selector) ∧
    (∀ w ∈ (run (.walkEnds .trunk) swapping).classifier.walks, w.bank = swapping.classifier.selector) ∧
    swapping.engine.activating ≠ none ∧ site.classifier.walks = [] ∧
    (∃ w ∈ (walking .trunk [] meterAction site).classifier.walks,
      w.bank = (walking .trunk [] meterAction site).classifier.selector) := by
  unfold Met Takes; decide +kernel

/-- A walk that ends on a DISCARD action while a swap waits for it alone, and while it waits for another one too. -/
theorem witness_BankSwap_walk :
    ∀ others ∈ [[], [arrival (.branch 1) [0#8]]],
      let s := run .activateBank (asked (body 3#8 0#8 0#8 0#8 0#8 [1#8]) (walking .trunk (bodyFrame []) (action .discard) site))
      let t := s.setClassifier { s.classifier with walks := s.classifier.walks ++ others }
      WalkDone t (arrival .trunk (bodyFrame [])) (action .discard)
          (t.setClassifier { t.classifier with walks := others }).settleSwap ∧
        t.classifier.swap = some true ∧ (others = [] ∨ ∃ v ∈ others, v.bank ≠ t.classifier.selector) := by
  intro others h
  refine ⟨⟨1, ⟨others, ?_, .inl ⟨?_, rfl⟩⟩, ?_, rfl, by decide, ?_⟩, ?_⟩ <;>
    (revert others; decide +kernel)

/-- 1439 and 1440 min, 59 and 60 s; each mode, and a Classifier that is not activated. -/
theorem witness_SetTimeAndSetMode :
    (∀ v ∈ [[], [5#8, 159#8, 59#8], [5#8, 160#8, 59#8], [5#8, 159#8, 60#8]], Met .setTime 4 (body 4#8 0#8 0#8 0#8 0#8 v) night) ∧
    night.calendar.timeSet = true ∧ site.calendar.timeSet = false ∧ memberOf night.calendar.quiet 5 = true ∧
    memberOf (run .setTime (asked (body 4#8 0#8 0#8 0#8 0#8 [1#8, 0x90#8, 15#8]) night)).calendar.quiet 5 = false ∧
    (run .setTime (asked (body 4#8 0#8 0#8 0#8 0#8 [1#8, 0x90#8, 15#8]) site)).flagRaised .timeUnset = false ∧
    (∀ v ∈ [[], [0#8], [1#8], [2#8], [3#8]], Met .setMode 5 (body 5#8 0#8 0#8 0#8 0#8 v) draining) ∧
    draining.classifier.activated = true ∧ { site with classifier := Classifier.cold }.classifier.activated = false ∧
    draining.engine.mode = .acting ∧ (inMode .monitor site).engine.mode ≠ .acting := by
  unfold Met Takes; decide +kernel

/-- The status that a SLEEP-NOW for carrier 5 is answered, or its advisory's first byte. -/
def sleptNow (s : State) : Byte := byteAt (answer (run .sleepNow (asked (body 6#8 0#8 5#8 0#8 0#8 []) s))) 4

/-- Indices 31 and 32, and each of the checks failing first. -/
theorem witness_SleepNow :
    (∀ i ∈ [5#8, 31#8, 32#8], Met .sleepNow 6 (body 6#8 0#8 i 0#8 0#8 []) site) ∧
    (let s := asked (body 6#8 0#8 5#8 0#8 0#8 []) site
     let r : Request := { cls := 2, source := 0#48, body := body 6#8 0#8 5#8 0#8 0#8 [] }
     Takes .sleepNow { s with permissions := s.permissions.set 6 1, engine := { s.engine with requests := [r] } } r [] ∧
       (s.permissions.set 6 1)[6] < r.cls) ∧
    (sleptNow { site with carrierConfig := site.carrierConfig.set 5 { site.config 5 with classMask := 0#8 } } = 2#8 ∧
      sleptNow { site with carrierConfig := site.carrierConfig.set 5 { site.config 5 with protect := 1#8 } } = 11#8 ∧
      sleptNow (inState 5 .unmanaged site) = 12#8 ∧ sleptNow (inMode .monitor site) = 18#8 ∧
      sleptNow (inState 5 .restoring site) = 10#8 ∧ sleptNow (inState 1 .lost site) = 13#8 ∧
      sleptNow { site with settings := Settings.cold } = 15#8 ∧ sleptNow (trunkIn .returning true site) = 16#8 ∧
      sleptNow { site with lockOuts := site.lockOuts.set 0 (some 1) } = 17#8 ∧
      sleptNow (site.setMeter 1 (settled 32769 0)) = 14#8) ∧
    (let s := (inState 6 .draining site).setCover 1 { Cover.clear with drainList := [6] }
     sleptNow s = 5#8 ∧ (s.cover 1).drainList = [6] ∧ (s.cover 6).drainMoment ≤ s.moment) ∧
    (telling 1#3 site).noticeWanted (.carrierState 5 .active .draining .sleepNow .requested 0 0) = true := by
  unfold Met Takes; decide +kernel

/-- R136, R137: a LOST carrier woken while both slots are taken. -/
theorem test_wake_lost :
    (run .wake (asked (body 7#8 0#8 0#8 0#8 0#8 [0#8, 0#8, 0#8, 0x20#8])
      (inState 1 .warmup (inState 6 .warmup (inState 5 .lost site))))).wakeQueue =
      { priority := [], coverage := [{ carrier := 5, depth := .unknown }], ordinary := [] } := by decide +kernel

/-- 3 and 4 bytes; a class mask without the class; no carrier named; carrier 5 alone, in DOZE; and in LOST, on a unit not in
use, UP and UNREACHABLE, and with both slots taken. -/
theorem witness_WakeRequest :
    (∀ v ∈ [zeros 3, zeros 4, [0#8, 0#8, 0#8, 0x20#8]], Met .wake 7 (body 7#8 0#8 0#8 0#8 0#8 v) site) ∧
    (let s := inState 5 .doze site
     (s.config 5).classMask.getLsbD 2 = true ∧ s.lifeState 5 = .doze ∧ s.warmups < s.settings.slots ∧
       s.wakeQueue.entries = [] ∧ (s.unit (s.unitOf 5)).state = some .up ∧ (s.unit (s.unitOf 5)).queue = [] ∧
       (s.unit (s.unitOf 5)).sent = none) ∧
    (∀ st ∈ [none, some UnitState.up, some .unreachable],
      let s := inState 5 .lost (site.setUnit 2 { site.unit 2 with state := st })
      s.lifeState 5 = .lost ∧ s.warmups < s.settings.slots ∧ s.wakeQueue.entries = [] ∧
        (s.unit (s.unitOf 5)).state = st) ∧
    (let s := inState 1 .warmup (inState 6 .warmup (inState 5 .lost site))
     s.lifeState 5 = .lost ∧ s.settings.slots ≤ s.warmups) ∧
    (let s := inState 1 .warmup (inState 6 .warmup (inState 5 .slumber site))
     s.lifeState 5 = .slumber ∧ s.settings.slots ≤ s.warmups) ∧
    (∀ d : CarrierIx, (BitVec.ofNat 32 (natAt [0#8, 0#8, 0#8, 0x20#8] 0 4)).getLsbD d.val = true ↔ d = 5) ∧
    (∀ d : CarrierIx, (BitVec.ofNat 32 (natAt (zeros 4) 0 4)).getLsbD d.val = false) := by
  unfold Met Takes; decide +kernel

/-- The guard of 30 s at 29.999 s and at 30 s; a drain, a held drain with and without its DRAINED, and neither. -/
theorem witness_HoldAndRelease :
    (∀ i ∈ [5#8, 31#8, 32#8], Met .holdDrain 8 (body 8#8 0#8 i 0#8 0#8 []) draining ∧
      Met .releaseHold 9 (body 9#8 0#8 i 0#8 0#8 []) draining) ∧
    (29999 / 1000 < draining.settings.holdGuard ∧ ¬(30000 / 1000 < draining.settings.holdGuard) ∧
      draining.lifeState 5 = .draining ∧ (draining.carrier 5).life.sinceRelease = none ∧
      (draining.carrier 5).life.wakePending = none ∧ (draining.config 5).classMask.getLsbD 2 = true) ∧
    (let s := inState 5 .drainHeld site
     s.lifeState 5 = .drainHeld ∧ (s.carrier 5).drainedReceived = false ∧
       ((s.setCarrier 5 { s.carrier 5 with drainedReceived := true }).carrier 5).drainedReceived = true ∧
       (s.unit (s.unitOf 5)).state = some .up ∧ (s.unit (s.unitOf 5)).queue = [] ∧ (s.unit (s.unitOf 5)).sent = none ∧
       ∀ st ∈ [none, some UnitState.deep, some .unreachable], ((s.setUnit 2 { s.unit 2 with state := st }).unit 2).state = st) ∧
    site.lifeState 5 ≠ .draining ∧ site.lifeState 5 ≠ .drainHeld := by
  unfold Met Takes; decide +kernel

/-- R97, R98, R108: the notice of a held drain, while the trunk is FAILING. -/
theorem test_held_notice :
    (run .holdDrain (asked (body 8#8 0#8 5#8 0#8 0#8 []) (telling 1#3 (trunkIn .failing false draining)))).engine.notices =
      [{ destination := 1#48, sequence := 0#16, content := .carrierState 5 .draining .drainHeld .held .requested 0 0 }] := by
  decide +kernel

/-- Masks of 0x0FFF and 0x1000, and a body of 1 byte. -/
theorem witness_ClearFlagsAndRestart :
    (∀ v ∈ [[0x0F#8], [0x0F#8, 0xFF#8], [0x10#8, 0#8]], Met .clearFlags 10 (body 10#8 0#8 0#8 0#8 0#8 v) site) ∧
    Met .restart 11 (body 11#8 0#8 0#8 0#8 0#8 []) site := by
  unfold Met Takes; decide +kernel

/-- TIME-UNSET raised and TRUNK-DOWN clear; a notice wanted and not, with fifteen and with sixteen waiting. -/
theorem witness_FlagsAndNotices :
    site.flagRaised .timeUnset = true ∧ site.flagRaised .trunkDown = false ∧
    ∀ n ∈ [15, 16],
      let s := { trunkIn .failing true site with
        settings := { site.settings with noticeEnables := 2#3, noticeDestination := 1#48 },
        engine := { site.engine with notices := List.replicate n { destination := 1#48, sequence := 0#16, content := .trunk true } } }
      s.path.trunkState ≠ .up ∧ s.settings.noticeEnables.getLsbD 1 = true ∧ s.settings.noticeDestination ≠ 0#48 ∧
        s.engine.notices.length = n ∧ site.settings.noticeDestination = 0#48 ∧ s.phase = .running ∧
        s.path.trunkState = .failing ∧ s.flagRaised .noticeDropped = false ∧
        (s.setFlag .noticeDropped).flagRaised .noticeDropped = true ∧ site.path.trunkState = .up ∧
        site.engine.notices = [] := by decide +kernel

/-! ### Laws -/

/-- The state after the drain of Example 7-2 has begun, with a minute boundary to come. -/
def lawful : State := { run (.windowEnd .coverageFirst) evening with pending := [.minuteBoundary, .drainTimerExpires 5] }

theorem lawful_steps : ∃ t, step lawful = .next t := ⟨_, rfl⟩

/-- What is counted against every queue fits its room. -/
theorem egressLaw_of (s : State) (h : (s.path.queue .trunk).used ≤ 524288)
    (k : ∀ n : Fin 8, (s.path.queue (.branch n)).used ≤ 262144) : EgressLaw s := by
  intro port
  cases port
  · exact h
  · exact k _

theorem witness_RangesKept : InRange lawful ∧ MetersInRange lawful ∧ ∃ t, step lawful = .next t := by
  refine ⟨inRange_of _ (by decide +kernel) (by decide +kernel), ?_, lawful_steps⟩
  unfold MetersInRange; decide +kernel

/-- An action and a classifier entry at the ends of their ranges. -/
theorem test_fits :
    ({ ActionEntry.cold with
       present := true, kind := .meter, keyOffset := 126, keyWidth := 2, unitOffset := 127, unitWidth := 1,
       unitShift := 15, cls := 3, bodyOffset := 127 } : ActionEntry).fits ∧
    ({ Entry.cold with offset := 127, width := 4, outcome := .skip 15 } : Entry).fits :=
  ⟨by unfold ActionEntry.fits; decide, by decide, by decide, by simp, by simp +contextual⟩

theorem witness_FramePathKept : GraceLaw lawful ∧ EgressLaw lawful ∧ (∃ t, step lawful = .next t) ∧
    SwapLaw swapping ∧ swapping.classifier.swap ≠ none ∧ ∃ t, step { swapping with pending := [.walkEnds .trunk] } = .next t :=
  ⟨by unfold GraceLaw; decide +kernel, egressLaw_of _ (by decide +kernel) (by decide +kernel), lawful_steps,
    by unfold SwapLaw; decide +kernel, by decide +kernel, _, rfl⟩

theorem restingLaw_lawful : RestingLaw lawful := by unfold RestingLaw; decide +kernel

theorem carrierTableLaw_of (s : State)
    (marks : ∀ c, (s.config c).managed = s.isManaged c)
    (anchors : ∀ c, s.isManaged c = true →
      s.isAnchor (s.anchorOf c) = true ∧ (s.config (s.anchorOf c)).sectorIx = (s.config c).sectorIx)
    (units : ∀ u, (s.unitCarriers u).length ≤ 4)
    (keys : ∀ c d, s.isManaged c = true → s.isManaged d = true → s.unitOf c = s.unitOf d →
      (s.config c).key = (s.config d).key → c = d) : CarrierTableLaw s := ⟨marks, anchors, units, keys⟩

theorem carrierTableLaw_lawful : CarrierTableLaw lawful :=
  carrierTableLaw_of lawful (by decide +kernel) (by decide +kernel) (by decide +kernel) (by decide +kernel)

theorem witness_RestingKept : RestingLaw lawful ∧ ∃ t, step lawful = .next t := ⟨restingLaw_lawful, lawful_steps⟩

theorem witness_CarrierTableKept : CarrierTableLaw lawful ∧ ∃ t, step lawful = .next t :=
  ⟨carrierTableLaw_lawful, lawful_steps⟩

/-- The one slot taken by carrier 6, and carrier 5 waiting; its READY is due, and its reply timer expires. -/
def waitingForSlot : State :=
  let s := { outstanding .carrierWake .queued with
    settings := { site.settings with slots := 1 }, wakeQueue := WakeQueue.empty.join .ordinary { carrier := 5, depth := .deep },
    pending := [.replyTimerExpires 2] }
  let s := inState 6 .warmup s
  s.setUnit 2 { s.unit 2 with
    queue := [{ kind := .carrierWake, carrier := some 6, token := 7, link := 1, key := 0x0106#16 }], attempts := 4 }

/-- R130, R132: the slot that the used-up CARRIER-WAKE of carrier 6 frees goes to carrier 5. -/
theorem test_slot_goes_on : (match step waitingForSlot with
    | .next t => (t.lifeState 6, t.lifeState 5, t.wakeQueue.entries.length)
    | .fault _ => (.unmanaged, .unmanaged, 9)
    | .refused _ => (.unmanaged, .unmanaged, 9)) = (.lost, .warmup, 0) := by decide +kernel

theorem witness_WakeQueueAndMarksKept : (WakeQueueLaw lawful ∧ MarksLaw lawful ∧ ∃ t, step lawful = .next t) ∧
    CarrierTableLaw waitingForSlot ∧ WakeQueueLaw waitingForSlot ∧ SlotLaw waitingForSlot ∧ waitingForSlot.wakeQueue.entries ≠ [] ∧
    ∃ t, step waitingForSlot = .next t := by
  unfold WakeQueueLaw MarksLaw SlotLaw
  exact ⟨⟨by decide +kernel, by decide +kernel, lawful_steps⟩,
    carrierTableLaw_of _ (by decide +kernel) (by decide +kernel) (by decide +kernel) (by decide +kernel),
    by decide +kernel, by decide +kernel, by decide +kernel, _, rfl⟩

theorem witness_CoverageKept :
    CarrierTableLaw lawful ∧ RestingLaw lawful ∧ CoverLaw lawful ∧ OrderLaw lawful ∧ AnchorLaw lawful ∧
      (lawful.lifeState 5).isDrain = true ∧ ∃ t, step lawful = .next t :=
  ⟨carrierTableLaw_lawful, restingLaw_lawful,
    ⟨by decide +kernel, by decide +kernel, by decide +kernel, by decide +kernel⟩,
    ⟨by decide +kernel, by decide +kernel, by decide +kernel⟩, by unfold AnchorLaw; decide +kernel, by decide +kernel,
    lawful_steps⟩

/-- R82: a lost anchor's drain is abandoned in the same event. -/
theorem test_lost_anchor_abandons :
    let t := run (.branchLinkDown 0) drain72
    (drain72.lifeState 5, t.lifeState 1, t.lifeState 5) = (.draining, .lost, .restoring) := by decide +kernel

theorem witness_DrainsBeginWhereAllowed :
    exec (.windowEnd .coverageFirst) evening = .next (run (.windowEnd .coverageFirst) evening) ∧
    ((run (.windowEnd .coverageFirst) evening).lifeState 5).isDrain = true ∧ (evening.lifeState 5).isDrain = false :=
  ⟨rfl, by decide +kernel, by decide +kernel⟩

/-- A command after which one carrier more is in WARMUP. -/
theorem witness_SlotsBoundWarmups :
    let s := asked (body 7#8 0#8 0#8 0#8 0#8 [0#8, 0#8, 0#8, 0x20#8]) (inState 5 .doze site)
    exec .wake s = .next (run .wake s) ∧ s.warmups = 0 ∧ (run .wake s).warmups = 1 :=
  ⟨rfl, by decide +kernel, by decide +kernel⟩

end Sys2Proof.Tests
end

section
/-! PROOFS. The frame path: what an egress queue makes of an offered frame, and where an accepted frame goes. -/

namespace Sys2Proof.Machine

/-! ## One egress queue -/

/-- R7: a port that is transmitting starts no further frame. -/
theorem EgressQueue.start_of_sending {q : EgressQueue} {g : Frame} (h : q.sending = some g) : q.start = q := by
  simp [EgressQueue.start, h]

/-- R6: what does not fit is discarded. -/
theorem EgressQueue.offerPass_of_full {room : Nat} {f : Frame} {q : EgressQueue} (h : room < q.used + f.length) :
    q.offerPass room f = q :=
  if_neg (by omega)

/-- R6: what fits joins the tail of the pass frames. -/
theorem EgressQueue.offerPass_of_fits {room : Nat} {f : Frame} {q : EgressQueue} (h : q.used + f.length ≤ room) :
    q.offerPass room f = { q with pass := q.pass ++ [f] }.start :=
  if_pos h

/-- R6: an admitted pass frame takes its length from the free capacity, whether it waits or starts at once. -/
theorem EgressQueue.used_offerPass_of_fits {room : Nat} {f : Frame} {q : EgressQueue}
    (h : q.used + f.length ≤ room) : (q.offerPass room f).used = q.used + f.length := by
  rw [offerPass_of_fits h, used_start]
  simp only [EgressQueue.used, framesLength_append, framesLength_cons, framesLength_nil]
  omega

/-- R8: the frames that stay are the longest run of the oldest that fits: the next one would not. -/
theorem keepFitting_longest (room : Nat) (fs : List Frame) :
    ∃ dropped, fs = keepFitting room fs ++ dropped ∧
      ∀ h rest, dropped = h :: rest → room < framesLength (keepFitting room fs) + h.length := by
  induction fs generalizing room with
  | nil => exact ⟨[], by simp [keepFitting]⟩
  | cons f fs ih =>
    by_cases fits : f.length ≤ room
    · obtain ⟨dropped, parts, tooLong⟩ := ih (room - f.length)
      rw [keepFitting, if_pos fits]
      refine ⟨dropped, by rw [List.cons_append, ← parts], fun h rest e => ?_⟩
      have := tooLong h rest e
      rw [framesLength_cons]; omega
    · rw [keepFitting, if_neg fits]
      refine ⟨f :: fs, rfl, fun h rest e => ?_⟩
      obtain ⟨rfl, -⟩ := List.cons.inj e
      rw [framesLength_nil]; omega

/-- R8: the pass frames that stay, in a room of which `need` bytes are taken: they fit, and the next one would not. -/
theorem keepFitting_within {room need : Nat} (h : need ≤ room) (fs : List Frame) :
    ∃ dropped, fs = keepFitting (room - need) fs ++ dropped ∧
      need + framesLength (keepFitting (room - need) fs) ≤ room ∧
      ∀ h rest, dropped = h :: rest → room < need + framesLength (keepFitting (room - need) fs) + h.length := by
  obtain ⟨dropped, parts, tooLong⟩ := keepFitting_longest (room - need) fs
  have fitting := keepFitting_length (room - need) fs
  refine ⟨dropped, parts, by omega, fun h rest e => ?_⟩
  have := tooLong h rest e
  omega

/-- R8: behind a frame in transmission an injected frame that fits joins the injected frames, and the pass frames that leave
it room stay. -/
theorem EgressQueue.offerInjected_of_fits {room : Nat} {f g : Frame} {q : EgressQueue} (busy : q.sending = some g)
    (h : g.length + framesLength q.injected + f.length ≤ room) :
    q.offerInjected room f = { q with
      injected := q.injected ++ [f],
      pass := keepFitting (room - (g.length + framesLength q.injected + f.length)) q.pass } := by
  simp only [EgressQueue.offerInjected, busy, Option.elim_some, if_pos h]
  exact start_of_sending rfl

/-- R8: an injected frame that does not fit with no waiting pass frame left is discarded, and the pass frames are gone. -/
theorem EgressQueue.offerInjected_of_full {room : Nat} {f g : Frame} {q : EgressQueue} (busy : q.sending = some g)
    (h : room < g.length + framesLength q.injected + f.length) :
    q.offerInjected room f = { q with pass := [] } := by
  simp only [EgressQueue.offerInjected, busy, Option.elim_some, if_neg (Nat.not_le.mpr h)]
  exact start_of_sending rfl

/-- R8: an idle port with an empty queue starts an injected frame at once if its room holds it; the queue is as it was
otherwise. -/
theorem EgressQueue.offerInjected_idle (room : Nat) (f : Frame) :
    EgressQueue.offerInjected room f { sending := none, injected := [], pass := [] } =
      if f.length ≤ room then { sending := some f, injected := [], pass := [] }
      else { sending := none, injected := [], pass := [] } := by
  simp [EgressQueue.offerInjected, EgressQueue.start, keepFitting]

/-! ## The queues of the ports -/

/-- A queue that is written back as it was. -/
theorem FramePath.setQueue_self (p : FramePath) (port : Port) : p.setQueue port (p.queue port) = p := by
  cases port with
  | trunk => rfl
  | branch n => simp [FramePath.setQueue, FramePath.queue]

/-- Writing a queue touches the queues only. -/
theorem FramePath.setQueue_eq (p : FramePath) (port : Port) (q : EgressQueue) :
    p.setQueue port q =
      { p with trunkQueue := (p.setQueue port q).trunkQueue, branchQueues := (p.setQueue port q).branchQueues } := by
  cases port <;> rfl

theorem State.offerPass_of_down {s : State} {port : Port} (h : s.path.linkUp port = false) (bytes : List Byte) :
    s.offerPass port bytes = s := by
  simp [State.offerPass, h]

theorem State.offerPass_of_up {s : State} {port : Port} (h : s.path.linkUp port = true) (bytes : List Byte) :
    s.offerPass port bytes = s.setPath (s.path.setQueue port
      ((s.path.queue port).offerPass (Config.queueRoom port) { bytes := bytes, restartAnswer := false })) :=
  if_pos h

theorem State.offerInjected_of_down {s : State} {port : Port} (h : s.path.linkUp port = false) (f : Frame) :
    s.offerInjected port f = s := by
  simp [State.offerInjected, h]

theorem State.offerInjected_of_up {s : State} {port : Port} (h : s.path.linkUp port = true) (f : Frame) :
    s.offerInjected port f =
      s.setPath (s.path.setQueue port ((s.path.queue port).offerInjected (Config.queueRoom port) f)) :=
  if_pos h

/-! ## Pass frames offered to a set of ports -/

/-- No queue has been offered a copy. -/
theorem offered_none (bytes : List Byte) (s : State) : Offered (fun _ => false) bytes s s :=
  ⟨fun _ => by simp, rfl⟩

/-- Offering to one port. -/
theorem offered_offerPass (port : Port) (bytes : List Byte) (s : State) :
    Offered (fun q => q == port) bytes s (s.offerPass port bytes) := by
  cases up : s.path.linkUp port with
  | false =>
    rw [State.offerPass_of_down up]
    refine ⟨fun q => (if_neg ?_).symm, rfl⟩
    rintro ⟨here, upq⟩
    rw [beq_iff_eq.mp here, up] at upq
    cases upq
  | true =>
    rw [State.offerPass_of_up up]
    refine ⟨fun q => ?_, congrArg s.setPath (FramePath.setQueue_eq ..)⟩
    rw [State.setPath_path, FramePath.setQueue_queue]
    by_cases here : q = port
    · subst here; simp [up]
    · simp [here]

/-- An offered frame changes no link. -/
theorem Offered.linkUp {ports : Port → Bool} {bytes : List Byte} {s t : State} (h : Offered ports bytes s t)
    (q : Port) : t.path.linkUp q = s.path.linkUp q := by
  rw [h.2]; cases q <;> rfl

/-- A frame offered to one set of ports, and then to another that shares none with it, has been offered to both. -/
theorem Offered.union {first second : Port → Bool} {bytes : List Byte} {s t u : State}
    (h : Offered first bytes s t) (k : Offered second bytes t u)
    (disjoint : ∀ q, first q = true → second q = false) : Offered (fun q => first q || second q) bytes s u := by
  refine ⟨fun q => ?_, k.2.trans (by rw [h.2])⟩
  rw [k.1 q, h.linkUp q, h.1 q]
  cases inFirst : first q with
  | false => simp [inFirst]
  | true => simp [inFirst, disjoint q inFirst]

/-- R6: one copy to each branch port of a set, along a list that names each port once. -/
theorem offered_branches (ports : Byte) (bytes : List Byte) (l : List UnitIx) (once : l.Nodup) (s : State) :
    Offered (fun q => l.any fun n => q == .branch n && memberOf ports n.val) bytes s
      (l.foldl (fun s (n : UnitIx) => if memberOf ports n.val then s.offerPass (.branch n) bytes else s) s) := by
  induction l generalizing s with
  | nil => exact offered_none bytes s
  | cons n l ih =>
    obtain ⟨new, once⟩ := List.nodup_cons.mp once
    have head : Offered (fun q => q == .branch n && memberOf ports n.val) bytes s
        (if memberOf ports n.val then s.offerPass (.branch n) bytes else s) := by
      cases memberOf ports n.val with
      | false => simpa using offered_none bytes s
      | true => simpa using offered_offerPass (.branch n) bytes s
    refine head.union (ih once _) fun q here => ?_
    obtain ⟨rfl, -⟩ : q = .branch n ∧ memberOf ports n.val = true := by simpa using here
    simp only [List.any_eq_false, Bool.and_eq_true, beq_iff_eq, Port.branch.injEq]
    rintro m hm ⟨rfl, -⟩
    exact new hm

/-- R5, R36, R38, R40: forwarding by direction offers the frame to the ports that lie in its direction. -/
theorem offered_forward (ports : Byte) (port : Port) (bytes : List Byte) (s : State) :
    Offered (towards ports port) bytes s (s.forward ports port bytes) := by
  cases port with
  | trunk =>
    have inDirection : towards ports .trunk =
        fun q => (List.finRange 8).any fun n => q == .branch n && memberOf ports n.val := by
      funext q
      cases q with
      | trunk => simp [towards]
      | branch n => rw [Bool.eq_iff_iff]; simp [towards]
    exact inDirection ▸ offered_branches ports bytes _ (List.nodup_finRange 8) s
  | branch n =>
    have inDirection : towards ports (.branch n) = fun q => q == .trunk := by
      funext q; cases q <;> rfl
    exact inDirection ▸ offered_offerPass .trunk bytes s

/-! ## The route of an accepted frame -/

/-- R1: a frame that is carried is accepted. -/
theorem accepts_of_carried {s : State} {port : Port} {bytes : List Byte} (h : Carried s port bytes) :
    s.accepts port bytes .intact = true := by
  obtain ⟨running, long, short, up⟩ := h
  have length : lengthAccepted bytes = true := by
    rw [lengthAccepted, Bool.and_eq_true, decide_eq_true_iff, decide_eq_true_iff]
    simp only [Config.minFrame, Config.maxFrame, Config.checkBytes]
    omega
  simp [State.accepts, running, up, length]

/-- R2, R3: a frame that the Station Recognizer does not take is routed. -/
theorem receive_of_not_recognized {s : State} {port : Port} {bytes : List Byte}
    (h : ¬(port = .trunk ∧ destinationOf bytes = s.stationAddress ∧ typeOf bytes = s.settings.typeValue)) :
    s.receive port bytes = s.routeFrame port bytes := by
  cases port with
  | branch n => rfl
  | trunk =>
    refine if_neg fun taken => h ⟨rfl, ?_⟩
    simpa [State.recognizes] using taken

/-- R1 to R3: a frame that is carried and is no request is routed. -/
theorem exec_frameReceived_routed {s : State} {port : Port} {bytes : List Byte} (carried : Carried s port bytes)
    (h : ¬(port = .trunk ∧ destinationOf bytes = s.stationAddress ∧ typeOf bytes = s.settings.typeValue)) :
    exec (.frameReceived port bytes .intact) s = .next (s.routeFrame port bytes) := by
  rw [← receive_of_not_recognized h]
  exact congrArg Host.Outcome.next (if_pos (accepts_of_carried carried))

/-- R2, R5. -/
theorem routeFrame_of_transparent {s : State} (h : s.engine.mode = .transparent) (port : Port) (bytes : List Byte) :
    s.routeFrame port bytes = s.forward 0xFF#8 port bytes := by
  simp only [State.routeFrame, h, allBranches]

/-- R2, R23. -/
theorem routeFrame_of_not_transparent {s : State} (h : s.engine.mode ≠ .transparent) (port : Port)
    (bytes : List Byte) : s.routeFrame port bytes = s.beginWalk port bytes := by
  cases mode : s.engine.mode with
  | transparent => exact absurd mode h
  | monitor => simp only [State.routeFrame, mode]
  | acting => simp only [State.routeFrame, mode]

/-! ## The statements -/

/-- Settles O8: a frame that is carried and is no request takes the route of its mode. -/
theorem frameTakesItsRoute : Obligations.FrameTakesItsRoute := by
  refine ⟨fun port bytes s mode carried noRequest => ?_, fun port bytes s mode carried noRequest => ?_⟩
  · refine ⟨s.forward 0xFF#8 port bytes, ?_, offered_forward ..⟩
    rw [exec_frameReceived_routed carried noRequest, routeFrame_of_transparent mode]
  · rw [exec_frameReceived_routed carried noRequest, routeFrame_of_not_transparent mode]
    rfl

/-- Settles O10, case by case: the queue's own rule for each offer, under the state's rule for the link. -/
theorem egressAdmission : Obligations.EgressAdmission := by
  refine ⟨fun room f q => ⟨EgressQueue.offerPass_of_full, EgressQueue.used_offerPass_of_fits, ?_, ?_⟩,
    fun port f bytes s => ⟨fun down => ?_, fun up => State.offerPass_of_up up bytes⟩,
    fun port f g s busy => ⟨fun up fits => ?_, fun up full => ?_⟩,
    fun port f s idle up => ?_⟩
  · intro g fits busy
    rw [EgressQueue.offerPass_of_fits fits]
    exact EgressQueue.start_of_sending busy
  · rintro fits rfl
    rw [EgressQueue.offerPass_of_fits (by simpa [EgressQueue.used] using fits)]
    rfl
  · exact ⟨State.offerInjected_of_down down f, State.offerPass_of_down down bytes⟩
  · obtain ⟨dropped, parts, fitting, tooLong⟩ := keepFitting_within fits (s.path.queue port).pass
    refine ⟨_, dropped, parts, fitting, tooLong, ?_⟩
    rw [State.offerInjected_of_up up, EgressQueue.offerInjected_of_fits busy fits]
    rfl
  · rw [State.offerInjected_of_up up, EgressQueue.offerInjected_of_full busy full]
    rfl
  · rw [State.offerInjected_of_up up, idle, EgressQueue.offerInjected_idle]
    refine ⟨fun fits => ?_, fun full => ?_⟩
    · rw [if_pos fits]
      rfl
    · rw [if_neg (Nat.not_le.mpr full), ← idle, FramePath.setQueue_self]
      rfl

end Sys2Proof.Machine
end

section
/-! PROOFS. The Classifier's entries: the number that a field holds, the bits of it that a test sees, and when an entry
matches. -/

namespace Sys2Proof.Machine

/-! ## The number of a field -/

/-- A byte of a field is the byte of the frame as far behind the field's offset. -/
theorem byteAt_take_drop {bytes : List Byte} {offset width j : Nat} (h : j < width) :
    byteAt ((bytes.drop offset).take width) j = byteAt bytes (offset + j) := by
  simp [byteAt, List.getD_eq_getElem?_getD, List.getElem?_take_of_lt h]

/-- R15: the first byte has the highest place. -/
theorem beNat_eq_sum (bytes : List Byte) :
    beNat bytes =
      ((List.range bytes.length).map fun j => (byteAt bytes j).toNat * 256 ^ (bytes.length - 1 - j)).sum := by
  induction bytes with
  | nil => rfl
  | cons b bytes ih =>
    rw [beNat_cons, ih, List.length_cons, List.range_succ_eq_map, List.map_cons, List.sum_cons, List.map_map]
    congr 3
    funext j
    simp only [Function.comp, Nat.add_sub_cancel, Nat.sub_sub, Nat.add_comm 1 j]
    rfl

/-- R15: the number of a field that lies within the frame. -/
theorem natAt_eq_sum {bytes : List Byte} {offset width : Nat} (h : offset + width ≤ bytes.length) :
    natAt bytes offset width =
      ((List.range width).map fun j => (byteAt bytes (offset + j)).toNat * 256 ^ (width - 1 - j)).sum := by
  have length : ((bytes.drop offset).take width).length = width := by
    rw [List.length_take, List.length_drop]; omega
  rw [natAt, beNat_eq_sum, length]
  refine congrArg List.sum (List.map_congr_left fun j hj => ?_)
  rw [byteAt_take_drop (List.mem_range.mp hj)]

/-- R15: a field that the frame is too short for is not read. -/
theorem fieldAt_of_short {bytes : List Byte} {offset width : Nat} (h : bytes.length < offset + width) :
    fieldAt bytes offset width = none :=
  if_neg (Nat.not_le.mpr h)

/-- R15: a field that lies within the frame is read. -/
theorem fieldAt_of_within {bytes : List Byte} {offset width : Nat} (h : offset + width ≤ bytes.length) :
    fieldAt bytes offset width = some (natAt bytes offset width) :=
  if_pos h

/-! ## The bits that a test sees -/

/-- R15: the positions of a field are the low 8 bits for each byte of its width. -/
theorem getLsbD_widthMask (width i : Nat) :
    (widthMask width).getLsbD i = (decide (i < 32) && decide (i < 8 * width)) := by
  rw [widthMask, show 256 = 2 ^ 8 from rfl, ← Nat.pow_mul, BitVec.getLsbD_ofNat, Nat.testBit_two_pow_sub_one]

/-- R15: of a pattern or mask the bits at the entry's width take part, and no others. -/
theorem getLsbD_and_widthMask (x : BitVec 32) (width i : Nat) :
    (x &&& widthMask width).getLsbD i = true ↔ i < 8 * width ∧ x.getLsbD i = true := by
  have inRange : x.getLsbD i = true → i < 32 := BitVec.lt_of_getLsbD
  rw [BitVec.getLsbD_and, getLsbD_widthMask]
  simp only [Bool.and_eq_true, decide_eq_true_iff]
  tauto

/-- Nothing is left under a mask exactly if every position of the mask is clear. -/
theorem and_eq_zero_iff_getLsbD {n : Nat} (x m : BitVec n) :
    x &&& m = 0#n ↔ ∀ i, m.getLsbD i = true → x.getLsbD i = false := by
  refine ⟨fun h i hm => ?_, fun h => BitVec.eq_of_getLsbD_eq fun i _ => ?_⟩
  · have bit := congrArg (BitVec.getLsbD · i) h
    simpa [hm] using bit
  · cases hm : m.getLsbD i with
    | false => simp [hm]
    | true => simp [h i hm]

/-- All of a mask is left exactly if every position of the mask is set. -/
theorem and_eq_right_iff_getLsbD {n : Nat} (x m : BitVec n) :
    x &&& m = m ↔ ∀ i, m.getLsbD i = true → x.getLsbD i = true := by
  refine ⟨fun h i hm => ?_, fun h => BitVec.eq_of_getLsbD_eq fun i _ => ?_⟩
  · have bit := congrArg (BitVec.getLsbD · i) h
    simpa [hm] using bit
  · cases hm : m.getLsbD i with
    | false => simp [hm]
    | true => simp [hm, h i hm]

/-! ## The tests -/

section
variable {e : Entry} (narrow : e.width ≤ 4) (v : Nat)
include narrow

/-- Bit by bit, the word that a test looks at is the field's number. -/
theorem Entry.getLsbD_field {i : Nat} (h : i < 8 * e.width) : (BitVec.ofNat 32 v).getLsbD i = v.testBit i := by
  rw [BitVec.getLsbD_ofNat, decide_eq_true (by omega : i < 32), Bool.true_and]

/-- R17: field and pattern agree under the mask, all at the entry's width, exactly if they agree bit by bit there. -/
theorem Entry.masked_xor_eq_zero_iff :
    (BitVec.ofNat 32 v ^^^ e.pattern &&& widthMask e.width) &&& (e.mask &&& widthMask e.width) = 0#32 ↔
      ∀ i, i < 8 * e.width → e.mask.getLsbD i = true → v.testBit i = e.pattern.getLsbD i := by
  rw [and_eq_zero_iff_getLsbD]
  simp only [getLsbD_and_widthMask, and_imp]
  refine forall_congr' fun i => forall_congr' fun here => forall_congr' fun _ => ?_
  have pattern : (e.pattern &&& widthMask e.width).getLsbD i = e.pattern.getLsbD i := by
    rw [Bool.eq_iff_iff, getLsbD_and_widthMask, and_iff_right here]
  rw [BitVec.getLsbD_xor, getLsbD_field narrow v here, pattern, bne_eq_false_iff_eq]

/-- R17, EQUAL. -/
theorem Entry.testHolds_of_equal (kind : e.test = .equal) :
    e.testHolds (BitVec.ofNat 32 v) = true ↔
      ∀ i, i < 8 * e.width → e.mask.getLsbD i = true → v.testBit i = e.pattern.getLsbD i := by
  simp only [testHolds, kind, beq_iff_eq, masked_xor_eq_zero_iff narrow]

/-- R17, DIFFER. -/
theorem Entry.testHolds_of_differ (kind : e.test = .differ) :
    e.testHolds (BitVec.ofNat 32 v) = true ↔
      ∃ i, i < 8 * e.width ∧ e.mask.getLsbD i = true ∧ v.testBit i ≠ e.pattern.getLsbD i := by
  simp only [testHolds, kind, bne_iff_ne, ne_eq, masked_xor_eq_zero_iff narrow, not_forall, exists_prop]

/-- R17, ALL-SET. -/
theorem Entry.testHolds_of_allSet (kind : e.test = .allSet) :
    e.testHolds (BitVec.ofNat 32 v) = true ↔
      ∀ i, i < 8 * e.width → e.pattern.getLsbD i = true → v.testBit i = true := by
  simp only [testHolds, kind, beq_iff_eq, and_eq_right_iff_getLsbD, getLsbD_and_widthMask, and_imp]
  exact forall_congr' fun i => forall_congr' fun here => by rw [getLsbD_field narrow v here]

/-- R17, ALL-CLEAR. -/
theorem Entry.testHolds_of_allClear (kind : e.test = .allClear) :
    e.testHolds (BitVec.ofNat 32 v) = true ↔
      ∀ i, i < 8 * e.width → e.pattern.getLsbD i = true → v.testBit i = false := by
  simp only [testHolds, kind, beq_iff_eq, and_eq_zero_iff_getLsbD, getLsbD_and_widthMask, and_imp]
  exact forall_congr' fun i => forall_congr' fun here => by rw [getLsbD_field narrow v here]

end

/-! ## The match -/

/-- R16: the filter passes every port, the trunk alone, or the branch ports alone. -/
theorem PortFilter.passes_iff (f : PortFilter) (port : Port) :
    f.passes port = true ↔ f = .any ∨ (f = .trunk ↔ port = .trunk) := by
  cases f <;> cases port <;> simp [passes]

/-- R17: an entry matches when it is in use, its filter passes the port, the frame has its field, and its test holds. -/
theorem Entry.isMatch_iff (e : Entry) (port : Port) (bytes : List Byte) :
    e.isMatch port bytes = true ↔
      e.inUse = true ∧ e.filter.passes port = true ∧
        ∃ v, fieldAt bytes e.offset e.width = some v ∧ e.testHolds (BitVec.ofNat 32 v) = true := by
  rw [isMatch, Bool.and_eq_true, Bool.and_eq_true, and_assoc]
  cases fieldAt bytes e.offset e.width <;> simp

/-! ## The statement -/

/-- Settles O11: the field by its place values, and the match test by test. -/
theorem entryMatch : Obligations.EntryMatch := by
  refine ⟨fun bytes offset width => ⟨fieldAt_of_short, fun within => ?_⟩, fun e port bytes widths => ?_⟩
  · rw [fieldAt_of_within within, natAt_eq_sum within]
  · have narrow : e.width ≤ 4 := by omega
    rw [Entry.isMatch_iff, PortFilter.passes_iff]
    refine and_congr_right' (and_congr_right' (exists_congr fun v => and_congr_right' ?_))
    cases kind : e.test with
    | equal => exact Entry.testHolds_of_equal narrow v kind
    | differ => exact Entry.testHolds_of_differ narrow v kind
    | allSet => exact Entry.testHolds_of_allSet narrow v kind
    | allClear => exact Entry.testHolds_of_allClear narrow v kind

end Sys2Proof.Machine
end

section
/-! PROOFS. The Load Meter's arithmetic: the occupancy sample of a window, the step of the load figure, and where the
figure goes under a steady sample. -/

namespace Sys2Proof.Machine

/-! ## The occupancy sample -/

/-- R66: the least and greatest of the two fields that the available units are made of. -/
theorem CarrierConfig.grant_bounds {k : CarrierConfig} (h : k.inRange = true) :
    1 ≤ k.slotRate.toNat ∧ k.slotRate.toNat ≤ 8 ∧ 1 ≤ k.grantUnits.toNat ∧ k.grantUnits.toNat ≤ 4095 := by
  simp only [inRange, Bool.and_eq_true, Bool.or_eq_true, beq_iff_eq, decide_eq_true_eq, and_assoc, or_assoc] at h
  obtain ⟨_, _, _, _, rate, _, _, least, greatest, _⟩ := h
  have rates : 1 ≤ k.slotRate.toNat ∧ k.slotRate.toNat ≤ 8 := by
    rcases rate with rate | rate | rate | rate <;> rw [rate] <;> decide
  exact ⟨rates.1, rates.2, least, greatest⟩

/-- R53: a window's available units are never 0. -/
theorem availableUnits_bounds {k : CarrierConfig} {length : Nat} (h : k.inRange = true) (long : 10 ≤ length)
    (short : length ≤ 10000) : 10 ≤ availableUnits k length ∧ availableUnits k length ≤ 327600000 := by
  obtain ⟨rateLeast, rateGreatest, grantLeast, grantGreatest⟩ := CarrierConfig.grant_bounds h
  exact ⟨Nat.mul_le_mul (Nat.mul_le_mul grantLeast rateLeast) long,
    Nat.mul_le_mul (Nat.mul_le_mul grantGreatest rateGreatest) short⟩

/-- R54: a tally at or above the available units is a full sample. -/
theorem occupancy_of_le {tally available : Nat} (h : available ≤ tally) : occupancy tally available = 1024 :=
  if_pos h

/-- R54: below the available units the sample is a quotient rounded down. -/
theorem occupancy_of_lt {tally available : Nat} (h : tally < available) :
    occupancy tally available = tally * 1024 / available :=
  if_neg (Nat.not_le.mpr h)

/-- R54: a sample is never above the full one. -/
theorem occupancy_le (tally available : Nat) : occupancy tally available ≤ 1024 := by
  rcases Nat.lt_or_ge tally available with below | full
  · rw [occupancy_of_lt below]
    exact Nat.div_le_of_le_mul (Nat.mul_le_mul_right 1024 below.le)
  · exact (occupancy_of_le full).le

/-! ## The step -/

/-- R55, rounding up: the step is the least number whose multiple of 2 to the power `k` reaches the magnitude. -/
theorem stepUp_le_iff {d k n : Nat} : stepUp d k ≤ n ↔ d ≤ n * 2 ^ k := by
  have pos : 0 < 2 ^ k := Nat.two_pow_pos k
  rw [stepUp, ← Nat.add_sub_assoc pos, ← Nat.ceilDiv_eq_add_pred_div, ceilDiv_le_iff_le_mul pos, Nat.mul_comm]

theorem le_stepUp_mul (d k : Nat) : d ≤ stepUp d k * 2 ^ k :=
  stepUp_le_iff.mp le_rfl

/-- R55: the step is at most the difference. -/
theorem stepUp_le (d k : Nat) : stepUp d k ≤ d :=
  stepUp_le_iff.mpr (Nat.le_mul_of_pos_right d (Nat.two_pow_pos k))

/-- R55: a figure that differs from its target takes a step of at least 1. -/
theorem stepUp_pos {d k : Nat} (h : 0 < d) : 1 ≤ stepUp d k := by
  by_contra none
  have reached : d ≤ 0 * 2 ^ k := stepUp_le_iff.mp (by omega)
  omega

theorem pred_stepUp_mul_lt {d k : Nat} (h : 0 < d) : (stepUp d k - 1) * 2 ^ k < d := by
  by_contra reached
  have shorter : stepUp d k ≤ stepUp d k - 1 := stepUp_le_iff.mpr (Nat.le_of_not_lt reached)
  have pos : 1 ≤ stepUp d k := stepUp_pos h
  omega

/-- R55: with a shift of 0 the step is the whole difference. -/
theorem stepUp_zero (d : Nat) : stepUp d 0 = d := by
  simp [stepUp]

/-! ## The load figure -/

theorem nextFigure_of_lt {old sample : Nat} (k : Nat) (h : old < sample * 64) :
    nextFigure old sample k = old + stepUp (sample * 64 - old) k :=
  if_pos h

theorem nextFigure_of_gt {old sample : Nat} (k : Nat) (h : sample * 64 < old) :
    nextFigure old sample k = old - stepUp (old - sample * 64) k :=
  (if_neg (Nat.lt_asymm h)).trans (if_pos h)

/-- R55: a figure at its target stays there. -/
theorem nextFigure_target (sample k : Nat) : nextFigure (sample * 64) sample k = sample * 64 :=
  (if_neg (Nat.lt_irrefl _)).trans (if_neg (Nat.lt_irrefl _))

/-- R55: with a shift of 0 the figure is at its target after one window. -/
theorem nextFigure_zero (old sample : Nat) : nextFigure old sample 0 = sample * 64 := by
  rcases Nat.lt_trichotomy old (sample * 64) with below | rfl | above
  · rw [nextFigure_of_lt 0 below, stepUp_zero, Nat.add_sub_cancel' below.le]
  · exact nextFigure_target sample 0
  · rw [nextFigure_of_gt 0 above, stepUp_zero, Nat.sub_sub_self above.le]

/-- R55: the figure never passes its target, so it stays within what bounds the old figure and the target. -/
theorem nextFigure_le {old sample bound : Nat} (k : Nat) (figure : old ≤ bound) (target : sample * 64 ≤ bound) :
    nextFigure old sample k ≤ bound := by
  rcases Nat.lt_trichotomy old (sample * 64) with below | rfl | above
  · have step := stepUp_le (sample * 64 - old) k
    rw [nextFigure_of_lt k below]
    omega
  · exact (nextFigure_target sample k).trans_le target
  · exact (nextFigure_of_gt k above).trans_le ((Nat.sub_le ..).trans figure)

/-- R55: each window brings a figure off its target nearer to it. -/
theorem dist_nextFigure_lt {old sample : Nat} (k : Nat) (h : old ≠ sample * 64) :
    Nat.dist (sample * 64) (nextFigure old sample k) < Nat.dist (sample * 64) old := by
  unfold Nat.dist
  rcases Nat.lt_or_gt_of_ne h with below | above
  · have least := stepUp_pos (k := k) (Nat.sub_pos_of_lt below)
    have greatest := stepUp_le (sample * 64 - old) k
    rw [nextFigure_of_lt k below]
    omega
  · have least := stepUp_pos (k := k) (Nat.sub_pos_of_lt above)
    have greatest := stepUp_le (old - sample * 64) k
    rw [nextFigure_of_gt k above]
    omega

/-- R55: a steady sample is reached in at most as many windows as the figure is away from it, and then kept. -/
theorem iterate_nextFigure (sample k : Nat) {windows old : Nat} (h : Nat.dist (sample * 64) old ≤ windows) :
    (fun x => nextFigure x sample k)^[windows] old = sample * 64 := by
  induction windows generalizing old with
  | zero => exact (Nat.eq_of_dist_eq_zero (Nat.le_zero.mp h)).symm
  | succ windows ih =>
    rw [Function.iterate_succ_apply]
    refine ih ?_
    by_cases arrived : old = sample * 64
    · simp [arrived, nextFigure_target]
    · have nearer := dist_nextFigure_lt k arrived
      omega

/-! ## The statement -/

/-- Settles O27: the sample from its quotient, the figure from the least step that reaches, and the arrival by induction
on the windows. -/
theorem sampleAndFigure : Obligations.SampleAndFigure := by
  refine ⟨fun k tally length ranges long short => ?_, fun old sample k figure samples _ => ?_⟩
  · obtain ⟨least, greatest⟩ := availableUnits_bounds ranges long short
    refine ⟨rfl, least, greatest, fun below => ?_, occupancy_of_le, occupancy_le ..⟩
    rw [occupancy_of_lt below]
    exact ⟨Nat.div_mul_le_self .., Nat.lt_mul_of_div_lt (Nat.lt_succ_self _) (by omega)⟩
  · refine ⟨?same, fun below => ?up, fun above => ?down, ?whole, nextFigure_le k figure (by omega),
      fun windows enough => iterate_nextFigure sample k enough⟩
    case same =>
      rintro rfl
      exact nextFigure_target sample k
    case up =>
      have apart := Nat.sub_pos_of_lt below
      exact ⟨_, stepUp_pos apart, stepUp_le .., pred_stepUp_mul_lt apart, le_stepUp_mul .., nextFigure_of_lt k below⟩
    case down =>
      have apart := Nat.sub_pos_of_lt above
      have within := stepUp_le (old - sample * 64) k
      refine ⟨_, stepUp_pos apart, within, pred_stepUp_mul_lt apart, le_stepUp_mul .., ?_⟩
      rw [nextFigure_of_gt k above]
      omega
    case whole =>
      rintro rfl
      exact nextFigure_zero old sample

end Sys2Proof.Machine
end

section
/-! PROOFS. The Quiet Calendar's recomputation: when a window is open, and the quiet set, the deep set and the open marks
that the open windows form. -/

namespace Sys2Proof.Machine

/-! ## Open windows -/

/-- R89: the three cases by the order of start and stop; with the two equal the window is never open. -/
theorem QuietWindow.openAt_iff {w : QuietWindow} {minute : Nat} :
    w.openAt minute = true ↔ w.inUse = true ∧
      ((w.start < w.stop ∧ w.start ≤ minute ∧ minute < w.stop) ∨
        (w.stop < w.start ∧ (w.start ≤ minute ∨ minute < w.stop))) := by
  unfold QuietWindow.openAt
  rcases Nat.lt_trichotomy w.start w.stop with before | same | after
  · simp [before, before.le]
  · simp [same]
  · simp [after, after.not_gt]

/-- R90, R94: the windows that contribute need the time-set mark and are open at the current minute. -/
theorem mem_openWindows {s : State} {i : Fin 4} :
    i ∈ s.openWindows ↔ s.calendar.timeSet = true ∧ (s.windows[i]).openAt s.calendar.minute = true := by
  simp [State.openWindows]

/-! ## Sets formed by union -/

/-- A union holds what it began with and what any of its parts holds. -/
theorem memberOf_foldl_or {w : Nat} {α : Type} (part : α → BitVec w) (parts : List α) (first : BitVec w) (n : Nat) :
    memberOf (parts.foldl (fun acc a => acc ||| part a) first) n = true ↔
      memberOf first n = true ∨ ∃ a ∈ parts, memberOf (part a) n = true := by
  induction parts generalizing first with
  | nil => simp
  | cons a parts ih =>
    rw [List.foldl_cons, ih]
    simp [memberOf, or_assoc]

/-- An empty set has no member. -/
theorem memberOf_zero {w : Nat} (n : Nat) : memberOf (0#w) n = false := by simp [memberOf]

/-- R90: the union of the carrier sets of windows. -/
theorem memberOf_unionOf {s : State} {ws : List (Fin 4)} {n : Nat} :
    memberOf (s.unionOf ws) n = true ↔ ∃ i ∈ ws, memberOf (s.windows[i]).carriers n = true := by
  simp [State.unionOf, memberOf_foldl_or, memberOf_zero]

/-- The mark of one window is at its own place. -/
theorem memberOf_windowMark (i j : Fin 4) : memberOf (1#4 <<< i.val) j.val = true ↔ i = j := by
  revert i j
  decide

/-- R94: a window's mark is set exactly when it contributes. -/
theorem memberOf_openMarks {s : State} {i : Fin 4} : memberOf s.openMarks i.val = true ↔ i ∈ s.openWindows := by
  simp [State.openMarks, memberOf_foldl_or, memberOf_zero, memberOf_windowMark]

/-! ## The statement -/

/-- Settles O33: the sets are unions over the windows that are open, and those are the three cases of R89. -/
theorem quietAndDeepSets : Obligations.QuietAndDeepSets := by
  refine fun s => ⟨fun c => ?quiet, fun c => ?deep, fun i => ?marks⟩
  case quiet => exact memberOf_unionOf.trans (by simp only [mem_openWindows, QuietWindow.openAt_iff])
  case deep =>
    refine memberOf_unionOf.trans (exists_congr fun i => ?_)
    simp only [List.mem_filter, mem_openWindows, QuietWindow.openAt_iff, and_assoc]
  case marks => exact memberOf_openMarks.trans (by simp only [mem_openWindows, QuietWindow.openAt_iff])

end Sys2Proof.Machine
end

section
/-! PROOFS. Telling: two states that agree on what telling sees are told the same; and telling goes out at the trunk port
only. -/

namespace Sys2Proof.Machine

variable {s t u a b : State}

/-! ## States that telling does not tell apart -/

/-- `a` and `b` have told the same, and agree on all that decides what a notice or an advisory says and where it goes
(R161, R178, R179). -/
structure Alike (a b : State) : Prop extends ToldAs a b where
  stationAddress : b.stationAddress = a.stationAddress
  settings : b.settings = a.settings
  calendar : b.calendar = a.calendar
  carrierConfig : b.carrierConfig = a.carrierConfig
  profiles : b.profiles = a.profiles
  trunkState : b.path.trunkState = a.path.trunkState

theorem ToldAs.refl (s : State) : ToldAs s s := ⟨rfl, rfl, rfl⟩

theorem ToldAs.trans (h : ToldAs s t) (k : ToldAs t u) : ToldAs s u :=
  ⟨k.engine.trans h.engine, k.trunk.trans h.trunk, k.advisories.trans h.advisories⟩

theorem Alike.refl (s : State) : Alike s s := ⟨.refl s, rfl, rfl, rfl, rfl, rfl, rfl⟩

/-- What keeps leaves all but what has been told as it was. -/
theorem Alike.keeps {a' b' : State} (h : Alike a b) (ka : Keeps a a') (kb : Keeps b b') (told : ToldAs a' b') :
    Alike a' b' where
  toToldAs := told
  stationAddress := by rw [ka.stationAddress, kb.stationAddress, h.stationAddress]
  settings := by rw [ka.settings, kb.settings, h.settings]
  calendar := by rw [ka.calendar, kb.calendar, h.calendar]
  carrierConfig := by rw [ka.carrierConfig, kb.carrierConfig, h.carrierConfig]
  profiles := by rw [ka.profiles, kb.profiles, h.profiles]
  trunkState := by rw [ka.trunkState, kb.trunkState, h.trunkState]

/-- An update that tells nothing. -/
theorem Alike.silent (h : Alike a s) (k : Keeps s t) (told : ToldAs s t) : Alike a t :=
  h.keeps (Keeps.refl a) k (h.toToldAs.trans told)

theorem Alike.config (h : Alike a b) (c : CarrierIx) : b.config c = a.config c := by simp [State.config, h.carrierConfig]

theorem Alike.profileOf (h : Alike a b) (c : CarrierIx) : b.profileOf c = a.profileOf c := by
  simp [State.profileOf, h.profiles, h.config]

theorem Alike.trunkLost (h : Alike a b) : b.trunkLost = a.trunkLost := by simp [State.trunkLost, h.trunkState]

theorem Alike.trunkLinkUp (h : Alike a b) : b.path.linkUp .trunk = a.path.linkUp .trunk := by
  simp [FramePath.linkUp, FramePath.trunkLinkUp, h.trunkState]

/-! ## What is told alike -/

theorem Alike.inject (h : Alike a b) (destination : Addr) (body : List Byte) :
    Alike (a.inject .trunk destination body) (b.inject .trunk destination body) := by
  refine h.keeps (keeps_inject ..) (keeps_inject ..) ⟨?_, ?_, ?_⟩
  · rw [inject_engine, inject_engine, h.engine]
  · simp only [State.inject, State.ownFrame, h.stationAddress, h.settings, State.offerInjected, h.trunkLinkUp]
    split
    · simp [FramePath.setQueue, FramePath.queue, h.trunk]
    · exact h.trunk
  · simp only [State.inject, State.offerInjected, h.trunkLinkUp]
    split <;> exact h.advisories

theorem Alike.setEngine (h : Alike a b) (e : Engine) : Alike (a.setEngine e) (b.setEngine e) :=
  ⟨⟨rfl, h.trunk, h.advisories⟩, h.stationAddress, h.settings, h.calendar, h.carrierConfig, h.profiles, h.trunkState⟩

theorem Alike.setFlag (h : Alike a b) (f : Flag) : Alike (a.setFlag f) (b.setFlag f) := by
  rw [State.setFlag, State.setFlag, h.engine]
  exact h.setEngine _

theorem Alike.passNotices (h : Alike a b) : Alike a.passNotices b.passNotices := by
  have queued (l : List Notice) : ∀ {a b : State}, Alike a b →
      Alike (l.foldl (fun s n => s.inject .trunk n.destination n.body) a)
        (l.foldl (fun s n => s.inject .trunk n.destination n.body) b) := by
    induction l with
    | nil => exact id
    | cons n l ih => exact fun h => ih (h.inject n.destination n.body)
  rw [State.passNotices, State.passNotices, h.engine]
  exact (queued _ h).setEngine _

theorem Alike.offerNotice (h : Alike a b) (n : NoticeContent) :
    Alike (a.offerNotice n).1 (b.offerNotice n).1 ∧ (b.offerNotice n).2 = (a.offerNotice n).2 := by
  have passed {a b : State} (h : Alike a b) : Alike a.passIfUp b.passIfUp := by
    rw [State.passIfUp, State.passIfUp, h.trunkState]
    split
    · exact h.passNotices
    · exact h
  have wanted : b.noticeWanted n = a.noticeWanted n := by simp only [State.noticeWanted, h.settings]
  simp only [State.offerNotice, wanted, h.settings, h.engine, State.setEngine_engine]
  cases a.noticeWanted n with
  | false => exact ⟨h, rfl⟩
  | true =>
    by_cases room : a.engine.notices.length < Config.noticeRoom
    · simp only [room, if_true]
      exact ⟨passed ((h.setEngine _).setEngine _), trivial⟩
    · simp only [room, if_true, if_false]
      exact ⟨h.setEngine _, trivial⟩

theorem Alike.notify (h : Alike a b) (n : NoticeContent) : Alike (a.notify n) (b.notify n) := by
  obtain ⟨offered, dropped⟩ := h.offerNotice n
  have raised : (b.offerNotice n).1.flagRaised .noticeDropped = (a.offerNotice n).1.flagRaised .noticeDropped := by
    simp only [State.flagRaised, offered.engine]
  simp only [State.notify, dropped, raised]
  cases (a.offerNotice n).2 && !(a.offerNotice n).1.flagRaised .noticeDropped with
  | false => exact offered
  | true => exact ((offered.setFlag _).offerNotice _).1

theorem Alike.notifyState (h : Alike a b) (c : CarrierIx) (old new : LifeState) (cause : Cause) (origin : Origin) :
    Alike (a.notifyState c old new cause origin) (b.notifyState c old new cause origin) := by
  rw [State.notifyState, State.notifyState, h.calendar]
  exact h.notify _

theorem Alike.advise (h : Alike a b) (kind : Advisory) (c : CarrierIx) (reason : Cause) :
    Alike (a.advise kind c reason) (b.advise kind c reason) := by
  have counted (x : AdvisoryCounters) : Alike { a with advisories := x } { b with advisories := x } :=
    h.keeps (keeps_setAdvisories a x) (keeps_setAdvisories b x) ⟨h.engine, h.trunk, rfl⟩
  simp only [State.advise, h.trunkLost, h.settings, h.advisories, h.config]
  split_ifs
  · simpa only [h.settings] using counted _
  · simpa only [h.settings] using (counted _).inject _ _

/-! ## Telling in the words of the statements -/

/-- R161, R162, R167: OPEN handed on, byte for byte. -/
theorem opened_eq_advise (c : CarrierIx) (reason : Cause) (s : State) : s.opened c reason = s.advise .openUp c reason := by
  have body : laid (s.advisoryLayout 2 c reason.code) = [0x31#8, BitVec.ofNat 8 Advisory.openUp.code] ++
      beBytes 2 (s.config c).key.toNat ++ [BitVec.ofNat 8 c.val, BitVec.ofNat 8 reason.code] := by
    simp [State.advisoryLayout, Advisory.code]
  simp only [State.opened, State.advise, ← inject_sends, addCapped, top32, Bool.or_eq_true, decide_eq_true_eq, body]

theorem Alike.tellsReturn (h : Alike a b) (c : CarrierIx) (cause : Cause) (origin : Origin)
    (state : b.lifeState c = a.lifeState c) :
    Alike (a.tellsReturn c cause origin) (b.tellsReturn c cause origin) := by
  have told := ((h.advise .openUp c cause).notifyState c (a.lifeState c) .restoring cause origin)
  simp only [State.tellsReturn, opened_eq_advise, h.profileOf, state]
  split_ifs
  · exact told.notifyState c .restoring .active .settled .timed
  · exact told

theorem Alike.tellsWake (h : Alike a b) (cause : Cause) (origin : Origin) (c : CarrierIx)
    (state : b.lifeState c = a.lifeState c) : Alike (a.tellsWake cause origin c) (b.tellsWake cause origin c) := by
  simp only [State.tellsWake, state]
  split_ifs
  · exact h.notifyState c (a.lifeState c) .queued cause origin
  · exact h.tellsReturn c cause origin state
  · exact h

theorem tells_tellsReturn (s : State) (c : CarrierIx) (cause : Cause) (origin : Origin) :
    Tells s (s.tellsReturn c cause origin) := by
  have told : Tells s ((s.opened c cause).tells c (s.lifeState c) .restoring cause origin) := by
    rw [opened_eq_advise]
    exact (tells_advise ..).trans (tells_notify ..)
  simp only [State.tellsReturn]
  split
  · exact told.trans (tells_notify ..)
  · exact told

theorem tells_tellsWake (cause : Cause) (origin : Origin) (s : State) (c : CarrierIx) :
    Tells s (s.tellsWake cause origin c) := by
  unfold State.tellsWake
  split
  · exact tells_notify ..
  · split
    · exact tells_tellsReturn ..
    · exact Tells.refl s

/-! ## Telling goes out at the trunk port only -/

theorem inject_trunk_branchQueues (s : State) (destination : Addr) (body : List Byte) :
    (s.inject .trunk destination body).path.branchQueues = s.path.branchQueues := by
  unfold State.inject State.offerInjected
  split <;> rfl

theorem passNotices_branchQueues (s : State) : s.passNotices.path.branchQueues = s.path.branchQueues := by
  have queued (l : List Notice) (s : State) :
      (l.foldl (fun s n => s.inject .trunk n.destination n.body) s).path.branchQueues = s.path.branchQueues := by
    induction l generalizing s with
    | nil => rfl
    | cons n l ih => exact (ih _).trans (inject_trunk_branchQueues ..)
  exact queued ..

theorem offerNotice_branchQueues (s : State) (n : NoticeContent) :
    (s.offerNotice n).1.path.branchQueues = s.path.branchQueues := by
  have passed (s : State) : s.passIfUp.path.branchQueues = s.path.branchQueues := by
    unfold State.passIfUp
    split
    · exact passNotices_branchQueues s
    · rfl
  unfold State.offerNotice
  split
  · dsimp only
    split
    · exact passed _
    · rfl
  · rfl

theorem notify_branchQueues (s : State) (n : NoticeContent) :
    (s.notify n).path.branchQueues = s.path.branchQueues := by
  unfold State.notify
  dsimp only
  split
  · exact (offerNotice_branchQueues ..).trans (offerNotice_branchQueues ..)
  · exact offerNotice_branchQueues ..

theorem advise_branchQueues (s : State) (kind : Advisory) (c : CarrierIx) (reason : Cause) :
    (s.advise kind c reason).path.branchQueues = s.path.branchQueues := by
  unfold State.advise
  split
  · rfl
  · exact inject_trunk_branchQueues ..

end Sys2Proof.Machine
end

section
/-! PROOFS. One change of state beside the carriers' records, and what a wake cause does to one carrier. -/

namespace Sys2Proof.Machine

variable {s t u : State} {c d : CarrierIx} {new : LifeState} {cause : Cause}

/-! ## What one change of state does beside the carriers' records -/

/-- `t` differs from `s`, at most, in what the carriers' records hold. -/
def CarriersOnly (s t : State) : Prop := t = { s with carriers := t.carriers }

theorem CarriersOnly.ite {p : Prop} [Decidable p] (h : CarriersOnly s t) : CarriersOnly s (if p then t else s) := by
  split
  · exact h
  · rfl

theorem CarriersOnly.trans (h : CarriersOnly s t) (k : CarriersOnly t u) : CarriersOnly s u := by
  rw [CarriersOnly] at h k ⊢
  rw [k, h]

theorem CarriersOnly.toldAs (h : CarriersOnly s t) : ToldAs s t := by
  rw [h]
  exact ⟨rfl, rfl, rfl⟩

theorem CarriersOnly.branchQueues (h : CarriersOnly s t) : t.path.branchQueues = s.path.branchQueues := by rw [h]

theorem CarriersOnly.units (h : CarriersOnly s t) : t.units = s.units := by rw [h]

theorem CarriersOnly.unit (h : CarriersOnly s t) (v : UnitIx) : t.unit v = s.unit v := by simp [State.unit, h.units]

theorem CarriersOnly.wakeQueue (h : CarriersOnly s t) : t.wakeQueue = s.wakeQueue := by rw [h]

theorem CarriersOnly.token (h : CarriersOnly s t) : t.token = s.token := by rw [h]

/-- R74, R78: the places a carrier gives up and takes are in the carriers' records, but for the wake queue's. -/
theorem movePlaces_carriersOnly {old : LifeState} (unqueued : old ≠ .queued) (s : State) :
    CarriersOnly s (s.movePlaces c old new) := by
  have drained (s : State) : CarriersOnly s (s.leaveDrain c) := rfl
  have woken (s : State) : CarriersOnly s (s.leaveSleepers c) := rfl
  have slept (s : State) : CarriersOnly s (s.joinSleepers c) := rfl
  rw [State.movePlaces, if_neg unqueued]
  exact (drained s).ite.trans ((woken _).ite.trans (slept _).ite)

theorem setCarrier_carriersOnly (s : State) (c : CarrierIx) (x : Carrier) : CarriersOnly s (s.setCarrier c x) := rfl

/-- R97: a change of state between states other than SLUMBER and from another than QUEUED is all in the carriers' records. -/
theorem moveTo_carriersOnly (unqueued : s.lifeState c ≠ .queued) (old : s.lifeState c ≠ .slumber)
    (h : new ≠ .slumber) : CarriersOnly s (s.moveTo c new) := by
  have places := movePlaces_carriersOnly (c := c) (new := new) unqueued s
  simpa [State.moveTo, State.moveSlumber, h, old] using places.trans (setCarrier_carriersOnly ..)

/-- R118, R153: an exit from SLUMBER stops the unit deep timer besides. -/
theorem moveTo_carriersOnly_of_slumber (old : s.lifeState c = .slumber) (h : new ≠ .slumber) :
    CarriersOnly (s.stopDeepTimer (s.unitOf c)) (s.moveTo c new) := by
  have places := movePlaces_carriersOnly (c := c) (new := new) (old := .slumber) (by decide) s
  rw [CarriersOnly] at places
  simp only [State.moveTo, State.moveSlumber, old, h, ne_eq, not_false_eq_true, and_self, if_true]
  rw [places]
  rfl

/-! ## One carrier that a wake cause reaches -/

/-- One carrier, as the only one that a cause reaches. -/
theorem filter_eq_singleton (c : CarrierIx) : (List.finRange 32).filter (fun d => d == c) = [c] := by
  revert c
  decide

/-- R126: what a cause of class ORDINARY brings to the wake queue of one carrier. -/
def State.placeFor (s : State) (c : CarrierIx) : Option Waiting :=
  if s.lifeState c = .doze then some { carrier := c, depth := .light }
  else if s.lifeState c = .slumber then some { carrier := c, depth := .deep }
  else none

/-- R125: no class is below ORDINARY, so a cause of that class promotes no carrier. -/
theorem broughtTo_ordinary (s : State) (reached : CarrierIx → Bool) :
    s.broughtTo .ordinary reached = ((List.finRange 32).filter reached).filterMap s.placeFor := by
  rw [List.filterMap_filter]
  refine List.filterMap_congr fun c _ => ?_
  cases h : reached c <;> simp [State.placeFor, WakeQueue.below]

/-- A carrier of which only the coverage part has changed has kept its state. -/
theorem lifeState_of_cover (h : t.carrier d = { s.carrier d with cover := (t.carrier d).cover }) :
    t.lifeState d = s.lifeState d := by
  rw [State.lifeState, h]
  rfl

/-- What a cause of class ORDINARY does to the one carrier that it reaches, part by part. -/
theorem causeTaken_one {origin : Origin} (told : ToldAs (s.tellsWake cause origin c) t)
    (branches : t.path.branchQueues = s.path.branchQueues)
    (queue : t.wakeQueue = { s.wakeQueue with ordinary := s.wakeQueue.ordinary ++ (s.placeFor c).toList })
    (state : t.lifeState c = if s.lifeState c = .doze ∨ s.lifeState c = .slumber then .queued
      else if (s.lifeState c).isDrain = true then (if (s.profileOf c).settleTime = 0 then .active else .restoring)
      else s.lifeState c)
    (mark : s.lifeState c = .rampdown ∨ s.lifeState c = .deepening →
      (t.carrier c).life = { (s.carrier c).life with
        wakePending := some ((s.carrier c).life.wakePending.getD { cls := .ordinary, cause := cause }) })
    (others : ∀ d, d ≠ c → t.carrier d = { s.carrier d with cover := (t.carrier d).cover })
    (units : t.units = if s.lifeState c = .slumber then (s.stopDeepTimer (s.unitOf c)).units else s.units)
    (token : t.token = s.token) : CauseTaken .ordinary cause origin (fun d => d == c) s t where
  told := by simpa [filter_eq_singleton] using told
  branches := branches
  queue := by
    rw [queue]
    simp only [broughtTo_ordinary, filter_eq_singleton, List.filterMap_cons, List.filterMap_nil]
    cases s.placeFor c <;> rfl
  states d := by
    by_cases h : d = c
    · subst h
      simpa using state
    · simp [h, lifeState_of_cover (others d h)]
  marks d reached rest := by
    obtain rfl : d = c := by simpa using reached
    rw [mark rest]
    cases h : (s.carrier d).life.wakePending with
    | none => simp
    | some k => cases k with | mk cls cause => cases cls <;> simp [WakeClass.code]
  others d unreached := others d (by simpa using unreached)
  exits v := by
    rintro ⟨d, reached, slumber, rfl⟩
    obtain rfl : d = c := by simpa using reached
    simp [State.unit, units, slumber, State.stopDeepTimer, State.setUnit]
  units v outside := by
    by_cases slumber : s.lifeState c = .slumber
    · have other : v ≠ s.unitOf c := fun e => outside c (by simp) slumber e.symm
      rw [if_pos slumber] at units
      simp [State.unit, units, State.stopDeepTimer, State.setUnit, Fin.val_inj, other.symm]
    · rw [if_neg slumber] at units
      simp [State.unit, units]
  token := token

/-- R126: a carrier in DOZE or SLUMBER is queued. -/
theorem causeTaken_enterQueued {depth : Depth} (old : s.lifeState c = .doze ∨ s.lifeState c = .slumber)
    (place : s.placeFor c = some { carrier := c, depth := depth }) :
    CauseTaken .ordinary cause cause.origin (fun d => d == c) s (s.enterQueued c .ordinary depth cause) := by
  have tells := tells_notifyState ((s.moveTo c .queued).setWakeQueue
    ((s.moveTo c .queued).wakeQueue.join .ordinary { carrier := c, depth := depth })) c (s.lifeState c) .queued cause
    cause.origin
  have move : ToldAs s (s.moveTo c .queued) ∧ (s.moveTo c .queued).path.branchQueues = s.path.branchQueues ∧
      (s.moveTo c .queued).wakeQueue = s.wakeQueue ∧ (s.moveTo c .queued).token = s.token ∧
      (s.moveTo c .queued).units =
        if s.lifeState c = .slumber then (s.stopDeepTimer (s.unitOf c)).units else s.units := by
    rcases old with doze | slumber
    · have only : CarriersOnly s (s.moveTo c .queued) :=
        moveTo_carriersOnly (by simp [doze]) (by simp [doze]) (by decide)
      exact ⟨only.toldAs, only.branchQueues, only.wakeQueue, only.token, by simp [doze, only.units]⟩
    · have only : CarriersOnly (s.stopDeepTimer (s.unitOf c)) (s.moveTo c .queued) :=
        moveTo_carriersOnly_of_slumber slumber (by decide)
      exact ⟨⟨only.toldAs.engine, only.toldAs.trunk, only.toldAs.advisories⟩, only.branchQueues, only.wakeQueue,
        only.token, by simp [slumber, only.units]⟩
  obtain ⟨silent, branches, queue, token, units⟩ := move
  have managed : s.isManaged c = true := by
    rcases old with old | old <;> exact managed_of old (by decide)
  have moved : Keeps s (s.moveTo c .queued) := keeps_moveTo (moveAllowed_awake managed (by decide) rfl)
  refine causeTaken_one ?told ?branches ?queue ?state ?mark ?others ?units ?token
  case told =>
    have alike : Alike s ((s.moveTo c .queued).setWakeQueue
        ((s.moveTo c .queued).wakeQueue.join .ordinary { carrier := c, depth := depth })) :=
      ((Alike.refl s).silent moved silent).silent (keeps_setWakeQueue ..) ⟨rfl, rfl, rfl⟩
    rw [State.tellsWake, if_pos old]
    exact (alike.notifyState c (s.lifeState c) .queued cause cause.origin).toToldAs
  case branches => exact (notify_branchQueues ..).trans branches
  case queue =>
    refine tells.wakeQueue.trans ?_
    rw [State.setWakeQueue_wakeQueue, queue, place]
    rfl
  case state => simp [old]
  case mark =>
    intro rest
    rcases old with old | old <;> simp [old] at rest
  case others =>
    intro d other
    rw [State.enterQueued, tells.carrier, State.setWakeQueue_at_carrier, moveTo_other s c d .queued other]
  case units => exact tells.units.trans units
  case token => exact tells.token.trans token

/-- R113: a carrier in RAMPDOWN or DEEPENING keeps the cause. -/
theorem causeTaken_keepWake {origin : Origin} (old : s.lifeState c = .rampdown ∨ s.lifeState c = .deepening) :
    CauseTaken .ordinary cause origin (fun d => d == c) s (s.keepWake c .ordinary cause) := by
  have life : ((s.keepWake c .ordinary cause).carrier c).life = { (s.carrier c).life with
      wakePending := some (raiseMark .ordinary cause (s.carrier c).life.wakePending) } := by
    simp [State.keepWake, State.setLife]
  have mark : raiseMark .ordinary cause (s.carrier c).life.wakePending =
      (s.carrier c).life.wakePending.getD { cls := .ordinary, cause := cause } := by
    cases (s.carrier c).life.wakePending with
    | none => rfl
    | some k => cases k with | mk cls _ => cases cls <;> rfl
  have only : CarriersOnly s (s.keepWake c .ordinary cause) := rfl
  have neither : s.lifeState c ≠ .doze ∧ s.lifeState c ≠ .slumber ∧ (s.lifeState c).isDrain = false := by
    rcases old with old | old <;> simp [old, LifeState.isDrain]
  obtain ⟨doze, slumber, drain⟩ := neither
  refine causeTaken_one ?told only.branchQueues ?queue ?state (fun _ => by rw [life, mark]) ?others ?units only.token
  case told => simpa [State.tellsWake, doze, slumber, drain] using only.toldAs
  case queue => simp [only.wakeQueue, State.placeFor, doze, slumber]
  case state =>
    have kept : (s.keepWake c .ordinary cause).lifeState c = s.lifeState c := by simp [State.lifeState, life]
    simp [kept, doze, slumber, drain]
  case others =>
    intro d other
    simp [State.keepWake, State.setLife, other]
  case units => simp [slumber, only.units]

/-- From `s` to `t` nothing of a carrier other than `c` has changed beside its coverage part, and no radio unit, wake queue,
token or branch egress queue: `Alone` without what it says of coverage parts and of what is kept. -/
structure Apart (c : CarrierIx) (s t : State) : Prop where
  others : ∀ d, d ≠ c → t.carrier d = { s.carrier d with cover := (t.carrier d).cover }
  branches : t.path.branchQueues = s.path.branchQueues
  units : t.units = s.units
  wakeQueue : t.wakeQueue = s.wakeQueue
  token : t.token = s.token

theorem Apart.trans (h : Apart c s t) (k : Apart c t u) : Apart c s u where
  others d other := by rw [k.others d other, h.others d other]
  branches := k.branches.trans h.branches
  units := k.units.trans h.units
  wakeQueue := k.wakeQueue.trans h.wakeQueue
  token := k.token.trans h.token

theorem Apart.moveTo (unqueued : s.lifeState c ≠ .queued) (old : s.lifeState c ≠ .slumber) (h : new ≠ .slumber) :
    Apart c s (s.moveTo c new) := by
  have only := moveTo_carriersOnly unqueued old h
  exact ⟨fun d other => moveTo_other s c d new other, only.branchQueues, only.units, only.wakeQueue, only.token⟩

theorem Tells.apart (h : Tells s t) (branches : t.path.branchQueues = s.path.branchQueues) : Apart c s t :=
  ⟨fun d _ => by rw [h.carrier], branches, h.units, h.wakeQueue, h.token⟩

/-- R106, R133, R134: entry to RESTORING as far as the first notice; the rest is the end of a settle time of 0. -/
theorem enterRestoring_eq (s : State) (c : CarrierIx) (cause : Cause) :
    let told := ((s.moveTo c .restoring).advise .openUp c cause).notifyState c (s.lifeState c) .restoring cause
      cause.origin
    told.lifeState c = .restoring ∧ s.enterRestoring c cause =
      if (s.profileOf c).settleTime = 0 then
        (told.moveTo c .active).notifyState c .restoring .active .settled .timed
      else told := by
  intro told
  have tells : Tells (s.moveTo c .restoring) told := (tells_advise ..).trans (tells_notifyState ..)
  have state : told.lifeState c = .restoring := by simp [tells.lifeState]
  have length : (told.carrier c).life.settleLength = (s.profileOf c).settleTime := by
    rw [tells.carrier, (moveTo_carrier s c .restoring).1]
    rfl
  refine ⟨state, ?_⟩
  rw [← length]
  simp only [State.enterRestoring, State.settleNow, State.moveAndTell]
  rw [if_pos state, state]
  rfl

/-- R106: a carrier in a drain state is abandoned. -/
theorem causeTaken_enterRestoring (drain : (s.lifeState c).isDrain = true) :
    CauseTaken .ordinary cause cause.origin (fun d => d == c) s (s.enterRestoring c cause) := by
  have old : s.lifeState c ≠ .doze ∧ s.lifeState c ≠ .slumber ∧ s.lifeState c ≠ .queued ∧
      s.lifeState c ≠ .rampdown ∧ s.lifeState c ≠ .deepening := by
    refine ⟨?_, ?_, ?_, ?_, ?_⟩ <;> intro e <;> simp [e, LifeState.isDrain] at drain
  obtain ⟨doze, slumber, unqueued, rampdown, deepening⟩ := old
  obtain ⟨restoring, eq⟩ := enterRestoring_eq s c cause
  generalize htold : ((s.moveTo c .restoring).advise .openUp c cause).notifyState c (s.lifeState c) .restoring cause
    cause.origin = told at restoring eq
  have begun : Alike (s.opened c cause |>.tells c (s.lifeState c) .restoring cause cause.origin) told ∧
      Apart c s told := by
    have only := moveTo_carriersOnly unqueued slumber (new := .restoring) (by decide)
    have alike := ((Alike.refl s).silent (keeps_moveTo (moveAllowed_awake (isDrain_managed drain) (by decide) rfl))
      only.toldAs)
    subst htold
    refine ⟨?_, (Apart.moveTo unqueued slumber (by decide)).trans
      (((tells_advise ..).apart (advise_branchQueues ..)).trans
        ((tells_notifyState ..).apart (notify_branchQueues ..)))⟩
    rw [opened_eq_advise]
    exact (alike.advise .openUp c cause).notifyState c (s.lifeState c) .restoring cause cause.origin
  obtain ⟨alike, apart⟩ := begun
  have whole : Alike (s.tellsReturn c cause cause.origin) (s.enterRestoring c cause) ∧
      Apart c s (s.enterRestoring c cause) := by
    rw [eq]
    simp only [State.tellsReturn]
    split_ifs
    · have silent := (moveTo_carriersOnly (s := told) (c := c) (new := .active) (by simp [restoring])
        (by simp [restoring]) (by decide)).toldAs
      have kept : Keeps told (told.moveTo c .active) :=
        keeps_moveTo (moveAllowed_awake (managed_of restoring (by decide)) (by decide) rfl)
      exact ⟨(alike.silent kept silent).notifyState c .restoring .active .settled .timed,
        apart.trans ((Apart.moveTo (by simp [restoring]) (by simp [restoring]) (by decide)).trans
          ((tells_notifyState ..).apart (notify_branchQueues ..)))⟩
    · exact ⟨alike, apart⟩
  obtain ⟨alike, apart⟩ := whole
  refine causeTaken_one ?told apart.branches ?queue ?state ?mark apart.others ?units apart.token
  case told => simpa [State.tellsWake, doze, slumber, drain] using alike.toToldAs
  case queue => simp [apart.wakeQueue, State.placeFor, doze, slumber]
  case state => simp [enterRestoring_lifeState, doze, slumber, drain]
  case mark => simp [rampdown, deepening]
  case units => simp [apart.units, slumber]

/-- R124: a carrier in any other state but QUEUED takes no cause of class ORDINARY. -/
theorem causeTaken_refl {origin : Origin} (doze : s.lifeState c ≠ .doze) (slumber : s.lifeState c ≠ .slumber)
    (drain : (s.lifeState c).isDrain = false) (rest : s.lifeState c ≠ .rampdown ∧ s.lifeState c ≠ .deepening) :
    CauseTaken .ordinary cause origin (fun d => d == c) s s := by
  refine causeTaken_one ?told rfl ?queue ?state ?mark (fun _ _ => rfl) ?units rfl
  case told => simpa [State.tellsWake, doze, slumber, drain] using ToldAs.refl s
  case queue => simp [State.placeFor, doze, slumber]
  case state => simp [doze, slumber, drain]
  case mark => simp [rest]
  case units => simp [slumber]

end Sys2Proof.Machine
end

section
/-! PROOFS. What a wake cause of class ORDINARY does to the carriers it reaches, from what it does to each of them in
turn. -/

namespace Sys2Proof.Machine

variable {s t u : State} {c d : CarrierIx} {cause : Cause} {origin : Origin} {reached : CarrierIx → Bool}
  {l : List CarrierIx}

/-! ## Carriers in ascending index -/

/-- A list of carriers in ascending index is all the carriers that are in it, in their order. -/
theorem filter_mem_of_sorted (h : l.Pairwise (· < ·)) : (List.finRange 32).filter (fun d => decide (d ∈ l)) = l := by
  refine List.Perm.eq_of_pairwise (le := (· < ·)) (fun _ _ _ _ ab ba => absurd ba ab.not_gt)
    ((List.pairwise_lt_finRange 32).filter _) h ?_
  refine (List.perm_ext_iff_of_nodup ((List.nodup_finRange 32).filter _) (h.imp fun ab => ne_of_lt ab)).mpr ?_
  simp

/-! ## What the carriers reached so far leave as it was -/

/-- R124: no cause of class ORDINARY moves a carrier into WARMUP or out of it. -/
theorem CauseTaken.warmups (h : CauseTaken .ordinary cause origin reached s t) : t.warmups = s.warmups := by
  unfold State.warmups
  congr 1
  refine List.filter_congr fun c _ => ?_
  rw [h.states c]
  split_ifs with sleeper drain
  · rcases sleeper.2 with old | old <;> rw [old] <;> rfl
  · cases old : s.lifeState c <;> simp_all [LifeState.isDrain]
  · cases old : s.lifeState c <;> simp_all [LifeState.isDrain]
  · rfl

/-- The state of a carrier that has not been reached is as it was. -/
theorem CauseTaken.lifeState_of_unreached (h : CauseTaken .ordinary cause origin reached s t)
    (unreached : reached c = false) : t.lifeState c = s.lifeState c := by
  simp [h.states, unreached]

/-- R118, R153: a unit after a cause of class ORDINARY, by whether one of its carriers has left SLUMBER. -/
theorem CauseTaken.unit_eq (h : CauseTaken .ordinary cause origin reached s t) (v : UnitIx) :
    ((∃ c, reached c = true ∧ s.lifeState c = .slumber ∧ s.unitOf c = v) ∧
      t.unit v = { s.unit v with deepTimer := none }) ∨
    ((∀ c, reached c = true → s.lifeState c = .slumber → s.unitOf c ≠ v) ∧ t.unit v = s.unit v) := by
  by_cases left : ∃ c, reached c = true ∧ s.lifeState c = .slumber ∧ s.unitOf c = v
  · exact .inl ⟨left, h.exits v left⟩
  · have none_left := fun c r o e => left ⟨c, r, o, e⟩
    exact .inr ⟨none_left, h.units v none_left⟩

/-- Nothing is reached. -/
theorem causeTaken_none (s : State) :
    CauseTaken .ordinary cause origin (fun d => decide (d ∈ ([] : List CarrierIx))) s s where
  told := by simpa using ToldAs.refl s
  branches := rfl
  queue := by simp [broughtTo_ordinary]
  states := by simp
  marks := by simp
  others := by simp
  exits := by simp
  units := by simp
  token := rfl

/-! ## One carrier more -/

/-- What the carriers of `l` have been told leaves all that decides what carrier `c` is told. -/
theorem tells_foldl_tellsWake (l : List CarrierIx) (s : State) : Tells s (l.foldl (State.tellsWake cause origin) s) :=
  tells_foldl _ (tells_tellsWake cause origin) l s

/-- A cause that has reached the carriers of `l` reaches one carrier more, of a higher index. -/
theorem CauseTaken.snoc (h : CauseTaken .ordinary cause origin (fun d => decide (d ∈ l)) s t) (kept : Keeps s t)
    (k : CauseTaken .ordinary cause origin (fun d => d == c) t u) (sorted : (l ++ [c]).Pairwise (· < ·)) :
    CauseTaken .ordinary cause origin (fun d => decide (d ∈ l ++ [c])) s u := by
  have sorted_l : l.Pairwise (· < ·) := (List.pairwise_append.mp sorted).1
  have fresh : c ∉ l := fun mem =>
    lt_irrefl c ((List.pairwise_append.mp sorted).2.2 c mem c (List.mem_singleton_self c))
  have before : t.carrier c = { s.carrier c with cover := (t.carrier c).cover } := h.others c (by simpa using fresh)
  have state : t.lifeState c = s.lifeState c := lifeState_of_cover before
  have after (d : CarrierIx) (other : d ≠ c) : u.carrier d = { t.carrier d with cover := (u.carrier d).cover } :=
    k.others d (by simpa using other)
  have profile : t.profileOf c = s.profileOf c := by
    simp [State.profileOf, State.config, kept.profiles, kept.carrierConfig]
  have unit_of : t.unitOf c = s.unitOf c := by simp [State.unitOf, State.config, kept.carrierConfig]
  refine ⟨?told, k.branches.trans h.branches, ?queue, fun d => ?states, fun d mem rest => ?marks,
    fun d unreached => ?others, fun v left => ?exits, fun v stays => ?units, k.token.trans h.token⟩
  case told =>
    have so_far := h.told
    have last := k.told
    rw [filter_mem_of_sorted sorted_l] at so_far
    rw [filter_eq_singleton] at last
    rw [filter_mem_of_sorted sorted, List.foldl_append]
    have tells := tells_foldl_tellsWake (cause := cause) (origin := origin) l s
    have alike := (Alike.refl s).keeps tells.keeps kept so_far
    exact (alike.tellsWake cause origin c (state.trans (tells.lifeState c).symm)).toToldAs.trans last
  case queue =>
    have so_far := h.queue
    have last := k.queue
    simp only [broughtTo_ordinary, filter_mem_of_sorted sorted_l] at so_far
    simp only [broughtTo_ordinary, filter_eq_singleton] at last
    simp only [broughtTo_ordinary, filter_mem_of_sorted sorted, last, so_far, List.filterMap_append, List.append_assoc,
      List.filterMap_cons, List.filterMap_nil, State.placeFor, state]
  case states =>
    by_cases same : d = c
    · subst same
      simpa [state, profile] using k.states d
    · simpa [same] using (lifeState_of_cover (after d same)).trans (h.states d)
  case marks =>
    by_cases same : d = c
    · subst same
      have life : (t.carrier d).life = (s.carrier d).life := by rw [before]
      have := k.marks d (by simp) (by rwa [state])
      rwa [life] at this
    · rw [after d same]
      exact h.marks d (by simpa [same] using mem) rest
  case others =>
    have split : d ∉ l ∧ d ≠ c := by simpa using unreached
    obtain ⟨outside, other⟩ := split
    rw [after d other, h.others d (by simpa using outside)]
  case exits =>
    have stopped : t.unit v = { s.unit v with deepTimer := none } ∨ t.unit v = s.unit v :=
      (h.unit_eq v).imp And.right And.right
    rcases k.unit_eq v with ⟨_, last⟩ | ⟨stays, last⟩
    · rcases stopped with so_far | so_far <;> rw [last, so_far]
    · obtain ⟨d, mem, slumber, place⟩ := left
      have earlier : d ∈ l := by
        rcases List.mem_append.mp (of_decide_eq_true mem) with mem | mem
        · exact mem
        · obtain rfl := List.mem_singleton.mp mem
          exact absurd (unit_of.trans place) (stays d (by simp) (state.trans slumber))
      rw [last, h.exits v ⟨d, by simpa using earlier, slumber, place⟩]
  case units =>
    have so_far := h.units v fun d mem => stays d (by simpa using Or.inl (of_decide_eq_true mem))
    have last := k.units v fun d same slumber => by
      obtain rfl : d = c := by simpa using same
      exact unit_of ▸ stays d (by simp) (state ▸ slumber)
    exact last.trans so_far

/-! ## All of them, in turn -/

/-- A step for each carrier of a list in ascending index, which does to a carrier that is reached what the cause does to it
alone and leaves all as it is for any other, does what the cause does to those that are reached. -/
theorem causeTaken_foldl (step : State → CarrierIx → State) (s : State)
    (hit : ∀ t c, Keeps s t → t.warmups = s.warmups → t.lifeState c = s.lifeState c → reached c = true →
      Keeps t (step t c) ∧ CauseTaken .ordinary cause origin (fun d => d == c) t (step t c))
    (miss : ∀ t c, t.lifeState c = s.lifeState c → reached c = false → step t c = t)
    (l : List CarrierIx) (sorted : l.Pairwise (· < ·)) :
    Keeps s (l.foldl step s) ∧
      CauseTaken .ordinary cause origin (fun d => decide (d ∈ l.filter reached)) s (l.foldl step s) := by
  induction l using List.reverseRecOn with
  | nil => exact ⟨Keeps.refl s, causeTaken_none s⟩
  | append_singleton l c ih =>
    have parts := List.pairwise_append.mp sorted
    obtain ⟨kept, so_far⟩ := ih parts.1
    have fresh : c ∉ l := fun mem => lt_irrefl c (parts.2.2 c mem c (List.mem_singleton_self c))
    have state := so_far.lifeState_of_unreached (c := c) (by simp [fresh])
    rw [List.foldl_append, List.foldl_cons, List.foldl_nil]
    cases here : reached c with
    | true =>
      obtain ⟨kept_here, last⟩ := hit _ c kept so_far.warmups state here
      have grown : (l ++ [c]).filter reached = l.filter reached ++ [c] := by simp [here]
      rw [grown]
      exact ⟨kept.trans kept_here, so_far.snoc kept last (grown ▸ sorted.filter _)⟩
    | false =>
      rw [miss _ c state here]
      have same : (l ++ [c]).filter reached = l.filter reached := by simp [here]
      rw [same]
      exact ⟨kept, so_far⟩

end Sys2Proof.Machine
end

section
/-! PROOFS. A carrier that a wake cause has reached stays awake, or keeps its mark, through all that the causes of an event
set off. -/

namespace Sys2Proof.Machine

variable {s t : State} {c d : CarrierIx} {cls : WakeClass} {cause : Cause}

/-! ## The mark -/

/-- R125: the class of a mark never falls. -/
theorem le_raiseMark (cls : WakeClass) (cause : Cause) (k : KeptWake) :
    k.cls.code ≤ (raiseMark cls cause (some k)).cls.code := by
  simp only [raiseMark, WakeClass.above, decide_eq_true_eq]
  split_ifs with above
  · exact above.le
  · exact Nat.le_refl _

/-- R125: a mark that a cause has raised is of its class at least. -/
theorem cls_le_raiseMark (cls : WakeClass) (cause : Cause) (mark : Option KeptWake) :
    cls.code ≤ (raiseMark cls cause mark).cls.code := by
  cases mark with
  | none => exact Nat.le_refl _
  | some k =>
    simp only [raiseMark, WakeClass.above, decide_eq_true_eq]
    split_ifs with above
    · exact Nat.le_refl _
    · exact Nat.not_lt.mp above

/-! ## What keeps a carrier woken -/

/-- A state that is neither a drain state nor a sleeper state is one of a carrier that is woken. -/
theorem woken_of_not_resting (h : (t.lifeState c).isResting = false) : Woken cls c t := by
  refine ⟨?_, ?_, ?_, ?_⟩ <;> cases e : t.lifeState c <;>
    simp_all [LifeState.isResting, LifeState.isDrain, LifeState.isSleeper]

/-- Whether a carrier is woken stands in its lifecycle part. -/
theorem Woken.of_life (h : Woken cls c s) (life : (t.carrier c).life = (s.carrier c).life) : Woken cls c t := by
  simpa only [Woken, State.lifeState, life] using h

theorem Woken.of_carriers (h : Woken cls c s) (carriers : t.carriers = s.carriers) : Woken cls c t :=
  h.of_life (by simp [State.carrier, carriers])

theorem Woken.tells (h : Woken cls c s) (k : Tells s t) : Woken cls c t := h.of_carriers k.carriers

/-- A change of state wakes a carrier if it does not bring it to rest, and leaves any other as it was. -/
theorem Woken.moveTo {new : LifeState} (h : Woken cls c s) (awake : d = c → new.isResting = false) :
    Woken cls c (s.moveTo d new) := by
  by_cases same : c = d
  · subst same
    exact woken_of_not_resting (by simpa using awake rfl)
  · exact h.of_life (by rw [moveTo_other s d c new same])

theorem Woken.moveAndTell {new : LifeState} (h : Woken cls c s) (awake : d = c → new.isResting = false) :
    Woken cls c (s.moveAndTell d new cause) :=
  (h.moveTo awake).tells (tells_notifyState ..)

theorem Woken.enterQueued {cls' : WakeClass} {depth : Depth} (h : Woken cls c s) :
    Woken cls c (s.enterQueued d cls' depth cause) :=
  have moved : Woken cls c (s.moveTo d .queued) := h.moveTo fun _ => rfl
  (moved.of_carriers (State.setWakeQueue_carriers ..)).tells (tells_notifyState ..)

theorem Woken.enterRestoring (h : Woken cls c s) : Woken cls c (s.enterRestoring d cause) := by
  rw [(enterRestoring_eq s d cause).2]
  have told := ((h.moveTo (d := d) (new := .restoring) fun _ => rfl).tells
    (tells_advise _ .openUp d cause)).tells (tells_notifyState _ d (s.lifeState d) .restoring cause cause.origin)
  split_ifs
  · exact (told.moveTo fun _ => rfl).tells (tells_notifyState ..)
  · exact told

theorem Woken.keepWake {cls' : WakeClass} (h : Woken cls c s) : Woken cls c (s.keepWake d cls' cause) := by
  by_cases same : c = d
  · subst same
    obtain ⟨doze, slumber, drain, mark⟩ := h
    have state : (s.keepWake c cls' cause).lifeState c = s.lifeState c := by
      simp [State.keepWake, State.setLife, State.lifeState]
    refine ⟨state ▸ doze, state ▸ slumber, state ▸ drain, fun rest => ?_⟩
    obtain ⟨k, kept, le⟩ := mark (state ▸ rest)
    refine ⟨raiseMark cls' cause (some k), ?_, le.trans (le_raiseMark ..)⟩
    simp [State.keepWake, State.setLife, kept]
  · exact h.of_life (by simp [State.keepWake, State.setLife, same])

/-! ## The tasks that bring no carrier to rest unasked -/

/-- The outcome of a directive and the window end's tasks may bring a carrier to rest that was awake or marked; what the
causes of an event set off holds none of them. -/
def Task.mayLull : Task → Bool
  | .ended .. | .report .. | .group .. => true
  | .wake .. | .grants | .anchorLost _ | .sendHead _ | .lose .. | .withdrawn _ | .linkUp _ | .deepen _ | .abandon ..
  | .deepTest _ | .recover _ => false

theorem Woken.abandonEffect (h : Woken cls c s) : Woken cls c (abandonEffect d cause s).1 := by
  unfold Machine.abandonEffect
  split
  · exact h.enterRestoring
  · exact h

theorem Woken.wakeEffect {k : WakeKind} (h : Woken cls c s) : Woken cls c (wakeEffect d k s).1 := by
  have spared {e : Effect} (he : Woken cls c e.1) : Woken cls c (if k = .traffic then ((s, []) : Effect) else e).1 := by
    split
    · exact h
    · exact he
  unfold Machine.wakeEffect
  cases s.lifeState d with
  | doze => exact h.enterQueued
  | slumber => exact spared h.enterQueued
  | rampdown | deepening => exact spared h.keepWake
  | draining | drainHeld => exact spared h.abandonEffect
  | queued => exact h.of_carriers (State.setWakeQueue_carriers ..)
  | lost =>
    dsimp only
    split
    · exact h.enterQueued
    · exact h
  | active | restoring | warmup | unmanaged => exact h

theorem Woken.grantsEffect (h : Woken cls c s) : Woken cls c (grantsEffect s).1 := by
  have granted (d : CarrierIx) : Woken cls c (grantTo d s).1 := by
    have moved : Woken cls c (s.moveAndTell d .warmup .granted) := h.moveAndTell fun _ => rfl
    unfold grantTo
    split
    · dsimp only
      split
      · exact moved.of_carriers (handDirective_carriers ‹_›)
      · exact moved
    · exact h
  unfold Machine.grantsEffect
  split
  · split
    · exact h
    · exact granted _
  · exact h

theorem Woken.loseEffect (h : Woken cls c s) : Woken cls c (loseEffect d cause s).1 := by
  unfold Machine.loseEffect
  dsimp only
  split
  · exact h
  · exact (((h.moveTo fun _ => rfl).of_carriers (removeDirective_carriers ..)).tells
      (tells_raiseFlag _ _ (by decide))).tells (tells_notifyState ..)

theorem sendHeadEffect_carriers (v : UnitIx) (s : State) : (sendHeadEffect v s).1.carriers = s.carriers := by
  unfold sendHeadEffect
  dsimp only
  split
  · split
    · rfl
    · split
      · rfl
      · exact transmit_carriers ..
  · rfl

/-- R116, R126: a carrier that is woken and whose CARRIER-DEEPEN is withdrawn carries a mark, and is queued. -/
theorem Woken.withdrawnEffect (h : Woken cls c s) : Woken cls c (withdrawnEffect d s).1 := by
  unfold Machine.withdrawnEffect
  split
  · rename_i deepening
    split
    · rename_i unmarked
      refine h.moveAndTell fun same => ?_
      subst same
      obtain ⟨k, marked, _⟩ := h.2.2.2 (.inr deepening)
      simp [unmarked] at marked
    · exact h.enterQueued
  · exact h

theorem Woken.linkUpEffect (h : Woken cls c s) : Woken cls c (linkUpEffect d s).1 := by
  unfold Machine.linkUpEffect
  split
  · exact h.enterQueued
  · exact h

/-- R115: only a DOZE carrier enters DEEPENING, and a carrier that is woken does not doze. -/
theorem Woken.deepenEffect (h : Woken cls c s) : Woken cls c (deepenEffect d s).1 := by
  unfold Machine.deepenEffect
  split
  · rename_i due
    split
    · refine (h.of_carriers (handDirective_carriers ‹_›)).moveAndTell fun same => ?_
      subst same
      exact absurd (by simp_all [State.deepenDue]) h.1
    · exact h
  · exact h

theorem Woken.recoverEffect {v : UnitIx} (h : Woken cls c s) : Woken cls c (recoverEffect v s).1 := by
  unfold Machine.recoverEffect
  split
  · exact h.of_carriers (releaseUnit_carriers ..)
  · exact h

/-- A carrier that is woken stays so through every task that may not lull. -/
theorem Woken.task {k : Task} (h : Woken cls c s) (calm : k.mayLull = false) : Woken cls c (k.effect s).1 := by
  cases k with
  | wake d k => exact h.wakeEffect
  | grants => exact h.grantsEffect
  | anchorLost a => exact h
  | sendHead v => exact h.of_carriers (sendHeadEffect_carriers ..)
  | lose d cause => exact h.loseEffect
  | withdrawn d => exact h.withdrawnEffect
  | linkUp d => exact h.linkUpEffect
  | deepen d => exact h.deepenEffect
  | abandon d cause => exact h.abandonEffect
  | deepTest v => exact h.of_carriers (deepTest_carriers ..)
  | recover v => exact h.recoverEffect
  | ended d kind how => cases calm
  | report d m => cases calm
  | group a rep => cases calm

/-- A wake cause sets off no more than the grants (R130). -/
theorem wakeEffect_tasks {k : WakeKind} : ∀ l ∈ (wakeEffect d k s).2, l = .grants := by
  have abandoned : (Machine.abandonEffect d k.cause s).2 = [] := by
    unfold Machine.abandonEffect
    split <;> rfl
  unfold Machine.wakeEffect
  repeat' split
  all_goals simp [abandoned]

/-- What a task that may not lull sets off may not either. -/
theorem mayLull_of_mem {k : Task} (calm : k.mayLull = false) : ∀ l ∈ (k.effect s).2, l.mayLull = false := by
  cases k with
  | wake d k =>
    intro l mem
    rw [wakeEffect_tasks l mem]
    rfl
  | grants =>
    simp only [Task.effect, Machine.grantsEffect, grantTo]
    repeat' split
    all_goals simp [Task.mayLull]
  | anchorLost a => simp [Task.effect, anchorLostEffect, Task.mayLull]
  | sendHead v =>
    simp only [Task.effect, sendHeadEffect]
    split
    · split
      · simp
      · rename_i head _ _
        split
        · cases head.carrier <;> simp [Task.mayLull]
        · simp
    · simp
  | lose d cause =>
    simp only [Task.effect, Machine.loseEffect]
    repeat' split
    all_goals simp [Task.mayLull]
  | withdrawn d =>
    simp only [Task.effect, Machine.withdrawnEffect]
    repeat' split
    all_goals simp [Task.mayLull]
  | linkUp d =>
    simp only [Task.effect, Machine.linkUpEffect]
    split <;> simp [Task.mayLull]
  | deepen d =>
    simp only [Task.effect, Machine.deepenEffect]
    repeat' split
    all_goals simp [Task.mayLull]
  | abandon d cause =>
    simp only [Task.effect, Machine.abandonEffect]
    split <;> simp
  | deepTest v => simp [Task.effect]
  | recover v =>
    simp only [Task.effect, Machine.recoverEffect]
    split <;> simp [Task.mayLull]
  | ended d kind how => cases calm
  | report d m => cases calm
  | group a rep => cases calm

/-! ## A cause with all that it and the tasks behind it set off -/

/-- R124: a wake cause other than traffic wakes the carrier that it is handed to. -/
theorem woken_wakeEffect {k : WakeKind} (other : k ≠ .traffic) : Woken k.cls c (wakeEffect c k s).1 := by
  have queued (cls' : WakeClass) (depth : Depth) : Woken k.cls c (s.enterQueued c cls' depth k.cause) :=
    woken_of_not_resting (by simp [LifeState.isResting, LifeState.isDrain, LifeState.isSleeper])
  have marked (old : s.lifeState c = .rampdown ∨ s.lifeState c = .deepening) :
      Woken k.cls c (s.keepWake c k.cls k.cause) := by
    have state : (s.keepWake c k.cls k.cause).lifeState c = s.lifeState c := by
      simp [State.keepWake, State.setLife, State.lifeState]
    have mark : ((s.keepWake c k.cls k.cause).carrier c).life.wakePending =
        some (raiseMark k.cls k.cause (s.carrier c).life.wakePending) := by
      simp [State.keepWake, State.setLife]
    refine ⟨?_, ?_, ?_, fun _ => ⟨_, mark, cls_le_raiseMark ..⟩⟩ <;> rw [state] <;> rcases old with old | old <;>
      simp [old, LifeState.isDrain]
  have abandoned (drain : (s.lifeState c).isDrain = true) : Woken k.cls c (Machine.abandonEffect c k.cause s).1 := by
    refine woken_of_not_resting ?_
    rw [Machine.abandonEffect, if_pos drain, enterRestoring_lifeState, if_pos rfl]
    split_ifs <;> rfl
  have idle (t : State) (same : t.lifeState c = s.lifeState c) (awake : (s.lifeState c).isResting = false) :
      Woken k.cls c t := woken_of_not_resting (by rw [same, awake])
  unfold Machine.wakeEffect
  cases old : s.lifeState c with
  | doze => exact queued ..
  | slumber => simpa [other] using queued ..
  | rampdown => simpa [other] using marked (.inl old)
  | deepening => simpa [other] using marked (.inr old)
  | draining | drainHeld => simpa [other] using abandoned (by rw [old]; rfl)
  | queued => exact idle _ rfl (by rw [old]; rfl)
  | lost =>
    dsimp only
    split
    · exact queued ..
    · exact idle s rfl (by rw [old]; rfl)
  | active | restoring | warmup | unmanaged => exact idle s rfl (by rw [old]; rfl)

/-- A carrier that is woken stays so through a task that may not lull and all that it sets off. -/
theorem Woken.runTask {k : Task} (h : Woken cls c s) (calm : k.mayLull = false) (n : Nat) :
    Woken cls c (runTask n k s) :=
  (runTask_induction_on (Woken cls c) (fun k => k.mayLull = false) (fun _ _ => True) (fun _ => trivial)
    (fun _ _ => trivial) (fun _ _ woken calm => woken.task calm) (fun _ _ _ calm => mayLull_of_mem calm)
    (fun _ _ _ _ => trivial) n k s h calm).2

/-- A carrier that is woken stays so through the tasks of one event, if none of them may lull. -/
theorem Woken.foldl {l : List Task} (calm : ∀ k ∈ l, k.mayLull = false) (n : Nat) (h : Woken cls c s) :
    Woken cls c (l.foldl (fun s k => Machine.runTask n k s) s) := by
  induction l generalizing s with
  | nil => exact h
  | cons k l ih =>
    exact ih (fun k mem => calm k (List.mem_cons_of_mem _ mem)) (h.runTask (calm k (List.mem_cons_self ..)) n)

/-- Every event has at least a thousand levels of tasks (assumption log 19). -/
theorem exists_taskFuel {k : Nat} (le : k ≤ 1000) (s : State) : ∃ n, s.taskFuel = n + k :=
  ⟨s.taskFuel - k, (Nat.sub_add_cancel (le.trans (Nat.le_add_right ..))).symm⟩

/-- R124: a wake cause among the tasks of one event, of which none may lull, leaves its carrier woken. -/
theorem woken_work {l : List Task} {k : WakeKind} (other : k ≠ .traffic) (mem : .wake c k ∈ l)
    (calm : ∀ k ∈ l, k.mayLull = false) (s : State) : Woken k.cls c (s.work l) := by
  obtain ⟨before, after, rfl⟩ := List.append_of_mem mem
  have calm_after : ∀ k ∈ after, k.mayLull = false := fun k mem => calm k (by simp [mem])
  obtain ⟨n, fuel⟩ := exists_taskFuel (k := 1) (by decide) s
  rw [State.work, fuel, List.foldl_append, List.foldl_cons]
  refine Woken.foldl calm_after (n + 1) (Woken.foldl ?_ n (woken_wakeEffect other))
  intro l mem
  rw [wakeEffect_tasks l mem]
  rfl

end Sys2Proof.Machine
end

section
/-! PROOFS. The deepen decision of one carrier, with the sending that it sets off. -/

namespace Sys2Proof.Machine

variable {s t : State} {c : CarrierIx} {kind : DirectiveKind} {v : UnitIx}

/-! ## One task -/

/-- A task that sets off none. -/
theorem work_singleton {k : Task} (alone : (k.effect s).2 = []) : s.work [k] = (k.effect s).1 := by
  obtain ⟨n, fuel⟩ := exists_taskFuel (k := 1) (by decide) s
  rw [State.work, fuel, List.foldl_cons, List.foldl_nil, runTask, alone, List.foldl_nil]

/-- A task that sets off one, which sets off none. -/
theorem work_singleton_pair {k l : Task} (next : (k.effect s).2 = [l]) (last : (l.effect (k.effect s).1).2 = []) :
    s.work [k] = (l.effect (k.effect s).1).1 := by
  obtain ⟨n, fuel⟩ := exists_taskFuel (k := 2) (by decide) s
  rw [State.work, fuel, List.foldl_cons, List.foldl_nil, runTask, next, List.foldl_cons, List.foldl_nil, runTask, last,
    List.foldl_nil]

/-! ## Taking and sending a directive -/

/-- R145: a unit that is not in use or is UNREACHABLE takes no directive. -/
theorem handDirective_of_untaken
    (h : (s.unit (s.unitOf c)).state = none ∨ (s.unit (s.unitOf c)).state = some .unreachable) :
    s.handDirective kind c = none := by
  unfold State.handDirective
  rcases h with h | h <;> simp [h]

/-- R155: a unit that is released keeps its queue and what is outstanding. -/
theorem releaseUnit_unit (s : State) (v : UnitIx) :
    (s.releaseUnit v).unit v = { s.unit v with
      state := some .releasing, releaseTimer := some (s.unitSettings v).releaseTime.toNat, deepTimer := none } := by
  rw [State.releaseUnit, (tells_inject ..).unit, State.setUnit_unit, if_pos rfl]

/-- R146: the head that is sent stays at the head of the queue, and is outstanding. -/
theorem transmit_unit (s : State) (v : UnitIx) (d : Directive) :
    ((s.transmit v d).unit v).queue = (s.unit v).queue ∧ ((s.transmit v d).unit v).sent ≠ none := by
  simp [State.transmit, (tells_offerInjected ..).unit]

/-- R145: any other unit takes the directive, with the next token, at the tail of its queue; an UP unit stays UP. -/
theorem handDirective_of_taken (used : (s.unit (s.unitOf c)).state ≠ none)
    (reachable : (s.unit (s.unitOf c)).state ≠ some .unreachable) :
    ∃ t d, s.handDirective kind c = some t ∧ (t.unit (s.unitOf c)).queue = (s.unit (s.unitOf c)).queue ++ [d] ∧
      d.kind = kind ∧ d.carrier = some c ∧ d.token = s.token ∧
      ((s.unit (s.unitOf c)).state = some .up → (t.unit (s.unitOf c)).state = some .up) := by
  unfold State.handDirective
  dsimp only
  cases state : (s.unit (s.unitOf c)).state with
  | none => exact absurd state used
  | some st =>
    cases st with
    | unreachable => exact absurd state reachable
    | deep =>
      refine ⟨_, ⟨kind, some c, s.token, (s.unit (s.unitOf c)).linkOf c, (s.config c).key⟩, rfl, ?_,
        rfl, rfl, rfl, nofun⟩
      rw [releaseUnit_unit, State.setUnit_unit, if_pos rfl]
    | up | deepPending | releasing =>
      refine ⟨_, ⟨kind, some c, s.token, (s.unit (s.unitOf c)).linkOf c, (s.config c).key⟩, rfl, ?_,
        rfl, rfl, rfl, ?_⟩
      · rw [State.setUnit_unit, if_pos rfl]
      · rw [State.setUnit_unit, if_pos rfl]
        exact id

/-- R116, R146: where CARRIER-DEEPEN may be sent, considering the head of a queue withdraws nothing; and a directive that
waits on an UP unit is, or has been, sent. -/
theorem sendHeadEffect_of_mayDeepen (may : s.mayDeepen = true) (v : UnitIx) :
    (sendHeadEffect v s).2 = [] ∧ ((sendHeadEffect v s).1.unit v).queue = (s.unit v).queue ∧
      ((s.unit v).state = some .up → (s.unit v).queue ≠ [] → ((sendHeadEffect v s).1.unit v).sent ≠ none) := by
  unfold sendHeadEffect
  dsimp only
  split
  · split
    · rename_i empty
      exact ⟨rfl, rfl, fun _ waits => absurd empty waits⟩
    · rw [if_neg (by simp [may])]
      exact ⟨rfl, (transmit_unit ..).1, fun _ _ => (transmit_unit ..).2⟩
  · rename_i blocked
    exact ⟨rfl, rfl, fun up _ sent => blocked ⟨up, sent⟩⟩

/-! ## The decision -/

/-- R115: a carrier for which a condition fails, or whose unit takes no directive, is not moved. -/
theorem work_deepen_of_not (h : s.deepenDue c = false ∨ (s.unit (s.unitOf c)).state = none ∨
    (s.unit (s.unitOf c)).state = some .unreachable) : s.work [.deepen c] = s := by
  have idle : deepenEffect c s = (s, []) := by
    unfold deepenEffect
    rcases h with undue | untaken
    · simp [undue]
    · simp [handDirective_of_untaken untaken]
  have effect : (Task.deepen c).effect s = (s, []) := idle
  rw [work_singleton (by rw [effect]), effect]

/-- R115, R145, R146: a carrier for which every condition holds enters DEEPENING, with CARRIER-DEEPEN at the tail of its
unit's queue, and an UP unit has a directive outstanding. -/
theorem work_deepen_of_due (due : s.deepenDue c = true) (used : (s.unit (s.unitOf c)).state ≠ none)
    (reachable : (s.unit (s.unitOf c)).state ≠ some .unreachable) :
    ∃ d, (s.work [.deepen c]).lifeState c = .deepening ∧
      ((s.work [.deepen c]).unit (s.unitOf c)).queue = (s.unit (s.unitOf c)).queue ++ [d] ∧ d.kind = .carrierDeepen ∧
      d.carrier = some c ∧ d.token = s.token ∧
      ((s.unit (s.unitOf c)).state = some .up → ((s.work [.deepen c]).unit (s.unitOf c)).sent ≠ none) := by
  have conditions := due
  simp only [State.deepenDue, Bool.and_eq_true, beq_iff_eq] at conditions
  obtain ⟨⟨⟨⟨doze, _⟩, _⟩, _⟩, may⟩ := conditions
  obtain ⟨t, d, taken, queue, kind, carrier, token, up⟩ :=
    handDirective_of_taken (kind := .carrierDeepen) used reachable
  have effect : (Task.deepen c).effect s = (t.moveAndTell c .deepening .deepen, [.sendHead (s.unitOf c)]) := by
    simp [Task.effect, deepenEffect, due, taken]
  have dozes : t.lifeState c = .doze := by rw [lifeState_of_carriers (handDirective_carriers taken), doze]
  have moved (v : UnitIx) : (t.moveAndTell c .deepening .deepen).unit v = t.unit v :=
    ((tells_notifyState ..).unit v).trans
      ((moveTo_carriersOnly (by simp [dozes]) (by simp [dozes]) (by decide)).unit v)
  have may_still : (t.moveAndTell c .deepening .deepen).mayDeepen = true := by
    have kept : Keeps s (t.moveAndTell c .deepening .deepen) := by
      simpa [deepenEffect, due, taken] using keeps_deepenEffect c s
    rw [← may, State.mayDeepen, State.mayDeepen, kept.mode, kept.trunkLost]
  obtain ⟨last, same, outstanding⟩ := sendHeadEffect_of_mayDeepen may_still (s.unitOf c)
  have result : s.work [.deepen c] = (sendHeadEffect (s.unitOf c) (t.moveAndTell c .deepening .deepen)).1 := by
    have chain := work_singleton_pair (s := s) (k := .deepen c) (l := .sendHead (s.unitOf c)) (by rw [effect])
      (by rw [effect]; exact last)
    rw [chain, effect]
    rfl
  rw [moved] at same outstanding
  refine ⟨d, ?_, ?_, kind, carrier, token, fun is_up => ?_⟩
  · rw [result, lifeState_of_carriers (sendHeadEffect_carriers ..), moveAndTell_lifeState, if_pos rfl]
  · rw [result, same, queue]
  · rw [result]
    exact outstanding (up is_up) (by simp [queue])

end Sys2Proof.Machine
end

section
/-! PROOFS. The recomputation of the quiet set and the deep set, with what the differences hand out. -/

namespace Sys2Proof.Machine

variable {s b : State} {c : CarrierIx}

/-! ## What the differences hand out -/

/-- One task for each member of a list that has a property. -/
theorem flatMap_if {α β : Type} (p : α → Bool) (f : α → β) (l : List α) :
    (l.flatMap fun a => if p a then [f a] else []) = (l.filter p).map f := by
  induction l with
  | nil => rfl
  | cons a l ih => cases h : p a <;> simp [h, ih]

/-- R91: a carrier that a recomputation takes out of the quiet set. -/
def State.leavesQuiet (b : State) (c : CarrierIx) : Bool :=
  memberOf b.calendar.quiet c.val && !memberOf b.reformSets.calendar.quiet c.val

/-- R93: a carrier that a recomputation takes into the deep set. -/
def State.joinsDeep (b : State) (c : CarrierIx) : Bool :=
  !memberOf b.calendar.deep c.val && memberOf b.reformSets.calendar.deep c.val

/-- R91, R93: the tasks of a recomputation, carrier by carrier. -/
theorem recomputeEffect_eq (b : State) :
    recomputeEffect b = (b.reformSets, b.managedCarriers.flatMap fun c =>
      (if b.leavesQuiet c then [.wake c .windowClose] else []) ++ (if b.joinsDeep c then [.deepen c] else [])) := rfl

/-- A recomputation keeps, but for the sets it forms. -/
theorem keeps_recompute (b : State) : Keeps b.reformSets (recomputeEffect b).finish := keeps_work ..

/-- R91: where no carrier joins the deep set, all that is handed out is the window-close cause. -/
theorem recompute_of_none_joins (none_joins : ∀ c, b.joinsDeep c = false) :
    (recomputeEffect b).finish =
      b.reformSets.work ((b.managedCarriers.filter b.leavesQuiet).map fun c => .wake c .windowClose) := by
  rw [Effect.finish, recomputeEffect_eq]
  simp [none_joins, flatMap_if]

/-- R93: where no carrier leaves the quiet set, all that is handed out is the deepen decision. -/
theorem recompute_of_none_leaves (none_leaves : ∀ c, b.leavesQuiet c = false) :
    (recomputeEffect b).finish = b.reformSets.work ((b.managedCarriers.filter b.joinsDeep).map .deepen) := by
  rw [Effect.finish, recomputeEffect_eq]
  simp [none_leaves, flatMap_if]

/-- With no carrier leaving the quiet set or joining the deep set nothing is handed out. -/
theorem recompute_of_no_difference (none_leaves : ∀ c, b.leavesQuiet c = false)
    (none_joins : ∀ c, b.joinsDeep c = false) : (recomputeEffect b).finish = b.reformSets := by
  rw [recompute_of_none_leaves none_leaves, List.filter_eq_nil_iff.mpr (by simp [none_joins])]
  rfl

theorem leavesQuiet_of_same (same : b.calendar.quiet = b.reformSets.calendar.quiet) (c : CarrierIx) :
    b.leavesQuiet c = false := by
  simp [State.leavesQuiet, ← same]

theorem joinsDeep_of_subset (subset : ∀ c : CarrierIx, memberOf b.reformSets.calendar.deep c.val = true →
    memberOf b.calendar.deep c.val = true) (c : CarrierIx) : b.joinsDeep c = false := by
  cases joined : memberOf b.reformSets.calendar.deep c.val with
  | false => simp [State.joinsDeep, joined]
  | true => simp [State.joinsDeep, subset c joined]

/-! ## The window-close cause -/

/-- R130: with no slot free no grant is made. -/
theorem foldl_grants_of_full (full : s.settings.slots ≤ s.warmups) (n : Nat) {l : List Task}
    (grants : ∀ k ∈ l, k = .grants) : l.foldl (fun s k => runTask n k s) s = s := by
  have idle : runTask n .grants s = s := by
    cases n with
    | zero => rfl
    | succ n => simp [runTask, Task.effect, grantsEffect, Nat.not_lt.mpr full]
  induction l with
  | nil => rfl
  | cons k l ih =>
    obtain rfl := grants k (List.mem_cons_self ..)
    rw [List.foldl_cons, idle]
    exact ih fun k mem => grants k (List.mem_cons_of_mem _ mem)

/-- R92, R124: what the window-close cause does to one carrier. -/
theorem causeTaken_windowClose (s : State) (c : CarrierIx) :
    CauseTaken .ordinary .windowClosed .timed (fun d => d == c) s (wakeEffect c .windowClose s).1 := by
  have idle (awake : (s.lifeState c).isResting = false) :
      CauseTaken .ordinary .windowClosed .timed (fun d => d == c) s s := by
    refine causeTaken_refl ?_ ?_ ?_ ⟨?_, ?_⟩ <;> cases old : s.lifeState c <;>
      simp_all [LifeState.isResting, LifeState.isDrain, LifeState.isSleeper]
  unfold wakeEffect
  cases old : s.lifeState c with
  | doze => exact causeTaken_enterQueued (.inl old) (by simp [State.placeFor, old])
  | slumber => exact causeTaken_enterQueued (.inr old) (by simp [State.placeFor, old])
  | rampdown => exact causeTaken_keepWake (.inl old)
  | deepening => exact causeTaken_keepWake (.inr old)
  | draining | drainHeld =>
    have drain : (s.lifeState c).isDrain = true := by rw [old]; rfl
    have abandoned : (abandonEffect c .windowClosed s).1 = s.enterRestoring c .windowClosed := by
      rw [abandonEffect, if_pos drain]
    exact abandoned ▸ causeTaken_enterRestoring drain
  | queued =>
    have unmoved : s.wakeQueue.promote c .ordinary = s.wakeQueue := by
      unfold WakeQueue.promote
      split
      · rename_i k _
        cases k <;> rfl
      · rfl
    have same : s.setWakeQueue (s.wakeQueue.promote c .ordinary) = s := by rw [unmoved]; rfl
    exact same.symm ▸ idle (by rw [old]; rfl)
  | lost | active | restoring | warmup | unmanaged => exact idle (by rw [old]; rfl)

/-- R92: the window-close cause handed to one carrier while no slot is free, with all that it sets off. -/
theorem runTask_windowClose_of_full (full : s.settings.slots ≤ s.warmups) (n : Nat) :
    runTask (n + 1) (.wake c .windowClose) s = (wakeEffect c .windowClose s).1 := by
  refine foldl_grants_of_full ?_ n fun k mem => wakeEffect_tasks k mem
  rw [show (Task.effect (.wake c .windowClose) s).1 = (wakeEffect c .windowClose s).1 from rfl,
    (causeTaken_windowClose s c).warmups, (keeps_wakeEffect ..).settings]
  exact full

/-- R91, R93: a recomputation hands out no task that may lull. -/
theorem recompute_calm (b : State) : ∀ k ∈ (recomputeEffect b).2, k.mayLull = false := by
  intro k mem
  obtain ⟨c, _, mem⟩ := List.mem_flatMap.mp (recomputeEffect_eq b ▸ mem)
  rcases List.mem_append.mp mem with mem | mem
  · split at mem
    · obtain rfl := List.mem_singleton.mp mem
      rfl
    · cases mem
  · split at mem
    · obtain rfl := List.mem_singleton.mp mem
      rfl
    · cases mem

/-- R91, R124: a managed carrier that leaves the quiet set is woken. -/
theorem recompute_wakes (managed : b.isManaged c = true) (leaves : b.leavesQuiet c = true) :
    Woken .ordinary c (recomputeEffect b).finish := by
  refine woken_work (k := .windowClose) (by decide) ?_ (recompute_calm b) _
  rw [recomputeEffect_eq]
  refine List.mem_flatMap.mpr ⟨c, List.mem_filter.mpr ⟨List.mem_finRange c, managed⟩, ?_⟩
  simp [leaves]

/-- R91, R92: what a recomputation does to the carriers that leave the quiet set. -/
theorem windowClose_recompute (b : State) : WindowClose b (recomputeEffect b).finish := by
  have leaves_eq (c : CarrierIx) : (b.isManaged c && memberOf b.calendar.quiet c.val &&
      !memberOf b.reformSets.calendar.quiet c.val) = (b.isManaged c && b.leavesQuiet c) := Bool.and_assoc ..
  refine ⟨fun c leaves => ?woken, fun full subset => ?taken⟩
  case woken =>
    obtain ⟨managed, left⟩ := (Bool.and_eq_true ..).mp ((leaves_eq c).symm.trans leaves)
    exact recompute_wakes managed left
  case taken =>
    simp only [leaves_eq]
    rw [recompute_of_none_joins (joinsDeep_of_subset subset)]
    obtain ⟨n, fuel⟩ := exists_taskFuel (k := 1) (by decide) b.reformSets
    rw [State.work, fuel, List.foldl_map]
    have listed : b.managedCarriers.filter b.leavesQuiet =
        (List.finRange 32).filter fun c => b.isManaged c && b.leavesQuiet c := by
      rw [State.managedCarriers, List.filter_filter]
      exact List.filter_congr fun c _ => Bool.and_comm ..
    rw [listed, List.foldl_filter]
    have hit (t : State) (c : CarrierIx) (kept : Keeps b.reformSets t) (warmups : t.warmups = b.reformSets.warmups)
        (leaves : (b.isManaged c && b.leavesQuiet c) = true) :
        Keeps t (if b.isManaged c && b.leavesQuiet c then runTask (n + 1) (.wake c .windowClose) t else t) ∧
          CauseTaken .ordinary .windowClosed .timed (fun d => d == c) t
            (if b.isManaged c && b.leavesQuiet c then runTask (n + 1) (.wake c .windowClose) t else t) := by
      have full_still : t.settings.slots ≤ t.warmups := by
        rw [kept.settings, warmups]
        exact full
      rw [if_pos leaves, runTask_windowClose_of_full full_still]
      exact ⟨keeps_wakeEffect .., causeTaken_windowClose t c⟩
    have taken := (causeTaken_foldl _ b.reformSets (fun t c kept warmups _ => hit t c kept warmups)
      (fun t c _ stays => if_neg (by simp [stays])) _ (List.pairwise_lt_finRange 32)).2
    simpa using taken

/-! ## The deepen decision -/

/-- R115: the conditions of the deepen decision. -/
theorem deepenDue_iff : s.deepenDue c = true ↔ s.lifeState c = .doze ∧ (s.profileOf c).deepenDelay ≠ 0 ∧
    (s.profileOf c).deepenDelay * 60000 ≤ (s.carrier c).life.doze ∧ memberOf s.calendar.deep c.val = true ∧
    s.engine.mode = .acting ∧ s.trunkLost = false := by
  change (s.lifeState c == .doze && (s.profileOf c).deepenDelay != 0 &&
    decide ((s.profileOf c).deepenDelay * 60000 ≤ (s.carrier c).life.doze) && memberOf s.calendar.deep c.val &&
    (s.engine.mode == .acting && !s.trunkLost)) = true ↔ _
  simp only [Bool.and_eq_true, beq_iff_eq, bne_iff_ne, decide_eq_true_eq, Bool.not_eq_true', and_assoc]

/-- R93: what a recomputation does to deep permission. -/
theorem deepPermission_recompute (b : State) : DeepPermission b (recomputeEffect b).finish := by
  refine ⟨fun quiet subset => recompute_of_no_difference (leavesQuiet_of_same quiet) (joinsDeep_of_subset subset),
    fun c quiet fresh joined => ?_⟩
  have joins (d : CarrierIx) : b.joinsDeep d = (d == c) := by
    by_cases same : d = c
    · subst same
      simp [State.joinsDeep, joined, fresh]
    · simp [State.joinsDeep, joined, beq_false_of_ne same]
  have decided : (recomputeEffect b).finish = b.reformSets.work (([c].filter b.isManaged).map .deepen) := by
    rw [recompute_of_none_leaves (leavesQuiet_of_same quiet), State.managedCarriers, List.filter_filter,
      ← filter_eq_singleton c, List.filter_filter]
    simp only [joins, Bool.and_comm]
  have inDeep : memberOf b.reformSets.calendar.deep c.val = true := by simp [joined]
  refine ⟨fun may_not => ?rests, fun may _ => ?deepens⟩
  case rests =>
    rw [decided]
    cases managed : b.isManaged c with
    | false => simp [managed, State.work]
    | true =>
      simp only [managed, List.filter_cons, if_true, List.filter_nil, List.map_cons, List.map_nil]
      refine work_deepen_of_not ?_
      by_contra all
      simp only [not_or, Bool.not_eq_false, deepenDue_iff] at all
      obtain ⟨⟨doze, delay, elapsed, _, acting, trunk⟩, used, reachable⟩ := all
      exact may_not ⟨doze, delay, elapsed, acting, trunk, used, reachable⟩
  case deepens =>
    obtain ⟨doze, delay, elapsed, acting, trunk, used, reachable⟩ := may
    have managed : b.isManaged c = true := managed_of doze (by decide)
    simp only [managed, List.filter_cons, if_true, List.filter_nil, List.map_cons, List.map_nil] at decided
    rw [decided]
    exact work_deepen_of_due (deepenDue_iff.mpr ⟨doze, delay, elapsed, inDeep, acting, trunk⟩) used reachable

end Sys2Proof.Machine
end

section
/-! PROOFS. SET-TIME and SET-MODE. -/

namespace Sys2Proof.Machine

variable {s t : State} {r : Request} {rest : List Request}

/-! ## SET-TIME -/

/-- R87: a SET-TIME that is taken. -/
theorem exec_setTime (h : Takes .setTime s r rest) :
    exec .setTime s = .next ((s.taken rest).answer r ((s.taken rest).setTimeChecks r)
      fun s => (recomputeEffect (s.putTime r.minute r.second)).finish.answerDone r) := onRequest_takes _ h

/-- R87, R170: the checks of a SET-TIME whose class is permitted, in their order. -/
theorem setTimeChecks_of_permitted (permitted : r.cls ≤ s.permissions[4]) :
    s.setTimeChecks r = firstOf (r.holds 3) (failIf (1439 < r.minute || 59 < r.second) .badValue) := by
  rw [State.setTimeChecks, permission_ok .setTime permitted, firstOf_none]

/-- R87, 12.2: the minute is the first two bytes of the values. -/
theorem minute_eq (long : 3 ≤ r.values.length) :
    r.minute = (byteAt r.values 0).toNat * 256 + (byteAt r.values 1).toNat := by
  rw [Request.minute, natAt_eq_sum (by omega)]
  simp [List.range_succ]

/-- R87, 12.2: the second is the third byte. -/
theorem second_eq (long : 3 ≤ r.values.length) : r.second = (byteAt r.values 2).toNat := by
  rw [Request.second, natAt_eq_sum (by omega)]
  simp

/-- R86: clearing TIME-UNSET clears no other flag. -/
theorem dropFlag_timeUnset (s : State) (f : Flag) :
    (s.dropFlag .timeUnset).flagRaised f = (s.flagRaised f && f != .timeUnset) := by
  cases f <;> simp [State.dropFlag, State.flagRaised, memberOf, Flag.mask, Flag.position]

/-- R87: what SET-TIME sets before the sets are formed anew. -/
theorem putTime_eq (minute second : Nat) (s : State) :
    s.putTime minute second = { s with
      calendar := { s.calendar with minute := minute, second := second, milli := 0, timeSet := true },
      engine := { s.engine with flags := (s.putTime minute second).engine.flags } } := by
  unfold State.putTime
  dsimp only
  split <;> rfl

/-- R87: the flags after the time is put: TIME-UNSET is cleared if the mark was clear, and no other flag is changed. -/
theorem putTime_flags (minute second : Nat) (s : State) :
    (s.calendar.timeSet = true → (s.putTime minute second).engine.flags = s.engine.flags) ∧
    (s.calendar.timeSet = false → (s.putTime minute second).flagRaised .timeUnset = false ∧
      ∀ f, f ≠ .timeUnset → (s.putTime minute second).flagRaised f = s.flagRaised f) := by
  refine ⟨fun set => by simp [State.putTime, set], fun unset => ?_⟩
  simp only [State.putTime, unset, Bool.false_eq_true, if_false, dropFlag_timeUnset]
  exact ⟨by simp, fun f other => by simp [bne_iff_ne.mpr other]⟩

/-- R87: a SET-TIME that is carried out, from the state in which the time is put to the one that is answered from. -/
theorem recompute_putTime (minute second : Nat) (rest : List Request) (s : State) :
    let b := (s.taken rest).putTime minute second
    let t := (recomputeEffect b).finish
    b = { s with
      calendar := { s.calendar with minute := minute, second := second, milli := 0, timeSet := true },
      engine := { s.engine with requests := rest, flags := b.engine.flags } } ∧
    (s.calendar.timeSet = true → b.engine.flags = s.engine.flags) ∧
    (s.calendar.timeSet = false → b.flagRaised .timeUnset = false ∧
      ∀ f, f ≠ .timeUnset → b.flagRaised f = s.flagRaised f) ∧
    Keeps b.reformSets t ∧
    (∀ c, s.isManaged c = true → memberOf s.calendar.quiet c.val = true → memberOf t.calendar.quiet c.val = false →
      (t.lifeState c).isDrain = false ∧ t.lifeState c ≠ .doze ∧ t.lifeState c ≠ .slumber ∧
        (t.lifeState c = .rampdown ∨ t.lifeState c = .deepening → (t.carrier c).life.wakePending ≠ none)) ∧
    WindowClose b t ∧
    (s.calendar.timeSet = false → t.flagRaised .timeUnset = false) ∧ DeepPermission b t ∧
    (t.calendar.quiet = s.calendar.quiet → t.calendar.deep = s.calendar.deep → t = b.reformSets) := by
  intro b t
  have put : b = { s with
      calendar := { s.calendar with minute := minute, second := second, milli := 0, timeSet := true },
      engine := { s.engine with requests := rest, flags := b.engine.flags } } := putTime_eq minute second (s.taken rest)
  obtain ⟨flags, cleared⟩ := putTime_flags minute second (s.taken rest)
  have kept : Keeps b.reformSets t := keeps_recompute b
  have managed (c : CarrierIx) : b.isManaged c = s.isManaged c := by rw [put]; rfl
  have quiet : b.calendar.quiet = s.calendar.quiet := by rw [put]
  have deep : b.calendar.deep = s.calendar.deep := by rw [put]
  refine ⟨put, flags, cleared, kept, fun c is_managed was_quiet left => ?leaves, windowClose_recompute b,
    fun unset => ?unset, deepPermission_recompute b, fun same_quiet same_deep => ?same⟩
  case leaves =>
    have leaves : b.leavesQuiet c = true := by
      rw [kept.calendar] at left
      simp [State.leavesQuiet, quiet, was_quiet, left]
    obtain ⟨doze, slumber, drain, mark⟩ := recompute_wakes ((managed c).trans is_managed) leaves
    refine ⟨drain, doze, slumber, fun resting unmarked => ?_⟩
    obtain ⟨k, marked, _⟩ := mark resting
    exact Option.some_ne_none k (marked.symm.trans unmarked)
  case unset => exact kept.timeUnset.trans (cleared unset).1
  case same =>
    rw [kept.calendar] at same_quiet same_deep
    exact recompute_of_no_difference (leavesQuiet_of_same (quiet.trans same_quiet.symm))
      (joinsDeep_of_subset fun c joined => by rw [deep, ← same_deep]; exact joined)

/-! ## SET-MODE -/

/-- R174: the modes that SET-MODE can carry. -/
theorem readMode_of_toNat {v : Byte} :
    (v.toNat = 1 → readMode v = some .monitor) ∧ (v.toNat = 2 → readMode v = some .acting) ∧
      (v.toNat ≠ 1 → v.toNat ≠ 2 → readMode v = none) := by
  unfold readMode
  refine ⟨fun h => by simp [h], fun h => by simp [h], fun one two => ?_⟩
  split
  · contradiction
  · contradiction
  · rfl

/-- A request with any values has the one byte that SET-MODE needs. -/
theorem holds_given (given : r.values ≠ []) : r.holds 1 = none :=
  holds_ok 1 (List.length_pos_of_ne_nil given)

/-- R174, R181: a SET-MODE whose values are short. -/
theorem exec_setMode_of_empty (h : Takes .setMode s r rest) (permitted : r.cls ≤ s.permissions[5])
    (empty : r.values = []) : exec .setMode s = .next ((s.taken rest).respond r .badLength 0 []) := by
  have ok : (s.taken rest).permission r .setMode = none := permission_ok .setMode permitted
  have taken : exec .setMode s = _ := onRequest_takes _ h
  rw [taken, ok, firstOf_none, holds_short 1 (by simp [empty])]
  rfl

/-- R174: a SET-MODE that carries no mode. -/
theorem exec_setMode_of_no_mode (h : Takes .setMode s r rest) (permitted : r.cls ≤ s.permissions[5])
    (given : r.values ≠ []) (none_read : readMode (byteAt r.values 0) = none) :
    exec .setMode s = .next ((s.taken rest).respond r .badValue 0 []) := by
  have ok : (s.taken rest).permission r .setMode = none := permission_ok .setMode permitted
  have taken : exec .setMode s = _ := onRequest_takes _ h
  rw [taken, ok, firstOf_none, holds_given given, none_read]
  rfl

/-- R174: a SET-MODE that carries a mode is refused or carried out by the activated mark. -/
theorem exec_setMode_of_mode {m : Mode} (h : Takes .setMode s r rest) (permitted : r.cls ≤ s.permissions[5])
    (given : r.values ≠ []) (mode : readMode (byteAt r.values 0) = some m) :
    exec .setMode s = .next ((s.taken rest).answer r (failIf (!(s.taken rest).classifier.activated) .notReady)
      fun s => (s.putMode m).answerDone r) := by
  have ok : (s.taken rest).permission r .setMode = none := permission_ok .setMode permitted
  have taken : exec .setMode s = _ := onRequest_takes _ h
  rw [taken, ok, firstOf_none, holds_given given, mode]

/-- R174: a SET-MODE that passes its checks. -/
theorem exec_setMode_of_active {m : Mode} (h : Takes .setMode s r rest) (permitted : r.cls ≤ s.permissions[5])
    (given : r.values ≠ []) (mode : readMode (byteAt r.values 0) = some m) (active : s.classifier.activated = true) :
    exec .setMode s = .next (((s.taken rest).putMode m).respond r .done 0 []) := by
  rw [exec_setMode_of_mode h permitted given mode, taken_classifier, active]
  rfl

/-- R174: a change of mode other than from ACTING to MONITOR moves no carrier. -/
theorem putMode_of_other {m : Mode} (h : ¬(s.engine.mode = .acting ∧ m = .monitor)) :
    s.putMode m = s.setEngine { s.engine with mode := m } := if_neg h

/-- R106: an abandonment sets off no further task, so those of one event are carried out one after another. -/
theorem work_abandon (l : List CarrierIx) (cause : Cause) (s : State) :
    s.work (l.map fun c => .abandon c cause) = l.foldl (fun s c => (abandonEffect c cause s).1) s := by
  obtain ⟨n, fuel⟩ := exists_taskFuel (k := 1) (by decide) s
  rw [State.work, fuel, List.foldl_map]
  congr 1
  funext s c
  have alone : (abandonEffect c cause s).2 = [] := by
    unfold abandonEffect
    split <;> rfl
  rw [runTask, Task.effect, alone, List.foldl_nil]

/-- R121: on leaving ACTING every drain is abandoned, in ascending carrier index, with the cause MODE; nothing else
changes. -/
theorem putMode_of_leaving (acting : s.engine.mode = .acting) :
    let set := s.setEngine { s.engine with mode := .monitor }
    Keeps set (s.putMode .monitor) ∧
      CauseTaken .ordinary .mode .requested (fun c => (s.lifeState c).isDrain) set (s.putMode .monitor) := by
  intro set
  have put : s.putMode .monitor = set.managedCarriers.foldl (fun s c => (abandonEffect c .mode s).1) set := by
    rw [← work_abandon]
    exact if_pos ⟨acting, rfl⟩
  have done := causeTaken_foldl (cause := .mode) (origin := .requested) (reached := fun c => (s.lifeState c).isDrain)
    (fun s c => (abandonEffect c .mode s).1) set (fun t c _ _ state drain => ?hit) (fun t c state calm => ?miss)
    set.managedCarriers ((List.pairwise_lt_finRange 32).filter _)
  case hit =>
    have drains : (t.lifeState c).isDrain = true := state ▸ drain
    refine ⟨keeps_abandonEffect .., ?_⟩
    rw [abandonEffect, if_pos drains]
    exact causeTaken_enterRestoring drains
  case miss =>
    have calm_still : ¬(t.lifeState c).isDrain = true := by
      rw [state]
      exact (Bool.eq_false_iff ..).mp calm
    rw [abandonEffect, if_neg calm_still]
  have reached : (fun c => decide (c ∈ set.managedCarriers.filter fun c => (s.lifeState c).isDrain)) =
      fun c => (s.lifeState c).isDrain := by
    funext c
    rw [Bool.eq_iff_iff]
    simp only [State.managedCarriers, List.mem_filter, List.mem_finRange, true_and, decide_eq_true_eq]
    exact ⟨And.right, fun drain => ⟨isDrain_managed drain, drain⟩⟩
  rw [reached, ← put] at done
  exact done

/-- R121: after the abandonment no carrier drains, and no other carrier has changed its state. -/
theorem CauseTaken.no_drain {cause : Cause} {origin : Origin}
    {reached : CarrierIx → Bool} (h : CauseTaken .ordinary cause origin reached s t)
    (drains : ∀ c, reached c = (s.lifeState c).isDrain) (c : CarrierIx) :
    (t.lifeState c).isDrain = false ∧ ((s.lifeState c).isDrain = false → t.lifeState c = s.lifeState c) := by
  rw [h.states c, drains c]
  cases old : s.lifeState c with
  | draining | drainHeld =>
    simp only [LifeState.isDrain]
    split_ifs <;> simp_all
  | _ => simp [LifeState.isDrain]

/-! ## The statement -/

/-- Settles O46: the checks in their order; the recomputation with what it hands out; and the abandonment of the drains. -/
theorem setTimeAndSetMode : Obligations.SetTimeAndSetMode := by
  refine ⟨fun r rest s takes permitted => ?time, fun r rest s takes permitted => ?mode⟩
  case time =>
    have checks := setTimeChecks_of_permitted (s := s.taken rest) permitted
    rw [exec_setTime takes, checks]
    refine ⟨fun short => ?short, fun long range => ?range, fun long minute second => ?done⟩
    case short => rw [holds_short 3 short, firstOf_some, answer_some]
    case range =>
      have bad : (1439 < r.minute || 59 < r.second) = true := by simpa [minute_eq long, second_eq long] using range
      rw [holds_ok 3 long, firstOf_none, bad, failIf_true, answer_some]
    case done =>
      have good : (1439 < r.minute || 59 < r.second) = false := by
        simpa [minute_eq long, second_eq long] using ⟨minute, second⟩
      rw [holds_ok 3 long, firstOf_none, good, failIf_false, answer_none, ← minute_eq long, ← second_eq long]
      exact ⟨_, _, rfl, recompute_putTime ..⟩
  case mode =>
    obtain ⟨monitor, acting, neither⟩ := readMode_of_toNat (v := byteAt r.values 0)
    refine ⟨fun empty => ?empty, fun given one two => ?value, fun given value inactive => ?inactive,
      fun given two active => ?acting, fun given one active idle => ?monitor, fun given one active leaving => ?leaving⟩
    case empty => exact exec_setMode_of_empty takes permitted empty
    case value => exact exec_setMode_of_no_mode takes permitted given (neither one two)
    case inactive =>
      have read : ∃ m, readMode (byteAt r.values 0) = some m := value.elim (⟨_, monitor ·⟩) (⟨_, acting ·⟩)
      obtain ⟨m, read⟩ := read
      rw [exec_setMode_of_mode takes permitted given read, taken_classifier, inactive]
      rfl
    case acting =>
      rw [exec_setMode_of_active takes permitted given (acting two) active, putMode_of_other (by simp)]
      rfl
    case monitor =>
      rw [exec_setMode_of_active takes permitted given (monitor one) active,
        putMode_of_other (s := s.taken rest) (fun leaving => idle leaving.1)]
      rfl
    case leaving =>
      obtain ⟨kept, taken⟩ := putMode_of_leaving (s := s.taken rest) leaving
      exact ⟨_, exec_setMode_of_active takes permitted given (monitor one) active, kept, taken,
        taken.no_drain fun _ => rfl⟩

end Sys2Proof.Machine
end

section
/-! PROOFS. The laws of the tables, the meters and the frame path, over everything that an event can do: `Upholds` says that
these five laws hold after it if they held before, and `Orderly` adds that the waiting commands are left alone. -/

namespace Sys2Proof.Machine

variable {s t u : State}

/-! ## What a law reads -/

theorem InRange.of_eq (h : InRange s) (settings : t.settings = s.settings := by rfl)
    (permissions : t.permissions = s.permissions := by rfl) (profiles : t.profiles = s.profiles := by rfl)
    (carrierConfig : t.carrierConfig = s.carrierConfig := by rfl) (unitConfig : t.unitConfig = s.unitConfig := by rfl)
    (actions : t.actions = s.actions := by rfl) (classifier : t.classifier = s.classifier := by rfl)
    (windows : t.windows = s.windows := by rfl) (calendar : t.calendar = s.calendar := by rfl)
    (token : 1 ≤ s.token ∧ s.token ≤ 255 → 1 ≤ t.token ∧ t.token ≤ 255 := by exact fun h => h)
    (requests : s.engine.requests.length ≤ Config.requestRoom → t.engine.requests.length ≤ Config.requestRoom := by
      exact fun h => h)
    (notices : s.engine.notices.length ≤ Config.noticeRoom → t.engine.notices.length ≤ Config.noticeRoom := by
      exact fun h => h) : InRange t where
  settings := settings ▸ h.settings
  permissions := by rw [permissions]; exact h.permissions
  profiles := by rw [profiles]; exact h.profiles
  carriers := by simp only [State.config, carrierConfig]; exact h.carriers
  radioUnits := by simp only [State.unitSettings, unitConfig]; exact h.radioUnits
  actions := by rw [actions]; exact h.actions
  entries := by rw [classifier]; exact h.entries
  windows := by rw [windows]; exact h.windows
  calendar := by rw [calendar]; exact h.calendar
  token := token h.token
  requests := requests h.requests
  notices := notices h.notices

/-- What `MetersInRange` asks of one meter part. -/
def Meter.fits (m : Meter) : Prop :=
  m.tally ≤ top32 ∧ m.sample ≤ Config.fullSample ∧ m.figure ≤ 65536 ∧ m.idleRun ≤ 255 ∧ m.quietRun ≤ 255 ∧
    (m.primed = false → m = { Meter.clear with tally := m.tally })

theorem metersInRange_iff : MetersInRange s ↔ ∀ c, (s.carrier c).meter.fits := Iff.rfl

theorem Meter.fits_clear : Meter.clear.fits := by simp [Meter.fits, Meter.clear]

theorem Meter.fits_windowEnd {m : Meter} (h : m.fits) (k : CarrierConfig) (p : Profile) (state : LifeState)
    (length : Nat) : (m.windowEnd k p state length).fits := by
  obtain ⟨tally, sample, figure, idleRun, quietRun, unprimed⟩ := h
  unfold Meter.windowEnd
  split
  · have sampled := occupancy_le m.tally (availableUnits k length)
    refine ⟨Nat.zero_le _, sampled, nextFigure_le _ figure (by omega), ?_, ?_, by simp⟩
    · unfold nextIdleRun addCapped; dsimp only; split <;> omega
    · unfold nextQuietRun addCapped; dsimp only; split <;> (try split) <;> omega
  · exact ⟨Nat.zero_le _, sample, figure, idleRun, quietRun, by simp⟩

/-- R57: the drain-quiet run is all that a change of state touches in a meter part. -/
theorem Meter.fits_onMove {m : Meter} (h : m.fits) (old new : LifeState) : (m.onMove old new).fits := by
  unfold Meter.onMove
  split
  · exact h
  · split
    · obtain ⟨tally, sample, figure, idleRun, quietRun, unprimed⟩ := h
      refine ⟨tally, sample, figure, idleRun, Nat.zero_le _, fun clear => ?_⟩
      exact congrArg (fun n : Meter => { n with quietRun := 0 }) (unprimed clear)
    · exact h

theorem Keeps.meter_fits (h : Keeps s t) (c : CarrierIx) (fits : (s.carrier c).meter.fits) :
    (t.carrier c).meter.fits := by
  obtain ⟨tally, sample, figure, idleRun, quietRun, unprimed⟩ := fits
  have run := h.quietRun c
  refine ⟨h.tally c ▸ tally, h.sample c ▸ sample, h.figure c ▸ figure, h.idleRun c ▸ idleRun, run.trans quietRun,
    fun clear => ?_⟩
  have whole := unprimed (by rw [← h.primed c]; exact clear)
  have quiet : (s.carrier c).meter.quietRun = 0 := by rw [whole]; rfl
  have sample : (s.carrier c).meter.sample = 0 := by rw [whole]; rfl
  have figure : (s.carrier c).meter.figure = 0 := by rw [whole]; rfl
  have idleRun : (s.carrier c).meter.idleRun = 0 := by rw [whole]; rfl
  rw [← h.sample c] at sample
  rw [← h.figure c] at figure
  rw [← h.idleRun c] at idleRun
  rw [quiet, Nat.le_zero] at run
  revert clear sample figure idleRun run
  cases (t.carrier c).meter
  simp +contextual [Meter.clear]

/-! ## The five laws over an event -/

/-- The five laws hold at `t` if they do at `s`. -/
structure Upholds (s t : State) : Prop where
  inRange : InRange s → InRange t := by exact fun h => h.of_eq
  meters : MetersInRange s → MetersInRange t := by exact fun h => h
  grace : GraceLaw s → GraceLaw t := by exact fun h => h
  egress : EgressLaw s → EgressLaw t := by exact fun h => h
  swap : SwapLaw s → SwapLaw t := by exact fun h => h

/-- And the waiting commands, and the count of free choices, are left alone. -/
structure Orderly (s t : State) : Prop extends Upholds s t where
  pending : t.pending = s.pending := by rfl
  freeCounter : t.freeCounter = s.freeCounter := by rfl

theorem Orderly.refl (s : State) : Orderly s s where

theorem Orderly.trans (h : Orderly s t) (k : Orderly t u) : Orderly s u where
  inRange a := k.inRange (h.inRange a)
  meters a := k.meters (h.meters a)
  grace a := k.grace (h.grace a)
  egress a := k.egress (h.egress a)
  swap a := k.swap (h.swap a)
  pending := k.pending.trans h.pending
  freeCounter := k.freeCounter.trans h.freeCounter

theorem Orderly.ite {p : Prop} [Decidable p] (h : p → Orderly s t) (k : ¬p → Orderly s u) :
    Orderly s (if p then t else u) := by
  split
  · exact h ‹_›
  · exact k ‹_›

theorem orderly_foldl {α : Type} (f : State → α → State) (h : ∀ s a, Orderly s (f s a)) (l : List α) (s : State) :
    Orderly s (l.foldl f s) := by
  induction l generalizing s with
  | nil => exact .refl s
  | cons a as ih => exact (h s a).trans (ih (f s a))

/-- What the cascade of an event may change touches none of the laws. -/
theorem Keeps.orderly (h : Keeps s t) : Orderly s t where
  inRange a := a.of_eq h.settings h.permissions h.profiles h.carrierConfig h.unitConfig h.actions h.classifier h.windows
    h.calendar h.token (by rw [h.requests]; exact id) h.notices
  meters a := metersInRange_iff.mpr fun c => h.meter_fits c (a c)
  grace a := by unfold GraceLaw; rw [h.grace, h.trunkState]; exact a
  egress a port := h.egress port (a port)
  swap a := by unfold SwapLaw; rw [h.classifier]; exact a
  pending := h.pending
  freeCounter := h.freeCounter

theorem orderly_finish {e : Effect} (h : Orderly s e.1) : Orderly s e.finish := h.trans (keeps_work ..).orderly

/-! ## Single fields -/

theorem orderly_setUnit (s : State) (v : UnitIx) (x : RadioUnit) : Orderly s (s.setUnit v x) where

theorem orderly_setWakeQueue (s : State) (q : WakeQueue) : Orderly s (s.setWakeQueue q) where

theorem orderly_setLockOuts (s : State) (v : Vector (Option Nat) 8) : Orderly s (s.setLockOuts v) where

theorem orderly_newMoment (s : State) : Orderly s s.newMoment where

theorem orderly_setEngine (s : State) (e : Engine)
    (requests : s.engine.requests.length ≤ Config.requestRoom → e.requests.length ≤ Config.requestRoom)
    (notices : s.engine.notices.length ≤ Config.noticeRoom → e.notices.length ≤ Config.noticeRoom) :
    Orderly s (s.setEngine e) where
  inRange h := h.of_eq (requests := requests) (notices := notices)

theorem orderly_setPath (s : State) (p : FramePath)
    (grace : GraceLaw s → (p.grace.isSome = true ↔ p.trunkState = .failing ∨ p.trunkState = .returning))
    (egress : ∀ port, (s.path.queue port).used ≤ Config.queueRoom port → (p.queue port).used ≤ Config.queueRoom port) :
    Orderly s (s.setPath p) where
  grace h := grace h
  egress h port := egress port (h port)

theorem orderly_setQueue (s : State) (port : Port) (q : EgressQueue)
    (room : (s.path.queue port).used ≤ Config.queueRoom port → q.used ≤ Config.queueRoom port) :
    Orderly s (s.setPath (s.path.setQueue port q)) := by
  refine orderly_setPath s _ (fun h => ?_) fun other h => ?_
  · simpa [GraceLaw] using h
  · rw [FramePath.setQueue_queue]
    split
    · subst other; exact room h
    · exact h

theorem orderly_setCarrier (s : State) (c : CarrierIx) (x : Carrier)
    (fits : (s.carrier c).meter.fits → x.meter.fits) : Orderly s (s.setCarrier c x) where
  meters h := metersInRange_iff.mpr fun d => by
    rw [State.setCarrier_carrier]
    split
    · subst d; exact fits (h c)
    · exact h d

theorem orderly_setCalendar (s : State) (k : Calendar)
    (range : InRange s → k.minute ≤ 1439 ∧ k.second ≤ 59 ∧ k.milli ≤ 999) : Orderly s (s.setCalendar k) where
  inRange h := { h with calendar := range h }

theorem orderly_setSettings (s : State) (k : Settings) (range : s.settings.inRange → k.inRange) :
    Orderly s (s.setSettings k) where
  inRange h := { h with settings := range h.settings }

theorem orderly_setClassifier (s : State) (k : Classifier)
    (entries : InRange s → ∀ (b : Bool) (i : Fin 64), (k.bank b)[i] = Entry.cold ∨ ((k.bank b)[i]).fits)
    (swap : SwapLaw s → SwapLaw (s.setClassifier k)) : Orderly s (s.setClassifier k) where
  inRange h := { h with entries := entries h }
  swap := swap

theorem orderly_setConfig (s : State) (c : CarrierIx) (k : CarrierConfig) (fits : k.managed = true → k.fits) :
    Orderly s (s.setConfig c k) where
  inRange h := { h with
    carriers := fun d managed => by
      simp only [State.setConfig_config] at managed ⊢
      split
      · simp_all
      · simp_all [h.carriers d] }

end Sys2Proof.Machine
end

section
/-! PROOFS. Every command is orderly: frames, walks, links, requests, writes, resets and timers, arm by arm. -/

namespace Sys2Proof.Machine

variable {s t u : State}

/-! ## Frames -/

theorem orderly_offerPass (port : Port) (bytes : List Byte) (s : State) : Orderly s (s.offerPass port bytes) := by
  unfold State.offerPass
  exact .ite (fun _ => orderly_setQueue _ _ _ (used_offerPass _ _ _)) fun _ => .refl s

theorem orderly_forward (ports : Byte) (port : Port) (bytes : List Byte) (s : State) :
    Orderly s (s.forward ports port bytes) := by
  cases port with
  | trunk =>
    exact orderly_foldl _ (fun s n => .ite (fun _ => orderly_offerPass ..) fun _ => .refl s) _ s
  | branch n => exact orderly_offerPass ..

theorem orderly_arriveRequest (cls : Nat) (source : Addr) (body : List Byte) (s : State) :
    Orderly s (s.arriveRequest cls source body) := by
  unfold State.arriveRequest
  refine .ite (fun _ => .ite (fun room => orderly_setEngine s _ (fun _ => ?_) id) fun _ => (keeps_inject ..).orderly)
    fun _ => .refl s
  simp only [List.length_append, List.length_singleton]
  omega

theorem orderly_beginWalk (port : Port) (bytes : List Byte) (s : State) : Orderly s (s.beginWalk port bytes) := by
  refine orderly_setClassifier s _ (fun h => h.entries) fun law pending => ?_
  obtain ⟨w, mem, other⟩ := law pending
  exact ⟨w, List.mem_append_left _ mem, other⟩

theorem orderly_receive (port : Port) (bytes : List Byte) (s : State) : Orderly s (s.receive port bytes) := by
  have route (port : Port) : Orderly s (s.routeFrame port bytes) := by
    unfold State.routeFrame
    cases s.engine.mode with
    | transparent => exact orderly_forward ..
    | monitor => exact orderly_beginWalk ..
    | acting => exact orderly_beginWalk ..
  cases port with
  | trunk => exact .ite (fun _ => orderly_arriveRequest ..) fun _ => route _
  | branch n => exact route _

/-- R7: what waits moves up; what was sent is gone. -/
theorem used_finish_le (q : EgressQueue) : q.finish.used ≤ q.used := by
  rw [EgressQueue.finish, used_start]
  simp only [EgressQueue.used, Option.elim_none]
  omega

theorem orderly_transmissionEnd (port : Port) (s : State) :
    Orderly s (s.setPath (s.path.setQueue port (s.path.queue port).finish)) :=
  orderly_setQueue _ _ _ (used_finish_le _).trans

/-! ## The swap -/

/-- R26, R27: after the test of a pending swap, it is pending only with a walk bound to the outgoing bank. -/
theorem swapLaw_settleSwap (s : State) : SwapLaw s.settleSwap := by
  unfold State.settleSwap
  split
  · rename_i none
    exact fun pending => absurd none pending
  · split
    · rename_i free
      have cleared (mirror : Bool) :
          (((s.setClassifier (s.classifier.completeSwap mirror)).answerSwap mirror).classifier.swap = none) := by
        unfold State.answerSwap
        split
        · rfl
        · rw [(tells_respond ..).keeps.classifier]; rfl
      exact fun pending => absurd (cleared _) pending
    · rename_i bound
      intro _
      simpa [Classifier.outgoingFree] using bound

/-- R27: the mirror copy puts one bank in the place of the other. -/
theorem bank_completeSwap (mirror : Bool) (k : Classifier) (b : Bool) :
    (k.completeSwap mirror).bank b = k.bank b ∨ (k.completeSwap mirror).bank b = k.bank k.selector := by
  unfold Classifier.completeSwap
  cases mirror with
  | false => exact .inl rfl
  | true => cases selector : k.selector <;> cases b <;> simp [Classifier.bank, Classifier.setBank, selector]

theorem entries_completeSwap (mirror : Bool) {k : Classifier}
    (h : ∀ (b : Bool) (i : Fin 64), (k.bank b)[i] = Entry.cold ∨ ((k.bank b)[i]).fits) (b : Bool) (i : Fin 64) :
    ((k.completeSwap mirror).bank b)[i] = Entry.cold ∨ (((k.completeSwap mirror).bank b)[i]).fits := by
  obtain e | e := bank_completeSwap mirror k b <;> rw [e] <;> exact h _ i

theorem InRange.setClassifier (h : InRange s) {k : Classifier}
    (entries : ∀ (b : Bool) (i : Fin 64), (k.bank b)[i] = Entry.cold ∨ ((k.bank b)[i]).fits) :
    InRange (s.setClassifier k) := { h with entries := entries }

/-- The test of a pending swap upholds everything, whatever walks are under way. -/
theorem orderly_settleSwap_of {k : Classifier} (e : Engine) (s : State)
    (entries : InRange s → ∀ (b : Bool) (i : Fin 64), (k.bank b)[i] = Entry.cold ∨ ((k.bank b)[i]).fits)
    (requests : e.requests = s.engine.requests) (notices : e.notices = s.engine.notices) :
    Orderly s ((s.setClassifier k).setEngine e).settleSwap := by
  have begun : Orderly s ({ (s.setClassifier k).setEngine e with classifier := s.classifier } : State) :=
    orderly_setEngine s e (by rw [requests]; exact id) (by rw [notices]; exact id)
  have rest : ∀ v, Orderly (((s.setClassifier k).setEngine e)) v → InRange s → InRange v := fun v h range =>
    h.inRange ((range.of_eq (t := s.setEngine e) (requests := by rw [State.setEngine_engine, requests]; exact id)
      (notices := by rw [State.setEngine_engine, notices]; exact id)).setClassifier (entries range))
  have answered (mirror : Bool) (v : State) : Orderly v (v.answerSwap mirror) := by
    unfold State.answerSwap
    split
    · exact .refl v
    · exact Orderly.trans (orderly_setEngine v { v.engine with activating := none } id id)
        (tells_respond ..).keeps.orderly
  have law := swapLaw_settleSwap ((s.setClassifier k).setEngine e)
  unfold State.settleSwap at law ⊢
  split
  · rename_i none
    exact { begun with
      inRange := rest _ (.refl _), swap := fun _ => by simpa only [none] using law }
  · rename_i mirror pending
    have whole := answered mirror
      (((s.setClassifier k).setEngine e).setClassifier (((s.setClassifier k).setEngine e).classifier.completeSwap mirror))
    simp only [pending] at law
    split
    · rename_i free
      rw [if_pos free] at law
      exact {
        inRange := fun range => whole.inRange
          ((rest _ (.refl _) range).setClassifier (entries_completeSwap mirror (entries range)))
        meters := fun h => whole.meters h
        grace := fun h => whole.grace h
        egress := fun h => whole.egress h
        swap := fun _ => law
        pending := whole.pending
        freeCounter := whole.freeCounter }
    · rename_i bound
      rw [if_neg bound] at law
      exact { begun with inRange := rest _ (.refl _), swap := fun _ => law }

theorem orderly_settleSwap (s : State) : Orderly s s.settleSwap :=
  orderly_settleSwap_of (k := s.classifier) s.engine s (fun h => h.entries) rfl rfl

/-! ## The Action Table -/

theorem orderly_raiseFlag (f : Flag) (h : f ≠ .timeUnset) (s : State) : Orderly s (s.raiseFlag f) :=
  (keeps_raiseFlag s f h).orderly

theorem addCapped_le (top n d : Nat) : addCapped top n d ≤ top := Nat.min_le_left ..

theorem orderly_tallyFrame (a : ActionEntry) (c : CarrierIx) (bytes : List Byte) (s : State) :
    Orderly s (s.tallyFrame a c bytes) := by
  unfold State.tallyFrame
  refine Orderly.trans (.ite (fun _ => orderly_raiseFlag .unitsClamped (by decide) s) fun _ => .refl s)
    (orderly_setCarrier _ _ _ fun fits => ?_)
  obtain ⟨-, sample, figure, idleRun, quietRun, unprimed⟩ := fits
  exact ⟨addCapped_le .., sample, figure, idleRun, quietRun, fun clear => by
    rw [unprimed clear]⟩

theorem orderly_setCounters (c : CarrierIx) (k : FrameCounters) (s : State) : Orderly s (s.setCounters c k) :=
  orderly_setCarrier _ _ _ id

theorem orderly_meterFrame (tallies : Bool) (a : ActionEntry) (c : CarrierIx) (port : Port) (bytes : List Byte)
    (s : State) : Orderly s (meterFrame tallies a c port bytes s).1 := by
  have tallied (p : Prop) [Decidable p] (s : State) : Orderly s (if p then s.tallyFrame a c bytes else s) :=
    .ite (fun _ => orderly_tallyFrame ..) fun _ => .refl s
  unfold meterFrame
  dsimp only
  cases port with
  | branch n => exact (orderly_offerPass ..).trans (tallied _ _)
  | trunk =>
    dsimp only
    split
    · exact (orderly_offerPass ..).trans (tallied _ _)
    · have held : Orderly s (s.countHeldOff c) := orderly_setCounters ..
      split
      · exact held
      · split
        · exact held.trans ((orderly_setCounters ..).trans (orderly_raiseFlag .slumberTriggerMissed (by decide) _))
        · exact held

theorem orderly_keyedFrame (tallies : Bool) (a : ActionEntry) (port : Port) (bytes : List Byte) (s : State) :
    Orderly s (keyedFrame tallies a port bytes s).1 := by
  unfold keyedFrame
  split
  · exact orderly_meterFrame ..
  · exact (orderly_forward ..).trans (orderly_raiseFlag .unknownKey (by decide) _)

theorem orderly_priorityFrame (a : ActionEntry) (port : Port) (bytes : List Byte) (s : State) :
    Orderly s (priorityFrame a port bytes s).1 := by
  refine (orderly_forward a.portSet port bytes s).trans ?_
  exact .ite (fun _ => .refl _) fun _ => orderly_setLockOuts ..

/-! ## What the partners send -/

theorem orderly_releaseUnit (v : UnitIx) (s : State) : Orderly s (s.releaseUnit v) :=
  ((keeps_advanceToken s).orderly.trans (orderly_setUnit ..)).trans (keeps_inject ..).orderly

theorem orderly_unitDeepEnded (v : UnitIx) (how : DirectiveEnd) (s : State) :
    Orderly s (unitDeepEnded v how s).1 := by
  unfold unitDeepEnded
  split
  case h_1 =>
    dsimp only
    split
    · exact (orderly_setUnit ..).trans (orderly_releaseUnit ..)
    · exact orderly_setUnit ..
  all_goals exact orderly_setUnit ..

theorem orderly_endDirective (v : UnitIx) (how : DirectiveEnd) (s : State) : Orderly s (endDirective v how s).1 := by
  unfold endDirective
  split
  · exact .refl s
  · dsimp only
    split
    · exact (orderly_setUnit ..).trans (orderly_unitDeepEnded ..)
    · exact orderly_setUnit ..

theorem orderly_enterRestoring (c : CarrierIx) (cause : Cause) (managed : s.isManaged c = true) :
    Orderly s (s.enterRestoring c cause) := (keeps_enterRestoring managed).orderly

theorem orderly_unsolicitedReply (v : UnitIx) (link : Nat) (r : Report) (s : State) :
    Orderly s (unsolicitedReply v link r s).1 := by
  unfold unsolicitedReply
  split
  · exact orderly_setUnit ..
  · split
    case h_1 => exact .refl s
    case h_2 =>
      exact .ite (fun lost => orderly_enterRestoring _ _ (managed_of lost (by simp))) fun _ => .refl s
    all_goals exact orderly_setUnit ..

theorem orderly_radioReply (v : UnitIx) (body : List Byte) (s : State) : Orderly s (radioReply v body s).1 := by
  have take (token link : Nat) (r : Report) : Orderly s (takeReply v token link r s).1 := by
    unfold takeReply
    split
    · exact orderly_unsolicitedReply ..
    · split
      · exact orderly_endDirective ..
      · exact orderly_raiseFlag .lateReply (by decide) s
  unfold radioReply
  split
  · exact .refl s
  · exact orderly_setUnit ..
  · exact .ite (fun _ => .refl s) fun _ => orderly_raiseFlag .lateReply (by decide) s
  · dsimp only
    split
    · exact take ..
    · exact take ..

theorem orderly_stray (s : State) : Orderly s (s.raiseFlag .strayAdvisory) := orderly_raiseFlag _ (by decide) s

theorem orderly_drainedReply (c : CarrierIx) (s : State) : Orderly s (drainedReply c s).1 := by
  unfold drainedReply
  split
  case h_1 => exact (orderly_newMoment s).trans (keeps_completeDrain ..).orderly
  case h_2 => exact orderly_setCarrier _ _ _ id
  all_goals exact orderly_stray s

theorem orderly_advisoryReply (body : List Byte) (s : State) : Orderly s (advisoryReply body s).1 := by
  unfold advisoryReply
  split
  · exact orderly_stray s
  · split
    · exact orderly_stray s
    · exact orderly_drainedReply ..
    · unfold declineReply
      split
      · exact (keeps_abandonEffect ..).orderly
      · exact orderly_stray s

theorem orderly_disposeFrame (n : Nat) (port : Port) (bytes : List Byte) (s : State) :
    Orderly s (disposeFrame n port bytes s).1 := by
  have fault : Orderly s (s.raiseFlag .actionFault) := orderly_raiseFlag _ (by decide) s
  unfold disposeFrame
  split
  · exact (orderly_forward ..).trans (orderly_raiseFlag _ (by decide) _)
  · split
    · exact orderly_forward ..
    · exact .refl s
    · exact orderly_keyedFrame ..
    · exact orderly_keyedFrame ..
    · exact orderly_priorityFrame ..
    · exact orderly_arriveRequest ..
    · exact fault
    · exact fault
    · exact orderly_radioReply ..
    · exact orderly_advisoryReply ..
    · exact fault

theorem orderly_endWalk (w : Walk) (ws : List Walk) (s : State) : Orderly s (endWalk w ws s).1 := by
  have settled : Orderly s (s.setClassifier { s.classifier with walks := ws }).settleSwap :=
    orderly_settleSwap_of s.engine s (fun h => h.entries) rfl rfl
  unfold endWalk
  dsimp only
  split
  · exact settled.trans (orderly_disposeFrame ..)
  · exact (settled.trans (orderly_raiseFlag .classifyFault (by decide) _)).trans (orderly_disposeFrame ..)

/-! ## Links -/

theorem queue_dropBranch (n : UnitIx) (p : FramePath) (port : Port) :
    (p.dropBranch n).queue port = if port = .branch n then EgressQueue.empty else p.queue port := by
  rw [← FramePath.setQueue_queue p (.branch n) port]
  cases port <;> rfl

theorem used_empty : EgressQueue.empty.used = 0 := rfl

theorem orderly_dropBranch (n : UnitIx) (s : State) : Orderly s (s.setPath (s.path.dropBranch n)) :=
  orderly_setPath _ _ (fun h => h) fun port room => by
    rw [queue_dropBranch]
    split
    · rw [used_empty]; exact Nat.zero_le _
    · exact room

theorem orderly_unitLinkDown (n : UnitIx) (s : State) : Orderly s (unitLinkDown n s).1 := by
  unfold unitLinkDown
  split
  · exact .refl s
  · exact orderly_setUnit ..

theorem queue_trunkTo (state : TrunkState) (grace : Option Nat) (p : FramePath) (port : Port) :
    (p.trunkTo state grace).queue port = p.queue port ∨ (p.trunkTo state grace).queue port = EgressQueue.empty := by
  cases port with
  | trunk => cases state <;> simp [FramePath.trunkTo, FramePath.queue]
  | branch n => exact .inl rfl

/-- Section 1.6: the trunk takes a state with the grace timer that belongs to it. -/
theorem orderly_trunkTo (state : TrunkState) (grace : Option Nat) (s : State)
    (timer : grace.isSome = true ↔ state = .failing ∨ state = .returning) : Orderly s (s.trunkTo state grace) :=
  orderly_setPath _ _ (fun _ => timer) fun port room => by
    obtain e | e := queue_trunkTo state grace s.path port <;> rw [e]
    · exact room
    · rw [used_empty]; exact Nat.zero_le _

theorem orderly_trunkReport (up : Bool) (s : State) : Orderly s (s.setPath { s.path with trunkReport := up }) :=
  orderly_setPath s _ (fun h => h) fun port room => by cases port <;> exact room

theorem orderly_branchReport (bits : BitVec 8) (s : State) : Orderly s (s.setPath { s.path with branchReport := bits }) :=
  orderly_setPath s _ (fun h => h) fun port room => by cases port <;> exact room

theorem orderly_branchUp (bits : BitVec 8) (s : State) : Orderly s (s.setPath { s.path with branchUp := bits }) :=
  orderly_setPath s _ (fun h => h) fun port room => by cases port <;> exact room

theorem orderly_trunkLinkDown (s : State) (h : execTrunkLinkDown s = .next t) : Orderly s t := by
  cases h
  have reported := orderly_trunkReport false s
  refine .ite (fun _ => ?_) fun _ => reported
  cases s.path.trunkState with
  | up => exact reported.trans (orderly_trunkTo _ _ _ (by simp))
  | returning => exact reported.trans (orderly_trunkTo _ _ _ (by simp))
  | failing => exact reported
  | lost => exact reported

theorem orderly_trunkLinkUp (s : State) (h : execTrunkLinkUp s = .next t) : Orderly s t := by
  cases h
  have reported := orderly_trunkReport true s
  refine .ite (fun _ => ?_) fun _ => reported
  cases s.path.trunkState with
  | up => exact reported
  | returning => exact reported
  | failing => exact (reported.trans (orderly_trunkTo _ _ _ (by simp))).trans (keeps_passNotices _).orderly
  | lost => exact reported.trans (orderly_trunkTo _ _ _ (by simp))

theorem orderly_trunkGraceExpires (s : State) (h : execTrunkGraceExpires s = .next t) : Orderly s t := by
  cases h
  refine .ite (fun _ => ?_) fun _ => .refl s
  cases s.path.trunkState with
  | up => exact .refl s
  | lost => exact .refl s
  | failing =>
    exact orderly_finish (((orderly_trunkTo _ _ _ (by simp)).trans (orderly_raiseFlag .trunkDown (by decide) _)).trans
      (keeps_notify ..).orderly)
  | returning =>
    exact ((orderly_trunkTo _ _ _ (by simp)).trans (keeps_notify ..).orderly).trans (keeps_passNotices _).orderly

theorem orderly_branchLinkDown (n : UnitIx) (s : State) (h : execBranchLinkDown n s = .next t) : Orderly s t := by
  cases h
  have reported := orderly_branchReport (setLink s.path.branchReport n false) s
  exact .ite (fun _ => orderly_finish ((reported.trans (orderly_dropBranch n _)).trans (orderly_unitLinkDown ..)))
    fun _ => reported

theorem orderly_branchLinkUp (n : UnitIx) (s : State) (h : execBranchLinkUp n s = .next t) : Orderly s t := by
  cases h
  have reported := orderly_branchReport (setLink s.path.branchReport n true) s
  exact .ite (fun _ => orderly_finish ((reported.trans (orderly_branchUp _ _)).trans (keeps_recoverEffect ..).orderly))
    fun _ => reported

/-! ## The window end and the time of day -/

theorem InRange.promoted (h : InRange s) :
    ∀ p : ProfileIx, (s.profiles.map ProfileRecord.promote)[p].inForce.inRange ∧
      (s.profiles.map ProfileRecord.promote)[p].written.inRange := by
  intro p
  have ⟨inForce, written⟩ := h.profiles p
  simp only [Fin.getElem_fin, Vector.getElem_map, ProfileRecord.promote] at inForce written ⊢
  split
  · exact ⟨written, written⟩
  · exact ⟨inForce, written⟩

/-- R52: the record of a managed carrier is metered at a window end; an UNMANAGED one is passed over. -/
theorem closeWindow_carrier (s : State) (c : CarrierIx) :
    s.closeWindow.carrier c = if s.lifeState c = .unmanaged then s.carrier c
      else { s.carrier c with
        meter := (s.carrier c).meter.windowEnd (s.config c) (s.promoteProfiles.profileOf c) (s.lifeState c)
          s.windowClock.length } :=
  Vector.getElem_ofFn c.isLt

theorem orderly_closeWindow (s : State) : Orderly s s.closeWindow where
  inRange h := { h with profiles := h.promoted }
  meters h := metersInRange_iff.mpr fun c => by
    have fits := h c
    rw [closeWindow_carrier]
    split
    · exact fits
    · exact Meter.fits_windowEnd fits ..

theorem orderly_nextMinute (s : State) : Orderly s s.nextMinute :=
  orderly_setCalendar _ _ fun h => by
    have := h.calendar
    dsimp only
    split <;> omega

theorem orderly_recompute (s : State) : Orderly s (recomputeEffect s).finish :=
  orderly_finish (orderly_setCalendar _ _ fun h => h.calendar)

end Sys2Proof.Machine
end

section
/-! PROOFS. The ranges of the tables, the laws of the frame path, and the waiting commands: requests, writes, resets and
timers are orderly, and so is every command; the part's own work and clock uphold the laws. -/

namespace Sys2Proof.Machine

variable {s t u : State}

/-! ## Requests -/

/-- A request command changes nothing, or takes the request at the head of the queue. -/
theorem onRequest_cases {row : Instr} {answer : Request → State → State} (h : onRequest row answer s = .next t) :
    t = s ∨ ∃ r rest, s.engine.requests = r :: rest ∧ t = answer r (s.taken rest) := by
  cases h
  unfold State.takeRequest
  split
  · rename_i none
    exact .inl rfl
  · rename_i r u given
    split at given
    · cases given
    · rename_i r' rest queue
      split at given
      · cases given
        exact .inr ⟨r, rest, queue, rfl⟩
      · cases given

/-- What holds across the taking of a request and across its answer holds across the command. -/
theorem orderly_onRequest {row : Instr} {answer : Request → State → State}
    (answered : ∀ r s, Orderly s (answer r s)) (h : onRequest row answer s = .next t) : Orderly s t := by
  obtain rfl | ⟨r, rest, queue, rfl⟩ := onRequest_cases h
  · exact .refl t
  · exact (orderly_setEngine s { s.engine with requests := rest } (fun room => by
      rw [queue, List.length_cons] at room
      exact Nat.le_of_succ_le room) id).trans (answered ..)

theorem orderly_respond (r : Request) (status : Status) (n : Nat) (results : List Byte) (s : State) :
    Orderly s (s.respond r status n results) := (keeps_inject ..).orderly

theorem orderly_answer {r : Request} {failed : Option Status} {carryOut : State → State}
    (h : failed = none → Orderly s (carryOut s)) : Orderly s (s.answer r failed carryOut) := by
  unfold State.answer
  split
  · exact orderly_respond ..
  · exact h rfl

/-- The checks of two groups pass when those of both do. -/
theorem firstOf_eq_none {a b : Option Status} : firstOf a b = none ↔ a = none ∧ b = none := by cases a <;> simp

theorem failIf_eq_none {fails : Bool} {status : Status} : failIf fails status = none ↔ fails = false := by
  cases fails <;> simp

theorem orderly_startSwap (r : Request) (mirror : Bool) (s : State) : Orderly s (s.startSwap r mirror).settleSwap :=
  orderly_settleSwap_of _ s (fun h => h.entries) rfl rfl

theorem orderly_activateBank (h : execActivateBank s = .next t) : Orderly s t :=
  orderly_onRequest (fun r s => by
    split
    · exact orderly_respond ..
    · exact orderly_respond ..
    · exact orderly_answer fun _ => orderly_startSwap ..) h

theorem orderly_putTime (minute second : Nat) (s : State) (m : minute ≤ 1439) (n : second ≤ 59) :
    Orderly s (s.putTime minute second) := by
  unfold State.putTime
  have set : Orderly s (s.setCalendar
      { s.calendar with minute := minute, second := second, milli := 0, timeSet := true }) :=
    orderly_setCalendar _ _ fun _ => ⟨m, n, Nat.zero_le _⟩
  exact .ite (fun _ => set) fun _ => set.trans (orderly_setEngine _ _ id id)

theorem orderly_setTime (h : execSetTime s = .next t) : Orderly s t :=
  orderly_onRequest (fun r s => orderly_answer fun passed => by
    simp only [State.setTimeChecks, firstOf_eq_none, failIf_eq_none, Bool.or_eq_false_iff, decide_eq_false_iff_not,
      not_lt] at passed
    exact ((orderly_putTime _ _ s passed.2.2.1 passed.2.2.2).trans (orderly_recompute _)).trans (orderly_respond ..)) h

theorem orderly_setMode (h : execSetMode s = .next t) : Orderly s t :=
  orderly_onRequest (fun r s => by
    have mode (m : Mode) : Orderly s (s.putMode m) := by
      have set : Orderly s (s.setEngine { s.engine with mode := m }) := orderly_setEngine s _ id id
      exact .ite (fun _ => set.trans (keeps_work ..).orderly) fun _ => set
    split
    · exact orderly_respond ..
    · exact orderly_respond ..
    · exact orderly_answer fun _ => (mode _).trans (orderly_respond ..)) h

/-- R74: the places a drain takes, and the change of state, touch no law's own parts, whoever drains. -/
theorem orderly_moveTo (c : CarrierIx) (new : LifeState) (s : State) : Orderly s (s.moveTo c new) :=
  ((keeps_movePlaces ..).orderly.trans (orderly_setCarrier _ _ _ fun fits => Meter.fits_onMove fits ..)).trans
    (keeps_moveSlumber ..).orderly

theorem orderly_moveAndTell (c : CarrierIx) (new : LifeState) (cause : Cause) (s : State) :
    Orderly s (s.moveAndTell c new cause) := (orderly_moveTo ..).trans (keeps_notifyState ..).orderly

theorem orderly_setLife (c : CarrierIx) (x : Life) (s : State) : Orderly s (s.setLife c x) :=
  orderly_setCarrier _ _ _ id

theorem orderly_beginDrain (c : CarrierIx) (pledge : Nat) (cause : Cause) (s : State) :
    Orderly s (s.beginDrain c pledge cause) :=
  (((keeps_joinDrain ..).orderly.trans (orderly_moveTo ..)).trans (keeps_advise ..).orderly).trans
    (keeps_notifyState ..).orderly

theorem orderly_sleepNow (h : execSleepNow s = .next t) : Orderly s t :=
  orderly_onRequest (fun _ s => orderly_answer fun _ =>
    ((orderly_newMoment s).trans (orderly_beginDrain ..)).trans (orderly_respond ..)) h

theorem orderly_wake (h : execWake s = .next t) : Orderly s t :=
  orderly_onRequest (fun _ _ => orderly_answer fun _ => (keeps_work ..).orderly.trans (orderly_respond ..)) h

theorem orderly_holdDrain (h : execHoldDrain s = .next t) : Orderly s t :=
  orderly_onRequest (fun _ _ => orderly_answer fun _ => (orderly_moveAndTell ..).trans (orderly_respond ..)) h

theorem orderly_releaseHold (h : execReleaseHold s = .next t) : Orderly s t :=
  orderly_onRequest (fun r s => orderly_answer fun _ => by
    have back : Orderly s (s.backToDraining r.carrier) := (orderly_setLife ..).trans (orderly_moveAndTell ..)
    refine Orderly.trans (.ite (fun _ => ?_) fun _ => back) (orderly_respond ..)
    exact back.trans ((orderly_newMoment _).trans (orderly_finish (keeps_completeDrain ..).orderly))) h

theorem orderly_clearFlags (h : execClearFlags s = .next t) : Orderly s t :=
  orderly_onRequest (fun r s => orderly_answer fun _ =>
    (orderly_setEngine s { s.engine with flags := s.flagsCleared (BitVec.ofNat 12 r.flagMask) } id id).trans
      (orderly_respond r .done 0 _ _)) h

theorem orderly_startRestart (r : Request) (s : State) : Orderly s (s.startRestart r) := by
  unfold State.startRestart
  exact (keeps_offerInjected ..).orderly.trans (orderly_setEngine _ _ id id)

theorem orderly_restart (h : execRestart s = .next t) : Orderly s t :=
  orderly_onRequest (fun _ _ => orderly_answer fun _ => orderly_startRestart ..) h

theorem orderly_identify (h : execIdentify s = .next t) : Orderly s t := by
  unfold execIdentify at h
  refine orderly_onRequest (fun r s => ?_) h
  exact orderly_answer fun _ => orderly_respond r .done 0 _ s

theorem orderly_answerRead (r : Request) (table : Table) (s : State) : Orderly s (s.answerRead r table) :=
  orderly_respond ..

theorem orderly_readRecords (h : execReadRecords s = .next t) : Orderly s t :=
  orderly_onRequest (fun r s => by
    split
    · exact orderly_respond ..
    · rename_i table _
      exact orderly_answer fun _ => orderly_answerRead r table s) h

theorem orderly_unknownRequestKind (h : execUnknownRequestKind s = .next t) : Orderly s t :=
  orderly_onRequest (fun _ _ => orderly_respond ..) h

/-! ## Writes -/

/-- A relation that the owner's writes respect holds across the records of a request. -/
theorem writeEach_induction (R : State → State → Prop) (hr : ∀ s, R s s) (ht : ∀ {s t u}, R s t → R t u → R s u)
    {owner : OwnerWrite} (h : ∀ i b s t, owner i b s = .ok t → R s t) (size : Nat) (down : Bool)
    (i : Option Nat) (records : List (List Byte)) (n : Nat) (s : State) :
    R s (writeEach owner size down i records n s).state := by
  induction records generalizing i n s with
  | nil => unfold writeEach; exact hr s
  | cons b bs ih =>
    cases i with
    | none => exact hr s
    | some i =>
      unfold writeEach
      split
      · split
        · exact hr s
        · rename_i written
          exact ht (h i b s _ written) (ih ..)
      · exact hr s

theorem orderly_answerWrite {r : Request} {table : Table} {owner : OwnerWrite} {after : Nat → State → State}
    (h : ∀ i b s t, owner i b s = .ok t → Orderly s t) (ends : ∀ n s, Orderly s (after n s)) (s : State) :
    Orderly s (s.answerWrite r table owner after) :=
  orderly_answer fun _ =>
    ((writeEach_induction Orderly .refl .trans h ..).trans (ends ..)).trans (orderly_respond ..)

theorem orderly_nothingAfter (n : Nat) (s : State) : Orderly s (nothingAfter n s) := .refl s

/-- R66: the checks of R67 leave a managed record within its ranges. -/
theorem CarrierConfig.fits_of_valuesOk {k : CarrierConfig} (h : k.valuesOk = true) (managed : k.managed = true) :
    k.fits := by
  simp only [CarrierConfig.valuesOk, managed, Bool.not_true, Bool.false_or, CarrierConfig.inRange, Bool.and_eq_true,
    decide_eq_true_eq, Bool.or_eq_true, beq_iff_eq, and_assoc, or_assoc] at h
  obtain ⟨unit, sector, anchor, protect, slotRate, range⟩ := h
  exact ⟨by omega, by omega, by omega, by omega, slotRate, by omega⟩

/-- R67: a record that is taken has passed its checks in order. -/
theorem carrierRecordCheck_none {c : CarrierIx} {k : CarrierConfig} (h : s.carrierRecordCheck c k = none) :
    k.valuesOk = true ∧ s.anchorUnfit c k = false ∧ s.endsRole c k = false ∧ s.unitFull c k = false ∧
      s.keyTaken c k = false ∧ ((s.config c).structuralDiffer k = true → s.groupSettled c = true) := by
  unfold State.carrierRecordCheck at h
  repeat' split at h
  all_goals simp_all

theorem writeCarrierRecord_ok {i : Nat} {b : List Byte} (h : writeCarrierRecord i b s = .ok t) :
    ∃ k, readCarrierRecord b = some k ∧ s.carrierRecordCheck (Fin.ofNat 32 i) k = none ∧
      t = s.putCarrierRecord (Fin.ofNat 32 i) k := by
  unfold writeCarrierRecord at h
  dsimp only at h
  split at h
  · cases h
  · split at h
    · cases h
    · cases h; exact ⟨_, ‹_›, ‹_›, rfl⟩

theorem orderly_giveLink (v : UnitIx) (c : CarrierIx) (s : State) : Orderly s (s.giveLink v c) := by
  unfold State.giveLink
  split
  · exact orderly_setUnit ..
  · exact .refl s

theorem orderly_arriveOnUnit (v : UnitIx) (c : CarrierIx) (s : State) : Orderly s (s.arriveOnUnit v c) := by
  have placed : Orderly s ((s.giveLink v c).stopDeepTimer v) :=
    (orderly_giveLink ..).trans (keeps_stopDeepTimer ..).orderly
  exact .ite (fun _ => placed.trans (orderly_releaseUnit ..)) fun _ => placed

theorem orderly_leaveUnit (v : UnitIx) (c : CarrierIx) (s : State) : Orderly s (s.leaveUnit v c) :=
  (orderly_setUnit ..).trans (keeps_deepTest ..).orderly

theorem orderly_putCarrierRecord (c : CarrierIx) (k : CarrierConfig) (s : State)
    (ok : k.valuesOk = true) : Orderly s (s.putCarrierRecord c k) := by
  have set : Orderly s (s.setConfig c k) := orderly_setConfig s c k (CarrierConfig.fits_of_valuesOk ok)
  unfold State.putCarrierRecord
  dsimp only
  split
  · exact set
  · exact (((set.trans (orderly_setCarrier _ _ _ fun _ => Meter.fits_clear)).trans (keeps_notifyState ..).orderly)).trans
      (orderly_arriveOnUnit ..)
  · exact (((set.trans (orderly_moveTo ..)).trans (orderly_setCarrier _ _ _ fun _ => Meter.fits_clear)).trans
      (keeps_notifyState ..).orderly).trans (orderly_leaveUnit ..)
  · refine (set.trans (.ite (fun _ => .refl _) fun _ => ?_)).trans (.ite (fun _ => ?_) fun _ => .refl _)
    · exact (orderly_leaveUnit ..).trans (orderly_arriveOnUnit ..)
    · exact ((keeps_leaveSleepers ..).trans (keeps_placeSleeper ..)).orderly

theorem orderly_writeCarrierRecord {i : Nat} {b : List Byte} (h : writeCarrierRecord i b s = .ok t) : Orderly s t := by
  obtain ⟨k, -, passed, rfl⟩ := writeCarrierRecord_ok h
  exact orderly_putCarrierRecord _ _ _ (carrierRecordCheck_none passed).1

/-- R60, R61: what the checks of a profile record say. -/
theorem Profile.valuesOk_iff (p : Profile) : p.valuesOk = true ↔ p.inRange := by
  simp only [Profile.valuesOk, Profile.inRange, Bool.and_eq_true, decide_eq_true_eq]
  tauto

theorem orderly_writeProfileRecord {i : Nat} {b : List Byte} (h : writeProfileRecord i b s = .ok t) : Orderly s t := by
  unfold writeProfileRecord at h
  dsimp only at h
  split at h
  · rename_i ok
    cases h
    exact {
      inRange := fun h => { h with
        profiles := fun p => by
          have old := h.profiles p
          have new := (Profile.valuesOk_iff _).mp ok
          simp only [Fin.getElem_fin, Vector.getElem_set] at old ⊢
          split
          · rename_i e
            simp only [e]
            exact ⟨old.1, new⟩
          · exact old } }
  · cases h

/-- R142: what the checks of a radio-unit record say. -/
theorem UnitConfig.inRange_iff (k : UnitConfig) : k.inRange = true ↔ k.fits := by
  simp only [UnitConfig.inRange, UnitConfig.fits, isGroupAddress, Bool.and_eq_true, decide_eq_true_eq, beq_iff_eq,
    Bool.not_eq_true', and_assoc, Nat.lt_succ_iff]

theorem orderly_putUnitRecord (v : UnitIx) (k : UnitConfig) (s : State) (ok : k.valuesOk = true) :
    Orderly s (s.putUnitRecord v k) := by
  have set : Orderly s { s with unitConfig := s.unitConfig.set v k v.isLt } := {
    inRange := fun h => { h with
      radioUnits := fun w => by
        have old := h.radioUnits w
        simp only [State.unitSettings, Fin.getElem_fin, Vector.getElem_set] at old ⊢
        split
        · intro used
          simp only [UnitConfig.valuesOk, used, Bool.not_true, Bool.false_or] at ok
          exact (UnitConfig.inRange_iff k).mp ok
        · exact old } }
  exact .ite (fun _ => set) fun _ => set.trans (orderly_setUnit ..)

theorem orderly_writeUnitRecord {i : Nat} {b : List Byte} (h : writeUnitRecord i b s = .ok t) : Orderly s t := by
  unfold writeUnitRecord at h
  dsimp only at h
  split at h
  · cases h
  · split at h
    · cases h
    · split at h
      · cases h
      · cases h
        exact orderly_putUnitRecord _ _ _ (by simp_all)

/-- R33: what the checks of an action record say. -/
theorem ActionEntry.valuesOk_iff (a : ActionEntry) : a.valuesOk = true ↔ a.fits := by
  simp only [ActionEntry.valuesOk, ActionEntry.fits, Bool.and_eq_true, decide_eq_true_eq, Bool.or_eq_true, beq_iff_eq,
    Bool.not_eq_true', and_assoc]
  have keyed : a.kind.extractsKey = true ↔ a.kind = .meter ∨ a.kind = .triggerOrdinary := by
    cases a.kind <;> simp [ActionKind.extractsKey]
  cases present : a.present <;> cases key : a.kind.extractsKey <;> simp_all

theorem orderly_writeActionRecord {i : Nat} {b : List Byte} (h : writeActionRecord i b s = .ok t) : Orderly s t := by
  unfold writeActionRecord at h
  dsimp only at h
  split at h
  · cases h
  · split at h
    · rename_i ok
      cases h
      exact {
        inRange := fun h => { h with
          actions := fun n => by
            have old := h.actions n
            simp only [Fin.getElem_fin, Vector.getElem_set] at old ⊢
            split
            · exact .inr ((ActionEntry.valuesOk_iff _).mp ok)
            · exact old } }
    · cases h

theorem readOutcome_fits {kind arg : Byte} {o : EntryOutcome} (h : readOutcome kind arg = some o) :
    (∀ a, o = .result a → a ≤ 31) ∧ ∀ n, o = .skip n → 1 ≤ n ∧ n ≤ 15 := by
  unfold readOutcome at h
  split at h
  · split at h
    · cases h; simp_all
    · cases h
  · split at h
    · cases h; simp_all
    · cases h
  · cases h

theorem readEntryRecord_fits {b : List Byte} {e : Entry} (h : readEntryRecord b = some e) : e.fits := by
  unfold readEntryRecord at h
  split at h
  · rename_i outcome
    dsimp only at h
    split at h
    · rename_i range
      cases h
      obtain ⟨result, skip⟩ := readOutcome_fits outcome
      exact ⟨range.1, range.2, result, skip⟩
    · cases h
  · cases h

theorem bank_setBank (k : Classifier) (a b : Bool) (v : Vector Entry 64) :
    (k.setBank a v).bank b = if b = a then v else k.bank b := by
  cases a <;> cases b <;> simp [Classifier.setBank, Classifier.bank]

theorem setBank_swap (k : Classifier) (b : Bool) (v : Vector Entry 64) :
    (k.setBank b v).swap = k.swap ∧ (k.setBank b v).walks = k.walks ∧ (k.setBank b v).selector = k.selector := by
  cases b <;> simp [Classifier.setBank]

theorem orderly_writeStandbyRecord {i : Nat} {b : List Byte} (h : writeStandbyRecord i b s = .ok t) : Orderly s t := by
  unfold writeStandbyRecord at h
  dsimp only at h
  split at h
  · cases h
  · rename_i read
    split at h
    · cases h
    · cases h
      refine orderly_setClassifier s _ (fun range b n => ?_) fun law => ?_
      · rw [bank_setBank]
        split
        · simp only [Fin.getElem_fin, Vector.getElem_set]
          split
          · exact .inr (readEntryRecord_fits read)
          · exact range.entries _ n
        · exact range.entries b n
      · obtain ⟨swap, walks, selector⟩ := setBank_swap s.classifier (!s.classifier.selector)
          ((s.classifier.bank (!s.classifier.selector)).set (Fin.ofNat 64 i) ‹_› (Fin.ofNat 64 i).isLt)
        unfold SwapLaw
        rw [State.setClassifier_classifier, swap, walks, selector]
        exact law

theorem readWindowRecord_range {b : List Byte} {w : QuietWindow} (h : readWindowRecord b = some w) :
    w.start ≤ 1439 ∧ w.stop ≤ 1439 := by
  unfold readWindowRecord at h
  split at h
  · split at h
    · cases h; assumption
    · cases h
  · cases h

theorem orderly_writeWindowRecord {i : Nat} {b : List Byte} (h : writeWindowRecord i b s = .ok t) : Orderly s t := by
  unfold writeWindowRecord at h
  dsimp only at h
  split at h
  · cases h
  · rename_i read
    cases h
    exact {
      inRange := fun h => { h with
        windows := fun w => by
          have old := h.windows w
          simp only [Fin.getElem_fin, Vector.getElem_set] at old ⊢
          split
          · exact readWindowRecord_range read
          · exact old } }

theorem orderly_writeCeiling {i : Nat} {b : List Byte} (h : writeCeiling i b s = .ok t) : Orderly s t := by
  unfold writeCeiling at h
  dsimp only at h
  split at h
  · rename_i ok
    cases h
    exact {
      inRange := fun h => { h with
        permissions := fun n => by
          have old := h.permissions n
          simp only [Fin.getElem_fin, Vector.getElem_set] at old ⊢
          split
          · exact ok
          · exact old } }
  · cases h

/-- R4, R13, R34, R49, R81, R107, R129, R160, R178: a setting is written within its range. -/
theorem orderly_putSetting {i v : Nat} (h : putSetting i v s = some t) : Orderly s t := by
  have write {p : Prop} [Decidable p] {k : Settings} (h : (if p then some (s.setSettings k) else none) = some t)
      (range : p → s.settings.inRange → k.inRange) : Orderly s t := by
    split at h
    · cases h; exact orderly_setSettings s k (range ‹_›)
    · cases h
  have slots (h : putSlots v s = some t) : Orderly s t := by
    unfold putSlots at h
    split at h
    · rename_i range
      cases h
      have set : Orderly s (s.setSettings { s.settings with slots := v }) := orderly_setSettings s _ fun old => by
        unfold Settings.inRange at old ⊢
        dsimp only
        omega
      exact .ite (fun _ => set.trans (keeps_work ..).orderly) fun _ => set
    · cases h
  unfold putSetting at h
  split at h
  case h_8 => exact slots h
  case h_1 =>
    refine write h fun new old => ?_
    unfold Settings.inRange at old ⊢
    dsimp only
    rw [BitVec.toNat_ofNat, Nat.mod_eq_of_lt (by omega)]
    omega
  case h_12 => cases h
  all_goals
    refine write h fun new old => ?_
    unfold Settings.inRange at old ⊢
    dsimp only
    omega

theorem orderly_answerSettings (r : Request) (s : State) : Orderly s (s.answerSettings r) :=
  orderly_answerWrite (fun i b s t h => by
    unfold writeSetting at h
    split at h
    · cases h
    · cases h; exact orderly_putSetting ‹_›) orderly_nothingAfter s

theorem orderly_refuseTable (r : Request) (s : State) : Orderly s (s.refuseTable r) := orderly_respond ..

theorem orderly_writeRecords (h : execWriteRecords s = .next t) : Orderly s t :=
  orderly_onRequest (fun _ _ => .ite (fun _ => orderly_answerSettings ..) fun _ => orderly_refuseTable ..) h

theorem orderly_recomputeAfter (n : Nat) (s : State) : Orderly s (recomputeAfter n s) :=
  .ite (fun _ => .refl s) fun _ => orderly_recompute s

/-! ## Resets -/

theorem profileInRange_cold : Profile.cold.inRange := by simp [Profile.inRange, Profile.cold]

/-- Every range holds after a cold reset, whatever the links report. -/
theorem inRange_cold (reports : BitVec 8) (trunk : Bool) : InRange (State.cold reports trunk) where
  settings := by simp [State.cold, Settings.cold, Settings.inRange]
  permissions k := by
    revert k
    change ∀ k : Fin 12, coldPermissions[k] ≤ 3
    decide
  profiles p := by
    simp only [State.cold, Fin.getElem_fin, Vector.getElem_replicate]
    exact ⟨profileInRange_cold, profileInRange_cold⟩
  carriers c := by simp [State.cold, State.config, CarrierConfig.cold]
  radioUnits v := by simp [State.cold, State.unitSettings, UnitConfig.cold]
  actions n := by simp [State.cold]
  entries b i := by cases b <;> simp [State.cold, Classifier.cold, Classifier.bank]
  windows w := by simp [State.cold, QuietWindow.cold]
  calendar := by simp [State.cold, Calendar.cold]
  token := by simp [State.cold]
  requests := by simp [State.cold, Engine.cold]
  notices := by simp [State.cold, Engine.cold]

theorem carrier_cold (reports : BitVec 8) (trunk : Bool) (c : CarrierIx) :
    (State.cold reports trunk).carrier c = Carrier.cold := by simp [State.cold, State.carrier]

theorem metersInRange_cold (reports : BitVec 8) (trunk : Bool) : MetersInRange (State.cold reports trunk) :=
  metersInRange_iff.mpr fun c => by rw [carrier_cold]; exact Meter.fits_clear

theorem graceLaw_cold (reports : BitVec 8) (trunk : Bool) : GraceLaw (State.cold reports trunk) := by
  cases trunk <;> simp [GraceLaw, State.cold, FramePath.cold]

theorem egressLaw_of_empty (h : ∀ port, s.path.queue port = EgressQueue.empty) : EgressLaw s := fun port => by
  rw [h, used_empty]; exact Nat.zero_le _

theorem egressLaw_cold (reports : BitVec 8) (trunk : Bool) : EgressLaw (State.cold reports trunk) :=
  egressLaw_of_empty fun port => by cases port <;> simp [State.cold, FramePath.cold, FramePath.queue]

theorem swapLaw_cold (reports : BitVec 8) (trunk : Bool) : SwapLaw (State.cold reports trunk) := fun h => absurd rfl h

theorem orderly_coldReset (h : execColdReset s = .next t) : Orderly s t := by
  cases h
  exact {
    inRange := fun _ => (inRange_cold s.path.branchReport s.path.trunkReport).of_eq
    meters := fun _ => metersInRange_cold s.path.branchReport s.path.trunkReport
    grace := fun _ => graceLaw_cold s.path.branchReport s.path.trunkReport
    egress := fun _ => egressLaw_cold s.path.branchReport s.path.trunkReport
    swap := fun _ => swapLaw_cold s.path.branchReport s.path.trunkReport }

theorem interrupted_swap (k : Classifier) : k.interrupted.swap = none := by
  unfold Classifier.interrupted
  dsimp only
  split
  · assumption
  · rfl

theorem entries_interrupted {k : Classifier}
    (h : ∀ (b : Bool) (i : Fin 64), (k.bank b)[i] = Entry.cold ∨ ((k.bank b)[i]).fits) (b : Bool) (i : Fin 64) :
    (k.interrupted.bank b)[i] = Entry.cold ∨ ((k.interrupted.bank b)[i]).fits := by
  unfold Classifier.interrupted
  dsimp only
  split
  · exact h b i
  · exact entries_completeSwap (k := { k with walks := [] }) _ h b i

theorem queue_emptied (p : FramePath) (port : Port) : p.emptied.queue port = EgressQueue.empty := by
  cases port <;> simp [FramePath.emptied, FramePath.queue]

theorem orderly_interrupt (source : ResetSource) (s : State) : Orderly s (s.interrupt source) where
  inRange h := {
    settings := h.settings, permissions := h.permissions, profiles := h.promoted, carriers := h.carriers
    radioUnits := h.radioUnits, actions := h.actions, entries := entries_interrupted h.entries, windows := h.windows
    calendar := h.calendar, token := h.token, requests := Nat.zero_le _, notices := Nat.zero_le _ }
  egress _ := egressLaw_of_empty fun port => queue_emptied s.path port
  swap _ pending := absurd (interrupted_swap s.classifier) pending

theorem orderly_clearRuntime (s : State) : Orderly s s.clearRuntime where
  meters _ := metersInRange_iff.mpr fun c => by
    simp only [State.clearRuntime, State.carrier, Fin.getElem_fin, Vector.getElem_map]
    exact Meter.fits_clear
  grace _ := by
    change ((FramePath.trunkAfterReset s.trunkLost s.path.trunkReport s.settings.trunkGrace).2.isSome = true ↔
      (FramePath.trunkAfterReset s.trunkLost s.path.trunkReport s.settings.trunkGrace).1 = .failing ∨
        (FramePath.trunkAfterReset s.trunkLost s.path.trunkReport s.settings.trunkGrace).1 = .returning)
    cases s.trunkLost <;> cases s.path.trunkReport <;> simp [FramePath.trunkAfterReset]
  egress h port := by
    have room := h port
    cases port <;> exact room

theorem orderly_endReset (source : ResetSource) (s : State) : Orderly s (s.endReset source) := by
  have recover (s : State) (c : CarrierIx) : Orderly s (s.recoverCarrier (originOfReset source) c) :=
    ((orderly_setLife ..).trans (orderly_setWakeQueue ..)).trans (keeps_notifyState ..).orderly
  have place (s : State) (v : UnitIx) : Orderly s (s.placeAfterReset v) :=
    .ite (fun _ => .ite (fun _ => orderly_releaseUnit ..) fun _ => orderly_setUnit ..) fun _ => .refl s
  have formed : Orderly s s.clearRuntime.reformSets :=
    (orderly_clearRuntime s).trans (orderly_setCalendar _ _ fun h => h.calendar)
  exact (((formed.trans (orderly_raiseFlag .warmRestart (by decide) _)).trans (orderly_foldl _ recover ..)).trans
    (orderly_foldl _ place ..)).trans (keeps_work ..).orderly

theorem orderly_warmResetEnd (h : execWarmResetEnd s = .next t) : Orderly s t := by
  cases h
  cases s.phase with
  | running => exact .refl s
  | warmReset source n => exact orderly_endReset source s

/-! ## Timers -/

theorem orderly_drainTimerExpires (c : CarrierIx) (h : execDrainTimerExpires c s = .next t) : Orderly s t := by
  cases h
  refine .ite (fun now => (orderly_setLife ..).trans (orderly_enterRestoring _ _ ?_)) fun _ => .refl s
  refine managed_of (st := .draining) ?_ (by simp)
  simpa [State.setLife, State.lifeState] using now.2

theorem orderly_settleTimerExpires (c : CarrierIx) (h : execSettleTimerExpires c s = .next t) : Orderly s t := by
  cases h
  exact .ite (fun _ => (orderly_setLife ..).trans (keeps_settleNow ..).orderly) fun _ => .refl s

theorem orderly_replyExpired (v : UnitIx) (s : State) : Orderly s (replyExpired v s).1 := by
  unfold replyExpired
  split
  · exact .refl s
  · split
    · exact (orderly_setUnit ..).trans (keeps_offerInjected ..).orderly
    · exact orderly_endDirective ..

/-! ## Every command -/

/-- Every command answers a next state (no arm stops). -/
theorem exec_next (i : Instr) (s : State) : ∃ t, exec i s = .next t := by
  cases i
  case walkEnds port =>
    simp only [exec, execWalkEnds]
    split <;> exact ⟨_, rfl⟩
  all_goals exact ⟨_, rfl⟩

theorem orderly_exec (i : Instr) (h : exec i s = .next t) : Orderly s t := by
  have settings {row : Instr} (h : onRequest row State.answerSettings s = .next t) : Orderly s t :=
    orderly_onRequest orderly_answerSettings h
  cases i with
  | frameReceived port bytes reception => cases h; exact .ite (fun _ => orderly_receive ..) fun _ => .refl s
  | walkEnds port =>
    change execWalkEnds port s = .next t at h
    unfold execWalkEnds at h
    split at h
    · cases h; exact .refl s
    · cases h; exact orderly_finish (orderly_endWalk ..)
  | transmissionEnd port => cases h; exact .ite (fun _ => orderly_transmissionEnd ..) fun _ => .refl s
  | branchLinkDown n => exact orderly_branchLinkDown n s h
  | branchLinkUp n => exact orderly_branchLinkUp n s h
  | trunkLinkDown => exact orderly_trunkLinkDown s h
  | trunkLinkUp => exact orderly_trunkLinkUp s h
  | trunkGraceExpires => exact orderly_trunkGraceExpires s h
  | windowEnd order =>
    cases h; exact .ite (fun _ => (orderly_closeWindow s).trans (keeps_work ..).orderly) fun _ => .refl s
  | deepenDelayReached c =>
    cases h; exact .ite (fun _ => orderly_finish (keeps_deepenEffect ..).orderly) fun _ => .refl s
  | minuteBoundary =>
    cases h; exact .ite (fun _ => (orderly_nextMinute s).trans (orderly_recompute _)) fun _ => orderly_nextMinute s
  | drainTimerExpires c => exact orderly_drainTimerExpires c h
  | settleTimerExpires c => exact orderly_settleTimerExpires c h
  | lockOutTimerExpires g => cases h; exact .ite (fun _ => orderly_setLockOuts ..) fun _ => .refl s
  | replyTimerExpires v => cases h; exact .ite (fun _ => orderly_finish (orderly_replyExpired v s)) fun _ => .refl s
  | releaseTimerExpires v => cases h; exact .ite (fun _ => orderly_finish (orderly_setUnit ..)) fun _ => .refl s
  | unitDeepTimerExpires v => cases h; exact .ite (fun _ => (keeps_deepExpire s v).orderly) fun _ => .refl s
  | identify => exact orderly_identify h
  | readRecords => exact orderly_readRecords h
  | writeRecords => exact orderly_writeRecords h
  | writeCarrier =>
    exact orderly_onRequest (fun _ s =>
      orderly_answerWrite (fun _ _ _ _ => orderly_writeCarrierRecord) orderly_nothingAfter s) h
  | writeProfile =>
    exact orderly_onRequest (fun _ s =>
      orderly_answerWrite (fun _ _ _ _ => orderly_writeProfileRecord) orderly_nothingAfter s) h
  | writeRadioUnit =>
    exact orderly_onRequest (fun _ s =>
      orderly_answerWrite (fun _ _ _ _ => orderly_writeUnitRecord) orderly_nothingAfter s) h
  | writeAction =>
    exact orderly_onRequest (fun _ s =>
      orderly_answerWrite (fun _ _ _ _ => orderly_writeActionRecord) orderly_nothingAfter s) h
  | writeClassifierStandby =>
    exact orderly_onRequest (fun _ s =>
      orderly_answerWrite (fun _ _ _ _ => orderly_writeStandbyRecord) orderly_nothingAfter s) h
  | writeWindow =>
    exact orderly_onRequest (fun _ s =>
      orderly_answerWrite (fun _ _ _ _ => orderly_writeWindowRecord) orderly_recomputeAfter s) h
  | writePermission =>
    exact orderly_onRequest (fun _ s =>
      orderly_answerWrite (fun _ _ _ _ => orderly_writeCeiling) orderly_nothingAfter s) h
  | writeManagementTypeValue => exact settings h
  | writeStationClass => exact settings h
  | writeTrunkGrace => exact settings h
  | writeActionLimit => exact settings h
  | writeWindowLength => exact settings h
  | writeLockOutTime => exact settings h
  | writeHoldGuard => exact settings h
  | writeWarmUpSlotCount => exact settings h
  | writeAdvisoryDestination => exact settings h
  | writeNoticeDestination => exact settings h
  | writeNoticeEnables => exact settings h
  | activateBank => exact orderly_activateBank h
  | swapCompletes => cases h; exact .ite (fun _ => orderly_settleSwap s) fun _ => .refl s
  | setTime => exact orderly_setTime h
  | setMode => exact orderly_setMode h
  | sleepNow => exact orderly_sleepNow h
  | wake => exact orderly_wake h
  | holdDrain => exact orderly_holdDrain h
  | releaseHold => exact orderly_releaseHold h
  | clearFlags => exact orderly_clearFlags h
  | restart => exact orderly_restart h
  | unknownRequestKind => exact orderly_unknownRequestKind h
  | coldReset => exact orderly_coldReset h
  | warmResetBegin source => cases h; exact .ite (fun _ => orderly_interrupt ..) fun _ => .refl s
  | warmResetEnd => exact orderly_warmResetEnd h

/-! ## The part's own work and clock -/

theorem Calendar.tick_range {k : Calendar} (h : k.minute ≤ 1439 ∧ k.second ≤ 59 ∧ k.milli ≤ 999) :
    k.tick.minute ≤ 1439 ∧ k.tick.second ≤ 59 ∧ k.tick.milli ≤ 999 := by
  unfold Calendar.tick
  split
  · dsimp only; omega
  · split
    · dsimp only; omega
    · exact h

theorem upholds_raiseEvents (events : List Instr) (s : State) : Upholds s (s.raiseEvents events) where

theorem upholds_countOn (s : State) : Upholds s s.countOn where
  inRange h := { h with calendar := Calendar.tick_range h.calendar }
  meters h := metersInRange_iff.mpr fun c => by
    simp only [State.countOn, State.carrier, Fin.getElem_fin, Vector.getElem_map]
    exact h c
  grace h := by simpa [GraceLaw, State.countOn, countDown] using h
  egress h port := by
    have room := h port
    cases port <;> exact room

theorem Upholds.trans (h : Upholds s t) (k : Upholds t u) : Upholds s u :=
  ⟨fun a => k.inRange (h.inRange a), fun a => k.meters (h.meters a), fun a => k.grace (h.grace a),
    fun a => k.egress (h.egress a), fun a => k.swap (h.swap a)⟩

theorem upholds_idle (s : State) : Upholds s s.idle := by
  have reset (source : ResetSource) (n : Nat) (events : List Instr) : Upholds s
      (({ s with calendar := s.calendar.tick, phase := .warmReset source n } : State).raiseEvents events) :=
    Upholds.trans (t := { s with calendar := s.calendar.tick, phase := .warmReset source n })
      { inRange := fun h => { h with calendar := Calendar.tick_range h.calendar } } (upholds_raiseEvents ..)
  unfold State.idle
  split
  · unfold State.tick
    split
    · exact (upholds_countOn s).trans (upholds_raiseEvents ..)
    · exact reset ..
  · exact upholds_raiseEvents ..

/-- A step is the part's own, or carries out the command at the front of the queue. -/
theorem step_cases (h : step s = .next t) :
    t = s.idle ∨ ∃ i rest, s.pending = i :: rest ∧ exec i { s with pending := rest } = .next t := by
  unfold step at h
  split at h
  · cases h; exact .inl rfl
  · exact .inr ⟨_, _, ‹_›, h⟩

theorem upholds_step (h : step s = .next t) : Upholds s t := by
  obtain rfl | ⟨i, rest, -, carried⟩ := step_cases h
  · exact upholds_idle s
  · exact Upholds.trans (t := { s with pending := rest }) {} (orderly_exec i carried).toUpholds

/-! ## The statements -/

/-- Settles O53: the ranges and the meters, over a step. -/
theorem rangesKept : Obligations.RangesKept :=
  ⟨fun _ _ law next => (upholds_step next).inRange law, fun _ _ law next => (upholds_step next).meters law⟩

/-- Settles O54: the grace timer, the egress queues and the pending swap, over a step. -/
theorem framePathKept : Obligations.FramePathKept :=
  ⟨fun _ _ law next => (upholds_step next).grace law, fun _ _ law next => (upholds_step next).egress law,
    fun _ _ law next => (upholds_step next).swap law⟩

/-- Settles O2: no arm stops, and each is orderly. -/
theorem everyCommandLeavesTheQueue : Obligations.EveryCommandLeavesTheQueue := fun i s => by
  obtain ⟨t, next⟩ := exec_next i s
  exact ⟨t, next, (orderly_exec i next).pending, (orderly_exec i next).freeCounter⟩

/-- Settles O1: a step takes the command at the front. -/
theorem stepTakesTheFrontCommand : Obligations.StepTakesTheFrontCommand := fun _ _ => rfl

end Sys2Proof.Machine
end

section
/-! PROOFS. The drain lists and sleeper lists with the pledges (R72, R74, R78, R79): what each operation of the Coverage Unit
makes of them, told by who drains and who sleeps. -/

namespace Sys2Proof.Machine

variable {s t u : State} {c d a : CarrierIx}

/-! ## Reading a coverage part -/

@[simp] theorem setCover_cover (s : State) (c d : CarrierIx) (x : Cover) :
    (s.setCover c x).cover d = if d = c then x else s.cover d := by
  simp only [State.cover, State.setCover, State.setCarrier_carrier]
  split <;> simp_all

@[simp] theorem setCover_lifeState (s : State) (c d : CarrierIx) (x : Cover) :
    (s.setCover c x).lifeState d = s.lifeState d := by
  simp only [State.lifeState, State.setCover, State.setCarrier_carrier]
  split <;> simp_all

@[simp] theorem setCover_anchorOf (s : State) (c d : CarrierIx) (x : Cover) :
    (s.setCover c x).anchorOf d = s.anchorOf d := rfl

@[simp] theorem setCover_config (s : State) (c d : CarrierIx) (x : Cover) :
    (s.setCover c x).config d = s.config d := rfl

@[simp] theorem setCover_moment (s : State) (c : CarrierIx) (x : Cover) : (s.setCover c x).moment = s.moment := rfl

/-! ## Inserting -/

theorem insertBefore_perm (before : CarrierIx → CarrierIx → Bool) (c : CarrierIx) (l : List CarrierIx) :
    (insertBefore before c l).Perm (c :: l) := by
  induction l with
  | nil => exact .refl _
  | cons d ds ih =>
    unfold insertBefore
    split
    · exact .refl _
    · exact (ih.cons d).trans (.swap c d ds)

/-- A carrier put before the first entry that it comes before stands in the order. -/
theorem insertBefore_pairwise {before : CarrierIx → CarrierIx → Bool} {R : CarrierIx → CarrierIx → Prop}
    (trans : ∀ {x y z}, R x y → R y z → R x z) {l : List CarrierIx} (sorted : l.Pairwise R)
    (first : ∀ d ∈ l, before c d = true → R c d) (last : ∀ d ∈ l, before c d = false → R d c) :
    (insertBefore before c l).Pairwise R := by
  induction l with
  | nil => simp [insertBefore]
  | cons d ds ih =>
    obtain ⟨head, tail⟩ := List.pairwise_cons.mp sorted
    unfold insertBefore
    split
    · rename_i now
      have here := first d (List.mem_cons_self ..) now
      refine List.pairwise_cons.mpr ⟨fun e mem => ?_, sorted⟩
      obtain rfl | mem := List.mem_cons.mp mem
      · exact here
      · exact trans here (head e mem)
    · rename_i later
      refine List.pairwise_cons.mpr ⟨fun e mem => ?_, ih tail (fun e mem => first e (List.mem_cons_of_mem _ mem))
        fun e mem => last e (List.mem_cons_of_mem _ mem)⟩
      obtain rfl | mem := List.mem_cons.mp ((insertBefore_perm before c ds).mem_iff.mp mem)
      · exact last d (List.mem_cons_self ..) (by simpa using later)
      · exact head e mem

/-! ## Lists and pledges, told by who drains and who sleeps -/

/-- `CoverLaw`, with the carriers in a drain state and in a sleeper state given. -/
structure Listed (s : State) (drains sleeps : CarrierIx → Bool) : Prop where
  total : ∀ a, (s.cover a).pledgeTotal = ∑ c, if drains c = true ∧ s.anchorOf c = a then (s.cover c).pledge else 0
  none : ∀ c, drains c = false → (s.cover c).pledge = 0
  drainList : ∀ a, (s.cover a).drainList.Nodup ∧ ∀ c, c ∈ (s.cover a).drainList ↔ drains c = true ∧ s.anchorOf c = a
  sleeperList : ∀ a, (s.cover a).sleeperList.Nodup ∧
    ∀ c, c ∈ (s.cover a).sleeperList ↔ sleeps c = true ∧ s.anchorOf c = a

/-- A sum over the carriers with a property. -/
theorem sum_filter_finRange (p : CarrierIx → Bool) (f : CarrierIx → Nat) :
    (((List.finRange 32).filter p).map f).sum = ∑ c, if p c = true then f c else 0 := by
  have whole (l : List CarrierIx) : ((l.filter p).map f).sum = (l.map fun c => if p c = true then f c else 0).sum := by
    induction l with
    | nil => rfl
    | cons c l ih => cases h : p c <;> simp [h, ih]
  rw [whole, ← List.sum_ofFn, List.ofFn_eq_map]

theorem coverLaw_iff_listed : CoverLaw s ↔
    Listed s (fun c => (s.lifeState c).isDrain) (fun c => (s.lifeState c).isSleeper) := by
  have sums (a : CarrierIx) : (((List.finRange 32).filter fun c => (s.lifeState c).isDrain && s.anchorOf c == a).map
      fun c => (s.cover c).pledge).sum =
        ∑ c, if (s.lifeState c).isDrain = true ∧ s.anchorOf c = a then (s.cover c).pledge else 0 := by
    rw [sum_filter_finRange]
    simp only [Bool.and_eq_true, beq_iff_eq]
  constructor
  · intro h
    exact ⟨fun a => (h.total a).trans (sums a), h.none, h.drains, h.sleepers⟩
  · intro h
    exact ⟨fun a => (h.total a).trans (sums a).symm, h.none, h.drainList, h.sleeperList⟩

/-- Only coverage parts and anchors are read. -/
theorem Listed.of_eq {drains sleeps : CarrierIx → Bool} (h : Listed s drains sleeps)
    (cover : ∀ c, t.cover c = s.cover c) (anchor : ∀ c, t.anchorOf c = s.anchorOf c) : Listed t drains sleeps := by
  refine ⟨?_, ?_, ?_, ?_⟩ <;> simp only [cover, anchor]
  · exact h.total
  · exact h.none
  · exact h.drainList
  · exact h.sleeperList

/-- One summand apart from the others. -/
theorem sum_apart (f g : CarrierIx → Nat) (c : CarrierIx) (same : ∀ d, d ≠ c → g d = f d) :
    (∑ d, g d) + f c = (∑ d, f d) + g c := by
  have rest : ∑ d ∈ Finset.univ.erase c, g d = ∑ d ∈ Finset.univ.erase c, f d :=
    Finset.sum_congr rfl fun d mem => same d (Finset.ne_of_mem_erase mem)
  rw [← Finset.add_sum_erase Finset.univ f (Finset.mem_univ c), ← Finset.add_sum_erase Finset.univ g (Finset.mem_univ c),
    rest]
  omega

/-! ## Leaving -/

theorem leaveDrain_cover (s : State) (c d : CarrierIx) (other : s.anchorOf c ≠ c) :
    (s.leaveDrain c).cover d =
      if d = c then { s.cover c with pledge := 0 }
      else if d = s.anchorOf c then
        { s.cover d with
          pledgeTotal := (s.cover d).pledgeTotal - (s.cover c).pledge, drainList := (s.cover d).drainList.filter (· != c) }
      else s.cover d := by
  simp only [State.leaveDrain, setCover_cover, if_neg other.symm]
  split
  · rfl
  · split
    · simp_all
    · rfl

/-- R74: a carrier that drains no more. -/
theorem Listed.leaveDrain {drains sleeps : CarrierIx → Bool} (h : Listed s drains sleeps) (drain : drains c = true)
    (other : s.anchorOf c ≠ c) : Listed (s.leaveDrain c) (fun d => drains d && d != c) sleeps := by
  have anchor (d : CarrierIx) : (s.leaveDrain c).anchorOf d = s.anchorOf d := rfl
  have pledge (d : CarrierIx) : ((s.leaveDrain c).cover d).pledge = if d = c then 0 else (s.cover d).pledge := by
    rw [leaveDrain_cover s c d other]; split <;> (try split) <;> rfl
  refine ⟨fun a => ?_, fun d => ?_, fun a => ?_, fun a => ?_⟩
  · have sums := sum_apart (fun d => if drains d = true ∧ s.anchorOf d = a then (s.cover d).pledge else 0)
      (fun d => if (drains d && d != c) = true ∧ s.anchorOf d = a then
        ((s.leaveDrain c).cover d).pledge else 0) c (fun d ne => by simp [pledge, ne])
    simp only [bne_self_eq_false, Bool.and_false, Bool.false_eq_true, false_and, if_false, drain, true_and] at sums
    have total := h.total a
    simp only [anchor]
    rw [leaveDrain_cover s c a other]
    by_cases here : s.anchorOf c = a
    · subst here
      rw [if_neg other, if_pos rfl]
      rw [if_pos rfl] at sums
      dsimp only
      omega
    · rw [if_neg here] at sums
      rw [if_neg (Ne.symm here)]
      split
      · subst a
        dsimp only
        omega
      · omega
  · intro off
    rw [pledge]
    split
    · rfl
    · rename_i ne
      exact h.none d (by simpa [ne] using off)
  · have list := h.drainList a
    simp only [anchor]
    rw [leaveDrain_cover s c a other]
    by_cases here : s.anchorOf c = a
    · subst here
      rw [if_neg other, if_pos rfl]
      refine ⟨list.1.filter _, fun d => ?_⟩
      simp only [List.mem_filter, list.2 d, Bool.and_eq_true]
      tauto
    · have same : (if a = c then { s.cover c with pledge := 0 } else if a = s.anchorOf c then
          { s.cover a with
            pledgeTotal := (s.cover a).pledgeTotal - (s.cover c).pledge
            drainList := (s.cover a).drainList.filter (· != c) }
          else s.cover a).drainList = (s.cover a).drainList := by
        rw [if_neg (Ne.symm here)]
        split
        · subst a; rfl
        · rfl
      rw [same]
      refine ⟨list.1, fun d => (list.2 d).trans ?_⟩
      simp only [Bool.and_eq_true, bne_iff_ne, ne_eq]
      constructor
      · rintro ⟨on, e⟩
        exact ⟨⟨on, fun eq => here (eq ▸ e)⟩, e⟩
      · rintro ⟨⟨on, -⟩, e⟩
        exact ⟨on, e⟩
  · have same : ((s.leaveDrain c).cover a).sleeperList = (s.cover a).sleeperList := by
      rw [leaveDrain_cover s c a other]
      split
      · subst a; rfl
      · split <;> rfl
    simp only [anchor, same]
    exact h.sleeperList a

theorem leaveSleepers_cover (s : State) (c d : CarrierIx) :
    (s.leaveSleepers c).cover d =
      if d = s.anchorOf c then { s.cover d with sleeperList := (s.cover d).sleeperList.filter (· != c) }
      else s.cover d := by
  simp only [State.leaveSleepers, setCover_cover]
  split
  · subst d; rfl
  · rfl

/-- R78: a carrier that sleeps no more. -/
theorem Listed.leaveSleepers {drains sleeps : CarrierIx → Bool} (h : Listed s drains sleeps) :
    Listed (s.leaveSleepers c) drains (fun d => sleeps d && d != c) := by
  have anchor (d : CarrierIx) : (s.leaveSleepers c).anchorOf d = s.anchorOf d := rfl
  have same (d : CarrierIx) : ((s.leaveSleepers c).cover d).pledge = (s.cover d).pledge ∧
      ((s.leaveSleepers c).cover d).pledgeTotal = (s.cover d).pledgeTotal ∧
      ((s.leaveSleepers c).cover d).drainList = (s.cover d).drainList := by
    rw [leaveSleepers_cover]; split <;> exact ⟨rfl, rfl, rfl⟩
  refine ⟨fun a => ?_, fun d => ?_, fun a => ?_, fun a => ?_⟩
  · simp only [(same _).1, (same a).2.1, anchor]; exact h.total a
  · rw [(same d).1]; exact h.none d
  · rw [(same a).2.2]; exact h.drainList a
  · have list := h.sleeperList a
    rw [leaveSleepers_cover]
    simp only [anchor]
    split
    · refine ⟨list.1.filter _, fun d => ?_⟩
      simp only [List.mem_filter, list.2 d, Bool.and_eq_true]
      tauto
    · rename_i off
      refine ⟨list.1, fun d => (list.2 d).trans ?_⟩
      simp only [Bool.and_eq_true, bne_iff_ne, ne_eq]
      constructor
      · rintro ⟨on, e⟩
        exact ⟨⟨on, fun eq => off (eq ▸ e.symm)⟩, e⟩
      · rintro ⟨⟨on, -⟩, e⟩
        exact ⟨on, e⟩

/-! ## Joining -/

theorem joinDrain_cover (s : State) (c d : CarrierIx) (pledge : Nat) (other : s.anchorOf c ≠ c) :
    (s.joinDrain c pledge).cover d =
      if d = c then { s.cover c with pledge := pledge, drainMoment := s.moment }
      else if d = s.anchorOf c then
        { s.cover d with
          pledgeTotal := (s.cover d).pledgeTotal + pledge,
          drainList := insertBefore
            (s.setCover c { s.cover c with pledge := pledge, drainMoment := s.moment }).drainsBefore c
            (s.cover d).drainList }
      else s.cover d := by
  simp only [State.joinDrain, setCover_cover, if_neg other]
  by_cases same : d = c
  · subst d; simp [other.symm]
  · simp only [same, if_false]
    split
    · simp_all
    · rfl

/-- R74, R79: a carrier that begins to drain. -/
theorem Listed.joinDrain {drains sleeps : CarrierIx → Bool} (h : Listed s drains sleeps) (fresh : drains c = false)
    (other : s.anchorOf c ≠ c) (pledge : Nat) : Listed (s.joinDrain c pledge) (fun d => drains d || d == c) sleeps := by
  have anchor (d : CarrierIx) : (s.joinDrain c pledge).anchorOf d = s.anchorOf d := rfl
  have pledged (d : CarrierIx) : ((s.joinDrain c pledge).cover d).pledge = if d = c then pledge else (s.cover d).pledge := by
    rw [joinDrain_cover s c d pledge other]; split <;> (try split) <;> rfl
  refine ⟨fun a => ?_, fun d => ?_, fun a => ?_, fun a => ?_⟩
  · have sums := sum_apart (fun d => if drains d = true ∧ s.anchorOf d = a then (s.cover d).pledge else 0)
      (fun d => if (drains d || d == c) = true ∧ s.anchorOf d = a then
        ((s.joinDrain c pledge).cover d).pledge else 0) c (fun d ne => by simp [pledged, ne])
    simp only [pledged, BEq.rfl, Bool.or_true, true_and, if_true, fresh, Bool.false_eq_true, false_and, if_false] at sums
    have total := h.total a
    simp only [anchor, pledged]
    rw [joinDrain_cover s c a pledge other]
    by_cases here : s.anchorOf c = a
    · subst here
      rw [if_neg other, if_pos rfl]
      rw [if_pos rfl] at sums
      dsimp only
      omega
    · rw [if_neg here] at sums
      rw [if_neg (Ne.symm here)]
      split
      · subst a
        dsimp only
        omega
      · omega
  · intro off
    simp only [Bool.or_eq_false_iff, beq_eq_false_iff_ne, ne_eq] at off
    rw [pledged, if_neg off.2]
    exact h.none d off.1
  · have list := h.drainList a
    simp only [anchor]
    rw [joinDrain_cover s c a pledge other]
    by_cases here : s.anchorOf c = a
    · subst here
      have absent : c ∉ (s.cover (s.anchorOf c)).drainList := fun mem => by simp [(list.2 c).mp mem] at fresh
      rw [if_neg other, if_pos rfl]
      have perm := insertBefore_perm
        (s.setCover c { s.cover c with pledge := pledge, drainMoment := s.moment }).drainsBefore c
        (s.cover (s.anchorOf c)).drainList
      refine ⟨perm.nodup_iff.mpr (List.nodup_cons.mpr ⟨absent, list.1⟩), fun d => perm.mem_iff.trans ?_⟩
      simp only [List.mem_cons, list.2 d, Bool.or_eq_true, beq_iff_eq]
      constructor
      · rintro (rfl | ⟨on, e⟩)
        · exact ⟨.inr rfl, rfl⟩
        · exact ⟨.inl on, e⟩
      · rintro ⟨on | rfl, e⟩
        · exact .inr ⟨on, e⟩
        · exact .inl rfl
    · have same : ((s.joinDrain c pledge).cover a).drainList = (s.cover a).drainList := by
        rw [joinDrain_cover s c a pledge other, if_neg (Ne.symm here)]
        split
        · subst a; rfl
        · rfl
      rw [joinDrain_cover s c a pledge other] at same
      rw [same]
      refine ⟨list.1, fun d => (list.2 d).trans ?_⟩
      simp only [Bool.or_eq_true, beq_iff_eq]
      constructor
      · rintro ⟨on, e⟩
        exact ⟨.inl on, e⟩
      · rintro ⟨on | rfl, e⟩
        · exact ⟨on, e⟩
        · exact absurd e here
  · have same : ((s.joinDrain c pledge).cover a).sleeperList = (s.cover a).sleeperList := by
      rw [joinDrain_cover s c a pledge other]
      split
      · subst a; rfl
      · split <;> rfl
    simp only [anchor, same]
    exact h.sleeperList a

theorem placeSleeper_cover (s : State) (c d : CarrierIx) :
    (s.placeSleeper c).cover d =
      if d = s.anchorOf c then
        { s.cover d with sleeperList := insertBefore s.sleepsBefore c (s.cover d).sleeperList }
      else s.cover d := by
  simp only [State.placeSleeper, setCover_cover]
  split
  · subst d; rfl
  · rfl

/-- R78: a carrier that takes its place among the sleepers. -/
theorem Listed.placeSleeper {drains sleeps : CarrierIx → Bool} (h : Listed s drains sleeps) (fresh : sleeps c = false) :
    Listed (s.placeSleeper c) drains (fun d => sleeps d || d == c) := by
  have anchor (d : CarrierIx) : (s.placeSleeper c).anchorOf d = s.anchorOf d := rfl
  have same (d : CarrierIx) : ((s.placeSleeper c).cover d).pledge = (s.cover d).pledge ∧
      ((s.placeSleeper c).cover d).pledgeTotal = (s.cover d).pledgeTotal ∧
      ((s.placeSleeper c).cover d).drainList = (s.cover d).drainList := by
    rw [placeSleeper_cover]; split <;> exact ⟨rfl, rfl, rfl⟩
  refine ⟨fun a => ?_, fun d => ?_, fun a => ?_, fun a => ?_⟩
  · simp only [(same _).1, (same a).2.1, anchor]; exact h.total a
  · rw [(same d).1]; exact h.none d
  · rw [(same a).2.2]; exact h.drainList a
  · have list := h.sleeperList a
    rw [placeSleeper_cover]
    simp only [anchor]
    split
    · rename_i here
      have absent : c ∉ (s.cover a).sleeperList := fun mem => by simp [(list.2 c).mp mem] at fresh
      have perm := insertBefore_perm s.sleepsBefore c (s.cover a).sleeperList
      refine ⟨perm.nodup_iff.mpr (List.nodup_cons.mpr ⟨absent, list.1⟩), fun d => perm.mem_iff.trans ?_⟩
      simp only [List.mem_cons, list.2 d, Bool.or_eq_true, beq_iff_eq]
      constructor
      · rintro (rfl | ⟨on, e⟩)
        · exact ⟨.inr rfl, here.symm⟩
        · exact ⟨.inl on, e⟩
      · rintro ⟨on | rfl, e⟩
        · exact .inr ⟨on, e⟩
        · exact .inl rfl
    · rename_i off
      refine ⟨list.1, fun d => (list.2 d).trans ?_⟩
      simp only [Bool.or_eq_true, beq_iff_eq]
      constructor
      · rintro ⟨on, e⟩
        exact ⟨.inl on, e⟩
      · rintro ⟨on | rfl, e⟩
        · exact ⟨on, e⟩
        · exact absurd e.symm off

/-- The coverage parts, but for the moment of entry to RAMPDOWN of one carrier. -/
theorem Listed.setRampMoment {drains sleeps : CarrierIx → Bool} (h : Listed s drains sleeps) (moment : Nat) :
    Listed (s.setCover c { s.cover c with rampMoment := moment }) drains sleeps := by
  have same (d : CarrierIx) : ((s.setCover c { s.cover c with rampMoment := moment }).cover d) =
      { s.cover d with rampMoment := if d = c then moment else (s.cover d).rampMoment } := by
    rw [setCover_cover]
    split
    · subst d; rfl
    · rfl
  refine ⟨?_, ?_, ?_, ?_⟩ <;> simp only [same, setCover_anchorOf]
  · exact h.total
  · exact h.none
  · exact h.drainList
  · exact h.sleeperList

theorem Listed.joinSleepers {drains sleeps : CarrierIx → Bool} (h : Listed s drains sleeps) (fresh : sleeps c = false) :
    Listed (s.joinSleepers c) drains (fun d => sleeps d || d == c) :=
  (h.setRampMoment s.moment).placeSleeper fresh

/-! ## The order of the lists -/

/-- R79: among drains. -/
def DrainsFirst (s : State) (c d : CarrierIx) : Prop :=
  (s.cover c).drainMoment < (s.cover d).drainMoment ∨ ((s.cover c).drainMoment = (s.cover d).drainMoment ∧ c < d)

/-- R78: among sleepers. -/
def SleepsFirst (s : State) (c d : CarrierIx) : Prop :=
  (s.config c).rank.toNat < (s.config d).rank.toNat ∨ ((s.config c).rank = (s.config d).rank ∧
    ((s.cover c).rampMoment < (s.cover d).rampMoment ∨
      ((s.cover c).rampMoment = (s.cover d).rampMoment ∧ c < d)))

theorem DrainsFirst.trans {x y z : CarrierIx} (h : DrainsFirst s x y) (k : DrainsFirst s y z) : DrainsFirst s x z := by
  simp only [DrainsFirst, Fin.lt_def] at *
  omega

theorem SleepsFirst.trans {x y z : CarrierIx} (h : SleepsFirst s x y) (k : SleepsFirst s y z) : SleepsFirst s x z := by
  simp only [SleepsFirst, Fin.lt_def] at *
  rcases h with h | ⟨e, h⟩ <;> rcases k with k | ⟨f, k⟩
  · exact .inl (h.trans k)
  · exact .inl (f ▸ h)
  · exact .inl (e ▸ k)
  · exact .inr ⟨e.trans f, by omega⟩

theorem drainsBefore_iff : s.drainsBefore c d = true ↔ DrainsFirst s c d := by
  simp [State.drainsBefore, DrainsFirst]

theorem sleepsBefore_iff : s.sleepsBefore c d = true ↔ SleepsFirst s c d := by
  simp [State.sleepsBefore, SleepsFirst, BitVec.toNat_inj]

theorem drainsFirst_total (ne : c ≠ d) (h : ¬DrainsFirst s c d) : DrainsFirst s d c := by
  have := Fin.val_ne_of_ne ne
  simp only [DrainsFirst, Fin.lt_def] at *
  omega

theorem sleepsFirst_total (ne : c ≠ d) (h : ¬SleepsFirst s c d) : SleepsFirst s d c := by
  have := Fin.val_ne_of_ne ne
  simp only [SleepsFirst, Fin.lt_def, ← BitVec.toNat_inj] at *
  omega

/-- The moments of two states agree on what a list holds. -/
theorem pairwise_of_eq {R Q : CarrierIx → CarrierIx → Prop} {l : List CarrierIx} (sorted : l.Pairwise R)
    (same : ∀ x ∈ l, ∀ y ∈ l, R x y → Q x y) : l.Pairwise Q :=
  List.Pairwise.imp_of_mem (fun mx my h => same _ mx _ my h) sorted

/-- `OrderLaw`, list by list. -/
theorem orderLaw_iff : OrderLaw s ↔ (∀ c, (s.cover c).drainMoment ≤ s.moment ∧ (s.cover c).rampMoment ≤ s.moment) ∧
    (∀ a, (s.cover a).drainList.Pairwise (DrainsFirst s)) ∧ ∀ a, (s.cover a).sleeperList.Pairwise (SleepsFirst s) :=
  ⟨fun h => ⟨h.moments, h.drains, h.sleepers⟩, fun h => ⟨h.1, h.2.1, h.2.2⟩⟩

/-- Lists that have lost members only, with the moments kept, stay in order. -/
theorem OrderLaw.of_sublist (h : OrderLaw s) (moment : s.moment ≤ t.moment)
    (rank : ∀ c, (t.config c).rank = (s.config c).rank)
    (moments : ∀ c, (t.cover c).drainMoment = (s.cover c).drainMoment ∧ (t.cover c).rampMoment = (s.cover c).rampMoment)
    (drains : ∀ a, (t.cover a).drainList.Sublist (s.cover a).drainList)
    (sleepers : ∀ a, (t.cover a).sleeperList.Sublist (s.cover a).sleeperList) : OrderLaw t := by
  obtain ⟨past, drained, slept⟩ := orderLaw_iff.mp h
  refine orderLaw_iff.mpr ⟨fun c => ?_, fun a => ?_, fun a => ?_⟩
  · rw [(moments c).1, (moments c).2]
    exact ⟨(past c).1.trans moment, (past c).2.trans moment⟩
  · refine pairwise_of_eq ((drained a).sublist (drains a)) fun x _ y _ first => ?_
    unfold DrainsFirst at *
    rwa [(moments x).1, (moments y).1]
  · refine pairwise_of_eq ((slept a).sublist (sleepers a)) fun x _ y _ first => ?_
    unfold SleepsFirst at *
    rwa [(moments x).2, (moments y).2, rank, rank]

theorem OrderLaw.leaveDrain (h : OrderLaw s) (other : s.anchorOf c ≠ c) : OrderLaw (s.leaveDrain c) := by
  refine h.of_sublist (Nat.le_refl _) (fun _ => rfl) (fun d => ?_) (fun d => ?_) fun d => ?_ <;>
    rw [leaveDrain_cover s c d other]
  · split
    · subst d; exact ⟨rfl, rfl⟩
    · split <;> exact ⟨rfl, rfl⟩
  · split
    · subst d; exact List.Sublist.refl _
    · split
      · exact List.filter_sublist
      · exact List.Sublist.refl _
  · split
    · subst d; exact List.Sublist.refl _
    · split <;> exact List.Sublist.refl _

theorem OrderLaw.leaveSleepers (h : OrderLaw s) : OrderLaw (s.leaveSleepers c) := by
  refine h.of_sublist (Nat.le_refl _) (fun _ => rfl) (fun d => ?_) (fun d => ?_) fun d => ?_ <;>
    rw [leaveSleepers_cover] <;> split
  · exact ⟨rfl, rfl⟩
  · exact ⟨rfl, rfl⟩
  · exact List.Sublist.refl _
  · exact List.Sublist.refl _
  · exact List.filter_sublist
  · exact List.Sublist.refl _

theorem OrderLaw.joinDrain {drains sleeps : CarrierIx → Bool} (h : OrderLaw s) (listed : Listed s drains sleeps)
    (fresh : drains c = false) (other : s.anchorOf c ≠ c) (pledge : Nat) : OrderLaw (s.joinDrain c pledge) := by
  obtain ⟨past, drained, slept⟩ := orderLaw_iff.mp h
  have moment (d : CarrierIx) : ((s.joinDrain c pledge).cover d).drainMoment =
      if d = c then s.moment else (s.cover d).drainMoment := by
    rw [joinDrain_cover s c d pledge other]; split <;> (try split) <;> rfl
  have ramp (d : CarrierIx) : ((s.joinDrain c pledge).cover d).rampMoment = (s.cover d).rampMoment := by
    rw [joinDrain_cover s c d pledge other]
    split
    · subst d; rfl
    · split <;> rfl
  have absent (a : CarrierIx) : c ∉ (s.cover a).drainList := fun mem => by
    simp [((listed.drainList a).2 c).mp mem] at fresh
  have kept (a : CarrierIx) : (s.cover a).drainList.Pairwise (DrainsFirst (s.joinDrain c pledge)) :=
    pairwise_of_eq (drained a) fun x mx y my first => by
      unfold DrainsFirst at *
      rwa [moment, moment, if_neg fun e : x = c => absent a (e ▸ mx), if_neg fun e : y = c => absent a (e ▸ my)]
  refine orderLaw_iff.mpr ⟨fun d => ?_, fun a => ?_, fun a => ?_⟩
  · rw [moment, ramp]
    refine ⟨?_, (past d).2⟩
    split
    · exact Nat.le_refl _
    · exact (past d).1
  · have base := joinDrain_cover s c a pledge other
    by_cases here : a = s.anchorOf c
    · have ne : a ≠ c := here ▸ other
      rw [if_neg ne, if_pos here] at base
      rw [base]
      have told {x y : CarrierIx} : DrainsFirst (s.setCover c { s.cover c with pledge := pledge, drainMoment := s.moment })
          x y ↔ DrainsFirst (s.joinDrain c pledge) x y := by
        have same (d : CarrierIx) :
            ((s.setCover c { s.cover c with pledge := pledge, drainMoment := s.moment }).cover d).drainMoment =
              ((s.joinDrain c pledge).cover d).drainMoment := by
          rw [moment, setCover_cover]; split <;> rfl
        unfold DrainsFirst
        rw [same, same]
      refine insertBefore_pairwise (R := DrainsFirst (s.joinDrain c pledge)) DrainsFirst.trans (kept a)
        (fun d _ before => told.mp (drainsBefore_iff.mp before))
        fun d mem later => drainsFirst_total (fun e : c = d => absent a (e ▸ mem)) fun first => ?_
      rw [drainsBefore_iff.mpr (told.mpr first)] at later
      cases later
    · have same : ((s.joinDrain c pledge).cover a).drainList = (s.cover a).drainList := by
        rw [base, if_neg here]
        split
        · subst a; rfl
        · rfl
      rw [same]
      exact kept a
  · have same : ((s.joinDrain c pledge).cover a).sleeperList = (s.cover a).sleeperList := by
      rw [joinDrain_cover s c a pledge other]
      split
      · subst a; rfl
      · split <;> rfl
    rw [same]
    refine pairwise_of_eq (slept a) fun x _ y _ first => ?_
    unfold SleepsFirst at *
    rw [ramp, ramp]
    exact first

theorem OrderLaw.placeSleeper {drains sleeps : CarrierIx → Bool} (h : OrderLaw s) (listed : Listed s drains sleeps)
    (fresh : sleeps c = false) : OrderLaw (s.placeSleeper c) := by
  obtain ⟨past, drained, slept⟩ := orderLaw_iff.mp h
  have moments (d : CarrierIx) : ((s.placeSleeper c).cover d).drainMoment = (s.cover d).drainMoment ∧
      ((s.placeSleeper c).cover d).rampMoment = (s.cover d).rampMoment ∧
      ((s.placeSleeper c).cover d).drainList = (s.cover d).drainList := by
    rw [placeSleeper_cover]; split <;> exact ⟨rfl, rfl, rfl⟩
  have told {x y : CarrierIx} : SleepsFirst s x y ↔ SleepsFirst (s.placeSleeper c) x y := by
    unfold SleepsFirst
    rw [(moments x).2.1, (moments y).2.1]
    rfl
  refine orderLaw_iff.mpr ⟨fun d => ?_, fun a => ?_, fun a => ?_⟩
  · rw [(moments d).1, (moments d).2.1]
    exact past d
  · rw [(moments a).2.2]
    refine pairwise_of_eq (drained a) fun x _ y _ first => ?_
    unfold DrainsFirst at *
    rwa [(moments x).1, (moments y).1]
  · have absent : c ∉ (s.cover a).sleeperList := fun mem => by
      simp [((listed.sleeperList a).2 c).mp mem] at fresh
    have kept := pairwise_of_eq (slept a) fun x _ y _ first => told.mp first
    rw [placeSleeper_cover]
    split
    · refine insertBefore_pairwise (R := SleepsFirst (s.placeSleeper c)) SleepsFirst.trans kept
        (fun d _ before => told.mp (sleepsBefore_iff.mp before))
        fun d mem later => sleepsFirst_total (fun e : c = d => absent (e ▸ mem)) fun first => ?_
      rw [sleepsBefore_iff.mpr (told.mpr first)] at later
      cases later
    · exact kept

/-- A carrier on no sleeper list takes the moment that now is. -/
theorem OrderLaw.setRampMoment {drains sleeps : CarrierIx → Bool} (h : OrderLaw s) (listed : Listed s drains sleeps)
    (fresh : sleeps c = false) : OrderLaw (s.setCover c { s.cover c with rampMoment := s.moment }) := by
  obtain ⟨past, drained, slept⟩ := orderLaw_iff.mp h
  have same (d : CarrierIx) : ((s.setCover c { s.cover c with rampMoment := s.moment }).cover d) =
      { s.cover d with rampMoment := if d = c then s.moment else (s.cover d).rampMoment } := by
    rw [setCover_cover]
    split
    · subst d; rfl
    · rfl
  refine orderLaw_iff.mpr ⟨fun d => ?_, fun a => ?_, fun a => ?_⟩
  · rw [same]
    refine ⟨(past d).1, ?_⟩
    dsimp only
    split
    · exact Nat.le_refl _
    · exact (past d).2
  · rw [same]
    refine pairwise_of_eq (drained a) fun x _ y _ first => ?_
    unfold DrainsFirst at *
    rwa [same, same]
  · have absent : c ∉ (s.cover a).sleeperList := fun mem => by
      simp [((listed.sleeperList a).2 c).mp mem] at fresh
    rw [same]
    refine pairwise_of_eq (slept a) fun x mx y my first => ?_
    unfold SleepsFirst at *
    rw [same, same]
    dsimp only
    rw [if_neg fun e : x = c => absent (e ▸ mx), if_neg fun e : y = c => absent (e ▸ my)]
    exact first

theorem OrderLaw.joinSleepers {drains sleeps : CarrierIx → Bool} (h : OrderLaw s) (listed : Listed s drains sleeps)
    (fresh : sleeps c = false) : OrderLaw (s.joinSleepers c) :=
  (h.setRampMoment listed fresh).placeSleeper (listed.setRampMoment s.moment) fresh

end Sys2Proof.Machine
end

section
/-! PROOFS. The strides of an event: the single changes of carriers, lists, marks and wake queue that the tasks of a cascade
are made of, with the kind of each, and which kinds the effect of each task may hold. -/

namespace Sys2Proof.Machine

variable {s t u : State} {c d : CarrierIx}

/-! ## What leaves carriers, lists, marks and the wake queue alone -/

/-- Meters, counters, counts and everything beside the carriers may have changed; time may have passed. -/
structure Inner (s t : State) : Prop where
  carrierConfig : t.carrierConfig = s.carrierConfig := by rfl
  wakeQueue : t.wakeQueue = s.wakeQueue := by rfl
  moment : s.moment ≤ t.moment := by exact Nat.le_refl _
  state : ∀ c, t.lifeState c = s.lifeState c := by exact fun _ => rfl
  cover : ∀ c, t.cover c = s.cover c := by exact fun _ => rfl
  hold : ∀ c, (t.carrier c).life.hold = (s.carrier c).life.hold := by exact fun _ => rfl
  mark : ∀ c, (t.carrier c).life.wakePending = (s.carrier c).life.wakePending := by exact fun _ => rfl
  received : ∀ c, (t.carrier c).drainedReceived = (s.carrier c).drainedReceived := by exact fun _ => rfl

theorem Inner.refl (s : State) : Inner s s where

theorem Inner.trans (h : Inner s t) (k : Inner t u) : Inner s u where
  carrierConfig := k.carrierConfig.trans h.carrierConfig
  wakeQueue := k.wakeQueue.trans h.wakeQueue
  moment := h.moment.trans k.moment
  state c := (k.state c).trans (h.state c)
  cover c := (k.cover c).trans (h.cover c)
  hold c := (k.hold c).trans (h.hold c)
  mark c := (k.mark c).trans (h.mark c)
  received c := (k.received c).trans (h.received c)

theorem Inner.ite {p : Prop} [Decidable p] (h : p → Inner s t) (k : ¬p → Inner s u) : Inner s (if p then t else u) := by
  split
  · exact h ‹_›
  · exact k ‹_›

theorem inner_foldl {α : Type} (f : State → α → State) (h : ∀ s a, Inner s (f s a)) (l : List α) (s : State) :
    Inner s (l.foldl f s) := by
  induction l generalizing s with
  | nil => exact .refl s
  | cons a as ih => exact (h s a).trans (ih (f s a))

/-- An event that touches no carrier. -/
theorem Keeps.inner (h : Keeps s t) (carriers : t.carriers = s.carriers) (wakeQueue : t.wakeQueue = s.wakeQueue) :
    Inner s t := by
  have same (c : CarrierIx) : t.carrier c = s.carrier c := by simp [State.carrier, carriers]
  exact ⟨h.carrierConfig, wakeQueue, h.moment.ge, fun c => lifeState_of_carriers carriers c, fun c => by
    rw [State.cover, same]; rfl, fun c => by rw [same], fun c => by rw [same], fun c => by rw [same]⟩

theorem Tells.inner (h : Tells s t) : Inner s t := h.keeps.inner h.carriers h.wakeQueue

theorem Inner.config (h : Inner s t) (c : CarrierIx) : t.config c = s.config c := by
  simp [State.config, h.carrierConfig]

theorem Inner.anchorOf (h : Inner s t) (c : CarrierIx) : t.anchorOf c = s.anchorOf c := by
  rw [State.anchorOf, h.config]; rfl

theorem Inner.isManaged (h : Inner s t) (c : CarrierIx) : t.isManaged c = s.isManaged c := by
  rw [State.isManaged, h.state]; rfl

theorem inner_setUnit (s : State) (v : UnitIx) (x : RadioUnit) : Inner s (s.setUnit v x) where

theorem inner_advanceToken (s : State) : Inner s s.advanceToken where

theorem inner_inject (s : State) (port : Port) (a : Addr) (body : List Byte) : Inner s (s.inject port a body) :=
  (tells_inject s port a body).inner

theorem inner_transmit (s : State) (v : UnitIx) (d : Directive) : Inner s (s.transmit v d) :=
  Inner.trans (inner_setUnit s v _) (tells_offerInjected ..).inner

theorem inner_releaseUnit (s : State) (v : UnitIx) : Inner s (s.releaseUnit v) :=
  Inner.trans (Inner.trans (inner_advanceToken s) (inner_setUnit _ v _)) (inner_inject ..)

theorem inner_deepExpire (s : State) (v : UnitIx) : Inner s (s.deepExpire v) :=
  .ite (fun _ => Inner.trans (Inner.trans (inner_advanceToken s) (inner_setUnit _ v _)) (inner_transmit ..))
    fun _ => inner_setUnit ..

theorem inner_deepTest (s : State) (v : UnitIx) : Inner s (s.deepTest v) :=
  .ite (fun _ => .ite (fun _ => inner_deepExpire s v) fun _ => inner_setUnit ..) fun _ => .refl s

theorem inner_moveSlumber (s : State) (c : CarrierIx) (old new : LifeState) : Inner s (s.moveSlumber c old new) :=
  .ite (fun _ => inner_setUnit ..) fun _ => .ite (fun _ => inner_deepTest ..) fun _ => .refl s

theorem inner_handDirective {kind : DirectiveKind} (h : s.handDirective kind c = some t) : Inner s t := by
  have taken (x : RadioUnit) : Inner s (s.advanceToken.setUnit (s.unitOf c) x) :=
    Inner.trans (inner_advanceToken s) (inner_setUnit ..)
  unfold State.handDirective at h
  dsimp only at h
  split at h
  · cases h
  · cases h
  · cases h; exact (taken _).trans (inner_releaseUnit ..)
  all_goals cases h; exact taken _

theorem inner_removeDirective (s : State) (c : CarrierIx) : Inner s (s.removeDirective c) := inner_setUnit ..

theorem inner_sendHeadEffect (v : UnitIx) (s : State) : Inner s (sendHeadEffect v s).1 := by
  unfold sendHeadEffect
  dsimp only
  split
  · split
    · exact .refl s
    · split
      · exact inner_setUnit ..
      · exact inner_transmit ..
  · exact .refl s

theorem inner_recoverEffect (v : UnitIx) (s : State) : Inner s (recoverEffect v s).1 := by
  unfold recoverEffect
  split
  · exact inner_releaseUnit ..
  · exact .refl s

/-! ## One change of state, beside the lifecycle part -/

theorem moveTo_wakeQueue (s : State) (c : CarrierIx) (new : LifeState) :
    (s.moveTo c new).wakeQueue = (s.movePlaces c (s.lifeState c) new).wakeQueue :=
  (inner_moveSlumber _ c (s.lifeState c) new).wakeQueue

theorem moveTo_cover (s : State) (c d : CarrierIx) (new : LifeState) :
    (s.moveTo c new).cover d = (s.movePlaces c (s.lifeState c) new).cover d := by
  refine ((inner_moveSlumber _ c (s.lifeState c) new).cover d).trans ?_
  rw [State.cover, State.setCarrier_carrier]
  split
  · subst d; rfl
  · rfl

theorem moveTo_carrierConfig (s : State) (c : CarrierIx) (new : LifeState) :
    (s.moveTo c new).carrierConfig = s.carrierConfig :=
  (inner_moveSlumber _ c (s.lifeState c) new).carrierConfig.trans (keeps_movePlaces s c _ new).carrierConfig

theorem moveTo_moment (s : State) (c : CarrierIx) (new : LifeState) : (s.moveTo c new).moment = s.moment := by
  refine (keeps_moveSlumber _ c (s.lifeState c) new).moment.trans ?_
  exact (keeps_movePlaces s c _ new).moment

theorem moveTo_config (s : State) (c d : CarrierIx) (new : LifeState) : (s.moveTo c new).config d = s.config d := by
  simp only [State.config, moveTo_carrierConfig]

theorem moveTo_anchorOf (s : State) (c d : CarrierIx) (new : LifeState) :
    (s.moveTo c new).anchorOf d = s.anchorOf d := by rw [State.anchorOf, moveTo_config]; rfl

/-! ## The strides -/

/-- The changes of state, other than into QUEUED and into a drain state from ACTIVE, that an event may bring. -/
def LifeState.mayShift : LifeState → LifeState → Bool
  | .restoring, .active => true
  | .draining, .restoring => true
  | .drainHeld, .restoring => true
  | .rampdown, .restoring => true
  | .warmup, .restoring => true
  | .lost, .restoring => true
  | .rampdown, .doze => true
  | .deepening, .doze => true
  | .deepening, .slumber => true
  | .doze, .deepening => true
  | .draining, .rampdown => true
  | .draining, .drainHeld => true
  | .drainHeld, .draining => true
  | .queued, .warmup => true
  | old, .lost => old != .unmanaged && old != .lost
  | _, _ => false

/-- The states from which a carrier may enter QUEUED. -/
def LifeState.mayQueue : LifeState → Bool
  | .doze => true
  | .slumber => true
  | .deepening => true
  | .lost => true
  | _ => false

/-- The kinds of strides. -/
inductive Kind where
  | inner
  | move (old new : LifeState)
  | lull
  | enqueue
  | promote
  | keep
  | drain
  | received

/-- One stride, by its kind. A `lull` is the entry to DOZE of a carrier whose wake-pending mark sends it on to QUEUED in the
same event (R112). -/
inductive Stride : Kind → State → State → Prop where
  | inner {s t : State} (h : Inner s t) : Stride .inner s t
  | move {s : State} (c : CarrierIx) (new : LifeState) (may : (s.lifeState c).mayShift new = true)
      (mark : new = .doze ∨ new = .slumber → (s.carrier c).life.wakePending = none) :
      Stride (.move (s.lifeState c) new) s (s.moveTo c new)
  | lull {s : State} (c : CarrierIx) (old : s.lifeState c = .rampdown) : Stride .lull s (s.moveTo c .doze)
  | enqueue {s : State} (c : CarrierIx) (cls : WakeClass) (depth : Depth) (may : (s.lifeState c).mayQueue = true) :
      Stride .enqueue s
        ((s.moveTo c .queued).setWakeQueue ((s.moveTo c .queued).wakeQueue.join cls { carrier := c, depth := depth }))
  | promote {s : State} (c : CarrierIx) (cls : WakeClass) :
      Stride .promote s (s.setWakeQueue (s.wakeQueue.promote c cls))
  | keep {s : State} (c : CarrierIx) (mark : KeptWake)
      (old : s.lifeState c = .rampdown ∨ s.lifeState c = .deepening) :
      Stride .keep s (s.setLife c { (s.carrier c).life with wakePending := some mark })
  | drain {s : State} (c : CarrierIx) (pledge : Nat) (old : s.lifeState c = .active) (dependent : s.isDependent c = true)
      (unprotected : (s.config c).isProtected = false) (anchor : s.lifeState (s.anchorOf c) = .active) :
      Stride .drain s ((s.joinDrain c pledge).moveTo c .draining)
  | received {s : State} (c : CarrierIx) (old : (s.lifeState c).isDrain = true) :
      Stride .received s (s.setCarrier c { s.carrier c with drainedReceived := true })

/-- Strides one after another, each of a kind allowed. -/
def Chain (P : Kind → Prop) : State → State → Prop := Relation.ReflTransGen fun s t => ∃ k, P k ∧ Stride k s t

variable {P Q : Kind → Prop}

theorem Chain.refl (s : State) : Chain P s s := Relation.ReflTransGen.refl

theorem Chain.trans (h : Chain P s t) (k : Chain P t u) : Chain P s u := Relation.ReflTransGen.trans h k

theorem Chain.mono (h : Chain P s t) (le : ∀ k, P k → Q k) : Chain Q s t :=
  Relation.ReflTransGen.mono (fun _ _ ⟨k, allowed, stride⟩ => ⟨k, le k allowed, stride⟩) _ _ h

theorem Stride.chain {k : Kind} (h : Stride k s t) (allowed : P k) : Chain P s t :=
  Relation.ReflTransGen.single ⟨k, allowed, h⟩

theorem Inner.chain (h : Inner s t) (allowed : P .inner) : Chain P s t := (Stride.inner h).chain allowed

/-- A relation that every stride of a kind respects holds over a chain. -/
theorem Chain.induction (h : Chain P s t) (R : State → State → Prop) (refl : ∀ s, R s s)
    (trans : ∀ {s t u}, R s t → R t u → R s u) (stride : ∀ {k s t}, P k → Stride k s t → R s t) : R s t := by
  induction h with
  | refl => exact refl s
  | tail _ last ih =>
    obtain ⟨k, allowed, last⟩ := last
    exact trans ih (stride allowed last)

/-! ## The strides of the shared operations -/

theorem chain_move {new : LifeState} {old : LifeState} (e : s.lifeState c = old) (may : old.mayShift new = true)
    (mark : new = .doze ∨ new = .slumber → (s.carrier c).life.wakePending = none) (allowed : P (.move old new)) :
    Chain P s (s.moveTo c new) := by
  subst e
  exact (Stride.move c new may mark).chain allowed

theorem chain_moveAndTell {new old : LifeState} {cause : Cause} (e : s.lifeState c = old)
    (may : old.mayShift new = true) (mark : new = .doze ∨ new = .slumber → (s.carrier c).life.wakePending = none)
    (inner : P .inner) (allowed : P (.move old new)) : Chain P s (s.moveAndTell c new cause) :=
  (chain_move e may mark allowed).trans ((tells_notifyState ..).inner.chain inner)

theorem chain_settleNow (inner : P .inner) (allowed : P (.move .restoring .active)) (c : CarrierIx) (s : State) :
    Chain P s (s.settleNow c) := by
  unfold State.settleNow
  split
  · exact chain_moveAndTell ‹_› rfl (by simp) inner allowed
  · exact .refl s

theorem chain_enterRestoring {old : LifeState} {cause : Cause} (e : s.lifeState c = old)
    (may : old.mayShift .restoring = true) (inner : P .inner) (allowed : P (.move old .restoring))
    (settles : P (.move .restoring .active)) : Chain P s (s.enterRestoring c cause) := by
  have entered : Chain P s (((s.moveTo c .restoring).advise .openUp c cause).notifyState c (s.lifeState c) .restoring
      cause cause.origin) :=
    ((chain_move e may (by simp) allowed).trans ((tells_advise ..).inner.chain inner)).trans
      ((tells_notifyState ..).inner.chain inner)
  unfold State.enterRestoring
  dsimp only
  split
  · exact entered.trans (chain_settleNow inner settles _ _)
  · exact entered

theorem chain_enterQueued {cls : WakeClass} {depth : Depth} {cause : Cause} (may : (s.lifeState c).mayQueue = true)
    (inner : P .inner) (allowed : P .enqueue) : Chain P s (s.enterQueued c cls depth cause) :=
  ((Stride.enqueue c cls depth may).chain allowed).trans ((tells_notifyState ..).inner.chain inner)

theorem chain_beginDrain {pledge : Nat} {cause : Cause} (old : s.lifeState c = .active)
    (dependent : s.isDependent c = true) (unprotected : (s.config c).isProtected = false)
    (anchor : s.lifeState (s.anchorOf c) = .active) (inner : P .inner) (allowed : P .drain) : Chain P s (s.beginDrain c pledge cause) :=
  (((Stride.drain c pledge old dependent unprotected anchor).chain allowed).trans ((tells_advise ..).inner.chain inner)).trans
    ((tells_notifyState ..).inner.chain inner)

/-! ## The strides of each task -/

/-- The strides with which a carrier leaves the drain states for RESTORING and ACTIVE. -/
def Kind.returns : Kind → Bool
  | .move .draining .restoring => true
  | .move .drainHeld .restoring => true
  | .move .restoring .active => true
  | _ => false

/-- The kinds of strides that the effect of a task may hold. -/
def Task.allows (k : Task) (m : Kind) : Prop :=
  m = .inner ∨ match k with
    | .wake .. => m.returns = true ∨ m = .enqueue ∨ m = .promote ∨ m = .keep
    | .grants => m = .move .queued .warmup
    | .anchorLost _ => False
    | .sendHead _ => False
    | .lose .. => ∃ old, m = .move old .lost
    | .ended .. => m = .lull ∨ m = .enqueue ∨ m = .move .restoring .active ∨
        ∃ old new, m = .move old new ∧ (old = .rampdown ∨ old = .deepening ∨ old = .warmup) ∧
          (new = .restoring ∨ new = .doze ∨ new = .slumber)
    | .withdrawn _ => m = .enqueue ∨ m = .move .deepening .doze
    | .linkUp _ => m = .enqueue
    | .deepen _ => m = .move .doze .deepening
    | .abandon .. => m.returns = true
    | .report .. => m.returns = true ∨ m = .move .draining .rampdown ∨ m = .move .doze .deepening
    | .group .. => m.returns = true ∨ m = .drain
    | .deepTest _ => False
    | .recover _ => False

theorem chain_abandonEffect (cause : Cause) (c : CarrierIx) (s : State) (inner : P .inner)
    (allowed : ∀ m : Kind, m.returns = true → P m) : Chain P s (abandonEffect c cause s).1 := by
  unfold abandonEffect
  split
  · rename_i drain
    cases e : s.lifeState c <;> simp [e, LifeState.isDrain] at drain
    · exact chain_enterRestoring e rfl inner (allowed _ rfl) (allowed _ rfl)
    · exact chain_enterRestoring e rfl inner (allowed _ rfl) (allowed _ rfl)
  · exact .refl s

/-- The strides that may let a carrier wait beside a free slot: an entry to QUEUED, and an exit from WARMUP. -/
def Kind.frees : Kind → Bool
  | .enqueue => true
  | .move .warmup _ => true
  | _ => false

/-- The kinds of strides that the effect of a task may hold in a state: one that frees only where the grants follow. -/
def Task.allowsIn (k : Task) (s : State) (m : Kind) : Prop :=
  k.allows m ∧ (m.frees = true → .grants ∈ (k.effect s).2)

theorem returns_frees {m : Kind} (h : m.returns = true) : m.frees = false := by
  unfold Kind.returns at h
  split at h <;> first | rfl | cases h

theorem chain_wakeEffect (c : CarrierIx) (k : WakeKind) (s : State) :
    Chain ((Task.wake c k).allowsIn s) s (wakeEffect c k s).1 := by
  have inner : (Task.wake c k).allowsIn s .inner := ⟨.inl rfl, by simp [Kind.frees]⟩
  have returns : ∀ m : Kind, m.returns = true → (Task.wake c k).allowsIn s m :=
    fun m h => ⟨.inr (.inl h), by simp [returns_frees h]⟩
  have promote : (Task.wake c k).allowsIn s .promote := ⟨.inr (.inr (.inr (.inl rfl))), by simp [Kind.frees]⟩
  have keep : (Task.wake c k).allowsIn s .keep := ⟨.inr (.inr (.inr (.inr rfl))), by simp [Kind.frees]⟩
  have enqueue (h : Task.grants ∈ (wakeEffect c k s).2) : (Task.wake c k).allowsIn s .enqueue :=
    ⟨.inr (.inr (.inl rfl)), fun _ => h⟩
  revert enqueue
  unfold wakeEffect
  split <;> rename_i e
  case h_1 => exact fun enqueue => chain_enterQueued (by rw [e]; rfl) inner (enqueue (List.mem_singleton_self _))
  case h_2 =>
    split
    · exact fun _ => .refl s
    · exact fun enqueue => chain_enterQueued (by rw [e]; rfl) inner (enqueue (List.mem_singleton_self _))
  case h_3 =>
    split
    · exact fun _ => .refl s
    · exact fun _ => (Stride.keep c _ (.inl e)).chain keep
  case h_4 =>
    split
    · exact fun _ => .refl s
    · exact fun _ => (Stride.keep c _ (.inr e)).chain keep
  case h_5 | h_6 =>
    split
    · exact fun _ => .refl s
    · exact fun _ => chain_abandonEffect _ _ _ inner returns
  case h_7 => exact fun _ => (Stride.promote c _).chain promote
  case h_8 =>
    split
    · exact fun enqueue => chain_enterQueued (by rw [e]; rfl) inner (enqueue (List.mem_singleton_self _))
    · exact fun _ => .refl s
  all_goals exact fun _ => .refl s

theorem chain_grantsEffect (s : State) : Chain Task.grants.allows s (grantsEffect s).1 := by
  have inner : Task.grants.allows .inner := .inl rfl
  unfold grantsEffect
  split
  · split
    · exact .refl s
    · unfold grantTo
      split
      · rename_i e
        have granted : Chain Task.grants.allows s (s.moveAndTell _ .warmup .granted) :=
          chain_moveAndTell e rfl (by simp) inner (.inr rfl)
        dsimp only
        split
        · exact granted.trans ((inner_handDirective ‹_›).chain inner)
        · exact granted
      · exact .refl s
  · exact .refl s

theorem mayShift_lost {old : LifeState} (unmanaged : old ≠ .unmanaged) (lost : old ≠ .lost) :
    old.mayShift .lost = true := by
  cases old <;> simp_all [LifeState.mayShift]

theorem chain_loseEffect (c : CarrierIx) (cause : Cause) (s : State) :
    Chain ((Task.lose c cause).allowsIn s) s (loseEffect c cause s).1 := by
  have inner : (Task.lose c cause).allowsIn s .inner := ⟨.inl rfl, by simp [Kind.frees]⟩
  have move (old : ¬(s.lifeState c = .unmanaged ∨ s.lifeState c = .lost)) :
      (Task.lose c cause).allowsIn s (.move (s.lifeState c) .lost) := by
    refine ⟨.inr ⟨_, rfl⟩, fun frees => ?_⟩
    have warmup : s.lifeState c = .warmup := by
      unfold Kind.frees at frees
      split at frees <;> simp_all
    simp [Task.effect, loseEffect, warmup]
  unfold loseEffect
  dsimp only
  split
  · exact .refl s
  · rename_i h
    have old := move h
    rw [not_or] at h
    exact (((chain_move rfl (mayShift_lost h.1 h.2) (by simp) old).trans
      ((inner_removeDirective ..).chain inner)).trans ((tells_raiseFlag _ _ (by decide)).inner.chain inner)).trans
      ((tells_notifyState ..).inner.chain inner)

theorem chain_withdrawnEffect (c : CarrierIx) (s : State) :
    Chain ((Task.withdrawn c).allowsIn s) s (withdrawnEffect c s).1 := by
  have inner : (Task.withdrawn c).allowsIn s .inner := ⟨.inl rfl, by simp [Kind.frees]⟩
  have dozes : (Task.withdrawn c).allowsIn s (.move .deepening .doze) := ⟨.inr (.inr rfl), by simp [Kind.frees]⟩
  have enqueue (h : Task.grants ∈ (withdrawnEffect c s).2) : (Task.withdrawn c).allowsIn s .enqueue :=
    ⟨.inr (.inl rfl), fun _ => h⟩
  revert enqueue
  unfold withdrawnEffect
  split
  · rename_i e
    split
    · rename_i mark
      exact fun _ => chain_moveAndTell e rfl (fun _ => mark) inner dozes
    · exact fun enqueue => chain_enterQueued (by rw [e]; rfl) inner (enqueue (List.mem_singleton_self _))
  · exact fun _ => .refl s

/-- The strides of a directive's outcome but for the entry to DOZE that the mark sends on to QUEUED. -/
def Task.allowsCalm (k : Task) (s : State) (m : Kind) : Prop := k.allowsIn s m ∧ m ≠ .lull

/-- R112: a directive's outcome has strides that keep the marks, or is ASLEEP-LIGHT for a carrier whose mark sends it on from
DOZE to QUEUED. -/
theorem endedEffect_cases (c : CarrierIx) (kind : DirectiveKind) (how : DirectiveEnd) (s : State) :
    Chain ((Task.ended c kind how).allowsCalm s) s (endedEffect c kind how s).1 ∨
      ∃ k : KeptWake, s.lifeState c = .rampdown ∧ endedEffect c kind how s =
        ((s.moveAndTell c .doze .asleepLight).enterQueued c k.cls .light k.cause, [.grants]) := by
  have inner : (Task.ended c kind how).allowsCalm s .inner := ⟨⟨.inl rfl, by simp [Kind.frees]⟩, by simp⟩
  have settles : (Task.ended c kind how).allowsCalm s (.move .restoring .active) :=
    ⟨⟨.inr (.inr (.inr (.inl rfl))), by simp [Kind.frees]⟩, by simp⟩
  have moves {old new : LifeState} (o : old = .rampdown ∨ old = .deepening)
      (n : new = .restoring ∨ new = .doze ∨ new = .slumber) : (Task.ended c kind how).allowsCalm s (.move old new) :=
    ⟨⟨.inr (.inr (.inr (.inr ⟨old, new, rfl, by tauto, n⟩))), fun frees => by
      rcases o with rfl | rfl <;> cases frees⟩, by simp⟩
  have wakes (h : Task.grants ∈ (endedEffect c kind how s).2) :
      (Task.ended c kind how).allowsCalm s (.move .warmup .restoring) :=
    ⟨⟨.inr (.inr (.inr (.inr ⟨_, _, rfl, by simp, by simp⟩))), fun _ => h⟩, by simp⟩
  have enqueue (h : Task.grants ∈ (endedEffect c kind how s).2) : (Task.ended c kind how).allowsCalm s .enqueue :=
    ⟨⟨.inr (.inr (.inl rfl)), fun _ => h⟩, by simp⟩
  revert wakes enqueue
  unfold endedEffect
  split
  · split
    · rename_i e
      unfold sleepEnded
      split
      · dsimp only
        split
        · rename_i mark
          exact fun _ _ => .inl (chain_moveAndTell e rfl (fun _ => mark) inner (moves (by simp) (by simp)))
        · exact fun _ _ => .inr ⟨_, e, rfl⟩
      · exact fun _ _ => .inl (chain_enterRestoring e rfl inner (moves (by simp) (by simp)) settles)
      all_goals exact fun _ _ => .inl (.refl s)
    · exact fun _ _ => .inl (.refl s)
  · split
    · rename_i e
      unfold deepenEnded
      dsimp only
      split
      · split
        · rename_i mark
          exact fun _ _ => .inl (chain_moveAndTell e rfl (fun _ => mark) inner (moves (by simp) (by simp)))
        · exact fun _ enqueue =>
            .inl (chain_enterQueued (by rw [e]; rfl) inner (enqueue (List.mem_singleton_self _)))
      · split
        · rename_i mark
          exact fun _ _ => .inl (chain_moveAndTell e rfl (fun _ => mark) inner (moves (by simp) (by simp)))
        · exact fun _ enqueue =>
            .inl (chain_enterQueued (by rw [e]; rfl) inner (enqueue (List.mem_singleton_self _)))
      all_goals exact fun _ _ => .inl (.refl s)
    · exact fun _ _ => .inl (.refl s)
  · split
    · rename_i e
      unfold wakeEnded
      split
      · exact fun wakes _ => .inl (chain_enterRestoring e rfl inner (wakes (List.mem_singleton_self _)) settles)
      all_goals exact fun _ _ => .inl (.refl s)
    · exact fun _ _ => .inl (.refl s)
  all_goals exact fun _ _ => .inl (.refl s)

theorem chain_endedEffect (c : CarrierIx) (kind : DirectiveKind) (how : DirectiveEnd) (s : State) :
    Chain ((Task.ended c kind how).allowsIn s) s (endedEffect c kind how s).1 := by
  have inner : (Task.ended c kind how).allowsIn s .inner := ⟨.inl rfl, by simp [Kind.frees]⟩
  rcases endedEffect_cases c kind how s with calm | ⟨k, e, eq⟩
  · exact calm.mono fun _ h => h.1
  · have enqueue : (Task.ended c kind how).allowsIn s .enqueue :=
      ⟨.inr (.inr (.inl rfl)), fun _ => by rw [Task.effect, eq]; exact List.mem_singleton_self _⟩
    rw [eq]
    refine (((Stride.lull c e).chain ⟨.inr (.inl rfl), by simp [Kind.frees]⟩).trans
      ((tells_notifyState ..).inner.chain inner)).trans (chain_enterQueued ?_ inner enqueue)
    rw [(tells_notifyState ..).lifeState, moveTo_lifeState, if_pos rfl]
    rfl

theorem chain_linkUpEffect (c : CarrierIx) (s : State) :
    Chain ((Task.linkUp c).allowsIn s) s (linkUpEffect c s).1 := by
  have enqueue (h : Task.grants ∈ (linkUpEffect c s).2) : (Task.linkUp c).allowsIn s .enqueue := ⟨.inr rfl, fun _ => h⟩
  revert enqueue
  unfold linkUpEffect
  split
  · rename_i e
    exact fun enqueue =>
      chain_enterQueued (by rw [e]; rfl) ⟨.inl rfl, by simp [Kind.frees]⟩ (enqueue (List.mem_singleton_self _))
  · exact fun _ => .refl s

theorem deepenDue_doze (h : s.deepenDue c = true) : s.lifeState c = .doze := by simp_all [State.deepenDue]

theorem chain_deepenEffect (c : CarrierIx) (s : State) (inner : P .inner) (allowed : P (.move .doze .deepening)) :
    Chain P s (deepenEffect c s).1 := by
  unfold deepenEffect
  split
  · rename_i due
    split
    · rename_i t taken
      have handed := inner_handDirective taken
      exact (handed.chain inner).trans
        (chain_moveAndTell ((handed.state c).trans (deepenDue_doze due)) rfl (by simp) inner allowed)
    · exact .refl s
  · exact .refl s

theorem chain_completeDrain (c : CarrierIx) (cause : Cause) (origin : Origin) (s : State) (inner : P .inner)
    (allowed : P (.move .draining .rampdown)) : Chain P s (completeDrain c cause origin s).1 := by
  unfold completeDrain
  split
  · rename_i e
    have moved : Chain P s (s.moveTo c .rampdown) := chain_move e rfl (by simp) allowed
    dsimp only
    split
    · exact (moved.trans ((inner_handDirective ‹_›).chain inner)).trans ((tells_notifyState ..).inner.chain inner)
    · exact moved.trans ((tells_notifyState ..).inner.chain inner)
  · exact .refl s

theorem chain_reportEffect (c : CarrierIx) (m : Meter) (s : State) :
    Chain (Task.report c m).allows s (reportEffect c m s).1 := by
  have inner : (Task.report c m).allows .inner := .inl rfl
  have returns : ∀ k : Kind, k.returns = true → (Task.report c m).allows k := fun k h => .inr (.inl h)
  unfold reportEffect
  dsimp only
  split
  · split
    · exact chain_abandonEffect _ _ _ inner returns
    · split
      · exact chain_completeDrain _ _ _ _ inner (.inr (.inr (.inl rfl)))
      · exact .refl s
  · split
    · exact chain_abandonEffect _ _ _ inner returns
    · exact .refl s
  · exact chain_deepenEffect _ _ inner (.inr (.inr (.inr rfl)))
  all_goals exact .refl s

/-- R76: a candidate is ACTIVE, and is put to the test once. -/
theorem candidates_active {a : CarrierIx} {report : Vector Meter 32} (h : c ∈ s.candidates a report) :
    s.lifeState c = .active ∧ s.isDependent c = true := by
  simp only [State.candidates, List.mem_flatMap, List.mem_filter, State.isCandidate, Bool.and_eq_true,
    beq_iff_eq] at h
  obtain ⟨_, _, ⟨_, h⟩, _⟩ := h
  tauto

theorem filter_disjoint_of_rank {l : List CarrierIx} {f : CarrierIx → Nat} (once : l.Nodup) (ranks : List Nat)
    (distinct : ranks.Nodup) : (ranks.flatMap fun rank => l.filter fun c => f c == rank).Nodup := by
  refine List.nodup_flatMap.mpr ⟨fun _ _ => once.filter _, ?_⟩
  refine List.Pairwise.imp ?_ distinct
  intro x y ne c mx my
  simp only [List.mem_filter, beq_iff_eq] at mx my
  exact ne (mx.2.symm.trans my.2)

theorem candidates_nodup (s : State) (a : CarrierIx) (report : Vector Meter 32) : (s.candidates a report).Nodup :=
  filter_disjoint_of_rank (((List.nodup_finRange 32).filter _).filter _) _ (by decide)

theorem chain_tryAdmit (report : Vector Meter 32) (c : CarrierIx) (s : State) (old : s.lifeState c = .active)
    (inner : P .inner) (allowed : P .drain) : Chain P s (State.tryAdmit report s c) := by
  unfold State.tryAdmit
  dsimp only
  split
  · rename_i admits
    simp only [State.admits, Bool.and_eq_true, beq_iff_eq, Bool.not_eq_true', and_assoc] at admits
    obtain ⟨dependent, unprotected, anchor, -⟩ := admits
    exact chain_beginDrain old dependent unprotected anchor inner allowed
  · exact .refl s

/-- R76: a test of one candidate leaves the state of every other alone. -/
theorem tryAdmit_lifeState (report : Vector Meter 32) (c d : CarrierIx) (s : State) (ne : d ≠ c) :
    (State.tryAdmit report s c).lifeState d = s.lifeState d := by
  unfold State.tryAdmit
  dsimp only
  split
  · rw [beginDrain_lifeState, if_neg ne]
  · rfl

theorem chain_admissions (report : Vector Meter 32) (l : List CarrierIx) (s : State) (once : l.Nodup)
    (active : ∀ c ∈ l, s.lifeState c = .active) (inner : P .inner) (allowed : P .drain) :
    Chain P s (l.foldl (State.tryAdmit report) s) := by
  induction l generalizing s with
  | nil => exact .refl s
  | cons c l ih =>
    obtain ⟨fresh, once⟩ := List.nodup_cons.mp once
    refine (chain_tryAdmit report c s (active c (List.mem_cons_self ..)) inner allowed).trans
      (ih _ once fun d mem => ?_)
    rw [tryAdmit_lifeState report c d s fun e => fresh (e ▸ mem)]
    exact active d (List.mem_cons_of_mem _ mem)

theorem chain_groupEffect (a : CarrierIx) (report : Vector Meter 32) (s : State) :
    Chain (Task.group a report).allows s (groupEffect a report s).1 := by
  have inner : (Task.group a report).allows .inner := .inl rfl
  unfold groupEffect
  split
  · split
    · unfold reliefEffect
      split
      · exact chain_abandonEffect _ _ _ inner fun m h => .inr (.inl h)
      · split <;> exact .refl s
    · exact chain_admissions _ _ _ (candidates_nodup ..) (fun c mem => (candidates_active mem).1) inner
        (.inr (.inr rfl))
  · exact .refl s

/-- What a task allows, if none of it frees, it allows in every state. -/
theorem Chain.allowsIn {k : Task} (h : Chain k.allows s t) (frees : ∀ m, k.allows m → m.frees = false) (v : State) :
    Chain (k.allowsIn v) s t :=
  h.mono fun m allowed => ⟨allowed, by simp [frees m allowed]⟩

/-- The strides of every task are of the kinds it allows. -/
theorem chain_task (k : Task) (s : State) : Chain (k.allowsIn s) s (k.effect s).1 := by
  have inner (k : Task) {t : State} (h : Inner s t) : Chain (k.allowsIn s) s t := h.chain ⟨.inl rfl, by simp [Kind.frees]⟩
  cases k with
  | wake c k => exact chain_wakeEffect ..
  | grants => exact (chain_grantsEffect s).allowsIn (by rintro m (rfl | rfl) <;> rfl) s
  | anchorLost a => exact .refl s
  | sendHead v => exact inner _ (inner_sendHeadEffect ..)
  | lose c cause => exact chain_loseEffect ..
  | ended c kind how => exact chain_endedEffect ..
  | withdrawn c => exact chain_withdrawnEffect ..
  | linkUp c => exact chain_linkUpEffect ..
  | deepen c =>
    refine Chain.allowsIn (k := .deepen c) (chain_deepenEffect _ _ (.inl rfl) (.inr rfl)) ?_ s
    rintro m (rfl | rfl) <;> rfl
  | abandon c cause =>
    refine Chain.allowsIn (k := .abandon c cause) (chain_abandonEffect _ _ _ (.inl rfl) fun m h => .inr h) ?_ s
    rintro m (rfl | h)
    · rfl
    · exact returns_frees h
  | report c m =>
    refine (chain_reportEffect ..).allowsIn ?_ s
    rintro k (rfl | h | rfl | rfl)
    · rfl
    · exact returns_frees h
    · rfl
    · rfl
  | group a rep =>
    refine (chain_groupEffect ..).allowsIn ?_ s
    rintro k (rfl | h | rfl)
    · rfl
    · exact returns_frees h
    · rfl
  | deepTest v => exact inner _ (inner_deepTest ..)
  | recover v => exact inner _ (inner_recoverEffect ..)

end Sys2Proof.Machine
end

section
/-! PROOFS. What every stride of an event keeps: the wake queue (R127), the marks (R96, R113, R166), the lists and pledges with
their order (R74, R78, R79). -/

namespace Sys2Proof.Machine

variable {s t u : State} {c d : CarrierIx}

/-! ## States and managed marks over a stride -/

theorem mayShift_managed {old new : LifeState} (h : old.mayShift new = true) :
    old ≠ .unmanaged ∧ new ≠ .unmanaged ∧ new ≠ .queued := by
  cases old <;> cases new <;> simp_all [LifeState.mayShift]

theorem mayShift_drain {old new : LifeState} (h : old.mayShift new = true) (drain : new.isDrain = true) :
    old.isDrain = true := by
  cases old <;> cases new <;> simp_all [LifeState.mayShift, LifeState.isDrain]

theorem mayShift_sleeper {old new : LifeState} (h : old.mayShift new = true) (sleeper : new.isSleeper = true) :
    old.isSleeper = true ∨ old = .draining := by
  cases old <;> cases new <;> simp_all [LifeState.mayShift, LifeState.isSleeper]

theorem joinDrain_lifeState (s : State) (c d : CarrierIx) (pledge : Nat) :
    (s.joinDrain c pledge).lifeState d = s.lifeState d := by
  simp only [State.joinDrain, setCover_lifeState]

theorem setCarrier_lifeState (s : State) (c d : CarrierIx) (x : Carrier) (h : x.life.state = s.lifeState c) :
    (s.setCarrier c x).lifeState d = s.lifeState d := by
  simp only [State.lifeState, State.setCarrier_carrier]
  split
  · subst d; exact h
  · rfl

theorem setCarrier_cover (s : State) (c d : CarrierIx) (x : Carrier) (h : x.cover = s.cover c) :
    (s.setCarrier c x).cover d = s.cover d := by
  simp only [State.cover, State.setCarrier_carrier]
  split
  · subst d; exact h
  · rfl

theorem setLife_lifeState {x : Life} (s : State) (c d : CarrierIx) (h : x.state = s.lifeState c) :
    (s.setLife c x).lifeState d = s.lifeState d := setCarrier_lifeState s c d _ h

/-! ## The wake queue -/

/-- The carriers in the wake queue, in the order of the queue. -/
def WakeQueue.carriers (q : WakeQueue) : List CarrierIx := q.entries.map fun e => e.1.carrier

theorem WakeQueue.carriers_eq (q : WakeQueue) :
    q.carriers = (q.priority ++ q.coverage ++ q.ordinary).map Waiting.carrier := by
  simp [WakeQueue.carriers, WakeQueue.entries, Function.comp_def]

theorem WakeQueue.carriers_leave (q : WakeQueue) (c : CarrierIx) :
    (q.leave c).carriers = q.carriers.filter (· != c) := by
  simp [WakeQueue.carriers_eq, WakeQueue.leave, List.filter_map, Function.comp_def]

theorem WakeQueue.carriers_join (q : WakeQueue) (cls : WakeClass) (w : Waiting) :
    (q.join cls w).carriers.Perm (w.carrier :: q.carriers) := by
  simp only [WakeQueue.carriers_eq, ← List.map_cons]
  refine List.Perm.map _ ?_
  cases cls with
  | priority => simp [WakeQueue.join]
  | coverage =>
    simp only [WakeQueue.join, List.append_assoc, List.singleton_append]
    refine (List.Perm.append_left _ List.perm_middle).trans ?_
    exact List.perm_middle
  | ordinary =>
    simp only [WakeQueue.join, ← List.append_assoc]
    exact List.perm_append_singleton ..

theorem wakeQueueLaw_iff : WakeQueueLaw s ↔
    s.wakeQueue.carriers.Nodup ∧ ∀ c, c ∈ s.wakeQueue.carriers ↔ s.lifeState c = .queued := Iff.rfl

/-- R127: the place that a carrier holds is among the places. -/
theorem WakeQueue.placeOf_some {q : WakeQueue} {w : Waiting} {k : WakeClass} (h : q.placeOf c = some (w, k)) :
    w.carrier = c ∧ c ∈ q.carriers := by
  have found := List.find?_some h
  have mem := List.mem_of_find?_eq_some h
  simp only [beq_iff_eq] at found
  exact ⟨found, List.mem_map.mpr ⟨_, mem, found⟩⟩

/-- R127: a promotion moves a carrier within the queue. -/
theorem WakeQueue.carriers_promote {q : WakeQueue} (once : q.carriers.Nodup) (c : CarrierIx) (cls : WakeClass) :
    (q.promote c cls).carriers.Perm q.carriers := by
  unfold WakeQueue.promote
  split
  · rename_i w k place
    split
    · obtain ⟨rfl, mem⟩ := WakeQueue.placeOf_some place
      refine (WakeQueue.carriers_join ..).trans ?_
      rw [WakeQueue.carriers_leave]
      have erased : q.carriers.filter (· != w.carrier) = q.carriers.erase w.carrier :=
        (List.Nodup.erase_eq_filter once _).symm
      rw [erased]
      exact (List.perm_cons_erase mem).symm
    · exact .refl _
  · exact .refl _

theorem Inner.wakeQueueLaw (h : Inner s t) (law : WakeQueueLaw s) : WakeQueueLaw t := by
  rw [wakeQueueLaw_iff, h.wakeQueue]
  simp only [h.state]
  exact law

theorem movePlaces_wakeQueue (s : State) (c : CarrierIx) (old new : LifeState) :
    (s.movePlaces c old new).wakeQueue = if old = .queued then s.wakeQueue.leave c else s.wakeQueue := by
  unfold State.movePlaces
  dsimp only
  split <;> split <;> split <;> split <;> rfl

/-- R97, R127: a carrier that changes its state to another than QUEUED leaves the wake queue. -/
theorem wakeQueueLaw_moveTo {new : LifeState} (law : WakeQueueLaw s) (other : new ≠ .queued) :
    WakeQueueLaw (s.moveTo c new) := by
  obtain ⟨once, mem⟩ := wakeQueueLaw_iff.mp law
  rw [wakeQueueLaw_iff, moveTo_wakeQueue, movePlaces_wakeQueue]
  simp only [moveTo_lifeState]
  split
  · rw [WakeQueue.carriers_leave]
    refine ⟨once.filter _, fun d => ?_⟩
    rw [List.mem_filter, mem d, bne_iff_ne]
    split
    · simp_all
    · simp_all
  · rename_i old
    refine ⟨once, fun d => (mem d).trans ?_⟩
    split
    · subst d; simp_all
    · rfl

theorem Stride.wakeQueueLaw {k : Kind} (h : Stride k s t) (law : WakeQueueLaw s) : WakeQueueLaw t := by
  cases h with
  | inner h => exact h.wakeQueueLaw law
  | move c new may mark => exact wakeQueueLaw_moveTo law (mayShift_managed may).2.2
  | lull c old => exact wakeQueueLaw_moveTo law (by simp)
  | enqueue c cls depth may =>
    obtain ⟨once, mem⟩ := wakeQueueLaw_iff.mp law
    have old : s.lifeState c ≠ .queued := fun e => by rw [e] at may; cases may
    have same : (s.moveTo c .queued).wakeQueue = s.wakeQueue := by
      rw [moveTo_wakeQueue, movePlaces_wakeQueue, if_neg old]
    rw [wakeQueueLaw_iff, State.setWakeQueue_wakeQueue, same]
    have perm := WakeQueue.carriers_join s.wakeQueue cls { carrier := c, depth := depth }
    refine ⟨perm.nodup_iff.mpr (List.nodup_cons.mpr ⟨fun here => old ((mem c).mp here), once⟩), fun d => ?_⟩
    rw [perm.mem_iff, List.mem_cons, mem d, State.setWakeQueue_at_lifeState, moveTo_lifeState]
    split <;> simp_all
  | promote c cls =>
    obtain ⟨once, mem⟩ := wakeQueueLaw_iff.mp law
    have perm := WakeQueue.carriers_promote once c cls
    exact wakeQueueLaw_iff.mpr ⟨perm.nodup_iff.mpr once, fun d => perm.mem_iff.trans (mem d)⟩
  | keep c mark old =>
    obtain ⟨once, mem⟩ := wakeQueueLaw_iff.mp law
    refine wakeQueueLaw_iff.mpr ⟨once, fun d => (mem d).trans ?_⟩
    rw [setLife_lifeState (x := { (s.carrier c).life with wakePending := some mark }) s c d rfl]
  | drain c pledge old dependent unprotected anchor =>
    refine wakeQueueLaw_moveTo ?_ (by simp)
    obtain ⟨once, mem⟩ := wakeQueueLaw_iff.mp law
    refine wakeQueueLaw_iff.mpr ⟨once, fun d => (mem d).trans ?_⟩
    rw [joinDrain_lifeState]
  | received c old =>
    obtain ⟨once, mem⟩ := wakeQueueLaw_iff.mp law
    refine wakeQueueLaw_iff.mpr ⟨once, fun d => (mem d).trans ?_⟩
    rw [setCarrier_lifeState s c d { s.carrier c with drainedReceived := true } rfl]

/-! ## The marks -/

/-- What `MarksLaw` asks of one carrier's record. -/
def Carrier.Marked (x : Carrier) : Prop :=
  x.life.hold = decide (x.life.state = .drainHeld) ∧ (x.drainedReceived = true → x.life.state.isDrain = true) ∧
    (x.life.wakePending ≠ none → x.life.state = .rampdown ∨ x.life.state = .deepening)

theorem marksLaw_iff : MarksLaw s ↔ ∀ c, (s.carrier c).Marked := Iff.rfl

theorem marked_of_eq {x y : Carrier} (h : x.Marked) (state : y.life.state = x.life.state)
    (hold : y.life.hold = x.life.hold) (mark : y.life.wakePending = x.life.wakePending)
    (received : y.drainedReceived = x.drainedReceived) : y.Marked := by
  unfold Carrier.Marked at *
  rw [state, hold, mark, received]
  exact h

theorem Inner.marked (h : Inner s t) (marked : (s.carrier c).Marked) : (t.carrier c).Marked :=
  marked_of_eq marked (h.state c) (h.hold c) (h.mark c) (h.received c)

/-- R96, R113, R166: the record of a carrier after its change of state. -/
theorem marked_moveTo {new : LifeState} (mark : new = .doze ∨ new = .slumber → (s.carrier c).life.wakePending = none) :
    ((s.moveTo c new).carrier c).Marked := by
  obtain ⟨life, -, -, received⟩ := moveTo_carrier s c new
  unfold Carrier.Marked
  rw [life, received]
  refine ⟨?_, fun h => ?_, fun h => ?_⟩
  · cases new <;> rfl
  · simp only [Bool.and_eq_true] at h
    exact h.2
  · simp only [Life.enter] at h ⊢
    by_contra other
    refine h ?_
    cases new <;> simp_all [LifeState.isSleeper]

theorem marked_moveTo_other {new : LifeState} (ne : d ≠ c) (marked : (s.carrier d).Marked) :
    ((s.moveTo c new).carrier d).Marked := by
  rw [moveTo_other s c d new ne]
  exact marked_of_eq marked rfl rfl rfl rfl

theorem marksLaw_moveTo {new : LifeState} (law : MarksLaw s)
    (mark : new = .doze ∨ new = .slumber → (s.carrier c).life.wakePending = none) : MarksLaw (s.moveTo c new) :=
  marksLaw_iff.mpr fun d => by
    by_cases e : d = c
    · subst e; exact marked_moveTo mark
    · exact marked_moveTo_other e (law d)

theorem setCover_carrier (s : State) (a d : CarrierIx) (x : Cover) :
    (s.setCover a x).carrier d = { s.carrier d with cover := (s.setCover a x).cover d } := by
  simp only [State.cover, State.setCover, State.setCarrier_carrier]
  split
  · subst d; rfl
  · rfl

/-- R74: the beginning of a drain touches coverage parts only. -/
theorem joinDrain_carrier (s : State) (c d : CarrierIx) (pledge : Nat) :
    (s.joinDrain c pledge).carrier d = { s.carrier d with cover := (s.joinDrain c pledge).cover d } := by
  unfold State.joinDrain
  dsimp only
  rw [setCover_carrier, setCover_carrier]

theorem Inner.marksLaw (h : Inner s t) (law : MarksLaw s) : MarksLaw t := fun d => h.marked (law d)

theorem Stride.marksLaw {k : Kind} (h : Stride k s t) (calm : k ≠ .lull) (law : MarksLaw s) : MarksLaw t := by
  cases h with
  | inner h => exact h.marksLaw law
  | move c new may mark => exact marksLaw_moveTo law mark
  | lull c old => exact absurd rfl calm
  | enqueue c cls depth may => exact marksLaw_moveTo law (by simp)
  | promote c cls => exact law
  | keep c mark old =>
    refine marksLaw_iff.mpr fun d => ?_
    rw [State.setLife, State.setCarrier_carrier]
    split
    · obtain ⟨hold, received, -⟩ := law c
      exact ⟨hold, received, fun _ => old⟩
    · exact law d
  | drain c pledge old dependent unprotected anchor =>
    refine marksLaw_moveTo (marksLaw_iff.mpr fun d => ?_) (by simp)
    rw [joinDrain_carrier]
    exact marked_of_eq (law d) rfl rfl rfl rfl
  | received c old =>
    refine marksLaw_iff.mpr fun d => ?_
    rw [State.setCarrier_carrier]
    split
    · obtain ⟨hold, -, mark⟩ := law c
      exact ⟨hold, fun _ => old, mark⟩
    · exact law d

/-- R112, R125: a carrier that enters QUEUED has no mark, whatever mark it had. -/
theorem marksLaw_enqueued (law : ∀ d, d ≠ c → (s.carrier d).Marked) : MarksLaw (s.moveTo c .queued) :=
  marksLaw_iff.mpr fun d => by
    by_cases e : d = c
    · subst e; exact marked_moveTo (by simp)
    · exact marked_moveTo_other e (law d e)

/-! ## Lists and pledges -/

theorem Listed.congr {drains drains' sleeps sleeps' : CarrierIx → Bool} (h : Listed s drains sleeps)
    (drain : ∀ c, drains' c = drains c) (sleep : ∀ c, sleeps' c = sleeps c) : Listed s drains' sleeps' := by
  rw [funext drain, funext sleep]
  exact h

/-- A predicate on carriers, with its value at one of them given anew. -/
def atCarrier (c : CarrierIx) (value : Bool) (p : CarrierIx → Bool) (d : CarrierIx) : Bool := if d = c then value else p d

theorem atCarrier_self {value : Bool} {p : CarrierIx → Bool} (h : p c = value) (d : CarrierIx) :
    atCarrier c value p d = p d := by
  unfold atCarrier
  split
  · subst d; exact h.symm
  · rfl

theorem atCarrier_false (p : CarrierIx → Bool) (d : CarrierIx) : atCarrier c false p d = (p d && d != c) := by
  unfold atCarrier
  split <;> simp_all

theorem atCarrier_true (p : CarrierIx → Bool) (d : CarrierIx) : atCarrier c true p d = (p d || d == c) := by
  unfold atCarrier
  split <;> simp_all

/-- The lists and their order, together. -/
def Ordered (s : State) (drains sleeps : CarrierIx → Bool) : Prop := Listed s drains sleeps ∧ OrderLaw s

/-- What a property of lists has to respect for a change of state to respect it. -/
structure ListProperty (L : State → (CarrierIx → Bool) → (CarrierIx → Bool) → Prop) : Prop where
  leaveDrain : ∀ {s c drains sleeps}, L s drains sleeps → drains c = true → s.anchorOf c ≠ c →
    L (s.leaveDrain c) (fun d => drains d && d != c) sleeps
  leaveSleepers : ∀ {s c drains sleeps}, L s drains sleeps → L (s.leaveSleepers c) drains (fun d => sleeps d && d != c)
  joinSleepers : ∀ {s c drains sleeps}, L s drains sleeps → sleeps c = false →
    L (s.joinSleepers c) drains (fun d => sleeps d || d == c)
  joinDrain : ∀ {s c drains sleeps}, L s drains sleeps → drains c = false → s.anchorOf c ≠ c → ∀ pledge,
    L (s.joinDrain c pledge) (fun d => drains d || d == c) sleeps
  inner : ∀ {s t drains sleeps}, L s drains sleeps → t.carrierConfig = s.carrierConfig → (∀ c, t.cover c = s.cover c) →
    s.moment ≤ t.moment → L t drains sleeps

theorem anchorOf_of_carrierConfig (h : t.carrierConfig = s.carrierConfig) (c : CarrierIx) : t.anchorOf c = s.anchorOf c := by
  simp [State.anchorOf, State.config, h]

theorem listProperty_listed : ListProperty Listed where
  leaveDrain h := h.leaveDrain
  leaveSleepers h := h.leaveSleepers
  joinSleepers h := h.joinSleepers
  joinDrain h := h.joinDrain
  inner h config cover _ := h.of_eq cover (anchorOf_of_carrierConfig config)

theorem OrderLaw.of_eq (h : OrderLaw s) (config : t.carrierConfig = s.carrierConfig) (cover : ∀ c, t.cover c = s.cover c)
    (moment : s.moment ≤ t.moment) : OrderLaw t :=
  h.of_sublist moment (fun c => by simp [State.config, config]) (fun c => by rw [cover]; exact ⟨rfl, rfl⟩)
    (fun a => by rw [cover]) fun a => by rw [cover]

theorem listProperty_ordered : ListProperty Ordered where
  leaveDrain h drain other := ⟨h.1.leaveDrain drain other, h.2.leaveDrain other⟩
  leaveSleepers h := ⟨h.1.leaveSleepers, h.2.leaveSleepers⟩
  joinSleepers h fresh := ⟨h.1.joinSleepers fresh, h.2.joinSleepers h.1 fresh⟩
  joinDrain h fresh other pledge := ⟨h.1.joinDrain fresh other pledge, h.2.joinDrain h.1 fresh other pledge⟩
  inner h config cover moment :=
    ⟨h.1.of_eq cover (anchorOf_of_carrierConfig config), h.2.of_eq config cover moment⟩

section

variable {L : State → (CarrierIx → Bool) → (CarrierIx → Bool) → Prop} {drains sleeps : CarrierIx → Bool}

/-- The places that a carrier gives up and takes as its state changes. -/
theorem ListProperty.movePlaces (property : ListProperty L) {old new : LifeState} (h : L s drains sleeps)
    (drain : drains c = old.isDrain) (sleep : sleeps c = old.isSleeper)
    (other : old.isDrain = true → s.anchorOf c ≠ c) (begun : new.isDrain = true → old.isDrain = true) :
    L (s.movePlaces c old new) (atCarrier c new.isDrain drains) (atCarrier c new.isSleeper sleeps) := by
  have drained : L (if old.isDrain && !new.isDrain then s.leaveDrain c else s) (atCarrier c new.isDrain drains) sleeps := by
    split
    · rename_i leaves
      simp only [Bool.and_eq_true, Bool.not_eq_true'] at leaves
      rw [leaves.2, funext (atCarrier_false drains)]
      exact property.leaveDrain h (drain.trans leaves.1) (other leaves.1)
    · rename_i stays
      rw [funext (atCarrier_self (value := new.isDrain) ?_)]
      · exact h
      · rw [drain]
        cases e : old.isDrain <;> cases f : new.isDrain <;> simp_all
  unfold State.movePlaces
  dsimp only
  generalize (if old.isDrain && !new.isDrain then s.leaveDrain c else s) = v at drained ⊢
  have left : L (if old.isSleeper && !new.isSleeper then v.leaveSleepers c else v) (atCarrier c new.isDrain drains)
      (atCarrier c (old.isSleeper && new.isSleeper) sleeps) := by
    split
    · rename_i leaves
      simp only [Bool.and_eq_true, Bool.not_eq_true'] at leaves
      rw [leaves.2, Bool.and_false, funext (atCarrier_false sleeps)]
      exact property.leaveSleepers drained
    · rename_i stays
      rw [funext (atCarrier_self (value := old.isSleeper && new.isSleeper) ?_)]
      · exact drained
      · rw [sleep]
        cases e : old.isSleeper <;> cases f : new.isSleeper <;> simp_all
  generalize (if old.isSleeper && !new.isSleeper then v.leaveSleepers c else v) = w at left ⊢
  have joined : L (if !old.isSleeper && new.isSleeper then w.joinSleepers c else w) (atCarrier c new.isDrain drains)
      (atCarrier c new.isSleeper sleeps) := by
    split
    · rename_i joins
      simp only [Bool.and_eq_true, Bool.not_eq_true'] at joins
      rw [joins.1, Bool.false_and] at left
      have whole := property.joinSleepers left (c := c) (by simp [atCarrier])
      rw [joins.2]
      convert whole using 1
      funext d
      by_cases e : d = c <;> simp [atCarrier, e]
    · rename_i stays
      convert left using 2
      cases e : old.isSleeper <;> cases f : new.isSleeper <;> simp_all
  split
  · exact property.inner joined rfl (fun _ => rfl) (Nat.le_refl _)
  · exact joined

/-- The property, by the lifecycle states. -/
def HoldsBy (L : State → (CarrierIx → Bool) → (CarrierIx → Bool) → Prop) (s : State) : Prop :=
  L s (fun c => (s.lifeState c).isDrain) (fun c => (s.lifeState c).isSleeper)

theorem ListProperty.moveTo (property : ListProperty L) {new : LifeState} (h : HoldsBy L s)
    (other : (s.lifeState c).isDrain = true → s.anchorOf c ≠ c)
    (begun : new.isDrain = true → (s.lifeState c).isDrain = true) : HoldsBy L (s.moveTo c new) := by
  have places := property.movePlaces (new := new) h rfl rfl other begun
  have whole := property.inner places ((moveTo_carrierConfig s c new).trans (keeps_movePlaces ..).carrierConfig.symm)
    (fun d => moveTo_cover s c d new) ((moveTo_moment s c new).trans (keeps_movePlaces ..).moment.symm).ge
  unfold HoldsBy
  convert whole using 1 <;> funext d <;> simp only [moveTo_lifeState, atCarrier] <;> split <;> rfl

theorem ListProperty.of_inner (property : ListProperty L) (h : Inner s t) (holds : HoldsBy L s) : HoldsBy L t := by
  have whole := property.inner holds h.carrierConfig h.cover h.moment
  unfold HoldsBy
  simp only [h.state]
  exact whole

/-- R72: only a dependent drains or sleeps. -/
theorem RestingLaw.anchor_ne (h : RestingLaw s) (resting : (s.lifeState c).isResting = true) : s.anchorOf c ≠ c := by
  have := (h c resting).1
  simp only [State.isDependent, Bool.and_eq_true, bne_iff_ne] at this
  exact this.2

theorem RestingLaw.anchor_ne_of_drain (h : RestingLaw s) (drain : (s.lifeState c).isDrain = true) :
    s.anchorOf c ≠ c := h.anchor_ne (by simp [LifeState.isResting, drain])

theorem Stride.holdsBy (property : ListProperty L) {k : Kind} (h : Stride k s t) (resting : RestingLaw s)
    (holds : HoldsBy L s) : HoldsBy L t := by
  cases h with
  | inner h => exact property.of_inner h holds
  | move c new may mark => exact property.moveTo holds resting.anchor_ne_of_drain (mayShift_drain may)
  | lull c old => exact property.moveTo holds resting.anchor_ne_of_drain (by simp [LifeState.isDrain])
  | enqueue c cls depth may =>
    exact property.inner (property.moveTo holds resting.anchor_ne_of_drain (by simp [LifeState.isDrain])) rfl
      (fun _ => rfl) (Nat.le_refl _)
  | promote c cls => exact property.inner holds rfl (fun _ => rfl) (Nat.le_refl _)
  | keep c mark old =>
    unfold HoldsBy
    simp only [State.setLife, setCarrier_lifeState s c _ { s.carrier c with
      life := { (s.carrier c).life with wakePending := some mark } } rfl]
    exact property.inner holds rfl (fun d => setCarrier_cover s c d _ rfl) (Nat.le_refl _)
  | drain c pledge old dependent unprotected anchor =>
    have ne : s.anchorOf c ≠ c := by
      simp only [State.isDependent, Bool.and_eq_true, bne_iff_ne] at dependent
      exact dependent.2
    have joined := property.joinDrain holds (c := c) (by simp only [old]; rfl) ne pledge
    have places := property.inner joined
      (t := (s.joinDrain c pledge).moveTo c .draining) (moveTo_carrierConfig ..) (fun d => by
        have same : (s.joinDrain c pledge).lifeState c = .active := (joinDrain_lifeState ..).trans old
        rw [moveTo_cover, same]
        rfl) (moveTo_moment ..).ge
    unfold HoldsBy
    convert places using 1 <;> funext d <;> simp only [moveTo_lifeState, joinDrain_lifeState] <;> by_cases e : d = c <;>
      simp [e, old, LifeState.isDrain, LifeState.isSleeper]
  | received c old =>
    unfold HoldsBy
    simp only [setCarrier_lifeState s c _ { s.carrier c with drainedReceived := true } rfl]
    exact property.inner holds rfl (fun d => setCarrier_cover s c d _ rfl) (Nat.le_refl _)

end

end Sys2Proof.Machine
end

section
/-! PROOFS. The laws of the carriers over the cascade of an event: rest (R72), the Carrier Table (R66, R68, R69), the wake
queue, the marks, and the lists with the pledges. -/

namespace Sys2Proof.Machine

variable {s t u : State} {c d : CarrierIx}

/-! ## The Carrier Table and the resting states over a stride -/

/-- No stride touches a configuration part, or makes a carrier managed or UNMANAGED. -/
theorem Stride.frame {k : Kind} (h : Stride k s t) :
    t.carrierConfig = s.carrierConfig ∧ ∀ c, t.isManaged c = s.isManaged c := by
  have moved {s : State} {c : CarrierIx} {new : LifeState} (old : s.lifeState c ≠ .unmanaged) (new' : new ≠ .unmanaged)
      (d : CarrierIx) : (s.moveTo c new).isManaged d = s.isManaged d := by
    simp only [State.isManaged, moveTo_lifeState]
    split
    · subst d; exact (bne_iff_ne.mpr new').trans (bne_iff_ne.mpr old).symm
    · rfl
  have set {s : State} {c d : CarrierIx} {x : Carrier} (h : x.life.state = s.lifeState c) :
      (s.setCarrier c x).isManaged d = s.isManaged d := by
    rw [State.isManaged, setCarrier_lifeState s c d x h]; rfl
  cases h with
  | inner h => exact ⟨h.carrierConfig, h.isManaged⟩
  | move c new may mark =>
    exact ⟨moveTo_carrierConfig .., moved (mayShift_managed may).1 (mayShift_managed may).2.1⟩
  | lull c old => exact ⟨moveTo_carrierConfig .., moved (by simp [old]) (by simp)⟩
  | enqueue c cls depth may =>
    exact ⟨moveTo_carrierConfig s c _, moved (fun e => by rw [e] at may; cases may) (by simp)⟩
  | promote c cls => exact ⟨rfl, fun _ => rfl⟩
  | keep c mark old => exact ⟨rfl, fun d => set (x := { s.carrier c with
      life := { (s.carrier c).life with wakePending := some mark } }) rfl⟩
  | drain c pledge old dependent unprotected anchor =>
    have same (d : CarrierIx) : (s.joinDrain c pledge).isManaged d = s.isManaged d := by
      rw [State.isManaged, joinDrain_lifeState]; rfl
    refine ⟨moveTo_carrierConfig .., fun d => (moved ?_ (by simp) d).trans (same d)⟩
    rw [joinDrain_lifeState, old]
    simp
  | received c old => exact ⟨rfl, fun d => set (x := { s.carrier c with drainedReceived := true }) rfl⟩

/-- R66, R68, R69 speak of configuration parts and of which carriers are managed. -/
theorem CarrierTableLaw.of_eq (h : CarrierTableLaw s) (config : t.carrierConfig = s.carrierConfig)
    (managed : ∀ c, t.isManaged c = s.isManaged c) : CarrierTableLaw t := by
  have configs (c : CarrierIx) : t.config c = s.config c := by simp [State.config, config]
  have anchors (c : CarrierIx) : t.anchorOf c = s.anchorOf c := by rw [State.anchorOf, configs]; rfl
  have units (c : CarrierIx) : t.unitOf c = s.unitOf c := by rw [State.unitOf, configs]; rfl
  refine ⟨fun c => ?_, fun c => ?_, fun v => ?_, fun c d => ?_⟩
  · rw [configs, managed]; exact h.marks c
  · rw [managed, anchors, configs, configs, State.isAnchor, managed, anchors]; exact h.anchors c
  · simp only [State.unitCarriers, managed, units]; exact h.units v
  · rw [managed, managed, units, units, configs, configs]; exact h.keys c d

theorem isDependent_of_eq (config : t.carrierConfig = s.carrierConfig)
    (managed : t.isManaged c = s.isManaged c) : t.isDependent c = s.isDependent c := by
  rw [State.isDependent, managed, anchorOf_of_carrierConfig config]; rfl

theorem config_of_carrierConfig (config : t.carrierConfig = s.carrierConfig) (c : CarrierIx) :
    t.config c = s.config c := by simp [State.config, config]

/-- R72: what rests after a change of one carrier's state rested before, or may. -/
theorem RestingLaw.of_states (h : RestingLaw s) (config : t.carrierConfig = s.carrierConfig)
    (managed : ∀ c, t.isManaged c = s.isManaged c)
    (rests : ∀ c, (t.lifeState c).isResting = true → (s.lifeState c).isResting = true ∨
      s.isDependent c = true ∧ (s.config c).isProtected = false) : RestingLaw t := fun c resting => by
  rw [isDependent_of_eq config (managed c), config_of_carrierConfig config]
  exact (rests c resting).elim (h c) id

theorem mayShift_resting {old new : LifeState} (h : old.mayShift new = true) (resting : new.isResting = true) :
    old.isResting = true := by
  cases old <;> cases new <;> simp_all [LifeState.mayShift, LifeState.isResting, LifeState.isDrain, LifeState.isSleeper]

theorem Stride.restingLaw {k : Kind} (h : Stride k s t) (law : RestingLaw s) : RestingLaw t := by
  obtain ⟨config, managed⟩ := h.frame
  refine law.of_states config managed fun d resting => ?_
  have moved {c : CarrierIx} {new : LifeState} (may : new.isResting = true → (s.lifeState c).isResting = true)
      (h : ((s.moveTo c new).lifeState d).isResting = true) : (s.lifeState d).isResting = true := by
    rw [moveTo_lifeState] at h
    split at h
    · subst d; exact may h
    · exact h
  cases h with
  | inner h => exact .inl (h.state d ▸ resting)
  | move c new may mark => exact .inl (moved (mayShift_resting may) resting)
  | lull c old => exact .inl (moved (fun _ => by rw [old]; rfl) resting)
  | enqueue c cls depth may => exact .inl (moved (new := .queued) (fun h => by cases h) resting)
  | promote c cls => exact .inl resting
  | keep c mark old =>
    exact .inl (setLife_lifeState (x := { (s.carrier c).life with wakePending := some mark }) s c d rfl ▸ resting)
  | drain c pledge old dependent unprotected anchor =>
    rw [moveTo_lifeState, joinDrain_lifeState] at resting
    split at resting
    · subst d; exact .inr ⟨dependent, unprotected⟩
    · exact .inl resting
  | received c old =>
    exact .inl (setCarrier_lifeState s c d { s.carrier c with drainedReceived := true } rfl ▸ resting)

/-! ## Chains -/

variable {P : Kind → Prop} {L : State → (CarrierIx → Bool) → (CarrierIx → Bool) → Prop}

theorem Chain.wakeQueueLaw (h : Chain P s t) (law : WakeQueueLaw s) : WakeQueueLaw t :=
  h.induction (fun s t => WakeQueueLaw s → WakeQueueLaw t) (fun _ => id) (fun h k => k ∘ h)
    (fun _ stride => stride.wakeQueueLaw) law

theorem Chain.marksLaw (h : Chain P s t) (calm : ¬P .lull) (law : MarksLaw s) : MarksLaw t :=
  h.induction (fun s t => MarksLaw s → MarksLaw t) (fun _ => id) (fun h k => k ∘ h)
    (fun allowed stride => stride.marksLaw fun e => calm (e ▸ allowed)) law

theorem Chain.restingLaw (h : Chain P s t) (law : RestingLaw s) : RestingLaw t :=
  h.induction (fun s t => RestingLaw s → RestingLaw t) (fun _ => id) (fun h k => k ∘ h)
    (fun _ stride => stride.restingLaw) law

theorem Chain.tableLaw (h : Chain P s t) (law : CarrierTableLaw s) : CarrierTableLaw t :=
  h.induction (fun s t => CarrierTableLaw s → CarrierTableLaw t) (fun _ => id) (fun h k => k ∘ h)
    (fun _ stride law => law.of_eq stride.frame.1 stride.frame.2) law

theorem Chain.holdsBy (h : Chain P s t) (property : ListProperty L) (resting : RestingLaw s) (holds : HoldsBy L s) :
    HoldsBy L t :=
  (h.induction (fun s t => RestingLaw s ∧ HoldsBy L s → RestingLaw t ∧ HoldsBy L t) (fun _ => id) (fun h k => k ∘ h)
    (fun _ stride h => ⟨stride.restingLaw h.1, stride.holdsBy property h.1 h.2⟩) ⟨resting, holds⟩).2

/-! ## Tasks and cascades -/

/-- R112: the outcome of CARRIER-SLEEP leaves the marks in their states. -/
theorem marksLaw_endedEffect (c : CarrierIx) (kind : DirectiveKind) (how : DirectiveEnd) (law : MarksLaw s) :
    MarksLaw (endedEffect c kind how s).1 := by
  rcases endedEffect_cases c kind how s with calm | ⟨k, -, eq⟩
  · exact calm.marksLaw (fun h => h.2 rfl) law
  · rw [eq]
    refine (Inner.marksLaw (tells_notifyState ..).inner (marksLaw_enqueued (c := c) fun d ne => ?_))
    exact (tells_notifyState ..).inner.marked (marked_moveTo_other ne (law d))

theorem marksLaw_task (k : Task) (law : MarksLaw s) : MarksLaw (k.effect s).1 := by
  cases k with
  | ended c kind how => exact marksLaw_endedEffect c kind how law
  | _ => exact (chain_task _ s).marksLaw (by simp [Task.allowsIn, Task.allows, Kind.returns]) law

/-- The laws of the carriers that every stride keeps: rest (R72), the Carrier Table (R66, R68, R69), the wake queue (R127),
the marks (R96, R113, R166), the lists and their order (R74, R78, R79). -/
structure Orders (s t : State) : Prop where
  resting : RestingLaw s → RestingLaw t
  table : CarrierTableLaw s → CarrierTableLaw t
  queue : WakeQueueLaw s → WakeQueueLaw t
  marks : MarksLaw s → MarksLaw t
  cover : CarrierTableLaw s → RestingLaw s → CoverLaw s → CoverLaw t
  order : CarrierTableLaw s → RestingLaw s → CoverLaw s → OrderLaw s → OrderLaw t

theorem Orders.refl (s : State) : Orders s s := ⟨id, id, id, id, fun _ _ => id, fun _ _ _ => id⟩

theorem Orders.trans (h : Orders s t) (k : Orders t u) : Orders s u where
  resting := k.resting ∘ h.resting
  table := k.table ∘ h.table
  queue := k.queue ∘ h.queue
  marks := k.marks ∘ h.marks
  cover table rest cover := k.cover (h.table table) (h.resting rest) (h.cover table rest cover)
  order table rest cover order :=
    k.order (h.table table) (h.resting rest) (h.cover table rest cover) (h.order table rest cover order)

theorem coverLaw_iff_holdsBy : CoverLaw s ↔ HoldsBy Listed s := coverLaw_iff_listed

/-- The laws that a chain keeps, the marks apart. -/
theorem Chain.orders (h : Chain P s t) (marks : MarksLaw s → MarksLaw t) : Orders s t where
  resting := h.restingLaw
  table := h.tableLaw
  queue := h.wakeQueueLaw
  marks := marks
  cover _ rest cover := coverLaw_iff_holdsBy.mpr (h.holdsBy listProperty_listed rest (coverLaw_iff_holdsBy.mp cover))
  order _ rest cover order :=
    (h.holdsBy listProperty_ordered rest ⟨coverLaw_iff_holdsBy.mp cover, order⟩).2

theorem Chain.orders_of_calm (h : Chain P s t) (calm : ¬P .lull) : Orders s t := h.orders (h.marksLaw calm)

theorem Inner.orders (h : Inner s t) : Orders s t :=
  Chain.orders_of_calm (h.chain (P := (· = .inner)) rfl) (by simp)

theorem Tells.orders (h : Tells s t) : Orders s t := h.inner.orders

theorem orders_task (k : Task) (s : State) : Orders s (k.effect s).1 := (chain_task k s).orders (marksLaw_task k)

theorem orders_work (tasks : List Task) (s : State) : Orders s (s.work tasks) :=
  work_induction Orders Orders.refl Orders.trans orders_task tasks s

theorem orders_finish {e : Effect} (h : Orders s e.1) : Orders s e.finish := h.trans (orders_work ..)

end Sys2Proof.Machine
end

section
/-! PROOFS. The cascade of an event comes to its end: a weight that every task uses up bounds how deep one may set off
another, so `taskFuel` is never used up (assumption log 19), and a property of states and waiting tasks can be followed through
the cascade (`Done`). -/

namespace Sys2Proof.Machine

variable {s t u : State} {c d : CarrierIx} {v : UnitIx}

/-! ## The weight of a state -/

/-- How many strides a carrier may still go before it waits in WARMUP or is LOST. -/
def LifeState.height : LifeState → Nat
  | .unmanaged => 0
  | .lost => 0
  | .warmup => 1
  | .queued => 2
  | _ => 3

/-- The heights of the carriers. -/
def State.heights (s : State) : Nat := ∑ c : CarrierIx, (s.lifeState c).height

/-- The directives that wait. -/
def State.directives (s : State) : Nat := ∑ v : UnitIx, (s.unit v).queue.length

/-- What the tasks of an event use up. -/
@[irreducible] def State.weight (s : State) : Nat := 3 * s.heights + s.directives

theorem heights_le (s : State) : s.heights ≤ 96 := by
  have each (c : CarrierIx) : (s.lifeState c).height ≤ 3 := by cases s.lifeState c <;> decide
  calc s.heights ≤ ∑ _c : CarrierIx, 3 := Finset.sum_le_sum fun c _ => each c
    _ = 96 := by simp

theorem directives_eq (s : State) : s.directives = (s.units.toList.map fun x => x.queue.length).sum := by
  have list : s.units.toList = List.ofFn fun v : UnitIx => s.unit v := by
    refine List.ext_getElem (by rw [Vector.length_toList, List.length_ofFn]) fun i h k => ?_
    rw [List.getElem_ofFn]
    rfl
  rw [list, List.map_ofFn, List.sum_ofFn]
  rfl

/-- Assumption log 19: the bound is far above the weight. -/
theorem weight_lt_taskFuel (s : State) : s.weight + 712 ≤ s.taskFuel := by
  have := heights_le s
  rw [State.weight, State.taskFuel, directives_eq]
  omega

theorem heights_of_state (h : ∀ d, t.lifeState d = s.lifeState d) : t.heights = s.heights := by
  simp only [State.heights, h]

/-- One carrier's change of state. -/
theorem heights_of_move {new : LifeState} (h : ∀ d, t.lifeState d = if d = c then new else s.lifeState d) :
    t.heights + (s.lifeState c).height = s.heights + new.height := by
  have apart (x : State) : x.heights = (x.lifeState c).height + ∑ d ∈ Finset.univ.erase c, (x.lifeState d).height :=
    (Finset.add_sum_erase _ _ (Finset.mem_univ c)).symm
  have rest : ∑ d ∈ Finset.univ.erase c, (t.lifeState d).height = ∑ d ∈ Finset.univ.erase c, (s.lifeState d).height :=
    Finset.sum_congr rfl fun d mem => by rw [h, if_neg (Finset.ne_of_mem_erase mem)]
  rw [apart t, apart s, rest, h, if_pos rfl]
  omega

theorem directives_of_queue (h : ∀ v, (t.unit v).queue = (s.unit v).queue) : t.directives = s.directives := by
  simp only [State.directives, h]

theorem directives_of_units (h : t.units = s.units) : t.directives = s.directives :=
  directives_of_queue fun v => by simp [State.unit, h]

theorem directives_setUnit (s : State) (v : UnitIx) (x : RadioUnit) :
    (s.setUnit v x).directives + (s.unit v).queue.length = s.directives + x.queue.length := by
  have apart (y : State) : y.directives = (y.unit v).queue.length + ∑ w ∈ Finset.univ.erase v, (y.unit w).queue.length :=
    (Finset.add_sum_erase _ _ (Finset.mem_univ v)).symm
  have rest : ∑ w ∈ Finset.univ.erase v, ((s.setUnit v x).unit w).queue.length =
      ∑ w ∈ Finset.univ.erase v, (s.unit w).queue.length :=
    Finset.sum_congr rfl fun w mem => by rw [State.setUnit_unit, if_neg (Finset.ne_of_mem_erase mem)]
  rw [apart (s.setUnit v x), apart s, rest, State.setUnit_unit, if_pos rfl]
  omega

theorem weight_setUnit (s : State) (v : UnitIx) (x : RadioUnit) :
    (s.setUnit v x).weight + (s.unit v).queue.length = s.weight + x.queue.length := by
  have := directives_setUnit s v x
  have : (s.setUnit v x).heights = s.heights := rfl
  simp only [State.weight]
  omega

theorem weight_setUnit_of_queue {x : RadioUnit} (h : x.queue = (s.unit v).queue) : (s.setUnit v x).weight = s.weight := by
  have := weight_setUnit s v x
  rw [h] at this
  omega

/-- What neither a lifecycle state nor a directive queue is touched by. -/
theorem weight_of_eq (state : ∀ d, t.lifeState d = s.lifeState d) (units : t.units = s.units) : t.weight = s.weight := by
  rw [State.weight, heights_of_state state, directives_of_units units, ← State.weight]

theorem Tells.weight (h : Tells s t) : t.weight = s.weight := weight_of_eq h.lifeState h.units

/-! ## The weight after the shared operations -/

theorem weight_transmit (s : State) (v : UnitIx) (d : Directive) : (s.transmit v d).weight = s.weight :=
  (tells_offerInjected ..).weight.trans (by refine weight_setUnit_of_queue ?_; rfl)

theorem weight_releaseUnit (s : State) (v : UnitIx) : (s.releaseUnit v).weight = s.weight :=
  (tells_inject ..).weight.trans ((by refine weight_setUnit_of_queue ?_; rfl :
    _ = s.advanceToken.weight).trans (weight_of_eq (fun _ => rfl) rfl))

theorem weight_deepExpire (s : State) (v : UnitIx) : (s.deepExpire v).weight ≤ s.weight + 1 := by
  unfold State.deepExpire
  dsimp only
  split
  · rw [weight_transmit]
    have := weight_setUnit s.advanceToken v
      { s.unit v with state := some .deepPending, queue := [s.unitDirective .unitDeep], deepTimer := none }
    have same : s.advanceToken.weight = s.weight := weight_of_eq (fun _ => rfl) rfl
    simp only [List.length_singleton] at this
    omega
  · refine le_of_eq_of_le (weight_setUnit_of_queue ?_) (Nat.le_succ _)
    rfl

theorem weight_deepTest (s : State) (v : UnitIx) : (s.deepTest v).weight ≤ s.weight + 1 := by
  unfold State.deepTest
  split
  · split
    · exact weight_deepExpire s v
    · refine le_of_eq_of_le (weight_setUnit_of_queue ?_) (Nat.le_succ _)
      rfl
  · exact Nat.le_succ _

theorem movePlaces_units (s : State) (c : CarrierIx) (old new : LifeState) : (s.movePlaces c old new).units = s.units := by
  have leave (s : State) : (s.leaveDrain c).units = s.units := rfl
  have wake (s : State) : (s.leaveSleepers c).units = s.units := rfl
  have join (s : State) : (s.joinSleepers c).units = s.units := rfl
  simp only [State.movePlaces, apply_ite State.units, State.setWakeQueue_units, leave, wake, join, ite_self]

theorem directives_moveTo_le (s : State) (c : CarrierIx) (new : LifeState) :
    (s.moveTo c new).directives ≤ s.directives + if new = .slumber then 1 else 0 := by
  unfold State.moveTo
  dsimp only
  have before (x : Carrier) : ((s.movePlaces c (s.lifeState c) new).setCarrier c x).directives = s.directives :=
    directives_of_units (movePlaces_units ..)
  have test {y : State} : (y.deepTest (y.unitOf c)).directives ≤ y.directives + 1 := by
    have := weight_deepTest y (y.unitOf c)
    have state := heights_of_state (inner_deepTest y (y.unitOf c)).state
    simp only [State.weight] at this
    omega
  unfold State.moveSlumber
  split
  · rw [← before]
    exact (directives_of_queue fun w => by
      rw [State.stopDeepTimer, State.setUnit_unit]
      split
      · subst w; rfl
      · rfl).trans_le (Nat.le_add_right ..)
  · split
    · rename_i enters
      rw [if_pos enters.1, ← before]
      exact test
    · rw [before]
      exact Nat.le_add_right ..

theorem weight_moveTo_le (s : State) (c : CarrierIx) (new : LifeState) :
    (s.moveTo c new).weight + 3 * (s.lifeState c).height ≤
      s.weight + 3 * new.height + if new = .slumber then 1 else 0 := by
  have heights := heights_of_move (moveTo_lifeState s c (new := new))
  have directives := directives_moveTo_le s c new
  simp only [State.weight]
  omega

/-- Entry to any state but SLUMBER. -/
theorem weight_moveTo_le_of_ne {new : LifeState} (ne : new ≠ .slumber) (s : State) (c : CarrierIx) :
    (s.moveTo c new).weight + 3 * (s.lifeState c).height ≤ s.weight + 3 * new.height := by
  have := weight_moveTo_le s c new
  rwa [if_neg ne] at this

theorem weight_moveAndTell (s : State) (c : CarrierIx) (new : LifeState) (cause : Cause) :
    (s.moveAndTell c new cause).weight = (s.moveTo c new).weight := (tells_notifyState ..).weight

theorem weight_enterQueued_le (s : State) (c : CarrierIx) (cls : WakeClass) (depth : Depth) (cause : Cause) :
    (s.enterQueued c cls depth cause).weight + 3 * (s.lifeState c).height ≤ s.weight + 6 := by
  have queued : (s.enterQueued c cls depth cause).weight = (s.moveTo c .queued).weight :=
    (tells_notifyState ..).weight.trans (weight_of_eq (fun _ => rfl) rfl)
  have := weight_moveTo_le_of_ne (new := .queued) (by simp) s c
  rw [queued]
  exact this

theorem weight_settleNow_le (s : State) (c : CarrierIx) : (s.settleNow c).weight ≤ s.weight := by
  unfold State.settleNow
  split
  · rename_i old
    have := weight_moveTo_le_of_ne (new := .active) (by simp) s c
    rw [old] at this
    rw [weight_moveAndTell]
    exact Nat.le_of_add_le_add_right this
  · exact Nat.le_refl _

theorem weight_enterRestoring_le (s : State) (c : CarrierIx) (cause : Cause) :
    (s.enterRestoring c cause).weight + 3 * (s.lifeState c).height ≤ s.weight + 9 := by
  have entered : (((s.moveTo c .restoring).advise .openUp c cause).notifyState c (s.lifeState c) .restoring cause
      cause.origin).weight = (s.moveTo c .restoring).weight :=
    (tells_notifyState ..).weight.trans (tells_advise ..).weight
  have moved := weight_moveTo_le_of_ne (new := .restoring) (by simp) s c
  rw [← entered] at moved
  unfold State.enterRestoring
  dsimp only
  split
  · exact (Nat.add_le_add_right (weight_settleNow_le ..) _).trans moved
  · exact moved

theorem weight_beginDrain_le (s : State) (c : CarrierIx) (pledge : Nat) (cause : Cause)
    (old : s.lifeState c = .active) : (s.beginDrain c pledge cause).weight ≤ s.weight := by
  have moved := weight_moveTo_le_of_ne (new := .draining) (by simp) (s.joinDrain c pledge) c
  have same : (s.joinDrain c pledge).weight = s.weight := weight_of_eq (fun d => joinDrain_lifeState s c d pledge) rfl
  rw [joinDrain_lifeState, old, same] at moved
  have drained : (s.beginDrain c pledge cause).weight = ((s.joinDrain c pledge).moveTo c .draining).weight :=
    (tells_notifyState ..).weight.trans (tells_advise ..).weight
  rw [drained]
  exact Nat.le_of_add_le_add_right moved

theorem weight_handDirective {kind : DirectiveKind} (h : s.handDirective kind c = some t) : t.weight = s.weight + 1 := by
  have taken (d : Directive) :
      (s.advanceToken.setUnit (s.unitOf c) { s.unit (s.unitOf c) with
        queue := (s.unit (s.unitOf c)).queue ++ [d] }).weight = s.weight + 1 := by
    have := weight_setUnit s.advanceToken (s.unitOf c) { s.unit (s.unitOf c) with
        queue := (s.unit (s.unitOf c)).queue ++ [d] }
    have same : s.advanceToken.weight = s.weight := weight_of_eq (fun _ => rfl) rfl
    have unit : s.advanceToken.unit (s.unitOf c) = s.unit (s.unitOf c) := rfl
    rw [unit] at this
    simp only [List.length_append, List.length_singleton] at this
    dsimp only at this ⊢
    omega
  unfold State.handDirective at h
  dsimp only at h
  split at h
  · cases h
  · cases h
  · cases h
    rw [weight_releaseUnit]
    exact taken _
  all_goals cases h; exact taken _

theorem weight_removeDirective_le (s : State) (c : CarrierIx) : (s.removeDirective c).weight ≤ s.weight := by
  unfold State.removeDirective
  dsimp only
  have shorter := weight_setUnit s (s.unitOf c)
    { (if (s.unit (s.unitOf c)).sent.isSome && ((s.unit (s.unitOf c)).queue.head?.elim false fun d => d.isFor c) then
        (s.unit (s.unitOf c)).idle else s.unit (s.unitOf c)) with
      queue := (s.unit (s.unitOf c)).queue.filter fun d => !d.isFor c }
  have := List.length_filter_le (fun d : Directive => !d.isFor c) (s.unit (s.unitOf c)).queue
  dsimp only at shorter
  omega

/-! ## What a task uses up -/

/-- How much a task, with all that it sets off, may add to the weight. -/
def Task.cost : Task → Nat
  | .wake _ .management => 6
  | .linkUp _ => 6
  | .ended .. => 6
  | .recover _ => 192
  | .report .. => 1
  | .deepen _ => 1
  | .deepTest _ => 1
  | _ => 0

/-- How far above the weight the depth of what a task sets off may reach. -/
def Task.need : Task → Nat
  | .wake _ .management => 7
  | .linkUp _ => 7
  | .ended .. => 7
  | .recover _ => 200
  | .report .. => 2
  | .deepen _ => 2
  | .group .. => 1
  | .anchorLost _ => 1
  | _ => 0

/-- What tasks may add together. -/
def costs (l : List Task) : Nat := (l.map Task.cost).sum

/-- A task at weight `w` with this effect uses up what it sets off. -/
def Effect.Fits (e : Effect) (w : Nat) (k : Task) : Prop :=
  e.1.weight + costs e.2 ≤ w + k.cost ∧ ∀ j ∈ e.2, e.1.weight + costs e.2 + j.need < w + k.need

end Sys2Proof.Machine
end

section
/-! PROOFS. Every task uses up the weight that what it sets off needs, so the tasks of an event are done whole. -/

namespace Sys2Proof.Machine

variable {s t u : State} {c d : CarrierIx} {v : UnitIx}

/-! ## What each task uses up -/

theorem costs_nil : costs [] = 0 := rfl

theorem costs_cons (k : Task) (l : List Task) : costs (k :: l) = k.cost + costs l := by simp [costs]

theorem costs_append (l m : List Task) : costs (l ++ m) = costs l + costs m := by simp [costs]

/-- Tasks that cost no more than `n` each. -/
theorem costs_map_le {α : Type} (f : α → Task) (n : Nat) (h : ∀ a, (f a).cost ≤ n) (l : List α) :
    costs (l.map f) ≤ n * l.length := by
  induction l with
  | nil => exact Nat.zero_le _
  | cons a l ih =>
    have := h a
    rw [List.map_cons, costs_cons, List.length_cons, Nat.mul_succ]
    omega

/-- An effect that sets nothing off. -/
theorem fits_alone {w : Nat} {k : Task} (h : t.weight ≤ w + k.cost) : Effect.Fits (t, []) w k :=
  ⟨h, fun _ mem => absurd mem (by simp)⟩

/-- An effect that sets off tasks without cost, of which none needs more than the weight leaves. -/
theorem fits_of_free {w : Nat} {k : Task} {l : List Task} (h : t.weight ≤ w + k.cost) (free : costs l = 0)
    (need : ∀ j ∈ l, t.weight + j.need < w + k.need) : Effect.Fits (t, l) w k := by
  refine ⟨?_, fun j mem => ?_⟩
  · change t.weight + costs l ≤ _
    omega
  · change t.weight + costs l + _ < _
    have := need j mem
    omega

theorem height_of_drain {x : LifeState} (h : x.isDrain = true) : x.height = 3 := by
  cases x <;> simp_all [LifeState.isDrain, LifeState.height]

theorem weight_abandonEffect_le (c : CarrierIx) (cause : Cause) (s : State) :
    (abandonEffect c cause s).1.weight ≤ s.weight := by
  unfold abandonEffect
  split
  · rename_i drain
    have := weight_enterRestoring_le s c cause
    rw [height_of_drain drain] at this
    exact Nat.le_of_add_le_add_right this
  · exact Nat.le_refl _

theorem abandonEffect_tasks (c : CarrierIx) (cause : Cause) (s : State) : (abandonEffect c cause s).2 = [] := by
  unfold abandonEffect
  split <;> rfl

theorem fits_abandonEffect (c : CarrierIx) (cause : Cause) (s : State) (k : Task) :
    (abandonEffect c cause s).Fits s.weight k := by
  have alone := abandonEffect_tasks c cause s
  have weight := weight_abandonEffect_le c cause s
  generalize abandonEffect c cause s = e at alone weight
  obtain ⟨t, l⟩ := e
  subst alone
  exact fits_alone (weight.trans (Nat.le_add_right ..))

theorem need_grants : Task.grants.need = 0 := rfl
theorem need_sendHead : (Task.sendHead v).need = 0 := rfl

/-- R126: an entry to QUEUED, with the grants that follow. -/
theorem fits_enterQueued {cls : WakeClass} {depth : Depth} {cause : Cause} {k : Task}
    (cost : 6 ≤ 3 * (s.lifeState c).height + k.cost) (need : 6 < 3 * (s.lifeState c).height + k.need) :
    Effect.Fits (s.enterQueued c cls depth cause, [.grants]) s.weight k := by
  have := weight_enterQueued_le s c cls depth cause
  refine fits_of_free (by omega) rfl fun j mem => ?_
  rw [List.mem_singleton.mp mem, need_grants]
  omega

theorem fits_still {l : List Task} {k : Task} (free : costs l = 0) (need : ∀ j ∈ l, j.need < k.need) :
    Effect.Fits (s, l) s.weight k :=
  fits_of_free (Nat.le_add_right ..) free fun j mem => Nat.add_lt_add_left (need j mem) _

theorem fits_refl {k : Task} : Effect.Fits (s, []) s.weight k := fits_alone (Nat.le_add_right ..)

theorem fits_wakeEffect (c : CarrierIx) (k : WakeKind) (s : State) :
    (wakeEffect c k s).Fits s.weight (.wake c k) := by
  unfold wakeEffect
  split <;> rename_i e
  case h_1 => exact fits_enterQueued (by rw [e]; exact Nat.le_add_right_of_le (by decide))
                (by rw [e]; exact Nat.lt_add_right _ (by decide))
  case h_2 =>
    split
    · exact fits_refl
    · exact fits_enterQueued (by rw [e]; exact Nat.le_add_right_of_le (by decide))
        (by rw [e]; exact Nat.lt_add_right _ (by decide))
  case h_3 | h_4 =>
    split
    · exact fits_refl
    · refine fits_alone (Nat.le_add_right_of_le (weight_of_eq (s := s) (t := s.keepWake c k.cls k.cause) (fun d => ?_) rfl).le)
      exact setLife_lifeState (x := { (s.carrier c).life with
        wakePending := some (raiseMark k.cls k.cause (s.carrier c).life.wakePending) }) s c d rfl
  case h_5 | h_6 =>
    split
    · exact fits_refl
    · exact fits_abandonEffect ..
  case h_7 => exact fits_alone (Nat.le_add_right_of_le (weight_of_eq (s := s)
      (t := s.setWakeQueue (s.wakeQueue.promote c k.cls)) (fun _ => rfl) rfl).le)
  case h_8 =>
    split
    · rename_i management
      subst management
      exact fits_enterQueued (by simp [e, LifeState.height, Task.cost]) (by simp [e, LifeState.height, Task.need])
    · exact fits_refl
  all_goals exact fits_refl

theorem fits_grantTo (h : s.lifeState c = .queued) : (grantTo c s).Fits s.weight .grants := by
  have moved : (s.moveAndTell c .warmup .granted).weight + 3 ≤ s.weight := by
    have := weight_moveTo_le_of_ne (new := .warmup) (by simp) s c
    rw [weight_moveAndTell]
    rw [h] at this
    simp only [LifeState.height] at this
    omega
  unfold grantTo
  rw [if_pos h]
  dsimp only
  split
  · rename_i t taken
    have := weight_handDirective taken
    refine fits_of_free (by omega) rfl fun j mem => ?_
    simp only [List.mem_cons, List.not_mem_nil, or_false] at mem
    rcases mem with rfl | rfl <;> simp only [Task.need] <;> omega
  · refine fits_of_free (by omega) rfl fun j mem => ?_
    simp only [List.mem_cons, List.not_mem_nil, or_false] at mem
    rcases mem with rfl | rfl <;> simp only [Task.need] <;> omega

theorem fits_grantsEffect (s : State) : (grantsEffect s).Fits s.weight .grants := by
  unfold grantsEffect
  split
  · split
    · exact fits_refl
    · by_cases e : s.lifeState (Waiting.carrier ‹_›) = .queued
      · exact fits_grantTo e
      · unfold grantTo
        rw [if_neg e]
        exact fits_refl
  · exact fits_refl

theorem height_pos {x : LifeState} (unmanaged : x ≠ .unmanaged) (lost : x ≠ .lost) : 1 ≤ x.height := by
  cases x <;> simp_all [LifeState.height]

theorem fits_loseEffect (c : CarrierIx) (cause : Cause) (s : State) :
    (loseEffect c cause s).Fits s.weight (.lose c cause) := by
  unfold loseEffect
  dsimp only
  split
  · exact fits_refl
  · rename_i h
    rw [not_or] at h
    have pos := height_pos h.1 h.2
    have moved := weight_moveTo_le_of_ne (new := .lost) (by simp) s c
    have removed := weight_removeDirective_le (s.moveTo c .lost) c
    have told : ((((s.moveTo c .lost).removeDirective c).raiseFlag .carrierLost).notifyState c (s.lifeState c) .lost
        cause cause.origin).weight = ((s.moveTo c .lost).removeDirective c).weight :=
      (tells_notifyState ..).weight.trans (tells_raiseFlag _ _ (by decide)).weight
    have low : LifeState.lost.height = 0 := rfl
    rw [low] at moved
    refine fits_of_free (by omega) ?_ fun j mem => ?_
    · split <;> split <;> rfl
    · have small : j.need ≤ 1 := by
        split at mem <;> split at mem <;> simp at mem <;> rcases mem with rfl | rfl | rfl <;> simp [Task.need]
      omega

theorem fits_sendHeadEffect (v : UnitIx) (s : State) : (sendHeadEffect v s).Fits s.weight (.sendHead v) := by
  unfold sendHeadEffect
  dsimp only
  split
  · split
    · exact fits_refl
    · rename_i d rest queue
      split
      · have shorter := weight_setUnit s v { s.unit v with queue := rest }
        rw [queue, List.length_cons] at shorter
        dsimp only at shorter
        refine fits_of_free (by omega) ?_ fun j mem => ?_
        · cases d.carrier <;> rfl
        · have none : j.need = 0 := by
            cases e : d.carrier <;> rw [e] at mem <;> simp at mem <;> rcases mem with rfl | rfl <;> rfl
          omega
      · exact fits_alone (Nat.le_add_right_of_le (weight_transmit ..).le)
  · exact fits_refl

theorem fits_withdrawnEffect (c : CarrierIx) (s : State) : (withdrawnEffect c s).Fits s.weight (.withdrawn c) := by
  unfold withdrawnEffect
  split
  · rename_i e
    split
    · have := weight_moveTo_le_of_ne (new := .doze) (by simp) s c
      rw [e] at this
      refine fits_alone (Nat.le_add_right_of_le ?_)
      rw [weight_moveAndTell]
      exact Nat.le_of_add_le_add_right this
    · exact fits_enterQueued (by simp [e, LifeState.height, Task.cost]) (by simp [e, LifeState.height, Task.need])
  · exact fits_refl

/-- A carrier of the highest height that stays there. -/
theorem weight_moveAndTell_level {new : LifeState} {cause : Cause} (ne : new ≠ .slumber) (old : (s.lifeState c).height = 3)
    (high : new.height = 3) : (s.moveAndTell c new cause).weight ≤ s.weight := by
  have := weight_moveTo_le_of_ne ne s c
  rw [weight_moveAndTell]
  rw [old, high] at this
  exact Nat.le_of_add_le_add_right this

theorem fits_lose {k : Task} {cause : Cause} (need : 0 < k.need) : Effect.Fits (s, [.lose c cause]) s.weight k :=
  fits_still rfl fun j mem => by rw [List.mem_singleton.mp mem]; exact need

theorem fits_sleepEnded (kind : DirectiveKind) (how : DirectiveEnd) (old : s.lifeState c = .rampdown) :
    (sleepEnded c how s).Fits s.weight (.ended c kind how) := by
  have level : (s.lifeState c).height = 3 := by rw [old]; rfl
  have dozes := weight_moveAndTell_level (cause := .asleepLight) (new := .doze) (by simp) level rfl
  unfold sleepEnded
  split
  · dsimp only
    split
    · exact fits_alone (Nat.le_add_right_of_le dozes)
    · have queued := weight_enterQueued_le (s.moveAndTell c .doze .asleepLight) c (KeptWake.cls ‹_›) .light
        (KeptWake.cause ‹_›)
      rw [moveAndTell_lifeState, if_pos rfl] at queued
      simp only [LifeState.height] at queued
      refine fits_of_free (by omega) rfl fun j mem => ?_
      rw [List.mem_singleton.mp mem, need_grants]
      omega
  · have := weight_enterRestoring_le s c .radioRefused
    exact fits_alone (by omega)
  all_goals exact fits_lose (Nat.succ_pos _)

theorem weight_slumber_le {cause : Cause} (level : (s.lifeState c).height = 3) :
    (s.moveAndTell c .slumber cause).weight ≤ s.weight + 1 := by
  have := weight_moveTo_le s c .slumber
  rw [weight_moveAndTell]
  rw [level, if_pos rfl] at this
  simp only [LifeState.height] at this
  omega

theorem fits_deepenEnded (kind : DirectiveKind) (how : DirectiveEnd) (old : s.lifeState c = .deepening) :
    (deepenEnded c how s).Fits s.weight (.ended c kind how) := by
  have level : (s.lifeState c).height = 3 := by rw [old]; rfl
  have dozes := weight_moveAndTell_level (cause := .asleepLight) (new := .doze) (by simp) level rfl
  have slumbers := weight_slumber_le (cause := .asleepDeep) level
  have cost : (Task.ended c kind how).cost = 6 := rfl
  unfold deepenEnded
  dsimp only
  split
  · split
    · exact fits_alone (by omega)
    · exact fits_enterQueued (by simp [old, LifeState.height, Task.cost]) (by simp [old, LifeState.height, Task.need])
  · split
    · exact fits_alone (Nat.le_add_right_of_le dozes)
    · exact fits_enterQueued (by simp [old, LifeState.height, Task.cost]) (by simp [old, LifeState.height, Task.need])
  all_goals exact fits_lose (Nat.succ_pos _)

theorem fits_wakeEnded (kind : DirectiveKind) (how : DirectiveEnd) (old : s.lifeState c = .warmup) :
    (wakeEnded c how s).Fits s.weight (.ended c kind how) := by
  unfold wakeEnded
  split
  · have := weight_enterRestoring_le s c .ready
    rw [old] at this
    simp only [LifeState.height] at this
    refine fits_of_free (by simp only [Task.cost]; omega) rfl fun j mem => ?_
    rw [List.mem_singleton.mp mem, need_grants]
    simp only [Task.need]
    omega
  all_goals exact fits_lose (Nat.succ_pos _)

theorem fits_endedEffect (c : CarrierIx) (kind : DirectiveKind) (how : DirectiveEnd) (s : State) :
    (endedEffect c kind how s).Fits s.weight (.ended c kind how) := by
  unfold endedEffect
  split
  · split
    · exact fits_sleepEnded _ _ ‹_›
    · exact fits_refl
  · split
    · exact fits_deepenEnded _ _ ‹_›
    · exact fits_refl
  · split
    · exact fits_wakeEnded _ _ ‹_›
    · exact fits_refl
  all_goals exact fits_refl

theorem fits_linkUpEffect (c : CarrierIx) (s : State) : (linkUpEffect c s).Fits s.weight (.linkUp c) := by
  unfold linkUpEffect
  split
  · rename_i e
    exact fits_enterQueued (by simp [e, LifeState.height, Task.cost]) (by simp [e, LifeState.height, Task.need])
  · exact fits_refl

/-- A directive that has been handed on, and the head then considered. -/
theorem fits_handed {k : Task} (weight : t.weight ≤ s.weight + 1) (cost : 1 ≤ k.cost) (need : 2 ≤ k.need) :
    Effect.Fits (t, [.sendHead v]) s.weight k :=
  fits_of_free (by omega) rfl fun j mem => by
    rw [List.mem_singleton.mp mem, need_sendHead]
    omega

theorem fits_deepenEffect {k : Task} (cost : 1 ≤ k.cost) (need : 2 ≤ k.need) (c : CarrierIx) (s : State) :
    (deepenEffect c s).Fits s.weight k := by
  unfold deepenEffect
  split
  · rename_i due
    split
    · rename_i t taken
      have handed := weight_handDirective taken
      have old : t.lifeState c = .doze := ((inner_handDirective taken).state c).trans (deepenDue_doze due)
      have := weight_moveAndTell_level (cause := .deepen) (new := .deepening) (by simp)
        (by rw [old]; rfl : (t.lifeState c).height = 3) rfl
      exact fits_handed (by omega) cost need
    · exact fits_refl
  · exact fits_refl

theorem fits_completeDrain {k : Task} {cause : Cause} {origin : Origin} (cost : 1 ≤ k.cost) (need : 2 ≤ k.need)
    (c : CarrierIx) (s : State) : (completeDrain c cause origin s).Fits s.weight k := by
  unfold completeDrain
  split
  · rename_i old
    have moved := weight_moveTo_le_of_ne (new := .rampdown) (by simp) s c
    rw [old] at moved
    simp only [LifeState.height] at moved
    dsimp only
    split
    · rename_i r taken
      have handed := weight_handDirective taken
      have told : (r.notifyState c .draining .rampdown cause origin).weight = r.weight := (tells_notifyState ..).weight
      exact fits_handed (by omega) cost need
    · have told : ((s.moveTo c .rampdown).notifyState c .draining .rampdown cause origin).weight =
          (s.moveTo c .rampdown).weight := (tells_notifyState ..).weight
      refine fits_of_free (by omega) rfl fun j mem => ?_
      rw [List.mem_singleton.mp mem]
      change _ + 0 < _
      omega
  · exact fits_refl

theorem fits_reportEffect (c : CarrierIx) (m : Meter) (s : State) :
    (reportEffect c m s).Fits s.weight (.report c m) := by
  unfold reportEffect
  dsimp only
  split
  · split
    · exact fits_abandonEffect ..
    · split
      · exact fits_completeDrain (Nat.le_refl _) (Nat.le_refl _) _ _
      · exact fits_refl
  · split
    · exact fits_abandonEffect ..
    · exact fits_refl
  · exact fits_deepenEffect (Nat.le_refl _) (Nat.le_refl _) _ _
  all_goals exact fits_refl

theorem weight_tryAdmit_le (report : Vector Meter 32) (old : s.lifeState c = .active) :
    (State.tryAdmit report s c).weight ≤ s.weight := by
  unfold State.tryAdmit
  dsimp only
  split
  · exact weight_beginDrain_le s c _ _ old
  · exact Nat.le_refl _

theorem weight_admissions_le (report : Vector Meter 32) (l : List CarrierIx) (s : State) (once : l.Nodup)
    (active : ∀ c ∈ l, s.lifeState c = .active) : (l.foldl (State.tryAdmit report) s).weight ≤ s.weight := by
  induction l generalizing s with
  | nil => exact Nat.le_refl _
  | cons c l ih =>
    obtain ⟨fresh, once⟩ := List.nodup_cons.mp once
    refine (ih _ once fun d mem => ?_).trans (weight_tryAdmit_le report (active c (List.mem_cons_self ..)))
    rw [tryAdmit_lifeState report c d s fun e => fresh (e ▸ mem)]
    exact active d (List.mem_cons_of_mem _ mem)

theorem fits_groupEffect (a : CarrierIx) (report : Vector Meter 32) (s : State) :
    (groupEffect a report s).Fits s.weight (.group a report) := by
  unfold groupEffect
  split
  · split
    · unfold reliefEffect
      split
      · exact fits_abandonEffect ..
      · split
        · exact fits_still rfl fun j mem => by rw [List.mem_singleton.mp mem]; exact Nat.zero_lt_one
        · exact fits_refl
    · exact fits_alone (Nat.le_add_right_of_le
        (weight_admissions_le report _ s (candidates_nodup ..) fun c mem => (candidates_active mem).1))
  · exact fits_refl

theorem unitCarriers_length (s : State) (v : UnitIx) : (s.unitCarriers v).length ≤ 32 := by
  unfold State.unitCarriers
  exact (List.length_filter_le ..).trans (List.length_finRange ..).le

theorem fits_recoverEffect (v : UnitIx) (s : State) : (recoverEffect v s).Fits s.weight (.recover v) := by
  unfold recoverEffect
  split
  · have costs := costs_map_le Task.linkUp 6 (fun _ => Nat.le_refl _) (s.unitCarriers v)
    have length := unitCarriers_length s v
    have weight := weight_releaseUnit s v
    refine ⟨?_, fun j mem => ?_⟩
    · simp only [Task.cost]
      omega
    · obtain ⟨c, -, rfl⟩ := List.mem_map.mp mem
      simp only [Task.need]
      omega
  · exact fits_refl

theorem fits_task (k : Task) (s : State) : (k.effect s).Fits s.weight k := by
  cases k with
  | wake c k => exact fits_wakeEffect ..
  | grants => exact fits_grantsEffect ..
  | anchorLost a =>
    refine fits_still (Nat.le_zero.mp ((costs_map_le _ 0 (fun _ => Nat.le_refl _) _).trans (Nat.zero_mul _).le)) ?_
    intro j mem
    obtain ⟨d, -, rfl⟩ := List.mem_map.mp mem
    exact Nat.zero_lt_one
  | sendHead v => exact fits_sendHeadEffect ..
  | lose c cause => exact fits_loseEffect ..
  | ended c kind how => exact fits_endedEffect ..
  | withdrawn c => exact fits_withdrawnEffect ..
  | linkUp c => exact fits_linkUpEffect ..
  | deepen c => exact fits_deepenEffect (Nat.le_refl _) (Nat.le_refl _) _ _
  | abandon c cause => exact fits_abandonEffect ..
  | report c m => exact fits_reportEffect ..
  | group a rep => exact fits_groupEffect ..
  | deepTest v => exact fits_alone (weight_deepTest ..)
  | recover v => exact fits_recoverEffect ..

/-! ## Tasks that are done whole -/

/-- From `s` to `t` the tasks have been worked off, each with all that it sets off. -/
inductive Done : List Task → State → State → Prop where
  | nil (s : State) : Done [] s s
  | cons {k : Task} {l : List Task} {s t u : State} : Done (k.effect s).2 (k.effect s).1 t → Done l t u →
      Done (k :: l) s u

/-- Tasks whose needs the depth exceeds are done whole, given that each alone is. -/
theorem done_foldl (n : Nat) (one : ∀ (k : Task) (s : State), s.weight + k.need < n →
      Done (k.effect s).2 (k.effect s).1 (runTask n k s) ∧ (runTask n k s).weight ≤ s.weight + k.cost)
    (l : List Task) (s : State) (deep : ∀ k ∈ l, s.weight + costs l + k.need < n) :
    Done l s (l.foldl (fun s k => runTask n k s) s) ∧
      (l.foldl (fun s k => runTask n k s) s).weight ≤ s.weight + costs l := by
  induction l generalizing s with
  | nil => exact ⟨.nil s, Nat.le_refl _⟩
  | cons k l ih =>
    rw [costs_cons] at deep
    obtain ⟨done, weight⟩ := one k s (by have := deep k (List.mem_cons_self ..); omega)
    obtain ⟨rest, total⟩ := ih (runTask n k s) fun j mem => by
      have := deep j (List.mem_cons_of_mem _ mem)
      omega
    refine ⟨.cons done rest, ?_⟩
    rw [costs_cons, List.foldl_cons]
    omega

theorem done_runTask (n : Nat) (k : Task) (s : State) (deep : s.weight + k.need < n) :
    Done (k.effect s).2 (k.effect s).1 (runTask n k s) ∧ (runTask n k s).weight ≤ s.weight + k.cost := by
  induction n generalizing k s with
  | zero => omega
  | succ n ih =>
    obtain ⟨cost, need⟩ := fits_task k s
    obtain ⟨done, weight⟩ := done_foldl n ih (k.effect s).2 (k.effect s).1 fun j mem => by
      have := need j mem
      omega
    exact ⟨done, weight.trans cost⟩

theorem need_le (k : Task) : k.need ≤ 200 := by
  cases k <;> simp only [Task.need] <;> (try split) <;> omega

/-- Assumption log 19: the tasks of an event are done whole. -/
theorem done_work (l : List Task) (s : State) (few : costs l ≤ 500) : Done l s (s.work l) := by
  refine (done_foldl s.taskFuel (done_runTask s.taskFuel) l s fun k _ => ?_).1
  have := weight_lt_taskFuel s
  have := need_le k
  omega

end Sys2Proof.Machine
end

section
/-! PROOFS. What holds once the tasks of an event are done whole: no slot is free while a carrier waits (R130), and the anchor of
every drain is ACTIVE (R74, R82). With these, the number of carriers in WARMUP over any tasks. -/

namespace Sys2Proof.Machine

variable {s t u : State} {c d : CarrierIx}

/-! ## Carriers in WARMUP -/

theorem warmups_eq_sum (s : State) : s.warmups = ∑ c : CarrierIx, if s.lifeState c = .warmup then 1 else 0 := by
  have := sum_filter_finRange (fun c => s.lifeState c == .warmup) fun _ => 1
  simp only [List.map_const', List.sum_replicate, smul_eq_mul, mul_one, beq_iff_eq] at this
  exact this

theorem warmups_of_state (h : ∀ d, t.lifeState d = s.lifeState d) : t.warmups = s.warmups := by
  simp only [State.warmups, h]

/-- One carrier's change of state. -/
theorem warmups_of_move {new : LifeState} (h : ∀ d, t.lifeState d = if d = c then new else s.lifeState d) :
    t.warmups + (if s.lifeState c = .warmup then 1 else 0) = s.warmups + if new = .warmup then 1 else 0 := by
  have := sum_apart (fun d => if s.lifeState d = .warmup then 1 else 0) (fun d => if t.lifeState d = .warmup then 1 else 0) c
    fun d ne => by rw [h, if_neg ne]
  simp only [← warmups_eq_sum] at this
  rwa [h, if_pos rfl] at this

/-- A stride that frees nothing leaves an empty queue empty, and every carrier in WARMUP there. -/
theorem Stride.steady {k : Kind} (h : Stride k s t) (frees : k.frees = false) :
    s.warmups ≤ t.warmups ∧ (s.wakeQueue.entries = [] → t.wakeQueue.entries = []) := by
  have moved {new : LifeState} (s : State) (c : CarrierIx) (old : s.lifeState c ≠ .warmup) :
      s.warmups ≤ (s.moveTo c new).warmups ∧ (s.wakeQueue.entries = [] → (s.moveTo c new).wakeQueue.entries = []) := by
    have := warmups_of_move (moveTo_lifeState s c (new := new))
    rw [if_neg old] at this
    refine ⟨by omega, fun empty => ?_⟩
    rw [moveTo_wakeQueue, movePlaces_wakeQueue]
    split
    · simp_all [WakeQueue.leave, WakeQueue.entries]
    · exact empty
  cases h with
  | inner h => exact ⟨(warmups_of_state h.state).ge, fun empty => by rw [h.wakeQueue, empty]⟩
  | move c new may mark =>
    refine moved s c fun e => ?_
    rw [e] at frees
    cases frees
  | lull c old => exact moved s c (by simp [old])
  | enqueue c cls depth may => cases frees
  | promote c cls =>
    refine ⟨Nat.le_refl _, fun empty => ?_⟩
    simp [State.setWakeQueue, WakeQueue.promote, WakeQueue.placeOf, empty]
  | keep c mark old =>
    have state (d : CarrierIx) := setLife_lifeState (x := { (s.carrier c).life with wakePending := some mark }) s c d rfl
    exact ⟨(warmups_of_state state).ge, id⟩
  | drain c pledge old dependent unprotected anchor =>
    have same : (s.joinDrain c pledge).warmups = s.warmups := warmups_of_state fun d => joinDrain_lifeState s c d pledge
    have drained := moved (new := .draining) (s.joinDrain c pledge) c (by simp [joinDrain_lifeState, old])
    rw [same] at drained
    exact drained
  | received c old =>
    have state (d : CarrierIx) := setCarrier_lifeState s c d { s.carrier c with drainedReceived := true } rfl
    exact ⟨(warmups_of_state state).ge, id⟩

/-! ## No slot is free while a carrier waits -/

/-- R130: a task that lets a carrier wait beside a free slot hands the Wake Scheduler the grants. -/
theorem slotLaw_task {k : Task} (law : SlotLaw s) : SlotLaw (k.effect s).1 ∨ .grants ∈ (k.effect s).2 := by
  by_cases follows : Task.grants ∈ (k.effect s).2
  · exact .inr follows
  · refine .inl ?_
    obtain ⟨warmups, empty⟩ := (chain_task k s).induction
      (fun s t => s.warmups ≤ t.warmups ∧ (s.wakeQueue.entries = [] → t.wakeQueue.entries = []))
      (fun _ => ⟨Nat.le_refl _, id⟩) (fun h k => ⟨h.1.trans k.1, k.2 ∘ h.2⟩)
      fun allowed stride => stride.steady (by
        by_contra frees
        exact follows (allowed.2 (by simpa using frees)))
    intro waits
    rw [(keeps_task k s).settings]
    exact (law fun none => waits (empty none)).trans warmups

/-- R130: where nothing more may be granted no slot is free, or nobody waits. -/
theorem slotLaw_grantsEffect (queue : WakeQueueLaw s) :
    SlotLaw (grantsEffect s).1 ∨ .grants ∈ (grantsEffect s).2 := by
  unfold grantsEffect
  split
  · split
    · rename_i none
      refine .inl fun waits => absurd ?_ waits
      simpa [WakeQueue.first] using none
    · rename_i w first
      refine .inr ?_
      have head : w.carrier ∈ s.wakeQueue.carriers := by
        rw [WakeQueue.first, Option.map_eq_some_iff] at first
        obtain ⟨e, head, rfl⟩ := first
        exact List.mem_map.mpr ⟨e, List.mem_of_head? head, rfl⟩
      unfold grantTo
      rw [if_pos (((wakeQueueLaw_iff.mp queue).2 _).mp head)]
      dsimp only
      split <;> simp
  · exact .inl fun _ => Nat.le_of_not_lt ‹_›

theorem Done.orders {l : List Task} (h : Done l s t) : Orders s t := by
  induction h with
  | nil s => exact .refl s
  | cons _ _ ih ih' => exact ((orders_task _ _).trans ih).trans ih'

theorem Done.carrierConfig {l : List Task} (h : Done l s t) : t.carrierConfig = s.carrierConfig := by
  induction h with
  | nil s => rfl
  | cons _ _ ih ih' => exact ih'.trans (ih.trans (keeps_task _ _).carrierConfig)

/-- R130: once tasks are done whole, no slot is free while a carrier waits, if none was, or if the grants were among them. -/
theorem Done.slotLaw {l : List Task} (h : Done l s t) (queue : WakeQueueLaw s) (law : SlotLaw s ∨ .grants ∈ l) :
    SlotLaw t := by
  induction h with
  | nil s => exact law.resolve_right (by simp)
  | @cons k l s t u inside after ihInside ihAfter =>
    have queue' := (orders_task k s).queue queue
    refine ihAfter (inside.orders.queue queue') ?_
    by_cases later : Task.grants ∈ l
    · exact .inr later
    · refine .inl (ihInside queue' ?_)
      rcases law with law | mem
      · exact slotLaw_task law
      · rcases List.mem_cons.mp mem with rfl | mem
        · exact slotLaw_grantsEffect queue
        · exact absurd mem later

theorem slotLaw_work {l : List Task} (few : costs l ≤ 500) (queue : WakeQueueLaw s) (law : SlotLaw s ∨ .grants ∈ l) :
    SlotLaw (s.work l) := (done_work l s few).slotLaw queue law

/-! ## The anchors of drains -/

/-- R74, R82: the anchor of every drain is ACTIVE, but for carriers of which it is still to be heard. -/
def Anchored (except : CarrierIx → Prop) (s : State) : Prop :=
  ∀ c, (s.lifeState c).isDrain = true → s.lifeState (s.anchorOf c) = .active ∨ except c

/-- R82, R123: tasks that are to end the drain of a carrier whose anchor is LOST. -/
def Hears (l : List Task) (c : CarrierIx) (s : State) : Prop := .anchorLost (s.anchorOf c) ∈ l ∨ .wake c .anchorLost ∈ l

variable {except : CarrierIx → Prop}

/-- R68: the anchor that a managed carrier names is no dependent. -/
theorem CarrierTableLaw.anchor_not_dependent (table : CarrierTableLaw s) (managed : s.isManaged c = true) :
    s.isDependent (s.anchorOf c) = false := by
  have := (table.anchors c managed).1
  simp only [State.isAnchor, Bool.and_eq_true, beq_iff_eq] at this
  simp [State.isDependent, this.2]

/-- R74: no stride but a loss makes an ACTIVE anchor leave ACTIVE. -/
theorem Stride.anchored {k : Kind} (h : Stride k s t) (lost : ∀ old, k ≠ .move old .lost) (table : CarrierTableLaw s)
    (holds : Anchored except s) : Anchored except t := by
  obtain ⟨config, -⟩ := h.frame
  intro d drain
  rw [anchorOf_of_carrierConfig config]
  have moved {c : CarrierIx} {new : LifeState} (x : State) (begun : new.isDrain = true → (x.lifeState c).isDrain = true)
      (active : x.lifeState c ≠ .active) (drain : ((x.moveTo c new).lifeState d).isDrain = true) :
      (x.lifeState d).isDrain = true ∧
        (x.lifeState (x.anchorOf d) = .active → (x.moveTo c new).lifeState (x.anchorOf d) = .active) := by
    rw [moveTo_lifeState] at drain ⊢
    constructor
    · by_cases e : d = c
      · rw [if_pos e] at drain
        exact e ▸ begun drain
      · rwa [if_neg e] at drain
    · intro up
      rwa [if_neg fun e : x.anchorOf d = c => active (e ▸ up)]
  cases h with
  | inner h =>
    rw [h.state] at drain ⊢
    exact holds d drain
  | move c new may mark =>
    have active : s.lifeState c ≠ .active := fun e => by
      rw [e] at may lost
      cases new <;> simp_all [LifeState.mayShift]
    obtain ⟨before, up⟩ := moved s (mayShift_drain may) active drain
    exact (holds d before).imp_left up
  | lull c old =>
    obtain ⟨before, up⟩ := moved s (by simp [LifeState.isDrain]) (by simp [old]) drain
    exact (holds d before).imp_left up
  | enqueue c cls depth may =>
    obtain ⟨before, up⟩ := moved s (c := c) (new := .queued) (by simp [LifeState.isDrain])
      (fun e => by rw [e] at may; cases may) drain
    exact (holds d before).imp_left up
  | promote c cls => exact holds d drain
  | keep c mark old =>
    simp only [setLife_lifeState (x := { (s.carrier c).life with wakePending := some mark }) s c _ rfl] at drain ⊢
    exact holds d drain
  | drain c pledge old dependent unprotected anchor =>
    simp only [moveTo_lifeState, joinDrain_lifeState] at drain ⊢
    have still (e : CarrierIx) (managed : s.isManaged e = true) (up : s.lifeState (s.anchorOf e) = .active) :
        (if s.anchorOf e = c then LifeState.draining else s.lifeState (s.anchorOf e)) = .active := by
      rwa [if_neg fun same => by
        have := table.anchor_not_dependent managed
        rw [same, dependent] at this
        cases this]
    split at drain
    · subst d
      simp only [State.isDependent, Bool.and_eq_true] at dependent
      exact .inl (still _ dependent.1 anchor)
    · refine (holds d drain).imp_left (still d ?_)
      exact managed_of rfl (fun e => by rw [e] at drain; cases drain)
  | received c old =>
    simp only [setCarrier_lifeState s c _ { s.carrier c with drainedReceived := true } rfl] at drain ⊢
    exact holds d drain

theorem Chain.anchored {P : Kind → Prop} (h : Chain P s t) (lost : ∀ old, ¬P (.move old .lost))
    (table : CarrierTableLaw s) (holds : Anchored except s) : Anchored except t :=
  (h.induction (fun s t => CarrierTableLaw s ∧ Anchored except s → CarrierTableLaw t ∧ Anchored except t)
    (fun _ => id) (fun h k => k ∘ h)
    (fun allowed stride ⟨table, holds⟩ => ⟨table.of_eq stride.frame.1 stride.frame.2,
      stride.anchored (fun old e => lost old (e ▸ allowed)) table holds⟩) ⟨table, holds⟩).2

/-- R135: all that entry to LOST does to the states. -/
theorem loseEffect_lifeState (c d : CarrierIx) (cause : Cause) (s : State) :
    (loseEffect c cause s).1.lifeState d = if d = c ∧ s.lifeState c ≠ .unmanaged then .lost else s.lifeState d := by
  unfold loseEffect
  dsimp only
  split
  · rename_i h
    split
    · rename_i e
      obtain ⟨rfl, managed⟩ := e
      exact h.resolve_left managed
    · rfl
  · rename_i h
    rw [not_or] at h
    rw [(tells_notifyState ..).lifeState, (tells_raiseFlag _ _ (by decide)).lifeState, (inner_removeDirective ..).state,
      moveTo_lifeState]
    simp only [h.1, ne_eq, not_false_eq_true, and_true]

/-- R82: a task leaves every drain under an ACTIVE anchor, or sets off what is to end it. -/
theorem anchored_task (k : Task) (l : List Task) (table : CarrierTableLaw s) (resting : RestingLaw s)
    (holds : Anchored (fun c => Hears (k :: l) c s ∨ except c) s) :
    Anchored (fun c => Hears (k.effect s).2 c (k.effect s).1 ∨ Hears l c s ∨ except c) (k.effect s).1 := by
  have calm (allows : ∀ old, ¬k.allows (.move old .lost)) :
      Anchored (fun c => Hears (k :: l) c s ∨ except c) (k.effect s).1 :=
    (chain_task k s).anchored (fun old allowed => allows old allowed.1) table holds
  have later {x : State} {c : CarrierIx} (h : Hears (k :: l) c s ∨ except c)
      (other : k ≠ .anchorLost (s.anchorOf c) ∧ k ≠ .wake c .anchorLost) :
      Hears (k.effect s).2 c x ∨ Hears l c s ∨ except c := by
    simp only [Hears, List.mem_cons] at h ⊢
    tauto
  cases k with
  | anchorLost a =>
    intro c drain
    rcases holds c drain with up | hears
    · exact .inl up
    · by_cases here : a = s.anchorOf c
      · subst here
        refine .inr (.inl (.inr (List.mem_map.mpr ⟨c, ?_, rfl⟩)))
        have dependent := (resting c (by simp [LifeState.isResting, show (s.lifeState c).isDrain = true from drain])).1
        simp [State.dependents, dependent]
      · exact .inr (later hears ⟨by simpa using here, by simp⟩)
  | wake e kind =>
    intro c drain
    rcases calm (by simp [Task.allows, Kind.returns]) c drain with up | hears
    · exact .inl up
    · refine .inr (later hears ⟨by simp, fun same => ?_⟩)
      cases same
      have := (woken_wakeEffect (s := s) (c := e) (k := .anchorLost) (by simp)).2.2.1
      rw [Task.effect] at drain
      rw [this] at drain
      cases drain
  | lose e cause =>
    intro c drain
    have frame := (keeps_task (.lose e cause) s).carrierConfig
    have before : (s.lifeState c).isDrain = true := by
      rw [Task.effect, loseEffect_lifeState] at drain
      split at drain
      · cases drain
      · exact drain
    have managed : s.isManaged c = true := managed_of rfl fun e => by rw [e] at before; cases before
    have still (ne : s.anchorOf c ≠ e) : ((Task.lose e cause).effect s).1.lifeState (s.anchorOf c) =
        s.lifeState (s.anchorOf c) := by rw [Task.effect, loseEffect_lifeState, if_neg fun h => ne h.1]
    rw [anchorOf_of_carrierConfig frame]
    rcases holds c before with up | hears
    · by_cases here : s.anchorOf c = e
      · refine .inr (.inl (.inl ?_))
        rw [anchorOf_of_carrierConfig frame, here]
        have anchor := (table.anchors c managed).1
        rw [here] at up anchor
        simp [Task.effect, loseEffect, up, anchor]
      · exact .inl ((still here).trans up)
    · exact .inr (later hears ⟨by simp, by simp⟩)
  | _ =>
    intro c drain
    exact (calm (by simp [Task.allows, Kind.returns]) c drain).imp_right fun hears => later hears ⟨by simp, by simp⟩

/-- R74, R82: once tasks are done whole, the anchor of every drain is ACTIVE, but for what was excepted. -/
theorem Done.anchored {l : List Task} (h : Done l s t) (table : CarrierTableLaw s) (resting : RestingLaw s)
    (holds : Anchored (fun c => Hears l c s ∨ except c) s) : Anchored except t := by
  induction h generalizing except with
  | nil s =>
    intro c drain
    refine (holds c drain).imp_right fun h => h.resolve_left ?_
    simp [Hears]
  | @cons k l s t u inside after ihInside ihAfter =>
    have orders := orders_task k s
    refine ihAfter (inside.orders.table (orders.table table)) (inside.orders.resting (orders.resting resting)) ?_
    have inner := ihInside (orders.table table) (orders.resting resting) (anchored_task k l table resting holds)
    refine fun c drain => (inner c drain).imp_right (Or.imp_left fun hears => ?_)
    rwa [Hears, anchorOf_of_carrierConfig (inside.carrierConfig.trans (keeps_task k s).carrierConfig)]

theorem anchorLaw_work {l : List Task} (few : costs l ≤ 500) (table : CarrierTableLaw s) (resting : RestingLaw s)
    (law : AnchorLaw s) : AnchorLaw (s.work l) := by
  have done := (done_work l s few).anchored (except := fun _ => False) table resting fun c drain => .inl (law c drain)
  exact fun c drain => (done c drain).resolve_right id

end Sys2Proof.Machine
end

section
/-! PROOFS. What every event of the carriers respects: the laws of the carriers (`Heeds`), and that no drain begins and no
carrier comes to WARMUP beyond the slots (`Mild`). Both over strides, tasks and cascades. -/

namespace Sys2Proof.Machine

variable {s t u : State} {c d : CarrierIx}

/-! ## The relations -/

/-- The laws of the carriers, with those that hold only once a cascade is done. -/
structure Heeds (s t : State) : Prop extends Orders s t where
  slots : CarrierTableLaw s → WakeQueueLaw s → SlotLaw s → SlotLaw t
  anchors : CarrierTableLaw s → RestingLaw s → AnchorLaw s → AnchorLaw t

/-- No carrier begins to drain, and none comes to WARMUP beyond the slots (R130). -/
structure Mild (s t : State) : Prop where
  drains : ∀ c, (t.lifeState c).isDrain = true → (s.lifeState c).isDrain = true
  warmups : t.warmups ≤ max s.warmups s.settings.slots
  slotCount : t.settings.slots = s.settings.slots

/-- Both. -/
structure Fair (s t : State) : Prop extends Heeds s t, Mild s t

theorem Heeds.refl (s : State) : Heeds s s := { Orders.refl s with slots := fun _ _ => id, anchors := fun _ _ => id }

theorem Heeds.trans (h : Heeds s t) (k : Heeds t u) : Heeds s u :=
  { h.toOrders.trans k.toOrders with
    slots := fun table queue law => k.slots (h.table table) (h.queue queue) (h.slots table queue law)
    anchors := fun table rest law => k.anchors (h.table table) (h.resting rest) (h.anchors table rest law) }

theorem Mild.refl (s : State) : Mild s s := ⟨fun _ => id, Nat.le_max_left .., rfl⟩

theorem Mild.trans (h : Mild s t) (k : Mild t u) : Mild s u :=
  ⟨fun c => h.drains c ∘ k.drains c, by
    have := h.warmups
    have := k.warmups
    rw [h.slotCount] at this
    omega, k.slotCount.trans h.slotCount⟩

theorem Fair.refl (s : State) : Fair s s := { Heeds.refl s, Mild.refl s with }

theorem Fair.trans (h : Fair s t) (k : Fair t u) : Fair s u :=
  { h.toHeeds.trans k.toHeeds, h.toMild.trans k.toMild with }

theorem Fair.ite {p : Prop} [Decidable p] (h : p → Fair s t) (k : ¬p → Fair s u) : Fair s (if p then t else u) := by
  split
  · exact h ‹_›
  · exact k ‹_›

theorem fair_foldl {α : Type} (f : State → α → State) (h : ∀ s a, Fair s (f s a)) (l : List α) (s : State) :
    Fair s (l.foldl f s) := by
  induction l generalizing s with
  | nil => exact .refl s
  | cons a as ih => exact (h s a).trans (ih (f s a))

/-! ## Strides -/

theorem mayShift_warmup {old : LifeState} (h : old.mayShift .warmup = true) : old = .queued := by
  cases old <;> simp_all [LifeState.mayShift]

/-- R74: only a beginning drain brings a carrier to a drain state. -/
theorem Stride.drains {k : Kind} (h : Stride k s t) (other : k ≠ .drain) (d : CarrierIx)
    (drain : (t.lifeState d).isDrain = true) : (s.lifeState d).isDrain = true := by
  have moved {c : CarrierIx} {new : LifeState} (begun : new.isDrain = true → (s.lifeState c).isDrain = true)
      (drain : ((s.moveTo c new).lifeState d).isDrain = true) : (s.lifeState d).isDrain = true := by
    rw [moveTo_lifeState] at drain
    by_cases e : d = c
    · rw [if_pos e] at drain
      exact e ▸ begun drain
    · rwa [if_neg e] at drain
  cases h with
  | inner h => rwa [h.state] at drain
  | move c new may mark => exact moved (mayShift_drain may) drain
  | lull c old => exact moved (by simp [LifeState.isDrain]) drain
  | enqueue c cls depth may => exact moved (c := c) (new := .queued) (by simp [LifeState.isDrain]) drain
  | promote c cls => exact drain
  | keep c mark old =>
    rwa [setLife_lifeState (x := { (s.carrier c).life with wakePending := some mark }) s c d rfl] at drain
  | drain c pledge old dependent unprotected anchor => exact absurd rfl other
  | received c old => rwa [setCarrier_lifeState s c d { s.carrier c with drainedReceived := true } rfl] at drain

/-- R131: only a grant brings a carrier to WARMUP. -/
theorem Stride.warmups_le {k : Kind} (h : Stride k s t) (other : k ≠ .move .queued .warmup) : t.warmups ≤ s.warmups := by
  have moved {new : LifeState} (s : State) (c : CarrierIx) (ne : new ≠ .warmup) : (s.moveTo c new).warmups ≤ s.warmups := by
    have := warmups_of_move (moveTo_lifeState s c (new := new))
    rw [if_neg ne] at this
    omega
  cases h with
  | inner h => exact (warmups_of_state h.state).le
  | move c new may mark =>
    refine moved s c fun e => ?_
    subst e
    exact other (by rw [mayShift_warmup may])
  | lull c old => exact moved s c (by simp)
  | enqueue c cls depth may => exact moved (new := .queued) s c (by simp)
  | promote c cls => exact Nat.le_refl _
  | keep c mark old =>
    exact (warmups_of_state fun d =>
      setLife_lifeState (x := { (s.carrier c).life with wakePending := some mark }) s c d rfl).le
  | drain c pledge old dependent unprotected anchor =>
    exact (moved _ c (by simp)).trans (warmups_of_state fun d => joinDrain_lifeState s c d pledge).le
  | received c old =>
    exact (warmups_of_state fun d => setCarrier_lifeState s c d { s.carrier c with drainedReceived := true } rfl).le

/-- The strides that set nothing off by themselves. -/
def Kind.gentle : Kind → Bool
  | .inner => true
  | .move old new => new != .lost && old != .warmup && new != .warmup
  | .promote => true
  | .keep => true
  | .received => true
  | _ => false

/-- Strides that set nothing off respect every law. -/
theorem Chain.fair (h : Chain (fun k => k.gentle = true) s t) (slots : t.settings.slots = s.settings.slots) : Fair s t := by
  have calm : Orders s t := h.orders_of_calm (by simp [Kind.gentle])
  have steady := h.induction (fun s t => s.warmups ≤ t.warmups ∧ (s.wakeQueue.entries = [] → t.wakeQueue.entries = []))
    (fun _ => ⟨Nat.le_refl _, id⟩) (fun h k => ⟨h.1.trans k.1, k.2 ∘ h.2⟩)
    fun {k} _ _ allowed stride => stride.steady (by
      unfold Kind.gentle at allowed
      unfold Kind.frees
      split <;> simp_all)
  have mild := h.induction (fun s t => (∀ c, (t.lifeState c).isDrain = true → (s.lifeState c).isDrain = true) ∧
      t.warmups ≤ s.warmups) (fun _ => ⟨fun _ => id, Nat.le_refl _⟩)
    (fun h k => ⟨fun c => h.1 c ∘ k.1 c, k.2.trans h.2⟩) fun allowed stride =>
      ⟨stride.drains fun e => (by subst e; cases allowed), stride.warmups_le fun e => by subst e; cases allowed⟩
  exact { calm with
    slots := fun _ _ law waits => by
      rw [slots]
      exact (law fun none => waits (steady.2 none)).trans steady.1
    anchors := fun table _ law c drain => by
      have done := h.anchored (except := fun _ => False) (fun old allowed => by simp [Kind.gentle] at allowed) table
        fun c drain => .inl (law c drain)
      exact (done c drain).resolve_right id
    drains := mild.1
    warmups := mild.2.trans (Nat.le_max_left ..)
    slotCount := slots }

theorem Inner.fair (h : Inner s t) (slots : t.settings.slots = s.settings.slots := by rfl) : Fair s t :=
  Chain.fair (h.chain rfl) slots

theorem Tells.fair (h : Tells s t) : Fair s t := h.inner.fair (by rw [h.keeps.settings])

/-! ## Tasks -/

/-- R75: the task in which drains begin. -/
def Task.isGroup : Task → Bool
  | .group .. => true
  | _ => false

/-- The tasks that commands hand out, and no task sets off: an anchor group, and a directive's outcome. -/
def Task.isRoot : Task → Bool
  | .group .. => true
  | .ended .. => true
  | _ => false

theorem effect_not_root (k : Task) (s : State) : ∀ j ∈ (k.effect s).2, j.isRoot = false := by
  intro j mem
  cases k with
  | recover v =>
    simp only [Task.effect, recoverEffect] at mem
    split at mem
    · obtain ⟨c, -, rfl⟩ := List.mem_map.mp mem
      rfl
    · cases mem
  | anchorLost a =>
    obtain ⟨c, -, rfl⟩ := List.mem_map.mp mem
    rfl
  | wake c k =>
    rw [wakeEffect_tasks j mem]
    rfl
  | grants =>
    simp only [Task.effect, grantsEffect, grantTo] at mem
    repeat' split at mem
    all_goals simp at mem
    all_goals rcases mem with rfl | rfl <;> rfl
  | sendHead v =>
    simp only [Task.effect, sendHeadEffect] at mem
    repeat' split at mem
    all_goals simp at mem
    cases e : Directive.carrier ‹_› <;> rw [e] at mem <;> simp at mem <;> rcases mem with rfl | rfl <;> rfl
  | lose c cause =>
    simp only [Task.effect, loseEffect] at mem
    repeat' split at mem
    all_goals simp at mem
    all_goals rcases mem with rfl | rfl | rfl <;> rfl
  | ended c kind how =>
    simp only [Task.effect, endedEffect, sleepEnded, deepenEnded, wakeEnded] at mem
    repeat' split at mem
    all_goals simp at mem
    all_goals subst mem; rfl
  | withdrawn c =>
    simp only [Task.effect, withdrawnEffect] at mem
    repeat' split at mem
    all_goals simp at mem
    all_goals subst mem; rfl
  | linkUp c =>
    simp only [Task.effect, linkUpEffect] at mem
    split at mem <;> simp at mem
    subst mem; rfl
  | deepen c =>
    simp only [Task.effect, deepenEffect] at mem
    repeat' split at mem
    all_goals simp at mem
    subst mem; rfl
  | abandon c cause =>
    rw [Task.effect, abandonEffect_tasks] at mem
    cases mem
  | report c m =>
    simp only [Task.effect, reportEffect, deepenEffect, completeDrain] at mem
    repeat' split at mem
    all_goals simp [abandonEffect_tasks] at mem
    all_goals subst mem; rfl
  | group a rep =>
    simp only [Task.effect, groupEffect, reliefEffect] at mem
    repeat' split at mem
    all_goals simp [abandonEffect_tasks] at mem
    subst mem; rfl
  | deepTest v => cases mem

/-- Only a window end's own list holds anchor groups. -/
theorem effect_not_group (k : Task) (s : State) : ∀ j ∈ (k.effect s).2, j.isGroup = false := fun j mem => by
  have := effect_not_root k s j mem
  cases j <;> simp_all [Task.isRoot, Task.isGroup]

theorem warmups_grantsEffect (s : State) : (grantsEffect s).1.warmups ≤ max s.warmups s.settings.slots := by
  unfold grantsEffect
  split
  · rename_i free
    split
    · exact Nat.le_max_left ..
    · rename_i w first
      unfold grantTo
      split
      · have moved : (s.moveAndTell w.carrier .warmup .granted).warmups ≤ s.warmups + 1 := by
          have := warmups_of_move (moveAndTell_lifeState s w.carrier (new := .warmup) (cause := .granted))
          simp only [if_true] at this
          omega
        dsimp only
        split
        · rename_i taken
          rw [warmups_of_state (inner_handDirective taken).state]
          omega
        · dsimp only
          omega
      · exact Nat.le_max_left ..
  · exact Nat.le_max_left ..

/-- R130: a task brings a carrier to WARMUP only while fewer than the slots are there. -/
theorem warmups_task (k : Task) (s : State) : (k.effect s).1.warmups ≤ max s.warmups s.settings.slots := by
  by_cases grants : k = .grants
  · subst grants
    exact warmups_grantsEffect s
  · refine le_trans ?_ (Nat.le_max_left ..)
    refine (chain_task k s).induction (fun s t => t.warmups ≤ s.warmups) (fun _ => Nat.le_refl _)
      (fun h k => k.trans h) fun allowed stride => stride.warmups_le fun e => ?_
    subst e
    obtain ⟨allowed, -⟩ := allowed
    cases k <;> simp_all [Task.allows, Kind.returns]

theorem drains_task {k : Task} (calm : k.isGroup = false) (c : CarrierIx)
    (drain : (((k.effect s).1).lifeState c).isDrain = true) : (s.lifeState c).isDrain = true := by
  refine (chain_task k s).induction (fun s t => (t.lifeState c).isDrain = true → (s.lifeState c).isDrain = true)
    (fun _ => id) (fun h k => h ∘ k) (fun allowed stride => stride.drains (fun e => ?_) c) drain
  subst e
  obtain ⟨allowed, -⟩ := allowed
  cases k <;> simp_all [Task.allows, Kind.returns, Task.isGroup]

theorem mild_task {k : Task} (calm : k.isGroup = false) : Mild s (k.effect s).1 :=
  ⟨drains_task calm, warmups_task k s, by rw [(keeps_task k s).settings]⟩

theorem Done.mild {l : List Task} (h : Done l s t) (calm : ∀ k ∈ l, k.isGroup = false) : Mild s t := by
  induction h with
  | nil s => exact .refl s
  | @cons k l s t u inside after ihInside ihAfter =>
    exact ((mild_task (calm k (List.mem_cons_self ..))).trans (ihInside (effect_not_group k s))).trans
      (ihAfter fun j mem => calm j (List.mem_cons_of_mem _ mem))

theorem Done.warmups {l : List Task} (h : Done l s t) :
    t.warmups ≤ max s.warmups s.settings.slots ∧ t.settings.slots = s.settings.slots := by
  induction h with
  | nil s => exact ⟨Nat.le_max_left .., rfl⟩
  | @cons k l s t u inside after ihInside ihAfter =>
    have one := warmups_task k s
    have slots : (k.effect s).1.settings.slots = s.settings.slots := by rw [(keeps_task k s).settings]
    obtain ⟨inner, innerSlots⟩ := ihInside
    obtain ⟨rest, restSlots⟩ := ihAfter
    rw [slots] at inner innerSlots
    rw [innerSlots] at rest restSlots
    exact ⟨by omega, restSlots⟩

theorem Done.heeds {l : List Task} (h : Done l s t) : Heeds s t :=
  { h.orders with
    slots := fun _ queue law => h.slotLaw queue (.inl law)
    anchors := fun table rest law c drain => by
      have done := h.anchored (except := fun _ => False) table rest fun c drain => .inl (law c drain)
      exact (done c drain).resolve_right id }

theorem Done.fair {l : List Task} (h : Done l s t) (calm : ∀ k ∈ l, k.isGroup = false) : Fair s t :=
  { h.heeds, h.mild calm with }

/-- The tasks of an event, done whole. -/
theorem fair_work {l : List Task} (few : costs l ≤ 500) (calm : ∀ k ∈ l, k.isGroup = false) (s : State) :
    Fair s (s.work l) := (done_work l s few).fair calm

theorem fair_finish {e : Effect} (h : Fair s e.1) (few : costs e.2 ≤ 500) (calm : ∀ k ∈ e.2, k.isGroup = false) :
    Fair s e.finish := h.trans (fair_work few calm _)

theorem fair_taskFinish {k : Task} (few : costs (k.effect s).2 ≤ 500) (calm : k.isGroup = false) :
    Fair s (k.effect s).finish :=
  (Done.cons (l := []) (done_work _ _ few) (.nil _)).fair (by simpa using calm)

end Sys2Proof.Machine
end

section
/-! PROOFS. The commands, arm by arm, respect the laws of the carriers: frames, links, timers, requests and most writes. -/

namespace Sys2Proof.Machine

variable {s t u : State} {c d : CarrierIx} {v : UnitIx}

/-! ## What touches no carrier -/

theorem fair_setPath (s : State) (p : FramePath) : Fair s (s.setPath p) := Inner.fair {}

theorem fair_setEngine (s : State) (e : Engine) : Fair s (s.setEngine e) := Inner.fair {}

theorem fair_setUnit (s : State) (v : UnitIx) (x : RadioUnit) : Fair s (s.setUnit v x) := (inner_setUnit ..).fair

theorem fair_setClassifier (s : State) (k : Classifier) : Fair s (s.setClassifier k) := Inner.fair {}

theorem fair_setCalendar (s : State) (k : Calendar) : Fair s (s.setCalendar k) := Inner.fair {}

theorem fair_setLockOuts (s : State) (l : Vector (Option Nat) 8) : Fair s (s.setLockOuts l) := Inner.fair {}

theorem inner_newMoment (s : State) : Inner s s.newMoment where
  moment := Nat.le_succ _

theorem fair_newMoment (s : State) : Fair s s.newMoment := (inner_newMoment s).fair

/-- What the laws read of a carrier's record. -/
theorem inner_setCarrier {x : Carrier} (cover : x.cover = s.cover c) (state : x.life.state = s.lifeState c)
    (hold : x.life.hold = (s.carrier c).life.hold) (mark : x.life.wakePending = (s.carrier c).life.wakePending)
    (received : x.drainedReceived = (s.carrier c).drainedReceived) : Inner s (s.setCarrier c x) where
  state d := setCarrier_lifeState s c d x state
  cover d := setCarrier_cover s c d x cover
  hold d := by
    rw [State.setCarrier_carrier]
    split
    · subst d; exact hold
    · rfl
  mark d := by
    rw [State.setCarrier_carrier]
    split
    · subst d; exact mark
    · rfl
  received d := by
    rw [State.setCarrier_carrier]
    split
    · subst d; exact received
    · rfl

theorem fair_setCarrier {x : Carrier} (cover : x.cover = s.cover c) (state : x.life.state = s.lifeState c)
    (hold : x.life.hold = (s.carrier c).life.hold) (mark : x.life.wakePending = (s.carrier c).life.wakePending)
    (received : x.drainedReceived = (s.carrier c).drainedReceived) : Fair s (s.setCarrier c x) :=
  (inner_setCarrier cover state hold mark received).fair

theorem fair_raiseFlag (f : Flag) (h : f ≠ .timeUnset) (s : State) : Fair s (s.raiseFlag f) := (tells_raiseFlag s f h).fair

theorem fair_inject (s : State) (port : Port) (a : Addr) (body : List Byte) : Fair s (s.inject port a body) :=
  (tells_inject ..).fair

theorem fair_respond (r : Request) (status : Status) (n : Nat) (results : List Byte) (s : State) :
    Fair s (s.respond r status n results) := (tells_respond ..).fair

theorem fair_releaseUnit (v : UnitIx) (s : State) : Fair s (s.releaseUnit v) :=
  (inner_releaseUnit s v).fair (congrArg Settings.slots
    ((tells_inject ..).keeps.settings.trans (rfl : (s.advanceToken.setUnit v _).settings = s.settings)))

theorem fair_deepTest (v : UnitIx) (s : State) : Fair s (s.deepTest v) :=
  (inner_deepTest s v).fair (by rw [(keeps_deepTest s v).settings])

/-! ## Frames -/

theorem fair_offerPass (port : Port) (bytes : List Byte) (s : State) : Fair s (s.offerPass port bytes) := by
  unfold State.offerPass
  exact .ite (fun _ => fair_setPath ..) fun _ => .refl s

theorem fair_forward (ports : Byte) (port : Port) (bytes : List Byte) (s : State) : Fair s (s.forward ports port bytes) := by
  cases port with
  | trunk => exact fair_foldl _ (fun s n => .ite (fun _ => fair_offerPass ..) fun _ => .refl s) _ s
  | branch n => exact fair_offerPass ..

theorem fair_arriveRequest (cls : Nat) (source : Addr) (body : List Byte) (s : State) :
    Fair s (s.arriveRequest cls source body) := by
  unfold State.arriveRequest
  exact .ite (fun _ => .ite (fun _ => fair_setEngine ..) fun _ => fair_inject ..) fun _ => .refl s

theorem fair_receive (port : Port) (bytes : List Byte) (s : State) : Fair s (s.receive port bytes) := by
  have route (port : Port) : Fair s (s.routeFrame port bytes) := by
    unfold State.routeFrame
    cases s.engine.mode with
    | transparent => exact fair_forward ..
    | monitor => exact fair_setClassifier ..
    | acting => exact fair_setClassifier ..
  cases port with
  | trunk => exact .ite (fun _ => fair_arriveRequest ..) fun _ => route _
  | branch n => exact route _

theorem fair_settleSwap (s : State) : Fair s s.settleSwap := by
  unfold State.settleSwap
  split
  · exact .refl s
  · rename_i mirror _
    have answered (u : State) : Fair u (u.answerSwap mirror) := by
      unfold State.answerSwap
      split
      · exact .refl _
      · exact (fair_setEngine ..).trans (fair_respond ..)
    exact .ite (fun _ => (fair_setClassifier s _).trans (answered _)) fun _ => .refl s

theorem fair_tallyFrame (a : ActionEntry) (c : CarrierIx) (bytes : List Byte) (s : State) :
    Fair s (s.tallyFrame a c bytes) := by
  unfold State.tallyFrame
  exact Fair.trans (.ite (fun _ => fair_raiseFlag .unitsClamped (by decide) s) fun _ => .refl s)
    (fair_setCarrier rfl rfl rfl rfl rfl)

theorem fair_setCounters (c : CarrierIx) (k : FrameCounters) (s : State) : Fair s (s.setCounters c k) :=
  fair_setCarrier rfl rfl rfl rfl rfl

/-- Few tasks, without an anchor group among them. -/
structure Modest (l : List Task) : Prop where
  few : costs l ≤ 500
  calm : ∀ k ∈ l, k.isGroup = false

theorem modest_nil : Modest [] := ⟨Nat.zero_le _, fun _ mem => by cases mem⟩

theorem modest_map {f : CarrierIx → Task} {l : List CarrierIx} (few : l.length ≤ 32) (cost : ∀ c, (f c).cost ≤ 6)
    (calm : ∀ c, (f c).isGroup = false) : Modest (l.map f) :=
  ⟨(costs_map_le f 6 cost l).trans (by omega), fun k mem => by
    obtain ⟨c, -, rfl⟩ := List.mem_map.mp mem
    exact calm c⟩

/-- An effect of a command that respects the laws, with what it sets off. -/
structure FairEffect (s : State) (e : Effect) : Prop where
  fair : Fair s e.1
  modest : Modest e.2

theorem FairEffect.finish {e : Effect} (h : FairEffect s e) : Fair s e.finish := fair_finish h.fair h.modest.few h.modest.calm

theorem fairEffect_alone (h : Fair s t) : FairEffect s (t, []) := ⟨h, modest_nil⟩

theorem fairEffect_refl : FairEffect s (s, []) := fairEffect_alone (.refl s)

theorem FairEffect.after {e : Effect} (h : Fair s t) (k : FairEffect t e) : FairEffect s e := ⟨h.trans k.fair, k.modest⟩

theorem fairEffect_meterFrame (tallies : Bool) (a : ActionEntry) (c : CarrierIx) (port : Port) (bytes : List Byte)
    (s : State) : FairEffect s (meterFrame tallies a c port bytes s) := by
  have tallied (p : Prop) [Decidable p] (s : State) : Fair s (if p then s.tallyFrame a c bytes else s) :=
    .ite (fun _ => fair_tallyFrame ..) fun _ => .refl s
  unfold meterFrame
  dsimp only
  cases port with
  | branch n => exact fairEffect_alone ((fair_offerPass ..).trans (tallied _ _))
  | trunk =>
    dsimp only
    split
    · exact fairEffect_alone ((fair_offerPass ..).trans (tallied _ _))
    · have held : Fair s (s.countHeldOff c) := fair_setCounters ..
      split
      · exact ⟨held, by simp [costs, Task.cost], by simp [Task.isGroup]⟩
      · split
        · exact fairEffect_alone
            (held.trans ((fair_setCounters ..).trans (fair_raiseFlag .slumberTriggerMissed (by decide) _)))
        · exact fairEffect_alone held

theorem fairEffect_keyedFrame (tallies : Bool) (a : ActionEntry) (port : Port) (bytes : List Byte) (s : State) :
    FairEffect s (keyedFrame tallies a port bytes s) := by
  unfold keyedFrame
  split
  · exact fairEffect_meterFrame ..
  · exact fairEffect_alone ((fair_forward ..).trans (fair_raiseFlag .unknownKey (by decide) _))

theorem managedCarriers_length (s : State) : s.managedCarriers.length ≤ 32 :=
  (List.length_filter_le ..).trans (List.length_finRange ..).le

theorem fairEffect_priorityFrame (a : ActionEntry) (port : Port) (bytes : List Byte) (s : State) :
    FairEffect s (priorityFrame a port bytes s) := by
  refine ⟨(fair_forward a.portSet port bytes s).trans (.ite (fun _ => .refl _) fun _ => fair_setLockOuts ..), ?_⟩
  exact modest_map ((List.length_filter_le ..).trans (managedCarriers_length _)) (fun _ => by simp [Task.cost])
    fun _ => rfl

/-! ## What the partners send -/

theorem fair_dropHead (v : UnitIx) (s : State) : Fair s (s.dropHead v) := fair_setUnit ..

/-- R154: what follows the end of UNIT-DEEP that leaves the unit UP. -/
theorem modest_headAndTest (v : UnitIx) : Modest [.sendHead v, .deepTest v] := ⟨by simp [costs, Task.cost], by simp [Task.isGroup]⟩

theorem fairEffect_unitDeepEnded (v : UnitIx) (how : DirectiveEnd) (s : State) :
    FairEffect s (unitDeepEnded v how s) := by
  unfold unitDeepEnded
  split
  case h_1 =>
    dsimp only
    split
    · exact fairEffect_alone ((fair_setUnit ..).trans (fair_releaseUnit ..))
    · exact fairEffect_alone (fair_setUnit ..)
  case h_2 =>
    exact ⟨fair_setUnit .., modest_map (unitCarriers_length s v) (fun _ => by simp [Task.cost]) fun _ => rfl⟩
  all_goals exact ⟨fair_setUnit .., modest_headAndTest v⟩

theorem fairEffect_endDirective (v : UnitIx) (how : DirectiveEnd) (s : State) :
    FairEffect s (endDirective v how s) := by
  unfold endDirective
  split
  · exact fairEffect_refl
  · rename_i d _ _
    dsimp only
    split
    · exact .after (fair_dropHead ..) (fairEffect_unitDeepEnded ..)
    · refine ⟨fair_dropHead .., ?_⟩
      cases d.carrier with
      | none => exact ⟨by simp [costs, Task.cost], by simp [Task.isGroup]⟩
      | some c => exact ⟨by simp [costs, Task.cost], by simp [Task.isGroup]⟩

/-- R106, R133: an entry to RESTORING that frees no slot. -/
theorem fair_enterRestoring {cause : Cause} (may : (s.lifeState c).mayShift .restoring = true)
    (slot : s.lifeState c ≠ .warmup) : Fair s (s.enterRestoring c cause) := by
  have managed := managed_of rfl (mayShift_managed may).1
  refine Chain.fair (chain_enterRestoring rfl may rfl ?_ rfl) (by rw [(keeps_enterRestoring managed).settings])
  simpa [Kind.gentle] using slot

theorem fair_countDiscarded (v : UnitIx) (s : State) : Fair s (s.countDiscarded v) := fair_setUnit ..

theorem modest_lose (c : CarrierIx) (cause : Cause) : Modest [.lose c cause] := ⟨by simp [costs, Task.cost], by simp [Task.isGroup]⟩

theorem fairEffect_unsolicitedReply (v : UnitIx) (link : Nat) (r : Report) (s : State) :
    FairEffect s (unsolicitedReply v link r s) := by
  unfold unsolicitedReply
  split
  · exact fairEffect_alone (fair_countDiscarded ..)
  · split
    case h_1 => exact ⟨.refl s, modest_lose ..⟩
    case h_2 =>
      exact fairEffect_alone (.ite (fun lost => fair_enterRestoring (by rw [lost]; rfl) (by simp [lost])) fun _ => .refl s)
    all_goals exact fairEffect_alone (fair_countDiscarded ..)

theorem fairEffect_radioReply (v : UnitIx) (body : List Byte) (s : State) : FairEffect s (radioReply v body s) := by
  have take (token link : Nat) (r : Report) : FairEffect s (takeReply v token link r s) ∧
      costs (takeReply v token link r s).2 ≤ 300 := by
    unfold takeReply
    split
    · refine ⟨fairEffect_unsolicitedReply .., ?_⟩
      unfold unsolicitedReply
      split
      · exact Nat.zero_le _
      · split <;> simp [costs, Task.cost]
    · split
      · refine ⟨fairEffect_endDirective .., ?_⟩
        unfold endDirective
        split
        · exact Nat.zero_le _
        · rename_i d _ _
          dsimp only
          split
          · unfold unitDeepEnded
            split
            case h_1 =>
              dsimp only
              split <;> exact Nat.zero_le _
            case h_2 => exact (costs_map_le _ 0 (fun _ => by simp [Task.cost]) _).trans (by simp)
            all_goals simp [costs, Task.cost]
          · cases d.carrier <;> simp [costs, Task.cost]
      · exact ⟨fairEffect_alone (fair_raiseFlag .lateReply (by decide) s), Nat.zero_le _⟩
  unfold radioReply
  split
  · exact fairEffect_refl
  · exact fairEffect_alone (fair_countDiscarded ..)
  · exact fairEffect_alone (.ite (fun _ => .refl s) fun _ => fair_raiseFlag .lateReply (by decide) s)
  · rename_i token link r _ _
    obtain ⟨fair, few⟩ := take token link r
    dsimp only
    split
    · refine ⟨fair.fair, ?_, ?_⟩
      · rw [costs_append]
        exact (Nat.add_le_add_right few _).trans (by simp [costs, Task.cost])
      · intro k mem
        rcases List.mem_append.mp mem with mem | mem
        · exact fair.modest.calm k mem
        · rw [List.mem_singleton.mp mem]; rfl
    · exact fair

theorem fair_stray (s : State) : Fair s (s.raiseFlag .strayAdvisory) := fair_raiseFlag _ (by decide) s

/-- R105: the end of a drain, as an effect of a command. -/
theorem fairEffect_completeDrain (c : CarrierIx) (cause : Cause) (origin : Origin) (s : State) :
    FairEffect s (completeDrain c cause origin s) := by
  refine ⟨Chain.fair (chain_completeDrain c cause origin s rfl rfl) (by rw [(keeps_completeDrain ..).settings]), ?_⟩
  unfold completeDrain
  split
  · dsimp only
    split
    · exact ⟨by simp [costs, Task.cost], by simp [Task.isGroup]⟩
    · exact modest_lose ..
  · exact modest_nil

theorem fairEffect_abandonEffect (c : CarrierIx) (cause : Cause) (s : State) :
    FairEffect s (abandonEffect c cause s) := by
  refine ⟨Chain.fair (chain_abandonEffect cause c s rfl fun m h => ?_) (by rw [(keeps_abandonEffect ..).settings]), ?_⟩
  · unfold Kind.returns at h
    split at h <;> first | rfl | cases h
  · rw [abandonEffect_tasks]
    exact modest_nil

theorem fairEffect_drainedReply (c : CarrierIx) (s : State) : FairEffect s (drainedReply c s) := by
  unfold drainedReply
  split
  case h_1 => exact .after (fair_newMoment s) (fairEffect_completeDrain ..)
  case h_2 =>
    rename_i held
    refine fairEffect_alone (Chain.fair ((Stride.received c ?_).chain rfl) rfl)
    rw [held]
    rfl
  all_goals exact fairEffect_alone (fair_stray s)

theorem fairEffect_advisoryReply (body : List Byte) (s : State) : FairEffect s (advisoryReply body s) := by
  unfold advisoryReply
  split
  · exact fairEffect_alone (fair_stray s)
  · split
    · exact fairEffect_alone (fair_stray s)
    · exact fairEffect_drainedReply ..
    · unfold declineReply
      split
      · exact fairEffect_abandonEffect ..
      · exact fairEffect_alone (fair_stray s)

theorem fairEffect_disposeFrame (n : Nat) (port : Port) (bytes : List Byte) (s : State) :
    FairEffect s (disposeFrame n port bytes s) := by
  have fault : FairEffect s (s.raiseFlag .actionFault, []) := fairEffect_alone (fair_raiseFlag _ (by decide) s)
  unfold disposeFrame
  split
  · exact fairEffect_alone ((fair_forward ..).trans (fair_raiseFlag _ (by decide) _))
  · split
    · exact fairEffect_alone (fair_forward ..)
    · exact fairEffect_refl
    · exact fairEffect_keyedFrame ..
    · exact fairEffect_keyedFrame ..
    · exact fairEffect_priorityFrame ..
    · exact fairEffect_alone (fair_arriveRequest ..)
    · exact fault
    · exact fault
    · exact fairEffect_radioReply ..
    · exact fairEffect_advisoryReply ..
    · exact fault

theorem fairEffect_endWalk (w : Walk) (ws : List Walk) (s : State) : FairEffect s (endWalk w ws s) := by
  have settled : Fair s (s.setClassifier { s.classifier with walks := ws }).settleSwap :=
    (fair_setClassifier ..).trans (fair_settleSwap _)
  unfold endWalk
  dsimp only
  split
  · exact .after settled (fairEffect_disposeFrame ..)
  · exact .after (settled.trans (fair_raiseFlag .classifyFault (by decide) _)) (fairEffect_disposeFrame ..)

/-! ## Links -/

theorem fairEffect_unitLinkDown (n : UnitIx) (s : State) : FairEffect s (unitLinkDown n s) := by
  unfold unitLinkDown
  split
  · exact fairEffect_refl
  · exact ⟨fair_setUnit .., modest_map (unitCarriers_length s n) (fun _ => by simp [Task.cost]) fun _ => rfl⟩

theorem fairEffect_recoverEffect (v : UnitIx) (s : State) : FairEffect s (recoverEffect v s) := by
  unfold recoverEffect
  split
  · exact ⟨fair_releaseUnit .., modest_map (unitCarriers_length s v) (fun _ => Nat.le_refl _) fun _ => rfl⟩
  · exact fairEffect_refl

theorem fair_trunkTo (state : TrunkState) (grace : Option Nat) (s : State) : Fair s (s.trunkTo state grace) := fair_setPath ..

theorem fair_branchLinkDown (n : UnitIx) (h : execBranchLinkDown n s = .next t) : Fair s t := by
  cases h
  refine .ite (fun _ => ?_) fun _ => fair_setPath ..
  exact (fair_setPath ..).trans (Fair.trans (fair_setPath ..) (fairEffect_unitLinkDown ..).finish)

theorem fair_branchLinkUp (n : UnitIx) (h : execBranchLinkUp n s = .next t) : Fair s t := by
  cases h
  refine .ite (fun _ => ?_) fun _ => fair_setPath ..
  exact (fair_setPath ..).trans (Fair.trans (fair_setPath ..) (fairEffect_recoverEffect ..).finish)

theorem fair_trunkLinkDown (h : execTrunkLinkDown s = .next t) : Fair s t := by
  cases h
  have reported : Fair s (s.setPath { s.path with trunkReport := false }) := fair_setPath ..
  refine .ite (fun _ => ?_) fun _ => reported
  cases s.path.trunkState with
  | up => exact reported.trans (fair_trunkTo ..)
  | returning => exact reported.trans (fair_trunkTo ..)
  | failing => exact reported
  | lost => exact reported

theorem fair_passNotices (s : State) : Fair s s.passNotices := (tells_passNotices s).fair

theorem fair_notify (k : NoticeContent) (s : State) : Fair s (s.notify k) := (tells_notify s k).fair

theorem fair_trunkLinkUp (h : execTrunkLinkUp s = .next t) : Fair s t := by
  cases h
  have reported : Fair s (s.setPath { s.path with trunkReport := true }) := fair_setPath ..
  refine .ite (fun _ => ?_) fun _ => reported
  cases s.path.trunkState with
  | up => exact reported
  | returning => exact reported
  | failing => exact (reported.trans (fair_trunkTo ..)).trans (fair_passNotices _)
  | lost => exact reported.trans (fair_trunkTo ..)

theorem fairEffect_trunkLostEffect (s : State) : FairEffect s (trunkLostEffect s) :=
  ⟨((fair_trunkTo ..).trans (fair_raiseFlag .trunkDown (by decide) _)).trans (fair_notify ..),
    modest_map (List.length_finRange ..).le (fun _ => by simp [Task.cost]) fun _ => rfl⟩

theorem fair_trunkGraceExpires (h : execTrunkGraceExpires s = .next t) : Fair s t := by
  cases h
  refine .ite (fun _ => ?_) fun _ => .refl s
  cases s.path.trunkState with
  | up => exact .refl s
  | lost => exact .refl s
  | failing => exact (fairEffect_trunkLostEffect s).finish
  | returning => exact ((fair_trunkTo ..).trans (fair_notify ..)).trans (fair_passNotices _)

/-! ## The window end and the time of day -/

theorem inner_closeWindow (s : State) : Inner s s.closeWindow where
  moment := Nat.le_succ _
  state c := by
    rw [State.lifeState, closeWindow_carrier]
    split <;> rfl
  cover c := by
    rw [State.cover, closeWindow_carrier]
    split <;> rfl
  hold c := by
    rw [closeWindow_carrier]
    split <;> rfl
  mark c := by
    rw [closeWindow_carrier]
    split <;> rfl
  received c := by
    rw [closeWindow_carrier]
    split <;> rfl

/-- R75, R103: the tasks of a window end are few. -/
theorem costs_reportTasks (order : ReportOrder) (s : State) : costs (s.reportTasks order) ≤ 500 := by
  have lifecycle := costs_map_le (fun c => Task.report c (s.carrier c).meter) 1 (fun _ => Nat.le_refl _) s.managedCarriers
  have coverage := costs_map_le (fun a => Task.group a s.windowReport) 0 (fun _ => Nat.le_refl _) (List.finRange 32)
  have length := managedCarriers_length s
  cases order <;> simp only [State.reportTasks, costs_append, State.lifecycleTasks, State.coverageTasks] <;> omega

theorem heeds_windowEnd (order : ReportOrder) (h : execWindowEnd order s = .next t) : Heeds s t := by
  cases h
  split
  · exact (inner_closeWindow s).fair.toHeeds.trans (done_work _ _ (costs_reportTasks order _)).heeds
  · exact .refl s

theorem fairEffect_recomputeEffect (s : State) : FairEffect s (recomputeEffect s) := by
  refine ⟨fair_setCalendar .., ?_, ?_⟩
  · have each (l : List CarrierIx) (old new : Calendar) : costs (l.flatMap (differenceTasks old new)) ≤ 1 * l.length := by
      induction l with
      | nil => exact Nat.zero_le _
      | cons c l ih =>
        have one : costs (differenceTasks old new c) ≤ 1 := by
          unfold differenceTasks
          split <;> split <;> simp [costs, Task.cost]
        rw [List.flatMap_cons, costs_append, List.length_cons]
        omega
    refine (each ..).trans ?_
    have := managedCarriers_length s
    omega
  · intro k mem
    simp only [recomputeEffect, List.mem_flatMap, differenceTasks, List.mem_append] at mem
    obtain ⟨c, -, mem | mem⟩ := mem
    · split at mem
      · rw [List.mem_singleton.mp mem]; rfl
      · cases mem
    · split at mem
      · rw [List.mem_singleton.mp mem]; rfl
      · cases mem

theorem fair_recompute (s : State) : Fair s (recomputeEffect s).finish := (fairEffect_recomputeEffect s).finish

/-! ## Timers -/

theorem fair_drainTimerExpires (c : CarrierIx) (h : execDrainTimerExpires c s = .next t) : Fair s t := by
  cases h
  refine .ite (fun now => ?_) fun _ => .refl s
  refine Fair.trans (t := s.setLife c { (s.carrier c).life with
    drain := max (s.carrier c).life.drain ((s.carrier c).life.drainLength * msPerSecond) })
    (fair_setCarrier rfl rfl rfl rfl rfl) ?_
  have draining : (s.setLife c { (s.carrier c).life with
      drain := max (s.carrier c).life.drain ((s.carrier c).life.drainLength * msPerSecond) }).lifeState c = .draining := by
    rw [setLife_lifeState _ _ _ (by rfl)]
    exact now.2
  exact fair_enterRestoring (by rw [draining]; rfl) (by simp [draining])

theorem fair_settleNow (c : CarrierIx) (s : State) : Fair s (s.settleNow c) :=
  Chain.fair (chain_settleNow (P := fun k => k.gentle = true) rfl rfl c s) (by rw [(keeps_settleNow ..).settings])

theorem fair_settleTimerExpires (c : CarrierIx) (h : execSettleTimerExpires c s = .next t) : Fair s t := by
  cases h
  refine .ite (fun now => ?_) fun _ => .refl s
  exact Fair.trans (t := s.setLife c { (s.carrier c).life with
    settle := max (s.carrier c).life.settle ((s.carrier c).life.settleLength * msPerSecond) })
    (fair_setCarrier rfl rfl rfl rfl rfl) (fair_settleNow ..)

theorem fairEffect_replyExpired (v : UnitIx) (s : State) : FairEffect s (replyExpired v s) := by
  unfold replyExpired
  split
  · exact fairEffect_refl
  · split
    · exact fairEffect_alone ((fair_setUnit ..).trans (tells_offerInjected ..).fair)
    · exact fairEffect_endDirective ..

theorem fairEffect_releaseEnded (v : UnitIx) (s : State) : FairEffect s (releaseEnded v s) :=
  ⟨fair_setUnit .., modest_headAndTest v⟩

theorem fair_deepenDelayReached (c : CarrierIx) (h : execDeepenDelayReached c s = .next t) : Fair s t := by
  cases h
  refine .ite (fun _ => ?_) fun _ => .refl s
  refine FairEffect.finish ⟨Chain.fair (chain_deepenEffect c s rfl rfl) (by rw [(keeps_deepenEffect ..).settings]), ?_⟩
  unfold deepenEffect
  split
  · split
    · exact ⟨by simp [costs, Task.cost], by simp [Task.isGroup]⟩
    · exact modest_nil
  · exact modest_nil

/-! ## Requests -/

theorem fair_onRequest {row : Instr} {answer : Request → State → State} (answered : ∀ r s, Fair s (answer r s))
    (h : onRequest row answer s = .next t) : Fair s t := by
  obtain rfl | ⟨r, rest, -, rfl⟩ := onRequest_cases h
  · exact .refl t
  · exact (fair_setEngine s { s.engine with requests := rest }).trans (answered ..)

theorem fair_answer {r : Request} {failed : Option Status} {carryOut : State → State}
    (h : failed = none → Fair s (carryOut s)) : Fair s (s.answer r failed carryOut) := by
  unfold State.answer
  split
  · exact fair_respond ..
  · exact h rfl

theorem fair_activateBank (h : execActivateBank s = .next t) : Fair s t :=
  fair_onRequest (fun r s => by
    split
    · exact fair_respond ..
    · exact fair_respond ..
    · refine fair_answer fun _ => Fair.trans ?_ (fair_settleSwap _)
      exact (fair_setClassifier ..).trans (fair_setEngine ..)) h

theorem fair_putTime (minute second : Nat) (s : State) : Fair s (s.putTime minute second) := by
  unfold State.putTime
  have set : Fair s (s.setCalendar
      { s.calendar with minute := minute, second := second, milli := 0, timeSet := true }) := fair_setCalendar ..
  exact .ite (fun _ => set) fun _ => set.trans (fair_setEngine ..)

theorem fair_setTime (h : execSetTime s = .next t) : Fair s t :=
  fair_onRequest (fun _ s => fair_answer fun _ =>
    ((fair_putTime _ _ s).trans (fair_recompute _)).trans (fair_respond ..)) h

theorem fair_setMode (h : execSetMode s = .next t) : Fair s t :=
  fair_onRequest (fun r s => by
    have mode (m : Mode) : Fair s (s.putMode m) := by
      have set : Fair s (s.setEngine { s.engine with mode := m }) := fair_setEngine ..
      have modest := modest_map (f := fun c => .abandon c .mode)
        (managedCarriers_length (s.setEngine { s.engine with mode := m })) (fun _ => by simp [Task.cost]) fun _ => rfl
      exact .ite (fun _ => set.trans (fair_work modest.few modest.calm _)) fun _ => set
    split
    · exact fair_respond ..
    · exact fair_respond ..
    · exact fair_answer fun _ => (mode _).trans (fair_respond ..)) h

/-- R119: the checks that a SLEEP-NOW has passed. -/
theorem sleepChecks_none {c : CarrierIx} (h : s.sleepChecks c = none) :
    (s.config c).isProtected = false ∧ s.isDependent c = true ∧ s.engine.mode = .acting ∧ s.lifeState c = .active ∧
      s.lifeState (s.anchorOf c) = .active ∧ s.settings.advisoryDestination ≠ 0#48 ∧ s.trunkLost = false ∧
      s.lockedOut (s.config c).sectorIx = false ∧ s.anchorHasRoom c (s.pledgeNow c) = true := by
  unfold State.sleepChecks at h
  repeat' split at h
  all_goals simp_all

/-- The end of what a request does is its response. -/
theorem heeds_answerDone (r : Request) (h : Heeds s t) : Heeds s (t.answerDone r) :=
  h.trans (fair_respond r .done 0 [] t).toHeeds

theorem settings_beginDrain (c : CarrierIx) (pledge : Nat) (cause : Cause) (s : State) :
    (s.beginDrain c pledge cause).settings = s.settings := by
  have moved : ((s.joinDrain c pledge).moveTo c .draining).settings = s.settings := by
    refine (keeps_moveSlumber _ c _ _).settings.trans ?_
    exact (keeps_movePlaces ..).settings.trans (keeps_joinDrain ..).settings
  rw [State.beginDrain, (tells_notifyState ..).keeps.settings, (tells_advise ..).keeps.settings, moved]

/-- R74: a drain that begins where it may. -/
theorem heeds_beginDrain {pledge : Nat} {cause : Cause} (old : s.lifeState c = .active)
    (dependent : s.isDependent c = true) (unprotected : (s.config c).isProtected = false)
    (anchor : s.lifeState (s.anchorOf c) = .active) : Heeds s (s.beginDrain c pledge cause) := by
  have chain : Chain (fun k => k = .inner ∨ k = .drain) s (s.beginDrain c pledge cause) :=
    chain_beginDrain old dependent unprotected anchor (.inl rfl) (.inr rfl)
  have steady := chain.induction (fun s t => s.warmups ≤ t.warmups ∧ (s.wakeQueue.entries = [] → t.wakeQueue.entries = []))
    (fun _ => ⟨Nat.le_refl _, id⟩) (fun h k => ⟨h.1.trans k.1, k.2 ∘ h.2⟩)
    fun {k} _ _ allowed stride => stride.steady (by rcases allowed with rfl | rfl <;> rfl)
  exact { chain.orders_of_calm (by simp) with
    slots := fun _ _ law waits => by
      rw [settings_beginDrain]
      exact (law fun none => waits (steady.2 none)).trans steady.1
    anchors := fun table _ law c drain => by
      have done := chain.anchored (except := fun _ => False) (by simp) table fun c drain => .inl (law c drain)
      exact (done c drain).resolve_right id }

theorem heeds_sleepNow (h : execSleepNow s = .next t) : Heeds s t := by
  obtain rfl | ⟨r, rest, -, rfl⟩ := onRequest_cases h
  · exact .refl t
  · refine (fair_setEngine s { s.engine with requests := rest }).toHeeds.trans ?_
    unfold State.answer
    split
    · exact (fair_respond ..).toHeeds
    · rename_i passed
      obtain ⟨unprotected, dependent, -, old, anchor, -⟩ := sleepChecks_none (firstOf_eq_none.mp passed).2
      exact heeds_answerDone r ((fair_newMoment _).toHeeds.trans
        (heeds_beginDrain old dependent unprotected anchor))

theorem fair_wake (h : execWake s = .next t) : Fair s t :=
  fair_onRequest (fun r s => fair_answer fun _ => by
    have modest := modest_map (f := fun c => .wake c .management)
      ((List.length_filter_le (fun (c : CarrierIx) => memberOf r.carrierSet c.val && !s.isSkipped r c) _).trans
        (List.length_finRange (n := 32)).le) (fun _ => Nat.le_refl _) fun _ => rfl
    exact (fair_work modest.few modest.calm s).trans (fair_respond ..)) h

theorem settings_moveTo (c : CarrierIx) (new : LifeState) (s : State) : (s.moveTo c new).settings = s.settings :=
  (keeps_moveSlumber _ c _ _).settings.trans (keeps_movePlaces ..).settings

theorem settings_moveAndTell (c : CarrierIx) (new : LifeState) (cause : Cause) (s : State) :
    (s.moveAndTell c new cause).settings = s.settings :=
  (tells_notifyState ..).keeps.settings.trans (settings_moveTo ..)

theorem fair_holdDrain (h : execHoldDrain s = .next t) : Fair s t :=
  fair_onRequest (fun r s => fair_answer fun passed => by
    have draining : s.lifeState r.carrier = .draining := by
      by_contra other
      have held := (firstOf_eq_none.mp passed).2
      simp [State.holdChecks, other] at held
    refine Fair.trans (Chain.fair (chain_moveAndTell (new := .drainHeld) draining rfl (by simp) rfl rfl)
      (congrArg _ (settings_moveAndTell ..))) (fair_respond ..)) h

/-- R110: a hold is released. -/
theorem fair_backToDraining (held : s.lifeState c = .drainHeld) : Fair s (s.backToDraining c) := by
  refine Fair.trans (t := s.setLife c { (s.carrier c).life with sinceRelease := some 0 })
    (fair_setCarrier rfl rfl rfl rfl rfl) (Chain.fair (chain_moveAndTell (new := .draining) (old := .drainHeld) ?_ rfl (by simp) rfl rfl)
      (congrArg _ (settings_moveAndTell ..)))
  rw [setLife_lifeState _ _ _ (by rfl)]
  exact held

theorem fair_endHold (held : s.lifeState c = .drainHeld) : Fair s (s.endHold c) := by
  unfold State.endHold
  refine .ite (fun _ => ?_) fun _ => fair_backToDraining held
  exact (fair_backToDraining held).trans ((fair_newMoment _).trans (fairEffect_completeDrain ..).finish)

theorem fair_releaseHold (h : execReleaseHold s = .next t) : Fair s t :=
  fair_onRequest (fun r s => fair_answer fun passed => by
    have held := (firstOf_eq_none.mp passed).2
    rw [failIf_eq_none, bne_eq_false_iff_eq] at held
    exact (fair_endHold held).trans (fair_respond ..)) h

theorem fair_clearFlags (h : execClearFlags s = .next t) : Fair s t :=
  fair_onRequest (answer := fun r s => s.answer r (s.clearChecks r) fun s =>
      (s.setEngine { s.engine with flags := s.flagsCleared (BitVec.ofNat 12 r.flagMask) }).respond r .done 0
        (beBytes 2 (s.flagsCleared (BitVec.ofNat 12 r.flagMask)).toNat)) (fun r s => fair_answer fun _ =>
    (fair_setEngine s { s.engine with flags := s.flagsCleared (BitVec.ofNat 12 r.flagMask) }).trans
      (fair_respond r .done 0 _ _)) h

theorem fair_restart (h : execRestart s = .next t) : Fair s t :=
  fair_onRequest (fun _ _ => fair_answer fun _ => (tells_offerInjected ..).fair.trans (fair_setEngine ..)) h

theorem fair_identify (h : execIdentify s = .next t) : Fair s t := by
  unfold execIdentify at h
  refine fair_onRequest (fun r s => ?_) h
  exact fair_answer fun _ => fair_respond r .done 0 _ s

theorem fair_readRecords (h : execReadRecords s = .next t) : Fair s t :=
  fair_onRequest (fun r s => by
    split
    · exact fair_respond ..
    · exact fair_answer fun _ => fair_respond r .done _ _ s) h

theorem fair_unknownRequestKind (h : execUnknownRequestKind s = .next t) : Fair s t :=
  fair_onRequest (fun _ _ => fair_respond ..) h

end Sys2Proof.Machine
end

section
/-! PROOFS. A write of the Carrier Table respects the laws of the carriers (R67 to R71, R144). -/

namespace Sys2Proof.Machine

variable {s t u : State} {c d : CarrierIx} {v : UnitIx} {k : CarrierConfig}

/-! ## The configuration part -/

theorem setConfig_config (s : State) (c d : CarrierIx) (k : CarrierConfig) :
    (s.setConfig c k).config d = if d = c then k else s.config d := by
  simp only [State.setConfig, State.config, Fin.getElem_fin, Vector.getElem_set]
  by_cases e : d = c
  · subst e; simp
  · rw [if_neg e, if_neg fun same => e (Fin.ext same.symm)]

theorem setConfig_anchorOf (s : State) (c d : CarrierIx) (k : CarrierConfig) :
    (s.setConfig c k).anchorOf d = if d = c then k.anchorIx else s.anchorOf d := by
  simp only [State.anchorOf, setConfig_config]
  split <;> rfl

theorem inner_giveLink (v : UnitIx) (c : CarrierIx) (s : State) : Inner s (s.giveLink v c) := by
  unfold State.giveLink
  split
  · exact inner_setUnit ..
  · exact .refl s

theorem inner_arriveOnUnit (v : UnitIx) (c : CarrierIx) (s : State) : Inner s (s.arriveOnUnit v c) := by
  have placed : Inner s ((s.giveLink v c).stopDeepTimer v) := (inner_giveLink ..).trans (inner_setUnit ..)
  exact .ite (fun _ => placed.trans (inner_releaseUnit ..)) fun _ => placed

theorem inner_leaveUnit (v : UnitIx) (c : CarrierIx) (s : State) : Inner s (s.leaveUnit v c) :=
  (inner_setUnit s v _).trans (inner_deepTest ..)

theorem inner_changeUnit (c : CarrierIx) (old new : UnitIx) (s : State) : Inner s (s.changeUnit c old new) :=
  .ite (fun _ => .refl s) fun _ => (inner_leaveUnit ..).trans (inner_arriveOnUnit ..)

theorem settings_releaseUnit (v : UnitIx) (s : State) : (s.releaseUnit v).settings = s.settings :=
  (tells_inject ..).keeps.settings

theorem settings_arriveOnUnit (v : UnitIx) (c : CarrierIx) (s : State) : (s.arriveOnUnit v c).settings = s.settings := by
  have placed : ((s.giveLink v c).stopDeepTimer v).settings = s.settings := by
    unfold State.giveLink
    split <;> rfl
  unfold State.arriveOnUnit
  dsimp only
  split
  · exact (settings_releaseUnit ..).trans placed
  · exact placed

theorem settings_leaveUnit (v : UnitIx) (c : CarrierIx) (s : State) : (s.leaveUnit v c).settings = s.settings :=
  (keeps_deepTest ..).settings

theorem settings_changeUnit (c : CarrierIx) (old new : UnitIx) (s : State) :
    (s.changeUnit c old new).settings = s.settings := by
  unfold State.changeUnit
  split
  · rfl
  · exact (settings_arriveOnUnit ..).trans (settings_leaveUnit ..)

/-- R70: fields that do not differ. -/
theorem structuralDiffer_false {l : CarrierConfig} (h : k.structuralDiffer l = false) :
    l.managed = k.managed ∧ l.unit = k.unit ∧ l.anchor = k.anchor ∧ l.protect = k.protect ∧ l.sector = k.sector ∧
      l.key = k.key ∧ l.ratio = k.ratio := by
  simp only [CarrierConfig.structuralDiffer, Bool.or_eq_false_iff, bne_eq_false_iff_eq] at h
  tauto

/-- R70: the record of a carrier that is at rest, or on its way, keeps its anchor, its unit and its protection. -/
theorem kept_of_unsettled (settled : (s.config c).structuralDiffer k = true → s.groupSettled c = true)
    (rest : (s.lifeState c).isSettled = false) :
    k.anchorIx = s.anchorOf c ∧ k.unitIx = s.unitOf c ∧ k.isProtected = (s.config c).isProtected ∧
      k.managed = (s.config c).managed := by
  have same : (s.config c).structuralDiffer k = false := by
    by_contra differ
    have := settled (by simpa using differ)
    simp [State.groupSettled, rest] at this
  obtain ⟨managed, unit, anchor, protect, -⟩ := structuralDiffer_false same
  exact ⟨by rw [CarrierConfig.anchorIx, anchor]; rfl, by rw [CarrierConfig.unitIx, unit]; rfl,
    by rw [CarrierConfig.isProtected, protect]; rfl, managed⟩

/-! ## What a record leaves -/

/-- The state that the carrier of a record is in afterwards (R71). -/
def State.putState (s : State) (c : CarrierIx) (k : CarrierConfig) : LifeState :=
  if k.managed then (if s.isManaged c then s.lifeState c else .active) else .unmanaged

theorem reRank_lifeState (s : State) (c d : CarrierIx) : (s.reRank c).lifeState d = s.lifeState d := by
  unfold State.reRank State.placeSleeper State.leaveSleepers
  split <;> simp only [setCover_lifeState]

theorem becomeManaged_lifeState (s : State) (c d : CarrierIx) :
    (s.becomeManaged c).lifeState d = if d = c then .active else s.lifeState d := by
  rw [State.becomeManaged, (inner_arriveOnUnit ..).state, (tells_notifyState ..).lifeState]
  simp only [State.lifeState, State.setCarrier_carrier]
  split <;> rfl

theorem becomeUnmanaged_lifeState (s : State) (c d : CarrierIx) (v : UnitIx) :
    (s.becomeUnmanaged c v).lifeState d = if d = c then .unmanaged else s.lifeState d := by
  rw [State.becomeUnmanaged, (inner_leaveUnit ..).state, (tells_notifyState ..).lifeState, State.setMeter,
    setCarrier_lifeState _ _ _ _ (by rfl), moveTo_lifeState]

theorem unmanaged_of_not_managed (h : s.isManaged c = false) : s.lifeState c = .unmanaged := by
  simpa [State.isManaged] using h

/-- R71: the state of every carrier after a record. -/
theorem putCarrierRecord_lifeState (s : State) (c d : CarrierIx) (k : CarrierConfig) :
    (s.putCarrierRecord c k).lifeState d = if d = c then s.putState c k else s.lifeState d := by
  have frame (d : CarrierIx) : (s.setConfig c k).lifeState d = s.lifeState d := rfl
  unfold State.putCarrierRecord State.putState
  dsimp only
  split <;> rename_i old new
  · rw [frame, new]
    split
    · subst d; exact unmanaged_of_not_managed old
    · rfl
  · rw [becomeManaged_lifeState, frame, old, new]
    rfl
  · rw [becomeUnmanaged_lifeState, frame, new]
    rfl
  · rw [reRank_lifeState, (inner_changeUnit ..).state, frame, old, new]
    split
    · subst d; rfl
    · rfl

theorem putCarrierRecord_carrierConfig (s : State) (c : CarrierIx) (k : CarrierConfig) :
    (s.putCarrierRecord c k).carrierConfig = (s.setConfig c k).carrierConfig := by
  unfold State.putCarrierRecord
  dsimp only
  split
  · rfl
  · exact (inner_arriveOnUnit ..).carrierConfig.trans (tells_notifyState ..).keeps.carrierConfig
  · exact ((inner_leaveUnit ..).carrierConfig.trans (tells_notifyState ..).keeps.carrierConfig).trans
      (moveTo_carrierConfig ..)
  · have ranked (s : State) : (s.reRank c).carrierConfig = s.carrierConfig := by
      unfold State.reRank
      split <;> rfl
    exact (ranked _).trans (inner_changeUnit ..).carrierConfig

theorem putCarrierRecord_config (s : State) (c d : CarrierIx) (k : CarrierConfig) :
    (s.putCarrierRecord c k).config d = if d = c then k else s.config d := by
  rw [config_of_carrierConfig (putCarrierRecord_carrierConfig s c k), setConfig_config]

theorem putCarrierRecord_anchorOf (s : State) (c d : CarrierIx) (k : CarrierConfig) :
    (s.putCarrierRecord c k).anchorOf d = if d = c then k.anchorIx else s.anchorOf d := by
  rw [anchorOf_of_carrierConfig (putCarrierRecord_carrierConfig s c k), setConfig_anchorOf]

theorem putCarrierRecord_isManaged (s : State) (c d : CarrierIx) (k : CarrierConfig) :
    (s.putCarrierRecord c k).isManaged d = if d = c then k.managed else s.isManaged d := by
  rw [State.isManaged, putCarrierRecord_lifeState]
  split
  · unfold State.putState State.isManaged
    cases k.managed with
    | false => rfl
    | true =>
      simp only [if_true]
      split
      · assumption
      · rfl
  · rfl

/-! ## The Carrier Table -/

/-- R68, R69: the checks on a record of a managed carrier, in the terms of the Carrier Table's laws. -/
theorem anchor_of_unfit (h : s.anchorUnfit c k = false) (managed : k.managed = true) (other : k.anchorIx ≠ c) :
    s.isAnchor k.anchorIx = true ∧ (s.config k.anchorIx).sectorIx = k.sectorIx := by
  simpa [State.anchorUnfit, managed, other] using h

/-- R68: a carrier that is anchor to another stays one, in their sector. -/
theorem role_of_endsRole (h : s.endsRole c k = false) (dependent : s.isDependent d = true) (anchor : s.anchorOf d = c) :
    k.managed = true ∧ k.anchorIx = c ∧ (s.config d).sectorIx = k.sectorIx := by
  have mem : d ∈ s.dependents c := by simp [State.dependents, dependent, anchor]
  have some : (s.dependents c).isEmpty = false := by
    cases e : s.dependents c with
    | nil => rw [e] at mem; cases mem
    | cons _ _ => rfl
  simp only [State.endsRole, some, Bool.not_false, Bool.true_and, Bool.or_eq_false_iff, Bool.not_eq_false',
    bne_eq_false_iff_eq, List.any_eq_false, bne_iff_ne, ne_eq, not_not] at h
  exact ⟨h.1.1, h.1.2, h.2 d mem⟩

theorem mem_unitCarriers : d ∈ s.unitCarriers v ↔ s.isManaged d = true ∧ s.unitOf d = v := by
  simp [State.unitCarriers]

theorem unitCarriers_nodup (s : State) (v : UnitIx) : (s.unitCarriers v).Nodup :=
  (List.nodup_finRange 32).filter _

/-- R66, R68, R69: an accepted record keeps the laws of the Carrier Table. -/
theorem CarrierTableLaw.put (law : CarrierTableLaw s) (passed : s.carrierRecordCheck c k = none) :
    CarrierTableLaw (s.putCarrierRecord c k) := by
  obtain ⟨-, unfit, ends, full, taken, -⟩ := carrierRecordCheck_none passed
  have config := putCarrierRecord_config s c
  have anchorOf := putCarrierRecord_anchorOf s c
  have managed := putCarrierRecord_isManaged s c
  have unitOf (d : CarrierIx) : (s.putCarrierRecord c k).unitOf d = if d = c then k.unitIx else s.unitOf d := by
    rw [State.unitOf, config]
    split <;> rfl
  have key (d : CarrierIx) (h : d ≠ c) (now : k.managed = true) (there : s.isManaged d = true)
      (unit : k.unitIx = s.unitOf d) : k.key ≠ (s.config d).key := fun same => by
    simp only [State.keyTaken, now, Bool.true_and, List.any_eq_false, State.othersOn] at taken
    refine taken d ?_ (by simp [same])
    simp [mem_unitCarriers, there, unit, h]
  refine ⟨fun d => ?_, fun d here => ?_, fun v => ?_, fun d e hd he unit same => ?_⟩
  · rw [config, managed]
    split
    · rfl
    · exact law.marks d
  · have self : (s.putCarrierRecord c k).isAnchor c = (k.managed && k.anchorIx == c) := by
      rw [State.isAnchor, managed, anchorOf, if_pos rfl, if_pos rfl]
    have other {a : CarrierIx} (h : a ≠ c) : (s.putCarrierRecord c k).isAnchor a = s.isAnchor a := by
      rw [State.isAnchor, managed, anchorOf, if_neg h, if_neg h]; rfl
    rw [managed] at here
    simp only [anchorOf, config]
    by_cases e : d = c
    · rw [if_pos e] at here
      simp only [if_pos e]
      by_cases own : k.anchorIx = c
      · rw [own, self, if_pos rfl]
        simp [here, own]
      · rw [other own, if_neg own]
        exact anchor_of_unfit unfit here own
    · rw [if_neg e] at here
      simp only [if_neg e]
      obtain ⟨anchor, sector⟩ := law.anchors d here
      by_cases own : s.anchorOf d = c
      · have dependent : s.isDependent d = true := by
          simp only [State.isDependent, here, Bool.true_and, bne_iff_ne, own]
          exact fun h => e h.symm
        obtain ⟨now, role, sectors⟩ := role_of_endsRole ends dependent own
        rw [own, self, if_pos rfl]
        exact ⟨by simp [now, role], sectors.symm⟩
      · rw [other own, if_neg own]
        exact ⟨anchor, sector⟩
  · have others (w : UnitIx) : ((s.putCarrierRecord c k).unitCarriers w).filter (· != c) = s.othersOn w c := by
      unfold State.othersOn State.unitCarriers
      rw [List.filter_filter, List.filter_filter]
      refine List.filter_congr fun d _ => ?_
      by_cases e : d = c
      · simp [e]
      · rw [managed, unitOf, if_neg e, if_neg e]
    by_cases mem : c ∈ (s.putCarrierRecord c k).unitCarriers v
    · have here := mem_unitCarriers.mp mem
      rw [managed, unitOf, if_pos rfl, if_pos rfl] at here
      obtain ⟨now, rfl⟩ := here
      have room : (s.othersOn k.unitIx c).length ≤ 3 := by
        simp only [State.unitFull, now, Bool.true_and, decide_eq_false_iff_not] at full
        omega
      have erased : ((s.putCarrierRecord c k).unitCarriers k.unitIx).erase c = s.othersOn k.unitIx c :=
        (List.Nodup.erase_eq_filter (unitCarriers_nodup ..) _).trans (others _)
      have := List.length_erase_of_mem mem
      rw [erased] at this
      omega
    · have same : ((s.putCarrierRecord c k).unitCarriers v).filter (· != c) = (s.putCarrierRecord c k).unitCarriers v :=
        List.filter_eq_self.mpr fun d here => by
          rw [bne_iff_ne]
          rintro rfl
          exact mem here
      rw [← same, others]
      exact (List.length_filter_le ..).trans (law.units v)
  · rw [managed] at hd he
    simp only [unitOf, config] at unit same
    by_cases ed : d = c <;> by_cases ee : e = c
    · rw [ed, ee]
    · rw [if_pos ed] at hd
      rw [if_neg ee] at he
      rw [if_pos ed, if_neg ee] at unit same
      exact absurd same (key e ee hd he unit)
    · rw [if_neg ed] at hd
      rw [if_pos ee] at he
      rw [if_neg ed, if_pos ee] at unit same
      exact absurd same.symm (key d ed he hd unit.symm)
    · rw [if_neg ed] at hd
      rw [if_neg ee] at he
      rw [if_neg ed, if_neg ee] at unit same
      exact law.keys d e hd he unit same

/-! ## Rest, and the anchors of drains -/

theorem putState_cases (s : State) (c : CarrierIx) (k : CarrierConfig) :
    s.putState c k = s.lifeState c ∨ (s.putState c k).isSettled = true := by
  unfold State.putState
  split
  · split
    · exact .inl rfl
    · exact .inr rfl
  · exact .inr rfl

theorem not_settled_of_resting {x : LifeState} (h : x.isResting = true) : x.isSettled = false := by
  cases x <;> simp_all [LifeState.isResting, LifeState.isSettled, LifeState.isDrain, LifeState.isSleeper]

/-- A carrier at rest after a record was at rest before. -/
theorem putCarrierRecord_resting (h : ((s.putCarrierRecord c k).lifeState d).isResting = true) :
    (s.lifeState d).isResting = true ∧ (s.putCarrierRecord c k).lifeState d = s.lifeState d := by
  rw [putCarrierRecord_lifeState] at h ⊢
  by_cases e : d = c
  · rw [if_pos e] at h ⊢
    rcases putState_cases s c k with same | settled
    · rw [same] at h ⊢
      exact ⟨e ▸ h, by rw [e]⟩
    · rw [not_settled_of_resting h] at settled
      cases settled
  · rw [if_neg e] at h ⊢
    exact ⟨h, rfl⟩

theorem RestingLaw.put (law : RestingLaw s) (passed : s.carrierRecordCheck c k = none) :
    RestingLaw (s.putCarrierRecord c k) := by
  obtain ⟨-, -, -, -, -, settled⟩ := carrierRecordCheck_none passed
  intro d resting
  obtain ⟨before, state⟩ := putCarrierRecord_resting resting
  obtain ⟨dependent, unprotected⟩ := law d before
  have managed : (s.putCarrierRecord c k).isManaged d = s.isManaged d := by rw [State.isManaged, state]; rfl
  rw [State.isDependent, managed, putCarrierRecord_anchorOf, putCarrierRecord_config]
  by_cases e : d = c
  · subst e
    obtain ⟨anchor, -, protect, -⟩ := kept_of_unsettled settled (not_settled_of_resting before)
    rw [if_pos rfl, if_pos rfl, anchor, protect]
    exact ⟨dependent, unprotected⟩
  · rw [if_neg e, if_neg e]
    exact ⟨dependent, unprotected⟩

theorem isResting_of_drain {x : LifeState} (h : x.isDrain = true) : x.isResting = true := by
  simp [LifeState.isResting, h]

theorem AnchorLaw.put (law : AnchorLaw s) (resting : RestingLaw s)
    (passed : s.carrierRecordCheck c k = none) : AnchorLaw (s.putCarrierRecord c k) := by
  obtain ⟨-, -, ends, -, -, settled⟩ := carrierRecordCheck_none passed
  intro d drain
  obtain ⟨before, state⟩ := putCarrierRecord_resting (isResting_of_drain drain)
  rw [state] at drain
  have up := law d drain
  have dependent := (resting d before).1
  have anchor : (s.putCarrierRecord c k).anchorOf d = s.anchorOf d := by
    rw [putCarrierRecord_anchorOf]
    split
    · subst d; exact (kept_of_unsettled settled (not_settled_of_resting before)).1
    · rfl
  rw [anchor, putCarrierRecord_lifeState]
  split
  · rename_i own
    obtain ⟨now, -, -⟩ := role_of_endsRole ends dependent own
    have managed : s.isManaged c = true := managed_of (own ▸ up) (by simp)
    rw [State.putState, now, managed]
    exact own ▸ up
  · exact up

/-! ## The wake queue and the marks -/

/-- What the laws of the wake queue and of the marks read of the carriers a record leaves alone. -/
theorem reRank_inner_wake (s : State) (c : CarrierIx) : (s.reRank c).wakeQueue = s.wakeQueue := by
  unfold State.reRank
  split <;> rfl

theorem becomeManaged_wakeQueueLaw (law : WakeQueueLaw s) (old : s.lifeState c ≠ .queued) :
    WakeQueueLaw (s.becomeManaged c) := by
  refine (inner_arriveOnUnit ..).wakeQueueLaw ((tells_notifyState ..).inner.wakeQueueLaw ?_)
  obtain ⟨once, mem⟩ := wakeQueueLaw_iff.mp law
  refine wakeQueueLaw_iff.mpr ⟨once, fun d => (mem d).trans ?_⟩
  simp only [State.lifeState, State.setCarrier_carrier]
  split
  · subst d
    exact ⟨fun e => absurd e old, fun e => by cases e⟩
  · rfl

theorem WakeQueueLaw.put (law : WakeQueueLaw s) : WakeQueueLaw (s.putCarrierRecord c k) := by
  have law' : WakeQueueLaw (s.setConfig c k) := law
  unfold State.putCarrierRecord
  dsimp only
  split <;> rename_i old new
  · exact law'
  · exact becomeManaged_wakeQueueLaw law' (fun e => by
      have := unmanaged_of_not_managed old
      rw [State.lifeState] at this e
      rw [show (s.setConfig c k).carrier c = s.carrier c from rfl, this] at e
      cases e)
  · have cleared (t : State) : Inner t (t.setMeter c Meter.clear) := inner_setCarrier rfl rfl rfl rfl rfl
    exact (inner_leaveUnit ..).wakeQueueLaw ((tells_notifyState ..).inner.wakeQueueLaw
      ((cleared _).wakeQueueLaw (wakeQueueLaw_moveTo law' (by simp))))
  · have changed := (inner_changeUnit c (s.unitOf c) k.unitIx (s.setConfig c k)).wakeQueueLaw law'
    obtain ⟨once, mem⟩ := wakeQueueLaw_iff.mp changed
    refine wakeQueueLaw_iff.mpr ⟨by rwa [reRank_inner_wake], fun d => ?_⟩
    rw [reRank_inner_wake, reRank_lifeState]
    exact mem d

theorem reRank_marked (h : (s.carrier d).Marked) : ((s.reRank c).carrier d).Marked := by
  have cover (a : CarrierIx) (s : State) (x : Cover) (h : (s.carrier d).Marked) : ((s.setCover a x).carrier d).Marked := by
    rw [setCover_carrier]
    exact marked_of_eq h rfl rfl rfl rfl
  unfold State.reRank State.placeSleeper State.leaveSleepers
  split
  · exact cover _ _ _ (cover _ _ _ h)
  · exact h

theorem MarksLaw.put (law : MarksLaw s) : MarksLaw (s.putCarrierRecord c k) := by
  have law' : MarksLaw (s.setConfig c k) := law
  unfold State.putCarrierRecord
  dsimp only
  split
  · exact law'
  · refine (inner_arriveOnUnit ..).marksLaw ((tells_notifyState ..).inner.marksLaw (marksLaw_iff.mpr fun d => ?_))
    rw [State.setCarrier_carrier]
    split
    · exact ⟨rfl, fun h => (Bool.false_ne_true h).elim, fun h => absurd rfl h⟩
    · exact law' d
  · have cleared (t : State) : Inner t (t.setMeter c Meter.clear) := inner_setCarrier rfl rfl rfl rfl rfl
    exact (inner_leaveUnit ..).marksLaw ((tells_notifyState ..).inner.marksLaw
      ((cleared _).marksLaw (marksLaw_moveTo law' (by simp))))
  · exact fun d => reRank_marked ((inner_changeUnit ..).marked (law' d))

/-! ## The lists and their order -/

/-- A record of a carrier that is on no list, or that keeps its anchor, leaves the lists. -/
theorem Listed.setConfig {drains sleeps : CarrierIx → Bool} (h : Listed s drains sleeps)
    (kept : k.anchorIx = s.anchorOf c ∨ drains c = false ∧ sleeps c = false) : Listed (s.setConfig c k) drains sleeps := by
  have anchor (d : CarrierIx) (on : drains d = true ∨ sleeps d = true) : (s.setConfig c k).anchorOf d = s.anchorOf d := by
    rw [setConfig_anchorOf]
    split
    · subst d
      rcases kept with same | off
      · exact same
      · simp [off] at on
    · rfl
  have cover (d : CarrierIx) : (s.setConfig c k).cover d = s.cover d := rfl
  refine ⟨fun a => ?_, h.none, fun a => ⟨(h.drainList a).1, fun d => ((h.drainList a).2 d).trans ?_⟩,
    fun a => ⟨(h.sleeperList a).1, fun d => ((h.sleeperList a).2 d).trans ?_⟩⟩
  · refine (h.total a).trans (Finset.sum_congr rfl fun d _ => ?_)
    by_cases on : drains d = true
    · rw [anchor d (.inl on), cover]
    · simp [on]
  · exact and_congr_right fun on => by rw [anchor d (.inl on)]
  · exact and_congr_right fun on => by rw [anchor d (.inr on)]

/-- R78: a record of a carrier that is on no sleeper list leaves the order. -/
theorem OrderLaw.setConfig {drains sleeps : CarrierIx → Bool} (h : OrderLaw s) (listed : Listed s drains sleeps)
    (off : sleeps c = false) : OrderLaw (s.setConfig c k) := by
  obtain ⟨past, drained, slept⟩ := orderLaw_iff.mp h
  refine orderLaw_iff.mpr ⟨past, drained, fun a => pairwise_of_eq (slept a) fun x mx y my first => ?_⟩
  have absent (x : CarrierIx) (mem : x ∈ (s.cover a).sleeperList) : x ≠ c := fun e => by
    have := (((listed.sleeperList a).2 x).mp mem).1
    rw [e, off] at this
    cases this
  unfold SleepsFirst at *
  rw [setConfig_config, setConfig_config, if_neg (absent x mx), if_neg (absent y my)]
  exact first

/-- R71: a carrier that has nothing on its lists starts with a clear coverage part. -/
theorem Listed.clear {drains sleeps : CarrierIx → Bool} (h : Listed s drains sleeps) (drain : drains c = false)
    (anchor : ∀ d, drains d = true ∨ sleeps d = true → s.anchorOf d ≠ c) {x : Carrier} (clear : x.cover = Cover.clear) :
    Listed (s.setCarrier c x) drains sleeps := by
  have cover (d : CarrierIx) : (s.setCarrier c x).cover d = if d = c then Cover.clear else s.cover d := by
    simp only [State.cover, State.setCarrier_carrier]
    split
    · exact clear
    · rfl
  have pledge (d : CarrierIx) : ((s.setCarrier c x).cover d).pledge = (s.cover d).pledge := by
    rw [cover]
    split
    · subst d; exact (h.none _ drain).symm
    · rfl
  refine ⟨fun a => ?_, fun d off => ?_, fun a => ?_, fun a => ?_⟩
  · simp only [pledge]
    refine Eq.trans ?_ (h.total a)
    rw [cover]
    split
    · subst a
      refine Eq.symm ((h.total _).trans (Finset.sum_eq_zero fun d _ => ?_))
      rw [if_neg fun on => anchor d (.inl on.1) on.2]
    · rfl
  · rw [pledge]
    exact h.none d off
  · rw [cover]
    split
    · subst a
      refine ⟨List.nodup_nil, fun d => ⟨fun mem => (List.not_mem_nil mem).elim, ?_⟩⟩
      exact fun ⟨on, here⟩ => absurd here (anchor d (.inl on))
    · exact h.drainList a
  · rw [cover]
    split
    · subst a
      refine ⟨List.nodup_nil, fun d => ⟨fun mem => (List.not_mem_nil mem).elim, ?_⟩⟩
      exact fun ⟨on, here⟩ => absurd here (anchor d (.inr on))
    · exact h.sleeperList a

theorem OrderLaw.clear {drains sleeps : CarrierIx → Bool} (h : OrderLaw s) (listed : Listed s drains sleeps)
    (drain : drains c = false) (sleep : sleeps c = false) {x : Carrier} (clear : x.cover = Cover.clear) :
    OrderLaw (s.setCarrier c x) := by
  obtain ⟨past, drained, slept⟩ := orderLaw_iff.mp h
  have cover (d : CarrierIx) : (s.setCarrier c x).cover d = if d = c then Cover.clear else s.cover d := by
    simp only [State.cover, State.setCarrier_carrier]
    split
    · exact clear
    · rfl
  have offDrain (a y : CarrierIx) (mem : y ∈ (s.cover a).drainList) : y ≠ c := fun e => by
    have := (((listed.drainList a).2 y).mp mem).1
    rw [e, drain] at this
    cases this
  have offSleep (a y : CarrierIx) (mem : y ∈ (s.cover a).sleeperList) : y ≠ c := fun e => by
    have := (((listed.sleeperList a).2 y).mp mem).1
    rw [e, sleep] at this
    cases this
  refine orderLaw_iff.mpr ⟨fun d => ?_, fun a => ?_, fun a => ?_⟩
  · rw [cover]
    split
    · exact ⟨Nat.zero_le _, Nat.zero_le _⟩
    · exact past d
  · rw [cover]
    split
    · exact List.Pairwise.nil
    · refine pairwise_of_eq (drained a) fun y my z mz first => ?_
      unfold DrainsFirst at *
      rwa [cover, cover, if_neg (offDrain a y my), if_neg (offDrain a z mz)]
  · rw [cover]
    split
    · exact List.Pairwise.nil
    · refine pairwise_of_eq (slept a) fun y my z mz first => ?_
      unfold SleepsFirst at *
      rwa [cover, cover, if_neg (offSleep a y my), if_neg (offSleep a z mz)]

theorem Ordered.inner {drains sleeps : CarrierIx → Bool} (h : Ordered s drains sleeps) (k : Inner s t) :
    Ordered t drains sleeps := listProperty_ordered.inner h k.carrierConfig k.cover k.moment

theorem setConfig_leaveSleepers (kept : k.anchorIx = s.anchorOf c) :
    (s.setConfig c k).leaveSleepers c = (s.leaveSleepers c).setConfig c k := by
  have anchor : (s.setConfig c k).anchorOf c = s.anchorOf c := by rw [setConfig_anchorOf, if_pos rfl, kept]
  unfold State.leaveSleepers
  dsimp only
  rw [anchor]
  rfl

/-- A property of lists that a record of a carrier on no list, or that keeps its anchor and its place, respects. -/
theorem put_ordered {L : State → (CarrierIx → Bool) → (CarrierIx → Bool) → Prop} (property : ListProperty L)
    (setConfig : ∀ {s : State} {drains sleeps}, L s drains sleeps → sleeps c = false →
      k.anchorIx = s.anchorOf c ∨ drains c = false → L (s.setConfig c k) drains sleeps)
    (clear : ∀ {s : State} {drains sleeps} {x : Carrier}, L s drains sleeps → drains c = false → sleeps c = false →
      (∀ d, drains d = true ∨ sleeps d = true → s.anchorOf d ≠ c) → x.cover = Cover.clear →
      L (s.setCarrier c x) drains sleeps)
    (place : ∀ {s : State} {drains sleeps}, L s drains sleeps → sleeps c = false →
      L (s.placeSleeper c) drains fun d => sleeps d || d == c)
    (table : CarrierTableLaw s) (holds : HoldsBy L s) (passed : s.carrierRecordCheck c k = none) :
    HoldsBy L (s.putCarrierRecord c k) := by
  obtain ⟨-, -, ends, -, -, settled⟩ := carrierRecordCheck_none passed
  have written (awake : (s.lifeState c).isSleeper = false) : HoldsBy L (s.setConfig c k) := by
    refine setConfig holds awake ?_
    cases drain : (s.lifeState c).isDrain with
    | false => exact .inr drain
    | true => exact .inl (kept_of_unsettled settled (not_settled_of_resting (isResting_of_drain drain))).1
  unfold State.putCarrierRecord
  dsimp only
  split <;> rename_i old new
  · exact written (by rw [unmanaged_of_not_managed old]; rfl)
  · have unmanaged := unmanaged_of_not_managed old
    have base := written (by rw [unmanaged]; rfl)
    refine property.of_inner (inner_arriveOnUnit ..) (property.of_inner (tells_notifyState ..).inner ?_)
    have cleared := clear (x := { Carrier.cold with life := Life.clear .active }) base
      (by change (s.lifeState c).isDrain = false; rw [unmanaged]; rfl)
      (by change (s.lifeState c).isSleeper = false; rw [unmanaged]; rfl) (fun d on => by
        have resting' : (s.lifeState d).isResting = true := by
          rcases on with on | on
          · exact isResting_of_drain on
          · simp only [LifeState.isResting, Bool.or_eq_true]
            exact .inr on
        have managed : s.isManaged d = true := managed_of rfl fun e => by rw [e] at resting'; cases resting'
        rw [setConfig_anchorOf, if_neg fun e : d = c => by rw [e, old] at managed; cases managed]
        intro own
        have anchor := (table.anchors d managed).1
        rw [own] at anchor
        simp [State.isAnchor, old] at anchor) rfl
    unfold HoldsBy
    have state (d : CarrierIx) : (((s.setConfig c k).setCarrier c
        { Carrier.cold with life := Life.clear .active }).lifeState d) =
        if d = c then .active else s.lifeState d := by
      simp only [State.lifeState, State.setCarrier_carrier]
      split <;> rfl
    convert cleared using 1 <;> funext d <;> rw [state] <;> split
    · subst d; change false = (s.lifeState _).isDrain; rw [unmanaged]; rfl
    · rfl
    · subst d; change false = (s.lifeState _).isSleeper; rw [unmanaged]; rfl
    · rfl
  · have settle : (s.lifeState c).isSettled = true := by
      have differ : (s.config c).structuralDiffer k = true := by
        have mark := table.marks c
        rw [old] at mark
        simp [CarrierConfig.structuralDiffer, mark, new]
      have := settled differ
      simp only [State.groupSettled, Bool.and_eq_true] at this
      exact this.1
    have base := written (by cases e : s.lifeState c <;> simp_all [LifeState.isSettled, LifeState.isSleeper])
    have drain : ((s.setConfig c k).lifeState c).isDrain = false := by
      change (s.lifeState c).isDrain = false
      cases e : s.lifeState c <;> simp_all [LifeState.isSettled, LifeState.isDrain]
    have moved := property.moveTo (c := c) (new := .unmanaged) base
      (fun now => absurd now (by rw [drain]; simp)) (by simp [LifeState.isDrain])
    have cleared (t : State) : Inner t (t.setMeter c Meter.clear) := inner_setCarrier rfl rfl rfl rfl rfl
    exact property.of_inner (inner_leaveUnit ..) (property.of_inner (tells_notifyState ..).inner
      (property.of_inner (cleared _) moved))
  · by_cases sleeps : (s.lifeState c).isSleeper = true
    · have rest : (s.lifeState c).isResting = true := by simp [LifeState.isResting, sleeps]
      obtain ⟨anchor, unit, -⟩ := kept_of_unsettled settled (not_settled_of_resting rest)
      have drain : (s.lifeState c).isDrain = false := by
        cases e : s.lifeState c <;> simp_all [LifeState.isSleeper, LifeState.isDrain]
      have still : (s.setConfig c k).changeUnit c (s.unitOf c) k.unitIx = s.setConfig c k := by
        rw [State.changeUnit, if_pos unit.symm]
      have sleeps' : ((s.setConfig c k).lifeState c).isSleeper = true := sleeps
      rw [still, State.reRank, if_pos sleeps', setConfig_leaveSleepers anchor]
      have left := setConfig (property.leaveSleepers holds (c := c)) (by simp) (.inl anchor)
      have placed := place left (by simp)
      have frame : HoldsBy L (((s.leaveSleepers c).setConfig c k).placeSleeper c) ↔
          L (((s.leaveSleepers c).setConfig c k).placeSleeper c) (fun d => (s.lifeState d).isDrain)
            fun d => (s.lifeState d).isSleeper := by
        have state (d : CarrierIx) :
            (((s.leaveSleepers c).setConfig c k).placeSleeper c).lifeState d = s.lifeState d := by
          have ranked := reRank_lifeState (s.setConfig c k) c d
          rw [State.reRank, if_pos sleeps', setConfig_leaveSleepers anchor] at ranked
          exact ranked
        unfold HoldsBy
        simp only [state]
      rw [frame]
      convert placed using 1
      funext d
      by_cases e : d = c
      · rw [e]; simp [sleeps]
      · rw [bne_iff_ne.mpr e, Bool.and_true, beq_eq_false_iff_ne.mpr e, Bool.or_false]
    · have asleep : (s.lifeState c).isSleeper = false := by simpa using sleeps
      have changed := property.of_inner (inner_changeUnit c (s.unitOf c) k.unitIx (s.setConfig c k)) (written asleep)
      have same : (((s.setConfig c k).changeUnit c (s.unitOf c) k.unitIx).lifeState c).isSleeper = false := by
        rw [(inner_changeUnit ..).state]
        exact asleep
      rw [State.reRank, if_neg (ne_true_of_eq_false same)]
      exact changed

theorem CoverLaw.put (law : CoverLaw s) (table : CarrierTableLaw s)
    (passed : s.carrierRecordCheck c k = Option.none) : CoverLaw (s.putCarrierRecord c k) :=
  coverLaw_iff_holdsBy.mpr (put_ordered listProperty_listed
    (fun h off kept => h.setConfig (kept.imp_right fun drain => ⟨drain, off⟩))
    (fun h drain _ anchor clear => h.clear drain anchor clear) (fun h off => h.placeSleeper off) table
    (coverLaw_iff_holdsBy.mp law) passed)

theorem OrderLaw.put (law : OrderLaw s) (cover : CoverLaw s) (table : CarrierTableLaw s)
    (passed : s.carrierRecordCheck c k = none) : OrderLaw (s.putCarrierRecord c k) :=
  (put_ordered listProperty_ordered
    (fun h off kept => ⟨h.1.setConfig (kept.imp_right fun drain => ⟨drain, off⟩), h.2.setConfig h.1 off⟩)
    (fun h drain sleep anchor clear => ⟨h.1.clear drain anchor clear, h.2.clear h.1 drain sleep clear⟩)
    (fun h off => ⟨h.1.placeSleeper off, h.2.placeSleeper h.1 off⟩) table
    ⟨coverLaw_iff_holdsBy.mp cover, law⟩ passed).2

/-! ## The slots -/

theorem putCarrierRecord_settings (s : State) (c : CarrierIx) (k : CarrierConfig) :
    (s.putCarrierRecord c k).settings = s.settings := by
  unfold State.putCarrierRecord
  dsimp only
  split
  · rfl
  · exact (settings_arriveOnUnit ..).trans (tells_notifyState ..).keeps.settings
  · exact ((settings_leaveUnit ..).trans (tells_notifyState ..).keeps.settings).trans (settings_moveTo ..)
  · have ranked (s : State) : (s.reRank c).settings = s.settings := by
      unfold State.reRank
      split <;> rfl
    exact (ranked _).trans (settings_changeUnit ..)

/-- R71: no record brings a carrier to WARMUP. -/
theorem putCarrierRecord_warmups_le (s : State) (c : CarrierIx) (k : CarrierConfig) :
    (s.putCarrierRecord c k).warmups ≤ s.warmups := by
  have := warmups_of_move (putCarrierRecord_lifeState s c (k := k))
  by_cases e : s.putState c k = .warmup
  · have same : s.lifeState c = .warmup := by
      rcases putState_cases s c k with same | settled
      · rw [← same, e]
      · rw [e] at settled; cases settled
    rw [if_pos e, if_pos same] at this
    omega
  · rw [if_neg e] at this
    omega

theorem putCarrierRecord_entries (s : State) (c : CarrierIx) (k : CarrierConfig) (empty : s.wakeQueue.entries = []) :
    (s.putCarrierRecord c k).wakeQueue.entries = [] := by
  unfold State.putCarrierRecord
  dsimp only
  split
  · exact empty
  · rw [State.becomeManaged, (inner_arriveOnUnit ..).wakeQueue, (tells_notifyState ..).wakeQueue]
    exact empty
  · rw [State.becomeUnmanaged, (inner_leaveUnit ..).wakeQueue, (tells_notifyState ..).wakeQueue]
    change ((s.setConfig c k).moveTo c .unmanaged).wakeQueue.entries = []
    rw [moveTo_wakeQueue, movePlaces_wakeQueue]
    split
    · simp_all [WakeQueue.leave, WakeQueue.entries, State.setConfig]
    · exact empty
  · rw [reRank_inner_wake, (inner_changeUnit ..).wakeQueue]
    exact empty

theorem SlotLaw.put (law : SlotLaw s) (table : CarrierTableLaw s) (passed : s.carrierRecordCheck c k = none) :
    SlotLaw (s.putCarrierRecord c k) := by
  obtain ⟨-, -, -, -, -, settled⟩ := carrierRecordCheck_none passed
  intro waits
  rw [putCarrierRecord_settings]
  refine (law fun none => waits (putCarrierRecord_entries s c k none)).trans ?_
  have moved := warmups_of_move (putCarrierRecord_lifeState s c (k := k))
  by_cases warm : s.lifeState c = .warmup
  · obtain ⟨-, -, -, mark⟩ := kept_of_unsettled settled (c := c) (by rw [warm]; rfl)
    have managed : s.isManaged c = true := managed_of warm (by simp)
    have same : s.putState c k = .warmup := by
      rw [State.putState, mark, table.marks, managed]
      exact warm
    rw [if_pos warm, if_pos same] at moved
    omega
  · rw [if_neg warm] at moved
    omega

/-! ## The write -/

theorem fair_putCarrierRecord (passed : s.carrierRecordCheck c k = none) : Fair s (s.putCarrierRecord c k) where
  resting law := law.put passed
  table law := law.put passed
  queue law := law.put
  marks law := law.put
  cover table _ law := law.put table passed
  order table _ cover law := law.put cover table passed
  slots table _ law := law.put table passed
  anchors _ rest law := law.put rest passed
  drains d drain := by
    obtain ⟨-, state⟩ := putCarrierRecord_resting (isResting_of_drain drain)
    rwa [state] at drain
  warmups := (putCarrierRecord_warmups_le s c k).trans (Nat.le_max_left ..)
  slotCount := by rw [putCarrierRecord_settings]

theorem fair_writeCarrierRecord {i : Nat} {b : List Byte} (h : writeCarrierRecord i b s = .ok t) : Fair s t := by
  obtain ⟨k, -, passed, rfl⟩ := writeCarrierRecord_ok h
  exact fair_putCarrierRecord passed

end Sys2Proof.Machine
end

section
/-! PROOFS. The other writes, the resets, every command and the part's own work respect the laws of the carriers; no command
begins a drain that may not begin, or fills more slots than there are. -/

namespace Sys2Proof.Machine

variable {s t u : State} {c d : CarrierIx}

/-! ## Writes -/

theorem fair_answerWrite {r : Request} {table : Table} {owner : OwnerWrite} {after : Nat → State → State}
    (h : ∀ i b s t, owner i b s = .ok t → Fair s t) (ends : ∀ n s, Fair s (after n s)) (s : State) :
    Fair s (s.answerWrite r table owner after) :=
  fair_answer fun _ => ((writeEach_induction Fair .refl .trans h ..).trans (ends ..)).trans (fair_respond ..)

theorem fair_nothingAfter (n : Nat) (s : State) : Fair s (nothingAfter n s) := .refl s

theorem fair_recomputeAfter (n : Nat) (s : State) : Fair s (recomputeAfter n s) :=
  .ite (fun _ => .refl s) fun _ => fair_recompute s

theorem fair_writeProfileRecord {i : Nat} {b : List Byte} (h : writeProfileRecord i b s = .ok t) : Fair s t := by
  unfold writeProfileRecord at h
  dsimp only at h
  split at h <;> cases h
  exact Inner.fair {}

theorem fair_putUnitRecord (v : UnitIx) (k : UnitConfig) (s : State) : Fair s (s.putUnitRecord v k) := by
  have set : Fair s { s with unitConfig := s.unitConfig.set v k v.isLt } := Inner.fair {}
  exact .ite (fun _ => set) fun _ => set.trans (fair_setUnit ..)

theorem fair_writeUnitRecord {i : Nat} {b : List Byte} (h : writeUnitRecord i b s = .ok t) : Fair s t := by
  unfold writeUnitRecord at h
  dsimp only at h
  repeat' split at h
  all_goals cases h
  exact fair_putUnitRecord ..

theorem fair_writeActionRecord {i : Nat} {b : List Byte} (h : writeActionRecord i b s = .ok t) : Fair s t := by
  unfold writeActionRecord at h
  dsimp only at h
  repeat' split at h
  all_goals cases h
  exact Inner.fair {}

theorem fair_writeStandbyRecord {i : Nat} {b : List Byte} (h : writeStandbyRecord i b s = .ok t) : Fair s t := by
  unfold writeStandbyRecord at h
  dsimp only at h
  repeat' split at h
  all_goals cases h
  exact fair_setClassifier ..

theorem fair_writeWindowRecord {i : Nat} {b : List Byte} (h : writeWindowRecord i b s = .ok t) : Fair s t := by
  unfold writeWindowRecord at h
  dsimp only at h
  split at h <;> cases h
  exact Inner.fair {}

theorem fair_writeCeiling {i : Nat} {b : List Byte} (h : writeCeiling i b s = .ok t) : Fair s t := by
  unfold writeCeiling at h
  dsimp only at h
  split at h <;> cases h
  exact Inner.fair {}

/-! ## Settings -/

/-- What a write of a setting other than the warm-up slot count does to the slots: nothing. -/
structure Slotless (s t : State) : Prop where
  inner : Inner s t
  slots : t.settings.slots = s.settings.slots

theorem slotless_putSetting {i v : Nat} (other : i ≠ 8) (h : putSetting i v s = some t) : Slotless s t := by
  have write {p : Prop} [Decidable p] {k : Settings} (h : (if p then some (s.setSettings k) else none) = some t)
      (same : k.slots = s.settings.slots) : Slotless s t := by
    split at h <;> cases h
    exact ⟨{}, same⟩
  unfold putSetting at h
  split at h
  case h_8 => exact absurd rfl other
  case h_12 => cases h
  all_goals exact write h rfl

/-- R129, R130: what a write of the warm-up slot count comes to. -/
theorem putSlots_cases {v : Nat} (h : putSlots v s = some t) : (1 ≤ v ∧ v ≤ 8) ∧
    (s.settings.slots < v ∧ t = (s.setSettings { s.settings with slots := v }).work [.grants] ∨
      v ≤ s.settings.slots ∧ t = s.setSettings { s.settings with slots := v }) := by
  unfold putSlots at h
  split at h
  · rename_i range
    cases h
    refine ⟨range, ?_⟩
    split
    · exact .inl ⟨‹_›, rfl⟩
    · exact .inr ⟨by omega, rfl⟩
  · cases h

theorem done_grants (s : State) : Done [.grants] s (s.work [.grants]) := done_work _ s (by decide)

theorem heeds_putSlots {v : Nat} (h : putSlots v s = some t) : Heeds s t := by
  have set : Inner s (s.setSettings { s.settings with slots := v }) := {}
  obtain ⟨-, ⟨-, rfl⟩ | ⟨less, rfl⟩⟩ := putSlots_cases h
  · have done := done_grants (s.setSettings { s.settings with slots := v })
    exact { set.orders.trans done.heeds.toOrders with
      slots := fun _ queue _ => done.slotLaw (set.wakeQueueLaw queue) (.inr (List.mem_singleton_self _))
      anchors := fun table rest law => done.heeds.anchors (set.orders.table table) (set.orders.resting rest) law }
  · exact { set.orders with
      slots := fun _ _ law waits => less.trans (law waits)
      anchors := fun _ _ law => law }

theorem Slotless.fair (h : Slotless s t) : Fair s t := h.inner.fair h.slots

theorem heeds_writeSetting {i : Nat} {b : List Byte} (h : writeSetting i b s = .ok t) : Heeds s t := by
  unfold writeSetting at h
  split at h <;> cases h
  rename_i put
  by_cases eight : i = 8
  · subst eight
    exact heeds_putSlots put
  · exact (slotless_putSetting eight put).fair.toHeeds

/-- R130: a write of the slot count fills no more slots than there are then. -/
theorem warmups_putSlots {v : Nat} (h : putSlots v s = some t) : t.warmups ≤ max s.warmups t.settings.slots ∧
    ∀ c, (t.lifeState c).isDrain = true → (s.lifeState c).isDrain = true := by
  obtain ⟨-, ⟨-, rfl⟩ | ⟨-, rfl⟩⟩ := putSlots_cases h
  · have mild := (done_grants (s.setSettings { s.settings with slots := v })).mild (by simp [Task.isGroup])
    rw [mild.slotCount]
    exact ⟨mild.warmups, mild.drains⟩
  · exact ⟨Nat.le_max_left .., fun _ => id⟩

/-- What a SETTINGS write may do to the slots. -/
structure Slotted (s t : State) : Prop where
  warmups : t.warmups ≤ max s.warmups t.settings.slots
  drains : ∀ c, (t.lifeState c).isDrain = true → (s.lifeState c).isDrain = true

theorem Slotless.refl (s : State) : Slotless s s := ⟨.refl s, rfl⟩

theorem Slotless.trans (h : Slotless s t) (k : Slotless t u) : Slotless s u :=
  ⟨h.inner.trans k.inner, k.slots.trans h.slots⟩

theorem Slotless.slotted (h : Slotless s t) : Slotted s t :=
  ⟨(warmups_of_state h.inner.state).le.trans (Nat.le_max_left ..), fun c drain => by rwa [h.inner.state] at drain⟩

theorem Slotless.then_slotted (h : Slotless s t) (k : Slotted t u) : Slotted s u :=
  ⟨by rw [← warmups_of_state h.inner.state]; exact k.warmups, fun c drain => by
    have := k.drains c drain
    rwa [h.inner.state] at this⟩

theorem Slotted.then_slotless (h : Slotted s t) (k : Slotless t u) : Slotted s u :=
  ⟨by rw [warmups_of_state k.inner.state, k.slots]; exact h.warmups, fun c drain => h.drains c (by
    rwa [k.inner.state] at drain)⟩

/-- R172, R173: the records of a SETTINGS write reach the slot count once at most, as the index goes on in one direction. -/
theorem slotted_writeEach (size : Nat) (down : Bool) (i : Option Nat) (records : List (List Byte)) (n : Nat) (s : State) :
    Slotted s (writeEach writeSetting size down i records n s).state ∧
      ((∀ j, i = some j → if down then j < 8 else 8 < j) →
        Slotless s (writeEach writeSetting size down i records n s).state) := by
  induction records generalizing i n s with
  | nil => exact ⟨(Slotless.refl s).slotted, fun _ => .refl s⟩
  | cons b bs ih =>
    cases i with
    | none => exact ⟨(Slotless.refl s).slotted, fun _ => .refl s⟩
    | some i =>
      unfold writeEach
      split
      · split
        · exact ⟨(Slotless.refl s).slotted, fun _ => .refl s⟩
        · rename_i t written
          obtain ⟨slotted, slotless⟩ := ih (stepIndex down i) (n + 1) t
          unfold writeSetting at written
          split at written <;> cases written
          rename_i put
          by_cases eight : i = 8
          · subst eight
            obtain ⟨warmups, drains⟩ := warmups_putSlots put
            refine ⟨Slotted.then_slotless ⟨warmups, drains⟩ (slotless fun j next => ?_), fun past => ?_⟩
            · cases down <;> simp [stepIndex] at next ⊢ <;> omega
            · have := past 8 rfl
              cases down <;> simp at this
          · have one := slotless_putSetting eight put
            refine ⟨one.then_slotted slotted, fun past => one.trans (slotless fun j next => ?_)⟩
            have := past i rfl
            cases down <;> simp [stepIndex] at next this ⊢ <;> omega
      · exact ⟨(Slotless.refl s).slotted, fun _ => .refl s⟩

theorem heeds_answerSettings (r : Request) (s : State) : Heeds s (s.answerSettings r) := by
  unfold State.answerSettings State.answerWrite State.answer
  split
  · exact (fair_respond ..).toHeeds
  · exact (writeEach_induction Heeds .refl .trans (fun _ _ _ _ => heeds_writeSetting) ..).trans (fair_respond ..).toHeeds

theorem slotted_answerSettings (r : Request) (s : State) : Slotted s (s.answerSettings r) := by
  have told {s t : State} (h : Tells s t) : Slotless s t := ⟨h.inner, by rw [h.keeps.settings]⟩
  unfold State.answerSettings State.answerWrite State.answer
  split
  · exact (told (tells_respond ..)).slotted
  · exact (slotted_writeEach ..).1.then_slotless (told (tells_respond ..))

theorem heeds_onRequest {row : Instr} {answer : Request → State → State} (answered : ∀ r s, Heeds s (answer r s))
    (h : onRequest row answer s = .next t) : Heeds s t := by
  obtain rfl | ⟨r, rest, -, rfl⟩ := onRequest_cases h
  · exact .refl t
  · exact (fair_setEngine s { s.engine with requests := rest }).toHeeds.trans (answered ..)

theorem slotted_onRequest {row : Instr} {answer : Request → State → State} (answered : ∀ r s, Slotted s (answer r s))
    (h : onRequest row answer s = .next t) : Slotted s t := by
  obtain rfl | ⟨r, rest, -, rfl⟩ := onRequest_cases h
  · exact (Slotless.refl t).slotted
  · have taken : Slotless s (s.taken rest) := ⟨{}, rfl⟩
    exact taken.then_slotted (answered ..)

/-! ## Resets -/

theorem lifeState_cold (reports : BitVec 8) (trunk : Bool) (c : CarrierIx) :
    (State.cold reports trunk).lifeState c = .unmanaged := by rw [State.lifeState, carrier_cold]; rfl

theorem isManaged_cold (reports : BitVec 8) (trunk : Bool) (c : CarrierIx) :
    (State.cold reports trunk).isManaged c = false := by rw [State.isManaged, lifeState_cold]; rfl

/-- Where nobody rests. -/
theorem restingLaw_of_awake (h : ∀ c, (s.lifeState c).isResting = false) : RestingLaw s := fun c resting => by
  rw [h] at resting
  cases resting

theorem anchorLaw_of_awake (h : ∀ c, (s.lifeState c).isDrain = false) : AnchorLaw s := fun c drain => by
  rw [h] at drain
  cases drain

/-- Where nobody rests and every coverage part is clear. -/
theorem coverLaw_of_clear (awake : ∀ c, (s.lifeState c).isResting = false) (clear : ∀ c, s.cover c = Cover.clear) :
    CoverLaw s ∧ OrderLaw s := by
  have drain (c : CarrierIx) : (s.lifeState c).isDrain = false := by
    have := awake c
    simp only [LifeState.isResting, Bool.or_eq_false_iff] at this
    exact this.1
  have sleep (c : CarrierIx) : (s.lifeState c).isSleeper = false := by
    have := awake c
    simp only [LifeState.isResting, Bool.or_eq_false_iff] at this
    exact this.2
  constructor
  · refine ⟨fun a => ?_, fun c _ => by rw [clear]; rfl, fun a => ?_, fun a => ?_⟩
    · simp [clear, drain, Cover.clear]
    · rw [clear]
      exact ⟨List.nodup_nil, fun c => by simp [Cover.clear, drain]⟩
    · rw [clear]
      exact ⟨List.nodup_nil, fun c => by simp [Cover.clear, sleep]⟩
  · refine ⟨fun c => ?_, fun a => ?_, fun a => ?_⟩
    · rw [clear]
      exact ⟨Nat.zero_le _, Nat.zero_le _⟩
    · rw [clear]
      exact List.Pairwise.nil
    · rw [clear]
      exact List.Pairwise.nil

theorem tableLaw_cold (reports : BitVec 8) (trunk : Bool) : CarrierTableLaw (State.cold reports trunk) where
  marks c := by
    rw [isManaged_cold]
    simp [State.cold, State.config, CarrierConfig.cold]
  anchors c managed := by
    rw [isManaged_cold] at managed
    cases managed
  units v := by simp [State.unitCarriers, isManaged_cold]
  keys c d managed := by
    rw [isManaged_cold] at managed
    cases managed

theorem awake_cold (reports : BitVec 8) (trunk : Bool) (c : CarrierIx) :
    ((State.cold reports trunk).lifeState c).isResting = false := by rw [lifeState_cold]; rfl

theorem coverLaw_cold (reports : BitVec 8) (trunk : Bool) :
    CoverLaw (State.cold reports trunk) ∧ OrderLaw (State.cold reports trunk) :=
  coverLaw_of_clear (awake_cold reports trunk) fun c => by rw [State.cover, carrier_cold]; rfl

theorem wakeQueueLaw_cold (reports : BitVec 8) (trunk : Bool) : WakeQueueLaw (State.cold reports trunk) :=
  wakeQueueLaw_iff.mpr ⟨List.nodup_nil, fun c => by
    rw [lifeState_cold]
    simp [State.cold, WakeQueue.carriers, WakeQueue.entries, WakeQueue.empty]⟩

theorem marksLaw_cold (reports : BitVec 8) (trunk : Bool) : MarksLaw (State.cold reports trunk) :=
  marksLaw_iff.mpr fun c => by
    rw [carrier_cold]
    exact ⟨rfl, fun h => (Bool.false_ne_true h).elim, fun h => absurd rfl h⟩

theorem slotLaw_cold (reports : BitVec 8) (trunk : Bool) : SlotLaw (State.cold reports trunk) := fun waits => absurd rfl waits

theorem anchorLaw_cold (reports : BitVec 8) (trunk : Bool) : AnchorLaw (State.cold reports trunk) :=
  anchorLaw_of_awake fun c => by rw [lifeState_cold]; rfl

theorem warmups_cold (reports : BitVec 8) (trunk : Bool) : (State.cold reports trunk).warmups = 0 := by
  simp [State.warmups, lifeState_cold]

theorem heeds_coldReset (h : execColdReset s = .next t) : Heeds s t := by
  cases h
  have base := (Inner.fair (s := State.cold s.path.branchReport s.path.trunkReport)
    (t := { State.cold s.path.branchReport s.path.trunkReport with pending := s.pending, freeCounter := s.freeCounter })
    {}).toHeeds
  have table := tableLaw_cold s.path.branchReport s.path.trunkReport
  have rest := restingLaw_of_awake (awake_cold s.path.branchReport s.path.trunkReport)
  have cover := coverLaw_cold s.path.branchReport s.path.trunkReport
  exact {
    resting := fun _ => base.resting rest
    table := fun _ => base.table table
    queue := fun _ => base.queue (wakeQueueLaw_cold ..)
    marks := fun _ => base.marks (marksLaw_cold _ _)
    cover := fun _ _ _ => base.cover table rest cover.1
    order := fun _ _ _ _ => base.order table rest cover.1 cover.2
    slots := fun _ _ _ => base.slots table (wakeQueueLaw_cold ..) (slotLaw_cold _ _)
    anchors := fun _ _ _ => base.anchors table rest (anchorLaw_cold _ _) }

theorem slotted_coldReset (h : execColdReset s = .next t) : Slotted s t := by
  cases h
  exact ⟨(warmups_cold s.path.branchReport s.path.trunkReport).trans_le (Nat.zero_le _), fun c drain => by
    have cold := congrArg LifeState.isDrain (lifeState_cold s.path.branchReport s.path.trunkReport c)
    exact absurd (cold.symm.trans drain) (by decide)⟩

theorem fair_interrupt (source : ResetSource) (s : State) : Fair s (s.interrupt source) := Inner.fair {}

/-! ## The recovery after a warm reset -/

theorem clearRuntime_carrier (s : State) (c : CarrierIx) : s.clearRuntime.carrier c = (s.carrier c).afterReset := by
  simp only [State.clearRuntime, State.carrier, Fin.getElem_fin, Vector.getElem_map]

theorem clearRuntime_lifeState (s : State) (c : CarrierIx) : s.clearRuntime.lifeState c = s.lifeState c := by
  rw [State.lifeState, clearRuntime_carrier]
  rfl

/-- R140: what the recovery of carriers leaves of a state, where the carriers are named once each. -/
structure Recovered (l : List CarrierIx) (s t : State) : Prop where
  carrierConfig : t.carrierConfig = s.carrierConfig
  settings : t.settings = s.settings
  wakeQueue : t.wakeQueue = { s.wakeQueue with
    coverage := s.wakeQueue.coverage ++ l.map fun c => { carrier := c, depth := .unknown } }
  carrier : ∀ c, t.carrier c = { s.carrier c with
    life := { (s.carrier c).life with state := if c ∈ l then .queued else s.lifeState c } }

theorem recovered_one (origin : Origin) (s : State) (c : CarrierIx) : Recovered [c] s (s.recoverCarrier origin c) := by
  have told := tells_notifyState ((s.setLife c { (s.carrier c).life with state := .queued }).setWakeQueue
    ((s.setLife c { (s.carrier c).life with state := .queued }).wakeQueue.join .coverage
      { carrier := c, depth := .unknown })) c (s.lifeState c) .queued .restart origin
  refine ⟨told.keeps.carrierConfig, told.keeps.settings, told.wakeQueue, fun d => ?_⟩
  refine (told.carrier d).trans ?_
  rw [State.setWakeQueue_at_carrier, State.setLife, State.setCarrier_carrier]
  by_cases e : d = c
  · subst e; simp
  · simp [e, State.lifeState]

theorem recovered_foldl (origin : Origin) (l : List CarrierIx) (s : State) :
    Recovered l s (l.foldl (State.recoverCarrier origin) s) := by
  induction l generalizing s with
  | nil => exact ⟨rfl, rfl, by simp, fun c => by simp [State.lifeState]⟩
  | cons c l ih =>
    have one := recovered_one origin s c
    have rest := ih (s.recoverCarrier origin c)
    refine ⟨rest.carrierConfig.trans one.carrierConfig, rest.settings.trans one.settings, ?_, fun d => ?_⟩
    · rw [List.foldl_cons, rest.wakeQueue, one.wakeQueue]
      simp
    · rw [List.foldl_cons, rest.carrier, State.lifeState, one.carrier]
      by_cases e : d = c
      · subst e; simp
      · simp [e]

/-- The state of the end of a warm reset, before the grants (R140, R158). -/
def State.recovered (source : ResetSource) (s : State) : State :=
  (List.finRange 8).foldl State.placeAfterReset
    ((s.clearRuntime.reformSets.raiseFlag .warmRestart).managedCarriers.foldl (State.recoverCarrier (originOfReset source))
      (s.clearRuntime.reformSets.raiseFlag .warmRestart))

theorem endReset_eq (source : ResetSource) (s : State) : s.endReset source = (s.recovered source).work [.grants] := rfl

theorem inner_placeAfterReset (s : State) (v : UnitIx) : Inner s (s.placeAfterReset v) :=
  .ite (fun _ => .ite (fun _ => inner_releaseUnit ..) fun _ => inner_setUnit ..) fun _ => .refl s

theorem settings_placeAfterReset (s : State) (v : UnitIx) : (s.placeAfterReset v).settings = s.settings := by
  unfold State.placeAfterReset
  split
  · split
    · exact settings_releaseUnit ..
    · rfl
  · rfl

theorem settings_placed (l : List UnitIx) (s : State) : (l.foldl State.placeAfterReset s).settings = s.settings := by
  induction l generalizing s with
  | nil => rfl
  | cons v l ih => exact (ih _).trans (settings_placeAfterReset s v)

theorem tells_warmRestart (s : State) : Tells s (s.raiseFlag .warmRestart) := tells_raiseFlag _ _ (by decide)

theorem managedCarriers_begun (s : State) :
    (s.clearRuntime.reformSets.raiseFlag .warmRestart).managedCarriers = s.managedCarriers := by
  unfold State.managedCarriers
  refine List.filter_congr fun c _ => ?_
  rw [State.isManaged, (tells_warmRestart _).lifeState]
  exact congrArg (· != LifeState.unmanaged) (clearRuntime_lifeState s c)

/-- R140: after the recovery every managed carrier is QUEUED at class COVERAGE with depth UNKNOWN, in index order; and all that
the reset clears is clear. -/
theorem recovered_wakeQueue (source : ResetSource) (s : State) : (s.recovered source).wakeQueue =
    { WakeQueue.empty with coverage := s.managedCarriers.map fun c => { carrier := c, depth := .unknown } } := by
  unfold State.recovered
  rw [(inner_foldl _ inner_placeAfterReset _ _).wakeQueue, (recovered_foldl ..).wakeQueue, managedCarriers_begun,
    (tells_warmRestart _).wakeQueue]
  rfl

theorem mem_managedCarriers : c ∈ s.managedCarriers ↔ s.isManaged c = true := by simp [State.managedCarriers]

theorem begun_carrier (s : State) (c : CarrierIx) :
    (s.clearRuntime.reformSets.raiseFlag .warmRestart).carrier c = (s.carrier c).afterReset := by
  rw [(tells_warmRestart _).carrier]
  exact clearRuntime_carrier s c

theorem recovered_lifeState (source : ResetSource) (s : State) (c : CarrierIx) :
    (s.recovered source).lifeState c = if s.isManaged c then .queued else .unmanaged := by
  unfold State.recovered
  rw [(inner_foldl _ inner_placeAfterReset _ _).state, State.lifeState, (recovered_foldl ..).carrier,
    managedCarriers_begun]
  simp only [mem_managedCarriers]
  cases managed : s.isManaged c with
  | true => rfl
  | false =>
    rw [if_neg (by simp), if_neg (by simp), State.lifeState, begun_carrier]
    exact unmanaged_of_not_managed managed

theorem recovered_marked (source : ResetSource) (s : State) (c : CarrierIx) :
    ((s.recovered source).carrier c).life.hold = false ∧ ((s.recovered source).carrier c).drainedReceived = false ∧
      ((s.recovered source).carrier c).life.wakePending = none ∧ (s.recovered source).cover c = Cover.clear := by
  have placed := inner_foldl State.placeAfterReset inner_placeAfterReset (List.finRange 8)
    ((s.clearRuntime.reformSets.raiseFlag .warmRestart).managedCarriers.foldl (State.recoverCarrier (originOfReset source))
      (s.clearRuntime.reformSets.raiseFlag .warmRestart))
  unfold State.recovered
  rw [placed.hold, placed.received, placed.mark, placed.cover, State.cover, (recovered_foldl ..).carrier, begun_carrier]
  exact ⟨rfl, rfl, rfl, rfl⟩

theorem recovered_settings (source : ResetSource) (s : State) : (s.recovered source).settings = s.settings := by
  unfold State.recovered
  rw [settings_placed, (recovered_foldl ..).settings, (tells_warmRestart _).keeps.settings]
  rfl

theorem recovered_carrierConfig (source : ResetSource) (s : State) :
    (s.recovered source).carrierConfig = s.carrierConfig := by
  unfold State.recovered
  rw [(inner_foldl _ inner_placeAfterReset _ _).carrierConfig, (recovered_foldl ..).carrierConfig,
    (tells_warmRestart _).keeps.carrierConfig]
  rfl

theorem recovered_isManaged (source : ResetSource) (s : State) (c : CarrierIx) :
    (s.recovered source).isManaged c = s.isManaged c := by
  rw [State.isManaged, recovered_lifeState]
  cases s.isManaged c <;> rfl

theorem recovered_awake (source : ResetSource) (s : State) (c : CarrierIx) :
    ((s.recovered source).lifeState c).isResting = false := by
  rw [recovered_lifeState]
  cases s.isManaged c <;> rfl

theorem recovered_carriers (source : ResetSource) (s : State) :
    (s.recovered source).wakeQueue.carriers = s.managedCarriers := by
  rw [recovered_wakeQueue, WakeQueue.carriers_eq]
  simp [WakeQueue.empty, Function.comp_def]

theorem recovered_wakeQueueLaw (source : ResetSource) (s : State) : WakeQueueLaw (s.recovered source) :=
  wakeQueueLaw_iff.mpr ⟨by rw [recovered_carriers]; exact (List.nodup_finRange 32).filter _, fun c => by
    rw [recovered_carriers, mem_managedCarriers, recovered_lifeState]
    cases s.isManaged c <;> simp⟩

theorem recovered_marksLaw (source : ResetSource) (s : State) : MarksLaw (s.recovered source) :=
  marksLaw_iff.mpr fun c => by
    obtain ⟨hold, received, mark, -⟩ := recovered_marked source s c
    have state : ((s.recovered source).carrier c).life.state ≠ .drainHeld := by
      change (s.recovered source).lifeState c ≠ _
      rw [recovered_lifeState]
      cases s.isManaged c <;> simp
    refine ⟨by rw [hold, decide_eq_false state], fun h => ?_, fun h => absurd mark h⟩
    rw [received] at h
    cases h

theorem recovered_warmups (source : ResetSource) (s : State) : (s.recovered source).warmups = 0 := by
  have none (c : CarrierIx) : ((s.recovered source).lifeState c == .warmup) = false := by
    rw [recovered_lifeState]
    cases s.isManaged c <;> rfl
  simp [State.warmups, none]

theorem fair_endReset (source : ResetSource) (s : State) : Fair s (s.endReset source) := by
  have done := done_grants (s.recovered source)
  have mild := done.mild (by simp [Task.isGroup])
  have config := recovered_carrierConfig source s
  have rest := restingLaw_of_awake (recovered_awake source s)
  have cover := coverLaw_of_clear (recovered_awake source s) fun c => (recovered_marked source s c).2.2.2
  have table (h : CarrierTableLaw s) : CarrierTableLaw (s.recovered source) :=
    h.of_eq config (recovered_isManaged source s)
  have queue := recovered_wakeQueueLaw source s
  have drain (c : CarrierIx) : ((s.recovered source).lifeState c).isDrain = false := by
    have := recovered_awake source s c
    simp only [LifeState.isResting, Bool.or_eq_false_iff] at this
    exact this.1
  rw [endReset_eq]
  exact {
    resting := fun _ => done.heeds.resting rest
    table := fun h => done.heeds.table (table h)
    queue := fun _ => done.heeds.queue queue
    marks := fun _ => done.heeds.marks (recovered_marksLaw source s)
    cover := fun h _ _ => done.heeds.cover (table h) rest cover.1
    order := fun h _ _ _ => done.heeds.order (table h) rest cover.1 cover.2
    slots := fun _ _ _ => done.slotLaw queue (.inr (List.mem_singleton_self _))
    anchors := fun h _ _ => done.heeds.anchors (table h) rest (anchorLaw_of_awake drain)
    drains := fun c now => by
      have := mild.drains c now
      rw [drain] at this
      cases this
    warmups := by
      have := mild.warmups
      rw [recovered_warmups, recovered_settings] at this
      omega
    slotCount := by rw [mild.slotCount, recovered_settings] }

theorem fair_warmResetEnd (h : execWarmResetEnd s = .next t) : Fair s t := by
  cases h
  cases s.phase with
  | running => exact .refl s
  | warmReset source n => exact fair_endReset source s

end Sys2Proof.Machine
end

section
/-! PROOFS. Every command and the part's own work over the laws of the carriers; the statements about what every step keeps. -/

namespace Sys2Proof.Machine

variable {s t u : State} {c d : CarrierIx}

/-! ## What a window end brings to drain -/

/-- A carrier that is ACTIVE in the second state was ACTIVE, or in a drain state, in the first; and so was one that drains. -/
structure Lively (s t : State) : Prop where
  active : ∀ c, t.lifeState c = .active → s.lifeState c = .active ∨ (s.lifeState c).isDrain = true
  drain : ∀ c, (t.lifeState c).isDrain = true → s.lifeState c = .active ∨ (s.lifeState c).isDrain = true

theorem Lively.refl (s : State) : Lively s s := ⟨fun _ => .inl, fun _ => .inr⟩

theorem Lively.trans (h : Lively s t) (k : Lively t u) : Lively s u :=
  ⟨fun c now => (k.active c now).elim (h.active c) (h.drain c), fun c now => (k.drain c now).elim (h.active c) (h.drain c)⟩

theorem Lively.of_state (h : ∀ c, t.lifeState c = s.lifeState c) : Lively s t :=
  ⟨fun c now => .inl ((h c).symm.trans now), fun c now => .inr (by rwa [h] at now)⟩

/-- One carrier's change of state, to a state in which it neither is ACTIVE nor drains, or from a drain state or ACTIVE. -/
theorem Lively.of_move {new : LifeState} (h : ∀ d, t.lifeState d = if d = c then new else s.lifeState d)
    (may : (new ≠ .active ∧ new.isDrain = false) ∨ s.lifeState c = .active ∨ (s.lifeState c).isDrain = true) :
    Lively s t := by
  refine ⟨fun d now => ?_, fun d now => ?_⟩ <;> rw [h] at now <;> split at now
  · subst d
    exact may.resolve_left fun other => other.1 now
  · exact .inl now
  · subst d
    exact may.resolve_left fun other => by rw [other.2] at now; cases now
  · exact .inr now

theorem lively_abandonEffect (c : CarrierIx) (cause : Cause) (s : State) : Lively s (abandonEffect c cause s).1 := by
  unfold abandonEffect
  split
  · rename_i drain
    exact .of_move (enterRestoring_lifeState s c · cause) (.inr (.inr drain))
  · exact .refl s

/-- Strides that end neither in ACTIVE nor in a drain state from elsewhere. -/
theorem Stride.lively {k : Kind} (h : Stride k s t) (settles : k ≠ .move .restoring .active) : Lively s t := by
  cases h with
  | inner h => exact .of_state h.state
  | move c new may mark =>
    refine .of_move (moveTo_lifeState s c · new) ?_
    by_cases drain : (s.lifeState c).isDrain = true
    · exact .inr (.inr drain)
    · refine .inl ⟨fun e => ?_, ?_⟩
      · subst e
        cases old : s.lifeState c <;> simp_all [LifeState.mayShift]
      · cases now : new.isDrain with
        | false => rfl
        | true => exact absurd (mayShift_drain may now) drain
  | lull c old => exact .of_move (moveTo_lifeState s c · .doze) (.inl (by simp [LifeState.isDrain]))
  | enqueue c cls depth may => exact .of_move (moveTo_lifeState s c · .queued) (.inl (by simp [LifeState.isDrain]))
  | promote c cls => exact .of_state fun _ => rfl
  | keep c mark old =>
    exact .of_state fun d => setLife_lifeState (x := { (s.carrier c).life with wakePending := some mark }) s c d rfl
  | drain c pledge old dependent unprotected anchor =>
    refine .of_move (c := c) (new := .draining) (fun d => ?_) (.inr (.inl old))
    rw [moveTo_lifeState, joinDrain_lifeState]
  | received c old => exact .of_state fun d => setCarrier_lifeState s c d { s.carrier c with drainedReceived := true } rfl

theorem Chain.lively {P : Kind → Prop} (h : Chain P s t) (settles : ¬P (.move .restoring .active)) : Lively s t :=
  h.induction Lively .refl .trans fun allowed stride => stride.lively fun e => settles (e ▸ allowed)

theorem lively_wakeEffect (c : CarrierIx) (k : WakeKind) (s : State) : Lively s (wakeEffect c k s).1 := by
  have queued {cls : WakeClass} {depth : Depth} : Lively s (s.enterQueued c cls depth k.cause) :=
    .of_move (enterQueued_lifeState s c · cls depth k.cause) (.inl (by simp [LifeState.isDrain]))
  have kept : Lively s (s.keepWake c k.cls k.cause) := .of_state fun d => setLife_lifeState
    (x := { (s.carrier c).life with wakePending := some (raiseMark k.cls k.cause (s.carrier c).life.wakePending) }) s c d rfl
  unfold wakeEffect
  split
  case h_1 => exact queued
  case h_7 => exact .of_state fun _ => rfl
  case h_2 | h_8 => split <;> first | exact queued | exact .refl s
  case h_3 | h_4 => split <;> first | exact kept | exact .refl s
  case h_5 | h_6 =>
    split
    · exact .refl s
    · exact lively_abandonEffect ..
  all_goals exact .refl s

theorem lively_reportEffect (c : CarrierIx) (m : Meter) (s : State) : Lively s (reportEffect c m s).1 := by
  unfold reportEffect
  dsimp only
  split
  · split
    · exact lively_abandonEffect ..
    · split
      · exact (chain_completeDrain (P := fun k => k = .inner ∨ k = .move .draining .rampdown) c _ _ s (.inl rfl)
          (.inr rfl)).lively (by simp)
      · exact .refl s
  · split
    · exact lively_abandonEffect ..
    · exact .refl s
  · exact (chain_deepenEffect (P := fun k => k = .inner ∨ k = .move .doze .deepening) c s (.inl rfl) (.inr rfl)).lively
      (by simp)
  all_goals exact .refl s

theorem lively_groupEffect (a : CarrierIx) (report : Vector Meter 32) (s : State) :
    Lively s (groupEffect a report s).1 := by
  unfold groupEffect
  split
  · split
    · unfold reliefEffect
      split
      · exact lively_abandonEffect ..
      · split <;> exact .refl s
    · exact (chain_admissions (P := fun k => k = .inner ∨ k = .drain) report _ s (candidates_nodup ..)
        (fun c mem => (candidates_active mem).1) (.inl rfl) (.inr rfl)).lively (by simp)
  · exact .refl s

/-- A directive's outcome. -/
def Task.isEnded : Task → Bool
  | .ended .. => true
  | _ => false

theorem lively_task {k : Task} (other : k.isEnded = false) (s : State) : Lively s (k.effect s).1 := by
  cases k with
  | wake c k => exact lively_wakeEffect ..
  | report c m => exact lively_reportEffect ..
  | group a report => exact lively_groupEffect ..
  | abandon c cause => exact lively_abandonEffect ..
  | ended c kind how => cases other
  | _ => exact (chain_task _ s).lively (by simp [Task.allowsIn, Task.allows])

theorem Done.lively {l : List Task} (h : Done l s t) (other : ∀ k ∈ l, k.isEnded = false) : Lively s t := by
  induction h with
  | nil s => exact .refl s
  | @cons k l s t u inside after ihInside ihAfter =>
    refine ((lively_task (other k (List.mem_cons_self ..)) s).trans (ihInside fun j mem => ?_)).trans
      (ihAfter fun j mem => other j (List.mem_cons_of_mem _ mem))
    have := effect_not_root k s j mem
    cases j <;> simp_all [Task.isRoot, Task.isEnded]

theorem reportTasks_not_ended (order : ReportOrder) (s : State) : ∀ k ∈ s.reportTasks order, k.isEnded = false := by
  intro k mem
  have either : k ∈ s.lifecycleTasks ∨ k ∈ s.coverageTasks := by
    cases order <;> simp only [State.reportTasks, List.mem_append] at mem <;> tauto
  rcases either with mem | mem <;> obtain ⟨c, -, rfl⟩ := List.mem_map.mp mem <;> rfl

/-! ## Every command -/

/-- The commands that are fair: all but a window end, SLEEP-NOW, a SETTINGS write and a cold reset. -/
def fairCommand : Instr → Bool
  | .windowEnd _ | .sleepNow | .coldReset | .writeRecords | .writeManagementTypeValue | .writeStationClass
  | .writeTrunkGrace | .writeActionLimit | .writeWindowLength | .writeLockOutTime | .writeHoldGuard
  | .writeWarmUpSlotCount | .writeAdvisoryDestination | .writeNoticeDestination | .writeNoticeEnables => false
  | _ => true

theorem fair_exec (i : Instr) (fair : fairCommand i = true) (h : exec i s = .next t) : Fair s t := by
  cases i with
  | frameReceived port bytes reception => cases h; exact .ite (fun _ => fair_receive ..) fun _ => .refl s
  | walkEnds port =>
    change execWalkEnds port s = .next t at h
    unfold execWalkEnds at h
    split at h
    · cases h; exact .refl s
    · cases h; exact (fairEffect_endWalk ..).finish
  | transmissionEnd port => cases h; exact .ite (fun _ => fair_setPath ..) fun _ => .refl s
  | branchLinkDown n => exact fair_branchLinkDown n h
  | branchLinkUp n => exact fair_branchLinkUp n h
  | trunkLinkDown => exact fair_trunkLinkDown h
  | trunkLinkUp => exact fair_trunkLinkUp h
  | trunkGraceExpires => exact fair_trunkGraceExpires h
  | deepenDelayReached c => exact fair_deepenDelayReached c h
  | minuteBoundary =>
    cases h
    exact .ite (fun _ => (fair_setCalendar ..).trans (fair_recompute _)) fun _ => fair_setCalendar ..
  | drainTimerExpires c => exact fair_drainTimerExpires c h
  | settleTimerExpires c => exact fair_settleTimerExpires c h
  | lockOutTimerExpires g => cases h; exact .ite (fun _ => fair_setLockOuts ..) fun _ => .refl s
  | replyTimerExpires v => cases h; exact .ite (fun _ => (fairEffect_replyExpired v s).finish) fun _ => .refl s
  | releaseTimerExpires v => cases h; exact .ite (fun _ => (fairEffect_releaseEnded v s).finish) fun _ => .refl s
  | unitDeepTimerExpires v =>
    cases h
    exact .ite (fun _ => (inner_deepExpire s v).fair (by rw [(keeps_deepExpire s v).settings])) fun _ => .refl s
  | identify => exact fair_identify h
  | readRecords => exact fair_readRecords h
  | writeCarrier =>
    exact fair_onRequest (fun _ s => fair_answerWrite (fun _ _ _ _ => fair_writeCarrierRecord) fair_nothingAfter s) h
  | writeProfile =>
    exact fair_onRequest (fun _ s => fair_answerWrite (fun _ _ _ _ => fair_writeProfileRecord) fair_nothingAfter s) h
  | writeRadioUnit =>
    exact fair_onRequest (fun _ s => fair_answerWrite (fun _ _ _ _ => fair_writeUnitRecord) fair_nothingAfter s) h
  | writeAction =>
    exact fair_onRequest (fun _ s => fair_answerWrite (fun _ _ _ _ => fair_writeActionRecord) fair_nothingAfter s) h
  | writeClassifierStandby =>
    exact fair_onRequest (fun _ s => fair_answerWrite (fun _ _ _ _ => fair_writeStandbyRecord) fair_nothingAfter s) h
  | writeWindow =>
    exact fair_onRequest (fun _ s => fair_answerWrite (fun _ _ _ _ => fair_writeWindowRecord) fair_recomputeAfter s) h
  | writePermission =>
    exact fair_onRequest (fun _ s => fair_answerWrite (fun _ _ _ _ => fair_writeCeiling) fair_nothingAfter s) h
  | activateBank => exact fair_activateBank h
  | swapCompletes => cases h; exact .ite (fun _ => fair_settleSwap s) fun _ => .refl s
  | setTime => exact fair_setTime h
  | setMode => exact fair_setMode h
  | wake => exact fair_wake h
  | holdDrain => exact fair_holdDrain h
  | releaseHold => exact fair_releaseHold h
  | clearFlags => exact fair_clearFlags h
  | restart => exact fair_restart h
  | unknownRequestKind => exact fair_unknownRequestKind h
  | warmResetBegin source => cases h; exact .ite (fun _ => fair_interrupt ..) fun _ => .refl s
  | warmResetEnd => exact fair_warmResetEnd h
  | _ => cases fair

theorem heeds_writeRecords (h : execWriteRecords s = .next t) : Heeds s t :=
  heeds_onRequest (fun _ _ => by
    split
    · exact heeds_answerSettings ..
    · exact (fair_respond ..).toHeeds) h

theorem heeds_exec (i : Instr) (h : exec i s = .next t) : Heeds s t := by
  have settings {row : Instr} (h : onRequest row State.answerSettings s = .next t) : Heeds s t :=
    heeds_onRequest heeds_answerSettings h
  cases fair : fairCommand i with
  | true => exact (fair_exec i fair h).toHeeds
  | false =>
    cases i with
    | windowEnd order => exact heeds_windowEnd order h
    | sleepNow => exact heeds_sleepNow h
    | coldReset => exact heeds_coldReset h
    | writeRecords => exact heeds_writeRecords h
    | writeManagementTypeValue => exact settings h
    | writeStationClass => exact settings h
    | writeTrunkGrace => exact settings h
    | writeActionLimit => exact settings h
    | writeWindowLength => exact settings h
    | writeLockOutTime => exact settings h
    | writeHoldGuard => exact settings h
    | writeWarmUpSlotCount => exact settings h
    | writeAdvisoryDestination => exact settings h
    | writeNoticeDestination => exact settings h
    | writeNoticeEnables => exact settings h
    | _ => cases fair

/-! ## The part's own work and clock -/

theorem inner_raiseEvents (events : List Instr) (s : State) : Inner s (s.raiseEvents events) := {}

theorem countOn_carrier (s : State) (c : CarrierIx) :
    s.countOn.carrier c = { s.carrier c with life := (s.carrier c).life.tick } := by
  simp only [State.countOn, State.carrier, Fin.getElem_fin, Vector.getElem_map]

theorem inner_countOn (s : State) : Inner s s.countOn where
  state c := by rw [State.lifeState, countOn_carrier]; rfl
  cover c := by rw [State.cover, countOn_carrier]; rfl
  hold c := by rw [countOn_carrier]; rfl
  mark c := by rw [countOn_carrier]; rfl
  received c := by rw [countOn_carrier]

theorem inner_idle (s : State) : Inner s s.idle := by
  unfold State.idle
  split
  · unfold State.tick
    split
    · exact (inner_countOn s).trans (inner_raiseEvents ..)
    · exact {}
  · exact inner_raiseEvents ..

theorem settings_idle (s : State) : s.idle.settings = s.settings := by
  unfold State.idle
  split
  · unfold State.tick
    split <;> rfl
  · rfl

theorem heeds_step (h : step s = .next t) : Heeds s t := by
  obtain rfl | ⟨i, rest, -, carried⟩ := step_cases h
  · exact ((inner_idle s).fair (by rw [settings_idle])).toHeeds
  · exact (Inner.fair (t := { s with pending := rest }) {}).toHeeds.trans (heeds_exec i carried)

/-! ## The statements about every step -/

/-- Settles O55: rest, over a step. -/
theorem restingKept : Obligations.RestingKept := fun _ _ law next => (heeds_step next).resting law

/-- Settles O56: the Carrier Table, over a step. -/
theorem carrierTableKept : Obligations.CarrierTableKept := fun _ _ law next => (heeds_step next).table law

/-- Settles O57: the wake queue, the slots and the marks, over a step. -/
theorem wakeQueueAndMarksKept : Obligations.WakeQueueAndMarksKept :=
  ⟨fun _ _ law next => (heeds_step next).queue law, fun _ _ law next => (heeds_step next).marks law,
    fun _ _ table queue law next => (heeds_step next).slots table queue law⟩

/-- Settles O58: the lists, their order, and the anchors of drains, over a step. -/
theorem coverageKept : Obligations.CoverageKept :=
  ⟨fun _ _ table rest law next => (heeds_step next).cover table rest law,
    fun _ _ table rest cover law next => (heeds_step next).order table rest cover law,
    fun _ _ table rest law next => (heeds_step next).anchors table rest law⟩

/-! ## Slots and drains, command by command -/

theorem slotted_writeRecords (h : execWriteRecords s = .next t) : Slotted s t :=
  slotted_onRequest (fun r s => by
    split
    · exact slotted_answerSettings ..
    · have told : Tells s (s.refuseTable r) := tells_respond ..
      exact (⟨told.inner, by rw [told.keeps.settings]⟩ : Slotless _ _).slotted) h

/-- The unfair commands but the two in which drains begin. -/
theorem slotted_exec (i : Instr) (unfair : fairCommand i = false) (window : ∀ order, i ≠ .windowEnd order)
    (sleep : i ≠ .sleepNow) (h : exec i s = .next t) : Slotted s t := by
  have settings {row : Instr} (h : onRequest row State.answerSettings s = .next t) : Slotted s t :=
    slotted_onRequest slotted_answerSettings h
  cases i with
  | windowEnd order => exact absurd rfl (window order)
  | sleepNow => exact absurd rfl sleep
  | coldReset => exact slotted_coldReset h
  | writeRecords => exact slotted_writeRecords h
  | writeManagementTypeValue => exact settings h
  | writeStationClass => exact settings h
  | writeTrunkGrace => exact settings h
  | writeActionLimit => exact settings h
  | writeWindowLength => exact settings h
  | writeLockOutTime => exact settings h
  | writeHoldGuard => exact settings h
  | writeWarmUpSlotCount => exact settings h
  | writeAdvisoryDestination => exact settings h
  | writeNoticeDestination => exact settings h
  | writeNoticeEnables => exact settings h
  | _ => cases unfair

theorem trunkLost_eq_false (h : s.trunkLost = false) : s.path.trunkState ≠ .lost ∧ s.path.trunkState ≠ .returning := by
  unfold State.trunkLost at h
  cases e : s.path.trunkState <;> simp_all

/-- R74: what a drain that begins needs, in the terms of the Carrier Table. -/
theorem mayBeginDrain_iff : s.mayBeginDrain c = true ↔ s.isManaged c = true ∧ s.anchorOf c ≠ c ∧
    (s.config c).protect ≠ 1#8 ∧ s.engine.mode = .acting ∧ s.trunkLost = false ∧
      s.settings.advisoryDestination ≠ 0#48 := by
  simp [State.mayBeginDrain, State.isDependent, CarrierConfig.isProtected, and_assoc]

theorem lively_windowEnd (order : ReportOrder) (s : State) :
    Lively s (s.closeWindow.work (s.closeWindow.reportTasks order)) :=
  (Lively.of_state (inner_closeWindow s).state).trans
    ((done_work _ _ (costs_reportTasks order _)).lively (reportTasks_not_ended order _))

theorem warmups_windowEnd (order : ReportOrder) (h : execWindowEnd order s = .next t) :
    t.warmups ≤ max s.warmups t.settings.slots := by
  cases h
  split
  · obtain ⟨warmups, slots⟩ := (done_work _ _ (costs_reportTasks order s.closeWindow)).warmups
    rw [slots]
    rw [warmups_of_state (inner_closeWindow s).state] at warmups
    exact warmups
  · exact Nat.le_max_left ..

/-- R119: a SLEEP-NOW changes the states as its one drain does. -/
theorem sleepNow_cases (h : execSleepNow s = .next t) :
    (∀ d, t.lifeState d = s.lifeState d) ∧ t.settings = s.settings ∨
      ∃ c, s.sleepChecks c = none ∧ (∀ d, t.lifeState d = if d = c then .draining else s.lifeState d) ∧
        t.settings = s.settings := by
  obtain rfl | ⟨r, rest, -, rfl⟩ := onRequest_cases h
  · exact .inl ⟨fun _ => rfl, rfl⟩
  · unfold State.answer
    split
    · have told : Tells (s.taken rest) ((s.taken rest).refuse r ‹_›) := tells_respond ..
      exact .inl ⟨told.lifeState, told.keeps.settings⟩
    · rename_i passed
      have told (u : State) : Tells u (u.answerDone r) := tells_respond ..
      refine .inr ⟨r.carrier, (firstOf_eq_none.mp passed).2, fun d => ?_, ?_⟩
      · rw [(told _).lifeState, beginDrain_lifeState]
        rfl
      · rw [(told _).keeps.settings, settings_beginDrain]
        rfl

/-- Settles O60: R130, command by command. -/
theorem slotsBoundWarmups : Obligations.SlotsBoundWarmups := fun i s t h => by
  cases fair : fairCommand i with
  | true =>
    have mild := (fair_exec i fair h).toMild
    rw [mild.slotCount]
    exact mild.warmups
  | false =>
    by_cases sleep : i = .sleepNow
    · subst sleep
      refine le_trans ?_ (Nat.le_max_left ..)
      rcases sleepNow_cases h with ⟨same, -⟩ | ⟨c, -, moved, -⟩
      · exact (warmups_of_state same).le
      · have := warmups_of_move moved
        simp only [reduceCtorEq, if_false] at this
        omega
    · by_cases window : ∃ order, i = .windowEnd order
      · obtain ⟨order, rfl⟩ := window
        exact warmups_windowEnd order h
      · exact (slotted_exec i fair (fun order e => window ⟨order, e⟩) sleep h).warmups

/-- R100, R119: a carrier that begins to drain was ACTIVE, and might. -/
theorem drain_begun (i : Instr) (h : exec i s = .next t) (drain : (t.lifeState c).isDrain = true)
    (before : (s.lifeState c).isDrain = false) : s.lifeState c = .active ∧ s.mayBeginDrain c = true := by
  have contradiction (kept : (t.lifeState c).isDrain = true → (s.lifeState c).isDrain = true) :
      s.lifeState c = .active ∧ s.mayBeginDrain c = true := by
    rw [kept drain] at before
    cases before
  cases fair : fairCommand i with
  | true => exact contradiction ((fair_exec i fair h).drains c)
  | false =>
    by_cases sleep : i = .sleepNow
    · subst sleep
      rcases sleepNow_cases h with ⟨same, -⟩ | ⟨d, passed, moved, -⟩
      · exact contradiction fun now => by rwa [same] at now
      · by_cases e : c = d
        · subst e
          obtain ⟨unprotected, dependent, mode, active, -, destination, lost, -⟩ := sleepChecks_none passed
          simp [active, State.mayBeginDrain, unprotected, dependent, mode, destination, lost]
        · exact contradiction fun now => by rwa [moved, if_neg e] at now
    · by_cases window : ∃ order, i = .windowEnd order
      · obtain ⟨order, rfl⟩ := window
        cases h
        split at drain
        · have lively := (lively_windowEnd order s).drain c drain
          refine ⟨lively.resolve_right (by simp [before]), ?_⟩
          have keeps := (keeps_work (s.closeWindow.reportTasks order) s.closeWindow).drains c drain
          rw [(inner_closeWindow s).state] at keeps
          have may := keeps.resolve_left (by simp [before])
          rw [mayBeginDrain_iff, (inner_closeWindow s).isManaged] at may
          exact mayBeginDrain_iff.mpr may
        · rw [before] at drain
          cases drain
      · exact contradiction ((slotted_exec i fair (fun order e => window ⟨order, e⟩) sleep h).drains c)

/-- Settles O59: where a drain begins, command by command. -/
theorem drainsBeginWhereAllowed : Obligations.DrainsBeginWhereAllowed := fun i c s t h drain before => by
  obtain ⟨active, may⟩ := drain_begun i h drain before
  obtain ⟨managed, anchor, protect, mode, lost, destination⟩ := mayBeginDrain_iff.mp may
  obtain ⟨notLost, notReturning⟩ := trunkLost_eq_false lost
  exact ⟨active, managed, anchor, protect, mode, notLost, notReturning, destination⟩

/-! ## Right after a reset -/

/-- Settles O52: the laws in the state of a cold reset. -/
theorem resetObeysEveryLaw : Obligations.ResetObeysEveryLaw := by
  refine ⟨inRange_cold _ _, metersInRange_cold _ _, graceLaw_cold _ _, egressLaw_cold _ _,
    restingLaw_of_awake (awake_cold _ _), tableLaw_cold _ _, wakeQueueLaw_cold _ _, marksLaw_cold _ _, ?_⟩
  exact ⟨(coverLaw_cold _ _).1, (coverLaw_cold _ _).2, swapLaw_cold _ _, slotLaw_cold _ _, anchorLaw_cold _ _⟩

end Sys2Proof.Machine
end

section
/-! PROOFS. The part's own work and clock, what a cold reset leaves and how a warm one begins, and the end of a
transmission. -/

namespace Sys2Proof.Machine

variable {s t : State}

/-! ## The idle step -/

theorem step_idle (h : s.pending = []) : step s = .next s.idle := by rw [step, h]

theorem idle_of_ready (h : s.readyEvents ≠ []) : s.idle = s.raiseEvents s.readyEvents := by
  unfold State.idle
  cases e : s.readyEvents with
  | nil => exact absurd e h
  | cons => rfl

theorem idle_of_none_ready (h : s.readyEvents = []) : s.idle = s.tick := by
  unfold State.idle; rw [h]

theorem mem_arrange (count : Nat) (events : List Instr) (i : Instr) : i ∈ arrange count events ↔ i ∈ events :=
  (arrange_perm count events).mem_iff

theorem arrange_nodup {events : List Instr} (count : Nat) (h : events.Nodup) : (arrange count events).Nodup :=
  (arrange_perm count events).nodup_iff.mpr h

theorem countOn_unit (s : State) (v : UnitIx) : s.countOn.unit v = (s.unit v).tick := by simp [State.countOn, State.unit]

/-- Outside a reset the tick is what `Ticks` says. -/
theorem ticks_tick (h : s.phase = .running) : Ticks s s.tick := by
  have made : s.tick = s.countOn.raiseEvents (s.countOn.tickEvents s.calendar.minuteOver) := by
    unfold State.tick; rw [h]
  rw [made]
  have perm := arrange_perm s.countOn.freeCounter (s.countOn.tickEvents s.calendar.minuteOver)
  exact {
    grace := runsDown_countDown _
    carriers := fun c => by
      rw [show (s.countOn.raiseEvents _).carrier c = s.countOn.carrier c from rfl, countOn_carrier]
      exact carrierTick_tick _
    units := fun v => by
      rw [show (s.countOn.raiseEvents _).unit v = s.countOn.unit v from rfl, countOn_unit]
      exact ⟨runsDown_countDown _, runsDown_countDown _, runsDown_countDown _, rfl⟩
    lockOuts := fun g => by
      rw [show (s.countOn.raiseEvents _).lockOuts = s.lockOuts.map countDown from rfl]
      simpa using runsDown_countDown s.lockOuts[g]
    window := rfl
    calendar := timeAdvances_tick _
    due := fun i => perm.mem_iff.trans <| (mem_tickEvents s s.countOn rfl i).trans
      ⟨fun due => by cases due <;> constructor <;> assumption, fun due => by cases due <;> constructor <;> assumption⟩
    once := perm.nodup_iff.mpr (tickEvents_nodup _ _)
    same := rfl }

theorem mem_resetEvents (source : ResetSource) (k : Calendar) (i : Instr) :
    i ∈ dueIf k.minuteOver .minuteBoundary ++ dueIf (source == ResetSource.restart) .warmResetEnd ↔
      (i = .minuteBoundary ∧ k.second = 59 ∧ k.milli = 999) ∨ (i = .warmResetEnd ∧ source = .restart) := by
  simp [Calendar.minuteOver, and_comm]

theorem resetEvents_nodup (minute ends : Bool) :
    (dueIf minute .minuteBoundary ++ dueIf ends .warmResetEnd).Nodup := by
  cases minute <;> cases ends <;> simp [dueIf]

/-- Settles O3. -/
theorem idleStepQueuesWhatIsDue : Obligations.IdleStepQueuesWhatIsDue := by
  refine fun s nothing => ⟨fun running ⟨i, ready⟩ => ?_, fun running none => ?_, fun source n within => ?_⟩
  · have some : s.readyEvents ≠ [] := List.ne_nil_of_mem ((mem_readyEvents s running i).mpr ready)
    refine ⟨arrange s.freeCounter s.readyEvents, arrange_nodup _ (readyEvents_nodup s),
      fun j => (mem_arrange _ _ j).trans (mem_readyEvents s running j), ?_⟩
    rw [step_idle nothing, idle_of_ready some]; rfl
  · have empty : s.readyEvents = [] :=
      List.eq_nil_iff_forall_not_mem.mpr fun i ready => none i ((mem_readyEvents s running i).mp ready)
    exact ⟨s.tick, by rw [step_idle nothing, idle_of_none_ready empty], ticks_tick running⟩
  · have empty : s.readyEvents = [] := by rw [State.readyEvents, if_neg (by simp [within])]
    have made : s.tick = s.tickInReset source n := by unfold State.tick; rw [within]
    refine ⟨s.tickInReset source n, by rw [step_idle nothing, idle_of_none_ready empty, made], timeAdvances_tick _,
      arrange_nodup _ (resetEvents_nodup _ _), fun i => (mem_arrange _ _ i).trans (mem_resetEvents source s.calendar i), rfl⟩

/-! ## Resets -/

theorem ceiling_cold (reports : BitVec 8) (trunk : Bool) (k : RequestKind) :
    (State.cold reports trunk).ceiling k = if k = .identify ∨ k = .readRecords then 3 else 0 := by
  cases k <;> rfl

theorem flagRaised_cold (reports : BitVec 8) (trunk : Bool) (f : Flag) :
    (State.cold reports trunk).flagRaised f = true ↔ f = .timeUnset := by
  cases f <;> decide +revert

/-- Settles O4. -/
theorem coldReset : Obligations.ColdReset := by
  refine ⟨fun s => ⟨_, rfl, rfl, fun port => ?_, fun n => rfl, ?_, fun up => ?_, fun down => ?_, fun b i => ?_, rfl, rfl, rfl,
      rfl, fun n => ?_⟩,
    fun s => ⟨_, rfl, fun c => ?_, fun v => ?_, rfl, rfl, fun g => ?_, fun p => ?_, rfl, fun w => ?_, rfl⟩,
    fun s => ⟨_, rfl, rfl, rfl, rfl, rfl, rfl, rfl, ?_, rfl, ?_, rfl, rfl⟩⟩
  · cases port <;> simp [State.cold, FramePath.cold, FramePath.queue, EgressQueue.empty]
  · cases report : s.path.trunkReport <;> simp [State.cold, FramePath.cold, State.trunkLost]
  · simp [State.cold, FramePath.cold, up]
  · simp [State.cold, FramePath.cold, down, Settings.cold]
  · cases b <;> simp [State.cold, Classifier.cold, Classifier.bank, Entry.cold]
  · simp [State.cold, ActionEntry.cold]
  · simp [State.cold, State.config, State.lifeState, State.carrier, Carrier.cold, Life.clear]
  · simp [State.cold, State.unitSettings, State.unit]
  · simp [State.cold, State.lockedOut]
  · simp [State.cold, ProfileRecord.cold]
  · simp [State.cold]
  · exact flagRaised_cold s.path.branchReport s.path.trunkReport
  · exact ceiling_cold s.path.branchReport s.path.trunkReport

/-- R27: what the completion of a swap leaves of the Classifier. -/
theorem completeSwap_fields (mirror : Bool) (k : Classifier) :
    (k.completeSwap mirror).walks = k.walks ∧ (k.completeSwap mirror).selector = k.selector ∧
      (k.completeSwap mirror).swap = none ∧ (k.completeSwap mirror).activated = true := by
  unfold Classifier.completeSwap
  cases mirror with
  | false => exact ⟨rfl, rfl, rfl, rfl⟩
  | true =>
    obtain ⟨-, walks, selector⟩ := setBank_swap k (!k.selector) (k.bank k.selector)
    exact ⟨walks, selector, rfl, rfl⟩

theorem completeSwap_bank_active (mirror : Bool) (k : Classifier) :
    (k.completeSwap mirror).bank k.selector = k.bank k.selector := by
  unfold Classifier.completeSwap
  cases mirror with
  | false => rfl
  | true => exact (bank_setBank ..).trans (by simp)

theorem completeSwap_bank_standby (mirror : Bool) (k : Classifier) :
    (k.completeSwap mirror).bank (!k.selector) = k.bank (if mirror then k.selector else !k.selector) := by
  unfold Classifier.completeSwap
  cases mirror with
  | false => rfl
  | true => exact (bank_setBank ..).trans (by simp)

/-- R21, R30: what the beginning of a warm reset leaves of the Classifier. -/
theorem interrupted_classifier (k : Classifier) :
    k.interrupted.walks = [] ∧ k.interrupted.swap = none ∧ k.interrupted.selector = k.selector ∧
      k.interrupted.activated = (k.activated || k.swap.isSome) ∧
      k.interrupted.bank k.selector = k.bank k.selector ∧
      k.interrupted.bank (!k.selector) = k.bank (if k.swap = some true then k.selector else !k.selector) := by
  obtain ⟨bank0, bank1, selector, swap, activated, walks⟩ := k
  cases swap with
  | none => cases activated <;> exact ⟨rfl, rfl, rfl, rfl, rfl, rfl⟩
  | some mirror =>
    let stopped : Classifier :=
      { bank0 := bank0, bank1 := bank1, selector := selector, swap := some mirror, activated := activated, walks := [] }
    obtain ⟨walks, kept, swap, activated⟩ := completeSwap_fields mirror stopped
    refine ⟨walks, swap, kept, activated.trans (by simp), completeSwap_bank_active mirror stopped,
      (completeSwap_bank_standby mirror stopped).trans ?_⟩
    cases mirror <;> rfl

theorem unit_interrupted (x : RadioUnit) : x.interrupted = if x.state = none then x else
    { x with queue := [], sent := none, attempts := 0, replyTimer := none, releaseTimer := none, deepTimer := none } := by
  unfold RadioUnit.interrupted
  cases used : x.state <;> simp [used, RadioUnit.silenced, RadioUnit.idle]

theorem promote_fields (r : ProfileRecord) : r.promote.pending = false ∧ r.promote.written = r.written ∧
    r.promote.inForce = if r.pending then r.written else r.inForce := by
  unfold ProfileRecord.promote
  cases h : r.pending <;> simp [h]

/-- Settles O5. -/
theorem warmResetBegins : Obligations.WarmResetBegins := by
  intro source s running asked
  refine ⟨s.interrupt source, ?_, rfl, queue_emptied s.path, rfl, ?_⟩
  · change execWarmResetBegin source s = _
    rw [execWarmResetBegin, if_pos ⟨running, asked⟩]
  obtain ⟨walks, swap, selector, activated, active, standby⟩ := interrupted_classifier s.classifier
  refine ⟨walks, swap, selector, activated, active, standby, rfl, fun v => ?_, fun p => ?_, rfl⟩
  · rw [show (s.interrupt source).unit v = (s.unit v).interrupted by simp [State.interrupt, State.unit]]
    exact unit_interrupted _
  · rw [show (s.interrupt source).profiles[p] = (s.profiles[p]).promote by simp [State.interrupt]]
    exact promote_fields _

/-! ## The end of a transmission -/

/-- Settles O9. -/
theorem transmissionEndStartsTheNext : Obligations.TransmissionEndStartsTheNext := by
  intro port f s under_way
  obtain ⟨injected, pass, now⟩ : ∃ injected pass, s.path.queue port = { sending := some f, injected, pass } :=
    ⟨_, _, by rw [← under_way]⟩
  refine ⟨s.setPath (s.path.setQueue port (s.path.queue port).finish), ?_, ?_, ?_, ?_, ?_, fun q other => ?_, ?_⟩
  · change execTransmissionEnd port s = _
    rw [execTransmissionEnd, if_pos (by rw [under_way]; rfl)]
  · rw [State.setPath_path, FramePath.setQueue_queue, if_pos rfl, EgressQueue.finish, used_start, now]
    simp only [EgressQueue.used, Option.elim]; omega
  · intro g gs waits
    rw [State.setPath_path, FramePath.setQueue_queue, if_pos rfl, EgressQueue.finish, waits, EgressQueue.start]
  · intro g gs none_injected waits
    rw [State.setPath_path, FramePath.setQueue_queue, if_pos rfl, EgressQueue.finish, waits, none_injected, EgressQueue.start]
  · intro none_injected none_waits
    rw [State.setPath_path, FramePath.setQueue_queue, if_pos rfl, EgressQueue.finish, none_waits, none_injected, EgressQueue.start]
  · rw [State.setPath_path, FramePath.setQueue_queue, if_neg other]
  · exact congrArg (fun p => { s with path := p }) (FramePath.setQueue_eq ..)

end Sys2Proof.Machine
end

section
/-! PROOFS. Frames: what is discarded and what is taken as a request, how a walk goes, and what the Action Table does with a
frame that reaches no radio unit and no advisory. -/

namespace Sys2Proof.Machine

variable {s s' t v : State} {w : Walk} {a : ActionEntry} {c d : CarrierIx} {n : Nat}

/-! ## Discards and the station recognizer -/

theorem accepts_eq_false {port : Port} {bytes : List Byte} {reception : Reception}
    (bad : reception = .badCheck ∨ reception = .cut ∨ bytes.length + 4 < 64 ∨ 9216 < bytes.length + 4 ∨
      s.path.linkUp port = false ∨ s.phase ≠ .running) : s.accepts port bytes reception = false := by
  refine Bool.eq_false_iff.mpr fun taken => ?_
  rw [State.accepts, lengthAccepted, Bool.and_eq_true, Bool.and_eq_true, Bool.and_eq_true, Bool.and_eq_true,
    decide_eq_true_iff, decide_eq_true_iff, beq_iff_eq, beq_iff_eq] at taken
  obtain ⟨⟨⟨running, rfl⟩, long, short⟩, up⟩ := taken
  simp only [Config.minFrame, Config.maxFrame, Config.checkBytes] at long short
  rcases bad with bad | bad | bad | bad | bad | bad
  · cases bad
  · cases bad
  · omega
  · omega
  · rw [up] at bad; cases bad
  · exact bad running

theorem headerReadable_iff (body : List Byte) : headerReadable body = true ↔ 8 ≤ body.length ∧ byteAt body 0 = 1#8 := by
  rw [headerReadable, Bool.and_eq_true, decide_eq_true_iff, beq_iff_eq]; rfl

/-- R168: the three ends of a request that arrives. -/
theorem arriveRequest_cases (cls : Nat) (source : Addr) (body : List Byte) (s : State) :
    ((body.length < 8 ∨ byteAt body 0 ≠ 1#8) → s.arriveRequest cls source body = s) ∧
    (8 ≤ body.length → byteAt body 0 = 1#8 → s.engine.requests.length < 4 →
      s.arriveRequest cls source body = { s with engine := { s.engine with
        requests := s.engine.requests ++ [{ cls := cls, source := source, body := body }] } }) ∧
    (8 ≤ body.length → byteAt body 0 = 1#8 → 4 ≤ s.engine.requests.length →
      s.arriveRequest cls source body = s.inject .trunk source
        [0x11#8, byteAt body 1, byteAt body 2, byteAt body 3, 1#8, 0#8, 0#8, 0#8]) := by
  refine ⟨fun unread => if_neg fun readable => ?_, fun long known room => ?_, fun long known full => ?_⟩
  · obtain ⟨long, known⟩ := (headerReadable_iff body).mp readable
    exact unread.elim (fun short => by omega) fun other => other known
  · rw [State.arriveRequest, if_pos ((headerReadable_iff body).mpr ⟨long, known⟩), if_pos (show _ < Config.requestRoom from room)]; rfl
  · rw [State.arriveRequest, if_pos ((headerReadable_iff body).mpr ⟨long, known⟩), if_neg (show ¬_ < Config.requestRoom from Nat.not_lt.mpr full)]; rfl

/-- R3: a frame that carries the station address and the management type value is a request. -/
theorem exec_frameReceived_request {bytes : List Byte} (carried : Carried s .trunk bytes)
    (own : destinationOf bytes = s.stationAddress) (type : typeOf bytes = s.settings.typeValue) :
    exec (.frameReceived .trunk bytes .intact) s =
      .next (s.arriveRequest s.settings.stationClass (sourceOf bytes) (bytes.drop 14)) := by
  have recognized : s.recognizes bytes = true := by simp [State.recognizes, own, type]
  have received : s.receive .trunk bytes =
      s.arriveRequest s.settings.stationClass (sourceOf bytes) (bytes.drop 14) := if_pos recognized
  exact (congrArg Host.Outcome.next (if_pos (accepts_of_carried carried))).trans (by rw [received])

/-- Settles O7. -/
theorem framesDiscardedAndRecognized : Obligations.FramesDiscardedAndRecognized := by
  refine ⟨fun port bytes reception s bad => ?_, fun bytes s carried own type => ?_⟩
  · exact congrArg Host.Outcome.next (if_neg (by rw [accepts_eq_false bad]; exact Bool.false_ne_true))
  · rw [exec_frameReceived_request carried own type]
    obtain ⟨unread, joins, busy⟩ := arriveRequest_cases s.settings.stationClass (sourceOf bytes) (bytes.drop 14) s
    exact ⟨fun h => by rw [unread h], fun long known room => by rw [joins long known room],
      fun long known full => by rw [busy long known full]⟩

/-! ## The walk -/

section
variable {bank : Vector Entry 64} {port : Port} {bytes : List Byte}

/-- R18: what a walk does at one entry. -/
theorem walkFrom_miss {i : Fin 64} (fuel : Nat) (miss : (bank[i]).isMatch port bytes = false) :
    walkFrom bank port bytes (fuel + 1) i =
      if h : i.val + 1 < 64 then walkFrom bank port bytes fuel ⟨i.val + 1, h⟩ else .action 0 := by
  rw [walkFrom, miss, if_neg Bool.false_ne_true]

theorem walkFrom_result {i : Fin 64} {action : Nat} (fuel : Nat) (hit : (bank[i]).isMatch port bytes = true)
    (result : (bank[i]).outcome = .result action) : walkFrom bank port bytes (fuel + 1) i = .action action := by
  rw [walkFrom, if_pos hit, result]

theorem walkFrom_skip {i : Fin 64} {far : Nat} (fuel : Nat) (hit : (bank[i]).isMatch port bytes = true)
    (skip : (bank[i]).outcome = .skip far) : walkFrom bank port bytes (fuel + 1) i =
      if h : i.val + far < 64 then walkFrom bank port bytes fuel ⟨i.val + far, h⟩ else .overrun := by
  rw [walkFrom, if_pos hit, skip]

/-- With enough entries left to evaluate the walk is in its table. -/
theorem walkRow_walkFrom (moves : ∀ i : Fin 64, (bank[i]).outcome ≠ .skip 0) (fuel : Nat) (i : Fin 64)
    (enough : 64 ≤ i.val + fuel) : WalkRow bank port bytes i (walkFrom bank port bytes fuel i) := by
  induction fuel generalizing i with
  | zero => have := i.isLt; omega
  | succ fuel ih =>
    cases hit : (bank[i]).isMatch port bytes with
    | false =>
      rw [walkFrom_miss fuel hit]
      split
      · next inside => exact .miss i inside _ hit (ih _ (by simp only; omega))
      · exact .last i (by omega) hit
    | true =>
      cases outcome : (bank[i]).outcome with
      | result action => rw [walkFrom_result fuel hit outcome]; exact .result i action hit outcome
      | skip far =>
        have forward : far ≠ 0 := fun zero => moves i (by rw [outcome, zero])
        rw [walkFrom_skip fuel hit outcome]
        split
        · next inside => exact .skip i far inside _ hit outcome (ih _ (by simp only; omega))
        · exact .overrun i far (by omega) hit outcome

/-- The table gives a walk one end. -/
theorem WalkRow.unique {i : Fin 64} {r q : WalkEnd} (h : WalkRow bank port bytes i r) (k : WalkRow bank port bytes i q) :
    r = q := by
  induction h with
  | miss i inside r miss _ ih =>
    cases k with
    | miss _ _ _ _ k => exact ih k
    | last _ last => omega
    | result _ _ hit | skip _ _ _ _ hit | overrun _ _ _ hit => rw [miss] at hit; cases hit
  | last i last miss =>
    cases k with
    | miss _ inside => omega
    | last => rfl
    | result _ _ hit | skip _ _ _ _ hit | overrun _ _ _ hit => rw [miss] at hit; cases hit
  | result i action hit outcome =>
    cases k with
    | miss _ _ _ miss | last _ _ miss => rw [hit] at miss; cases miss
    | result _ _ _ other => rw [outcome] at other; cases other; rfl
    | skip _ _ _ _ _ other | overrun _ _ _ _ other => rw [outcome] at other; cases other
  | skip i far inside r hit outcome _ ih =>
    cases k with
    | miss _ _ _ miss | last _ _ miss => rw [hit] at miss; cases miss
    | result _ _ _ other => rw [outcome] at other; cases other
    | skip _ _ _ _ _ other k => rw [outcome] at other; cases other; exact ih k
    | overrun _ _ beyond _ other => rw [outcome] at other; cases other; omega
  | overrun i far beyond hit outcome =>
    cases k with
    | miss _ _ _ miss | last _ _ miss => rw [hit] at miss; cases miss
    | result _ _ _ other => rw [outcome] at other; cases other
    | skip _ _ inside _ _ other k => rw [outcome] at other; cases other; omega
    | overrun => rfl

end

/-- Settles O12. -/
theorem walkFollowsTheTable : Obligations.WalkFollowsTheTable := by
  intro bank port bytes moves r
  have row : WalkRow bank port bytes 0 (walkBank bank port bytes) := walkRow_walkFrom moves 64 0 (by simp)
  exact ⟨fun h => h.unique row, fun h => h ▸ row⟩

/-! ## The end of a walk -/

/-- R18: the end of a port's oldest walk hands the frame to the Action Table. -/
theorem exec_walkEnds (h : WalkEnded s w n s') :
    exec (.walkEnds w.port) s = .next (disposeFrame n w.port w.bytes s').finish := by
  obtain ⟨ws, oldest, ⟨action, rfl⟩ | ⟨overrun, rfl, rfl⟩⟩ := h
  · change execWalkEnds w.port s = _
    rw [execWalkEnds, oldest]
    simp only [endWalk, action]
  · change execWalkEnds w.port s = _
    rw [execWalkEnds, oldest]
    simp only [endWalk, overrun]

theorem goodAction_eq_none (bad : s.settings.actionLimit ≤ n ∨ ∀ h : n < 32, (s.actions[n]).present = false) :
    s.goodAction n = none := by
  unfold State.goodAction
  split
  · next inside =>
    refine if_neg fun good => bad.elim (fun high => ?_) fun absent => ?_
    · omega
    · rw [absent inside] at good; exact Bool.false_ne_true good.2
  · rfl

/-- R34: a good action number names its entry. -/
theorem exec_walkEnds_done (h : WalkDone s w a s') : ∃ n, s'.goodAction n = some a ∧
    exec (.walkEnds w.port) s = .next (disposeFrame n w.port w.bytes s').finish := by
  obtain ⟨n, ended, low, present, inside, entry⟩ := h
  refine ⟨n, ?_, exec_walkEnds ended⟩
  rw [State.goodAction, dif_pos inside, entry, if_pos ⟨low, present⟩]

/-- An effect that sets nothing off. -/
theorem finish_of_done (s : State) : Effect.finish (s, []) = s := rfl

/-- Settles O13. -/
theorem passDiscardAndBadActions : Obligations.PassDiscardAndBadActions := by
  refine ⟨fun w n s s' ended bad => ?_, fun w a s s' done => ?_⟩
  · refine ⟨s'.forward allBranches w.port w.bytes, offered_forward .., raiseFlag_raised _ _, ?_⟩
    rw [exec_walkEnds ended, disposeFrame, goodAction_eq_none bad]
    rfl
  · obtain ⟨n, good, meaning⟩ := exec_walkEnds_done done
    rw [meaning, disposeFrame, good]
    refine ⟨fun pass => ⟨s'.forward a.portSet w.port w.bytes, offered_forward .., ?_⟩, fun discard => ?_⟩
    · simp only [pass, finish_of_done]
    · simp only [discard, finish_of_done]

/-- Settles O14. -/
theorem controlAndWrongSide : Obligations.ControlAndWrongSide := by
  intro w a s s' done
  obtain ⟨n, good, meaning⟩ := exec_walkEnds_done done
  rw [meaning, disposeFrame, good]
  refine ⟨fun kind side => ?_, fun kind side => ?_, fun kind side => ?_⟩
  · cases port : w.port with
    | trunk => exact absurd port side
    | branch m => rcases kind with kind | kind <;> simp only [kind, finish_of_done]
  · simp only [kind, side, finish_of_done]
  · simp only [kind, side, finish_of_done]
    obtain ⟨unread, joins, busy⟩ := arriveRequest_cases a.cls (sourceOf w.bytes) (w.bytes.drop a.bodyOffset) s'
    exact ⟨fun h => congrArg _ (unread h), fun long known room => congrArg _ (joins long known room),
      fun long known full => congrArg _ (busy long known full)⟩

end Sys2Proof.Machine
end

section
/-! PROOFS. What the tasks of an event do, told without fuel: one way only, and by the first task alone. -/

namespace Sys2Proof.Machine

variable {s t u : State} {c d : CarrierIx} {k : Task} {l m : List Task}

/-! ## The tasks of an event -/

theorem done_nil_iff : Done [] s t ↔ t = s := ⟨fun h => by cases h; rfl, fun h => h ▸ .nil s⟩

theorem done_cons_iff : Done (k :: l) s u ↔ ∃ t, Done (k.effect s).2 (k.effect s).1 t ∧ Done l t u :=
  ⟨fun h => by cases h with | cons first rest => exact ⟨_, first, rest⟩, fun ⟨_, first, rest⟩ => .cons first rest⟩

theorem done_singleton_iff : Done [k] s t ↔ Done (k.effect s).2 (k.effect s).1 t := by
  simp [done_cons_iff, done_nil_iff]

theorem done_append_iff : Done (l ++ m) s u ↔ ∃ t, Done l s t ∧ Done m t u := by
  induction l generalizing s with
  | nil => simp [done_nil_iff]
  | cons k l ih =>
    rw [List.cons_append, done_cons_iff]
    constructor
    · rintro ⟨t, first, rest⟩
      obtain ⟨v, between, last⟩ := ih.mp rest
      exact ⟨v, .cons first between, last⟩
    · rintro ⟨v, before, last⟩
      obtain ⟨t, first, between⟩ := done_cons_iff.mp before
      exact ⟨t, first, ih.mpr ⟨v, between, last⟩⟩

/-- What tasks do is determined. -/
theorem Done.unique (h : Done l s t) (k : Done l s u) : t = u := by
  induction h generalizing u with
  | nil => exact (done_nil_iff.mp k).symm
  | cons _ _ first rest =>
    obtain ⟨v, one, others⟩ := done_cons_iff.mp k
    cases first one
    exact rest others

theorem work_eq (few : costs l ≤ 500) (h : Done l s t) : s.work l = t := (done_work l s few).unique h

/-- A task that sets nothing off. -/
theorem done_of_alone (alone : (k.effect s).2 = []) : Done [k] s (k.effect s).1 := by
  rw [done_singleton_iff, alone]; exact .nil _

/-- R130: with no slot free no grant is made. -/
theorem done_grants_of_full (full : s.settings.slots ≤ s.warmups) : Done [.grants] s s := by
  have none_made : Task.grants.effect s = (s, []) := if_neg (Nat.not_lt.mpr full)
  rw [done_singleton_iff, none_made]; exact .nil s

theorem done_grants_of_empty (empty : s.wakeQueue.entries = []) : Done [.grants] s s := by
  have none_made : Task.grants.effect s = (s, []) := by
    change grantsEffect s = _
    unfold grantsEffect
    split
    · rw [WakeQueue.first, empty]; rfl
    · rfl
  rw [done_singleton_iff, none_made]; exact .nil s

/-! ## Carriers on their way to be woken -/

/-- QUEUED, WARMUP or LOST: where a carrier stands whose wake has begun and not yet had an answer. -/
def LifeState.isWaking : LifeState → Bool
  | .queued | .warmup | .lost => true
  | _ => false

/-- Only the end of a CARRIER-WAKE brings a carrier out of the three states. -/
theorem Stride.isWaking {m : Kind} (h : Stride m s t) (allowed : k.allows m) (other : k.mayLull = false)
    (waking : (s.lifeState c).isWaking = true) : (t.lifeState c).isWaking = true := by
  cases h with
  | inner h => rwa [h.state]
  | move d new may =>
    rw [moveTo_lifeState]
    split
    · subst c
      cases k <;> cases e : s.lifeState d <;>
        simp_all [Task.allows, Task.mayLull, Kind.returns, LifeState.isWaking]
    · exact waking
  | lull d old =>
    rw [moveTo_lifeState]
    split
    · subst c; rw [old] at waking; cases waking
    · exact waking
  | enqueue d =>
    change ((s.moveTo d .queued).lifeState c).isWaking = true
    rw [moveTo_lifeState]
    split
    · rfl
    · exact waking
  | promote => exact waking
  | keep d mark => rw [setLife_lifeState s d c (x := { (s.carrier d).life with wakePending := some mark }) rfl]; exact waking
  | drain d pledge old =>
    rw [moveTo_lifeState, joinDrain_lifeState]
    split
    · subst c; rw [old] at waking; cases waking
    · exact waking
  | received d old => rw [setCarrier_lifeState s d c { s.carrier d with drainedReceived := true } rfl]; exact waking

/-- Along the tasks of an event that end no CARRIER-WAKE, a carrier that is being woken stays so. -/
theorem Done.isWaking (h : Done l s t) (calm : ∀ k ∈ l, k.mayLull = false)
    (waking : (s.lifeState c).isWaking = true) : (t.lifeState c).isWaking = true := by
  induction h with
  | nil => exact waking
  | @cons k l s t u first rest ihFirst ihRest =>
    have other := calm k List.mem_cons_self
    have own : ((k.effect s).1.lifeState c).isWaking = true :=
      (chain_task k s).induction
        (fun s t => (s.lifeState c).isWaking = true → (t.lifeState c).isWaking = true)
        (fun _ h => h) (fun h k w => k (h w)) (fun allowed stride w => stride.isWaking allowed.1 other w) waking
    exact ihRest (fun j mem => calm j (List.mem_cons_of_mem _ mem)) (ihFirst (mayLull_of_mem other) own)

end Sys2Proof.Machine
end

section
/-! PROOFS. Frames of carriers: the lookup, the forwarding and the tally, the frames held off. -/

namespace Sys2Proof.Machine

variable {s s' t v : State} {w : Walk} {a : ActionEntry} {c d : CarrierIx} {n : Nat}

/-! ## The frame's carrier -/

/-- R39: what a carrier must be for a frame that is found by its key. -/
def State.fitsFrame (s : State) (a : ActionEntry) (port : Port) (bytes : List Byte) (c : CarrierIx) : Prop :=
  s.isManaged c = true ∧ (∀ n, port = .branch n → s.unitOf c = n) ∧
    ∃ v, fieldAt bytes a.keyOffset a.keyWidth = some v ∧ (s.config c).key = BitVec.ofNat 16 v &&& a.keyMask

/-- The same as a test. -/
def State.fitsKey (s : State) (port : Port) (key : BitVec 16) (c : CarrierIx) : Bool :=
  (match port with
    | .trunk => s.isManaged c
    | .branch n => s.isManaged c && s.unitOf c == n) && (s.config c).key == key

theorem findCarrier_eq (s : State) (a : ActionEntry) (port : Port) (bytes : List Byte) :
    s.findCarrier a port bytes = (a.frameKey bytes).bind fun key => (List.finRange 32).find? (s.fitsKey port key) := by
  unfold State.findCarrier
  cases a.frameKey bytes with
  | none => rfl
  | some key => cases port with
    | trunk => exact List.find?_filter.trans (congrArg (List.find? · _) (by funext c; simp [State.fitsKey, beq_eq_decide]))
    | branch m => exact List.find?_filter.trans (congrArg (List.find? · _) (by funext c; simp [State.fitsKey, beq_eq_decide]))

theorem fitsFrame_iff {port : Port} {bytes : List Byte} :
    s.fitsFrame a port bytes c ↔ ∃ key, a.frameKey bytes = some key ∧ s.fitsKey port key c = true := by
  unfold State.fitsFrame ActionEntry.frameKey
  cases fieldAt bytes a.keyOffset a.keyWidth with
  | none => simp
  | some v => cases port <;> simp [State.fitsKey, and_assoc]

theorem find?_finRange_eq_some_iff {p : CarrierIx → Bool} :
    (List.finRange 32).find? p = some c ↔ p c = true ∧ ∀ d, d < c → p d = false := by
  rw [← List.ofFn_id, List.find?_ofFn_eq_some]
  simp

theorem findCarrier_eq_some_iff {port : Port} {bytes : List Byte} : s.findCarrier a port bytes = some c ↔
    s.fitsFrame a port bytes c ∧ ∀ d, d < c → ¬s.fitsFrame a port bytes d := by
  simp only [findCarrier_eq, fitsFrame_iff]
  cases a.frameKey bytes with
  | none => simp
  | some key => simpa using find?_finRange_eq_some_iff

theorem findCarrier_eq_none_iff {port : Port} {bytes : List Byte} :
    s.findCarrier a port bytes = none ↔ ∀ c, ¬s.fitsFrame a port bytes c := by
  simp only [findCarrier_eq, fitsFrame_iff]
  cases a.frameKey bytes <;> simp

/-- Settles O15. -/
theorem carrierLookupAndUnknownKeys : Obligations.CarrierLookupAndUnknownKeys := by
  refine ⟨fun a port bytes s => ⟨fun c => findCarrier_eq_some_iff, findCarrier_eq_none_iff⟩,
    fun w a s s' done kind unknown => ?_⟩
  obtain ⟨n, good, meaning⟩ := exec_walkEnds_done done
  refine ⟨s'.forward a.portSet w.port w.bytes, offered_forward .., raiseFlag_raised _ _, ?_⟩
  rw [meaning, disposeFrame, good]
  rcases kind with kind | kind <;> simp only [kind, keyedFrame, unknown, finish_of_done]

/-! ## Forwarding and tally -/

theorem rawUnits_eq (a : ActionEntry) (bytes : List Byte) :
    a.rawUnits bytes = ((fieldAt bytes a.unitOffset a.unitWidth).getD 0) >>> a.unitShift :=
  (Nat.shiftRight_eq_div_pow ..).symm

theorem towards_unit (n m : UnitIx) : memberOf (1#8 <<< n.val) m.val = (m == n) := by
  revert n m; decide

/-- R42: the frame of a carrier goes to its branch port, uplink to T. -/
def State.carryFrame (s : State) (c : CarrierIx) (port : Port) (bytes : List Byte) : State :=
  match port with
  | .trunk => s.offerPass (.branch (s.unitOf c)) bytes
  | .branch _ => s.offerPass .trunk bytes

theorem offered_carryFrame (s : State) (c : CarrierIx) (port : Port) (bytes : List Byte) :
    Offered (towards (1#8 <<< (s.unitOf c).val) port) bytes s (s.carryFrame c port bytes) := by
  cases port with
  | trunk =>
    have ports : towards (1#8 <<< (s.unitOf c).val) .trunk = fun q => q == .branch (s.unitOf c) := by
      funext q
      cases q with
      | trunk => rfl
      | branch m => simp only [towards, towards_unit]; rw [Bool.eq_iff_iff]; simp
    rw [ports]; exact offered_offerPass ..
  | branch m =>
    have ports : towards (1#8 <<< (s.unitOf c).val) (.branch m) = fun q => q == .trunk := by
      funext q; cases q <;> rfl
    rw [ports]; exact offered_offerPass ..

/-- A frame that has been offered leaves the carriers alone. -/
theorem Offered.carriers {ports : Port → Bool} {bytes : List Byte} (h : Offered ports bytes s t) :
    t.carriers = s.carriers := by rw [h.2]

/-- R42, R50: what the tally of a frame does to its carrier's record. -/
def Carrier.tallied (a : ActionEntry) (bytes : List Byte) (x : Carrier) : Carrier :=
  { x with
    meter := { x.meter with tally := min 4294967295 (x.meter.tally + min (a.rawUnits bytes) 4095) },
    counters := { x.counters with metered := min 4294967295 (x.counters.metered + 1) } }

theorem tallyFrame_of_low {bytes : List Byte} (low : a.rawUnits bytes ≤ 4095) (s : State) :
    s.tallyFrame a c bytes = { s with carriers := s.carriers.set c ((s.carrier c).tallied a bytes) } := by
  have unclamped : ¬Config.maxUnits < a.rawUnits bytes := Nat.not_lt.mpr low
  simp only [State.tallyFrame, if_neg unclamped]
  rfl

theorem tallyFrame_of_high {bytes : List Byte} (high : 4095 < a.rawUnits bytes) (s : State) :
    s.tallyFrame a c bytes =
      { s.raiseFlag .unitsClamped with carriers := s.carriers.set c ((s.carrier c).tallied a bytes) } := by
  have clamped : Config.maxUnits < a.rawUnits bytes := high
  have carriers := (tells_raiseFlag s .unitsClamped (by decide)).carriers
  simp only [State.tallyFrame, if_pos clamped]
  rw [State.setCarrier, State.carrier, carriers]
  rfl

theorem meterFrame_of_awake {port : Port} {bytes : List Byte} (tallies : Bool)
    (awake : (s.lifeState c).isAwake = true) : meterFrame tallies a c port bytes s =
      (if tallies then (s.carryFrame c port bytes).tallyFrame a c bytes else s.carryFrame c port bytes, []) := by
  cases port <;> simp [meterFrame, awake, State.carryFrame]

/-- Settles O16. -/
theorem awakeCarrierFrame : Obligations.AwakeCarrierFrame := by
  intro w a c s s' done found state
  have awake : (s'.lifeState c).isAwake = true := by rcases state with e | e | e | e | e <;> rw [e] <;> rfl
  obtain ⟨n, good, meaning⟩ := exec_walkEnds_done done
  have offered := offered_carryFrame s' c w.port w.bytes
  have same : (s'.carryFrame c w.port w.bytes).carrier c = s'.carrier c :=
    congrArg (fun x : Vector Carrier 32 => x[c]) offered.carriers
  refine ⟨s'.carryFrame c w.port w.bytes, offered, ?_⟩
  rw [meaning, disposeFrame, good, ← rawUnits_eq]
  refine ⟨fun kind => ?_, fun kind low => ?_, fun kind high => ?_⟩
  · simp only [kind, keyedFrame, found, meterFrame_of_awake false awake, finish_of_done]; rfl
  · simp only [kind, keyedFrame, found, meterFrame_of_awake true awake, finish_of_done, if_true, tallyFrame_of_low low, same]
    rfl
  · simp only [kind, keyedFrame, found, meterFrame_of_awake true awake, finish_of_done, if_true, tallyFrame_of_high high,
      same]
    rfl

/-! ## Frames held off -/

theorem moveTo_wakeQueue_of_unqueued {new : LifeState} (unqueued : s.lifeState c ≠ .queued) :
    (s.moveTo c new).wakeQueue = s.wakeQueue := by
  rw [moveTo_wakeQueue, (movePlaces_carriersOnly unqueued s).wakeQueue]

theorem enterQueued_wakeQueue {cls : WakeClass} {depth : Depth} {cause : Cause} (unqueued : s.lifeState c ≠ .queued) :
    (s.enterQueued c cls depth cause).wakeQueue = s.wakeQueue.join cls { carrier := c, depth := depth } := by
  unfold State.enterQueued
  rw [(tells_notifyState ..).wakeQueue, State.setWakeQueue_wakeQueue, moveTo_wakeQueue_of_unqueued unqueued]

/-- R124, R126: the traffic cause for a DOZE carrier: it is QUEUED, and where no slot is free that is all. -/
theorem work_traffic (doze : s.lifeState c = .doze) :
    let t := s.work [.wake c .traffic]
    Keeps s t ∧ (t.lifeState c = .queued ∨ t.lifeState c = .warmup ∨ t.lifeState c = .lost) ∧
      (s.settings.slots ≤ s.warmups → t = s.enterQueued c .ordinary .light .traffic) := by
  have effect : (Task.wake c .traffic).effect s = (s.enterQueued c .ordinary .light .traffic, [.grants]) := by
    simp only [Task.effect, wakeEffect, doze]; rfl
  have done : Done [.grants] (s.enterQueued c .ordinary .light .traffic) (s.work [.wake c .traffic]) := by
    have := done_singleton_iff.mp (done_work [.wake c .traffic] s (by simp [costs, Task.cost]))
    rwa [effect] at this
  refine ⟨keeps_work .., ?_, fun full => ?_⟩
  · have waking := done.isWaking (c := c) (by simp [Task.mayLull]) (by simp [LifeState.isWaking])
    revert waking
    cases (s.work [.wake c .traffic]).lifeState c <;> simp [LifeState.isWaking]
  · refine done.unique (done_grants_of_full ?_)
    have taken := causeTaken_enterQueued (cause := .traffic) (.inl doze) (s := s) (depth := .light)
      (by simp [State.placeFor, doze])
    rw [taken.warmups, (keeps_enterQueued (managed_of doze (by decide))).settings]
    exact full

theorem setCounters_setCounters (s : State) (c : CarrierIx) (k l : FrameCounters) :
    (s.setCounters c k).setCounters c l = s.setCounters c l := by
  simp [State.setCounters, State.setCarrier, State.carrier]

theorem countMissed_countHeldOff (s : State) (c : CarrierIx) : (s.countHeldOff c).countMissed c =
    s.setCounters c { (s.carrier c).counters with
      heldOff := min 4294967295 ((s.carrier c).counters.heldOff + 1),
      missed := min 4294967295 ((s.carrier c).counters.missed + 1) } := by
  have same : ((s.countHeldOff c).carrier c).counters =
      { (s.carrier c).counters with heldOff := min 4294967295 ((s.carrier c).counters.heldOff + 1) } := by
    simp [State.countHeldOff, State.setCounters, addCapped, top32]
  rw [State.countMissed, same, State.countHeldOff, setCounters_setCounters]
  rfl

theorem setCounters_lifeState (s : State) (c d : CarrierIx) (k : FrameCounters) :
    (s.setCounters c k).lifeState d = s.lifeState d := setCarrier_lifeState s c d { s.carrier c with counters := k } rfl

/-- R42, R43: an uplink frame for a carrier that is not awake. -/
theorem keyedFrame_uplink {m : UnitIx} {bytes : List Byte} (tallies : Bool)
    (found : s.findCarrier a (.branch m) bytes = some c) (asleep : (s.lifeState c).isAwake = false) :
    keyedFrame tallies a (.branch m) bytes s = (s.offerPass .trunk bytes, []) := by
  rw [keyedFrame, found]
  simp [meterFrame, asleep]

/-- R42, R43: a downlink frame for a carrier that is not awake. -/
theorem keyedFrame_downlink {bytes : List Byte} (tallies : Bool)
    (found : s.findCarrier a .trunk bytes = some c) (asleep : (s.lifeState c).isAwake = false) :
    keyedFrame tallies a .trunk bytes s =
      if s.lifeState c = .doze then (s.countHeldOff c, [.wake c .traffic])
      else if s.lifeState c = .slumber then (((s.countHeldOff c).countMissed c).raiseFlag .slumberTriggerMissed, [])
      else (s.countHeldOff c, []) := by
  rw [keyedFrame, found]
  simp [meterFrame, asleep]

/-- Settles O17. -/
theorem heldOffCarrierFrame : Obligations.HeldOffCarrierFrame := by
  intro w a c s s' done kind found state
  have asleep : (s'.lifeState c).isAwake = false := by rcases state with e | e | e | e | e | e <;> rw [e] <;> rfl
  obtain ⟨n, good, meaning⟩ := exec_walkEnds_done done
  obtain ⟨tallies, keyed⟩ : ∃ tallies, disposeFrame n w.port w.bytes s' = keyedFrame tallies a w.port w.bytes s' := by
    rw [disposeFrame, good]
    rcases kind with kind | kind
    · exact ⟨true, by simp only [kind]⟩
    · exact ⟨false, by simp only [kind]⟩
  rw [meaning, keyed]
  refine ⟨fun side => ?_, fun side doze slumber => ?_, fun side slumber => ?_, fun side doze => ?_⟩
  · obtain ⟨m, uplink⟩ : ∃ m, w.port = .branch m := by
      cases port : w.port with
      | trunk => exact absurd port side
      | branch m => exact ⟨m, rfl⟩
    rw [uplink] at found ⊢
    exact ⟨_, offered_offerPass .trunk w.bytes s', by rw [keyedFrame_uplink tallies found asleep]; rfl⟩
  · rw [side] at found ⊢
    rw [keyedFrame_downlink tallies found asleep, if_neg doze, if_neg slumber]; rfl
  · have awake : ¬s'.lifeState c = .doze := by simp [slumber]
    rw [side] at found ⊢
    rw [keyedFrame_downlink tallies found asleep, if_neg awake, if_pos slumber, countMissed_countHeldOff]; rfl
  · rw [side] at found ⊢
    rw [keyedFrame_downlink tallies found asleep, if_pos doze]
    have dozes : (s'.countHeldOff c).lifeState c = .doze := (setCounters_lifeState ..).trans doze
    obtain ⟨keeps, now, whole⟩ := work_traffic dozes
    refine ⟨_, rfl, keeps, now, fun full => ?_⟩
    have waits : (s'.countHeldOff c).work [.wake c .traffic] = _ :=
      whole ((warmups_of_state fun d => setCounters_lifeState ..).symm ▸ full)
    rw [Effect.finish, waits]
    refine ⟨by simp, fun d other => ?_, enterQueued_wakeQueue (by simp [dozes]),
      causeTaken_enterQueued (.inl dozes) (if_pos dozes)⟩
    rw [enterQueued_lifeState, if_neg other]
    exact setCounters_lifeState ..

end Sys2Proof.Machine
end

section
/-! PROOFS. One carrier's change of state told as a whole: what is left alone, and what entry to RESTORING does. -/

namespace Sys2Proof.Machine

variable {s t u : State} {c d : CarrierIx} {new : LifeState} {cause : Cause}

/-! ## One carrier alone -/

theorem Keeps.anchorOf_eq (h : Keeps s t) (c : CarrierIx) : t.anchorOf c = s.anchorOf c := by
  simp [State.anchorOf, h.config]

theorem Alone.trans (h : Alone c s t) (k : Alone c t u) : Alone c s u where
  others d other := by rw [k.others d other, h.others d other]
  covers d other apart := (k.covers d other (by rwa [h.keeps.anchorOf_eq])).trans (h.covers d other apart)
  units := k.units.trans h.units
  wakeQueue := k.wakeQueue.trans h.wakeQueue
  token := k.token.trans h.token
  branches := k.branches.trans h.branches
  keeps := h.keeps.trans k.keeps

theorem Apart.alone (h : Apart c s t) (covers : ∀ d, d ≠ c → d ≠ s.anchorOf c → (t.carrier d).cover = (s.carrier d).cover)
    (keeps : Keeps s t) : Alone c s t where
  others := h.others
  covers := covers
  units := h.units
  wakeQueue := h.wakeQueue
  token := h.token
  branches := h.branches
  keeps := keeps

theorem Tells.alone (h : Tells s t) (branches : t.path.branchQueues = s.path.branchQueues) : Alone c s t :=
  (h.apart branches).alone (fun d _ _ => by rw [h.carrier]) h.keeps

theorem alone_notifyState (s : State) (c d : CarrierIx) (old new : LifeState) (cause : Cause) (origin : Origin) :
    Alone c s (s.notifyState d old new cause origin) := (tells_notifyState ..).alone (notify_branchQueues ..)

theorem alone_advise (s : State) (kind : Advisory) (c d : CarrierIx) (reason : Cause) :
    Alone c s (s.advise kind d reason) := (tells_advise ..).alone (advise_branchQueues ..)

/-- R74, R78: the places a carrier gives up and takes are its own and its anchor's. -/
theorem movePlaces_cover_other {old : LifeState} (other : d ≠ c) (apart : d ≠ s.anchorOf c) :
    (s.movePlaces c old new).cover d = s.cover d := by
  simp only [State.movePlaces, State.leaveDrain, State.leaveSleepers, State.joinSleepers, State.placeSleeper]
  split_ifs <;> simp [other, apart]

theorem alone_moveTo (unqueued : s.lifeState c ≠ .queued) (old : s.lifeState c ≠ .slumber) (h : new ≠ .slumber)
    (allowed : MoveAllowed s c new) : Alone c s (s.moveTo c new) :=
  (Apart.moveTo unqueued old h).alone (fun d other apart => (moveTo_cover s c d new).trans (movePlaces_cover_other other apart))
    (keeps_moveTo allowed)

/-! ## Entry to RESTORING -/

/-- R134: a RESTORING carrier that enters ACTIVE. -/
theorem moveTo_active_of_restoring (restoring : s.lifeState c = .restoring) :
    s.moveTo c .active = s.setCarrier c { s.carrier c with
      life := { (s.carrier c).life with state := .active, dwell := 0, wakePending := none, hold := false },
      drainedReceived := false } := by
  have state : (s.carrier c).life.state = .restoring := restoring
  have entered : (s.carrier c).onMove .active (s.profileOf c) = { s.carrier c with
      life := { (s.carrier c).life with state := .active, dwell := 0, wakePending := none, hold := false },
      drainedReceived := false } := by
    simp [Carrier.onMove, Life.enter, Meter.onMove, state, LifeState.isDrain, LifeState.isSleeper]
  simp only [State.moveTo, State.movePlaces, State.moveSlumber, restoring, LifeState.isDrain, LifeState.isSleeper]
  simp [entered]

/-- R106, R112, R133: what entry to RESTORING tells, and that it touches one carrier alone. -/
theorem told_enterRestoring (unqueued : s.lifeState c ≠ .queued) (slumber : s.lifeState c ≠ .slumber)
    (managed : s.isManaged c = true) (cause : Cause) :
    Alike (s.tellsReturn c cause cause.origin) (s.enterRestoring c cause) ∧ Alone c s (s.enterRestoring c cause) := by
  obtain ⟨restoring, eq⟩ := enterRestoring_eq s c cause
  generalize made : ((s.moveTo c .restoring).advise .openUp c cause).notifyState c (s.lifeState c) .restoring cause
    cause.origin = told at restoring eq
  have allowed : MoveAllowed s c .restoring := moveAllowed_awake managed (by decide) rfl
  have alike : Alike ((s.opened c cause).tells c (s.lifeState c) .restoring cause cause.origin) told := by
    rw [← made, opened_eq_advise]
    exact (((Alike.refl s).silent (keeps_moveTo allowed)
      (moveTo_carriersOnly unqueued slumber (by decide)).toldAs).advise ..).notifyState ..
  have alone : Alone c s told := by
    rw [← made]
    exact (alone_moveTo unqueued slumber (by decide) allowed).trans ((alone_advise ..).trans (alone_notifyState ..))
  rw [eq]
  simp only [State.tellsReturn]
  split_ifs
  · have next : MoveAllowed told c .active := moveAllowed_awake (managed_of restoring (by decide)) (by decide) rfl
    have awake : told.lifeState c ≠ .queued ∧ told.lifeState c ≠ .slumber := by simp [restoring]
    exact ⟨(alike.silent (keeps_moveTo next) (moveTo_carriersOnly awake.1 awake.2 (by decide)).toldAs).notifyState ..,
      alone.trans ((alone_moveTo awake.1 awake.2 (by decide) next).trans (alone_notifyState ..))⟩
  · exact ⟨alike, alone⟩

/-- R106: what entry to RESTORING makes of the coverage parts. -/
theorem enterRestoring_cover (s : State) (c d : CarrierIx) (cause : Cause) :
    (s.enterRestoring c cause).cover d = (s.moveTo c .restoring).cover d := by
  obtain ⟨restoring, eq⟩ := enterRestoring_eq s c cause
  have tells : Tells (s.moveTo c .restoring) (((s.moveTo c .restoring).advise .openUp c cause).notifyState c
    (s.lifeState c) .restoring cause cause.origin) := (tells_advise ..).trans (tells_notifyState ..)
  have same : ∀ {s t : State}, Tells s t → t.cover d = s.cover d := fun h => by rw [State.cover, h.carrier]; rfl
  rw [eq]
  split
  · rw [same (tells_notifyState ..), moveTo_active_of_restoring restoring]
    refine Eq.trans ?_ (same tells)
    rw [State.cover, State.setCarrier_carrier]
    split
    · subst d; rfl
    · rfl
  · exact same tells

theorem leaveDrain_pledge (s : State) (c : CarrierIx) : ((s.leaveDrain c).cover c).pledge = 0 := by
  simp [State.leaveDrain, State.setCover, State.cover]

theorem setCover_pledge (s : State) (a c : CarrierIx) (x : Cover) (h : x.pledge = (s.cover a).pledge) :
    ((s.setCover a x).cover c).pledge = (s.cover c).pledge := by
  simp only [State.setCover, State.cover, State.setCarrier_carrier]
  split
  · subst c; exact h
  · rfl

theorem leaveSleepers_pledge (s : State) (c d : CarrierIx) :
    ((s.leaveSleepers c).cover d).pledge = (s.cover d).pledge := setCover_pledge _ _ _ _ rfl

theorem joinSleepers_pledge (s : State) (c d : CarrierIx) :
    ((s.joinSleepers c).cover d).pledge = (s.cover d).pledge := by
  have moment : ∀ s : State, ((s.setCover c { s.cover c with rampMoment := s.moment }).cover d).pledge =
      (s.cover d).pledge := fun s => setCover_pledge _ _ _ _ rfl
  have place : ∀ s : State, ((s.placeSleeper c).cover d).pledge = (s.cover d).pledge :=
    fun s => setCover_pledge _ _ _ _ rfl
  exact (place _).trans (moment s)

/-- R74: a carrier that leaves the drain states holds no pledge. -/
theorem moveTo_pledge (drain : (s.lifeState c).isDrain = true) (awake : new.isDrain = false) :
    ((s.moveTo c new).cover c).pledge = 0 := by
  have old : (s.lifeState c).isSleeper = false ∧ s.lifeState c ≠ .queued := by
    cases e : s.lifeState c <;> simp [e, LifeState.isDrain, LifeState.isSleeper] at drain ⊢
  obtain ⟨sleeper, unqueued⟩ := old
  rw [moveTo_cover, State.movePlaces, if_neg unqueued]
  simp only [drain, awake, sleeper, Bool.not_false, Bool.and_self, Bool.false_and, Bool.true_and, if_true]
  cases new.isSleeper with
  | false => exact leaveDrain_pledge s c
  | true => exact (joinSleepers_pledge ..).trans (leaveDrain_pledge s c)

/-- R106: the drain of an abandoned carrier. -/
theorem enterRestoring_pledge (drain : (s.lifeState c).isDrain = true) (cause : Cause) :
    ((s.enterRestoring c cause).cover c).pledge = 0 := by
  rw [enterRestoring_cover]; exact moveTo_pledge drain rfl

end Sys2Proof.Machine
end

section
/-! PROOFS. The window end's meters, the expiry of the carriers' timers and the minute boundary. -/

namespace Sys2Proof.Machine

variable {s t u : State} {c d : CarrierIx} {new : LifeState} {cause : Cause}

/-! ## What is told is in the Frame Path and the Management Engine -/

/-- `t` differs from `s`, at most, in what the Frame Path and the Management Engine hold. -/
def PathAndEngine (s t : State) : Prop := t = { s with path := t.path, engine := t.engine }

theorem PathAndEngine.refl (s : State) : PathAndEngine s s := rfl

theorem PathAndEngine.trans (h : PathAndEngine s t) (k : PathAndEngine t u) : PathAndEngine s u := by
  rw [PathAndEngine] at h k ⊢
  rw [k, h]

theorem PathAndEngine.ite {p : Prop} [Decidable p] (h : PathAndEngine s t) (k : PathAndEngine s u) :
    PathAndEngine s (if p then t else u) := by
  split
  · exact h
  · exact k

theorem PathAndEngine.foldl {α : Type} {f : State → α → State} (h : ∀ s a, PathAndEngine s (f s a)) (l : List α)
    (s : State) : PathAndEngine s (l.foldl f s) := by
  induction l generalizing s with
  | nil => rfl
  | cons a l ih => exact (h s a).trans (ih _)

theorem pathAndEngine_setEngine (s : State) (e : Engine) : PathAndEngine s (s.setEngine e) := rfl

theorem pathAndEngine_offerInjected (s : State) (port : Port) (f : Frame) : PathAndEngine s (s.offerInjected port f) :=
  .ite rfl rfl

theorem pathAndEngine_inject (s : State) (port : Port) (a : Addr) (body : List Byte) :
    PathAndEngine s (s.inject port a body) := pathAndEngine_offerInjected ..

theorem pathAndEngine_passNotices (s : State) : PathAndEngine s s.passNotices :=
  (PathAndEngine.foldl (fun _ _ => pathAndEngine_inject ..) s.engine.notices s).trans (pathAndEngine_setEngine ..)

theorem pathAndEngine_offerNotice (s : State) (n : NoticeContent) : PathAndEngine s (s.offerNotice n).1 := by
  have passed : ∀ s : State, PathAndEngine s s.passIfUp := fun s => .ite (pathAndEngine_passNotices s) (.refl s)
  unfold State.offerNotice
  dsimp only
  split
  · split
    · exact (pathAndEngine_setEngine ..).trans ((pathAndEngine_setEngine ..).trans (passed _))
    · exact pathAndEngine_setEngine ..
  · exact .refl s

theorem pathAndEngine_notify (s : State) (n : NoticeContent) : PathAndEngine s (s.notify n) :=
  .ite ((pathAndEngine_offerNotice s n).trans ((pathAndEngine_setEngine ..).trans (pathAndEngine_offerNotice ..)))
    (pathAndEngine_offerNotice s n)

theorem pathAndEngine_raiseFlag (s : State) (f : Flag) : PathAndEngine s (s.raiseFlag f) :=
  .ite (.refl s) ((pathAndEngine_setEngine ..).trans (pathAndEngine_notify ..))

theorem notify_advisories (s : State) (n : NoticeContent) : (s.notify n).advisories = s.advisories := by
  rw [pathAndEngine_notify s n]

/-! ## The window end's meters -/

theorem nextQuietRun_eq (state : LifeState) (sample run : Nat) : nextQuietRun state sample run =
    if state = .draining ∧ sample = 0 then min 255 (run + 1) else if state = .drainHeld then run else 0 := by
  cases state <;> simp [nextQuietRun, addCapped]

theorem windowEnd_eq (k : CarrierConfig) (p : Profile) (state : LifeState) (length : Nat) (m : Meter) :
    let sample := occupancy m.tally (availableUnits k length)
    let figure := nextFigure m.figure sample p.shift
    (m.primed = false → m.windowEnd k p state length = { m with tally := 0, primed := true }) ∧
    (m.primed = true → m.windowEnd k p state length =
      { tally := 0, sample := sample, figure := figure, primed := true,
        idleRun := if figure ≤ p.sleepThreshold then min 255 (m.idleRun + 1) else 0,
        quietRun := if state = .draining ∧ sample = 0 then min 255 (m.quietRun + 1)
          else if state = .drainHeld then m.quietRun else 0 }) := by
  refine ⟨fun fresh => ?_, fun primed => ?_⟩
  · rw [Meter.windowEnd, fresh, if_neg Bool.false_ne_true]
  · simp only [Meter.windowEnd, primed, if_true, nextQuietRun_eq]
    rfl

theorem promote_eq (r : ProfileRecord) :
    r.promote = { r with pending := false, inForce := if r.pending then r.written else r.inForce } := by
  obtain ⟨_, _, pending⟩ := r
  cases pending <;> rfl

theorem exec_windowEnd (order : ReportOrder) (running : s.phase = .running) :
    exec (.windowEnd order) s = .next (s.closeWindow.work (s.closeWindow.reportTasks order)) :=
  congrArg Host.Outcome.next (if_pos running)

/-- Settles O28. -/
theorem windowEndMeters : Obligations.WindowEndMeters := by
  intro order s running
  refine ⟨s.closeWindow, _, exec_windowEnd order running, keeps_work .., rfl, fun p => ?_, fun c unmanaged => ?_,
    fun c managed => ?_⟩
  · rw [show s.closeWindow.profiles[p] = (s.profiles[p]).promote by
      simp [State.closeWindow, State.newMoment, State.beginWindow, State.meterAll, State.promoteProfiles]]
    exact promote_eq _
  · rw [closeWindow_carrier, if_pos unmanaged]
  · obtain ⟨fresh, primed⟩ := windowEnd_eq (s.config c) (s.promoteProfiles.profileOf c) (s.lifeState c)
      s.windowClock.length (s.carrier c).meter
    have profile : s.closeWindow.profileOf c = s.promoteProfiles.profileOf c := by
      simp only [State.closeWindow, State.newMoment, State.beginWindow, State.meterAll, State.profileOf, State.config]
    simp only [closeWindow_carrier, if_neg managed, profile]
    exact ⟨fun h => by rw [fresh h], fun h => by rw [primed h]⟩

/-! ## The carriers' timers -/

theorem opened_path (h : CarriersOnly s t) (reason : Cause) : (t.opened c reason).path =
    if s.trunkLost = true ∨ s.settings.advisoryDestination = 0#48 then s.path
    else (s.sends .trunk s.settings.advisoryDestination (s.advisoryLayout 2 c reason.code)).path := by
  rw [h]
  change (if s.trunkLost = true ∨ s.settings.advisoryDestination = 0#48 then _ else _ : State).path = _
  split
  · rfl
  · simp only [State.sends, State.offerInjected]
    split <;> rfl

theorem opened_engine (s : State) (c : CarrierIx) (reason : Cause) : (s.opened c reason).engine = s.engine := by
  unfold State.opened
  split
  · rfl
  · exact offerInjected_engine ..

theorem opened_advisories (s : State) (c : CarrierIx) (reason : Cause) : (s.opened c reason).advisories =
    if s.trunkLost = true ∨ s.settings.advisoryDestination = 0#48 then
      { s.advisories with withheld := min 4294967295 (s.advisories.withheld + 1) }
    else { s.advisories with sent := min 4294967295 (s.advisories.sent + 1) } := by
  unfold State.opened
  split
  · rfl
  · simp only [State.sends]; rw [pathAndEngine_offerInjected]

theorem tellsReturn_advisories (s : State) (c : CarrierIx) (cause : Cause) (origin : Origin) :
    (s.tellsReturn c cause origin).advisories = (s.opened c cause).advisories := by
  simp only [State.tellsReturn, State.tells]
  split
  · rw [notify_advisories, notify_advisories]
  · rw [notify_advisories]

/-- R106, R133, R134: the lifecycle part of a carrier that has entered RESTORING. -/
theorem enterRestoring_life (s : State) (c : CarrierIx) (cause : Cause) :
    let entered := (s.carrier c).life.enter .restoring (s.profileOf c)
    ((s.enterRestoring c cause).carrier c).life =
      if (s.profileOf c).settleTime = 0 then { entered with state := .active, dwell := 0 } else entered := by
  obtain ⟨restoring, eq⟩ := enterRestoring_eq s c cause
  have tells : Tells (s.moveTo c .restoring) (((s.moveTo c .restoring).advise .openUp c cause).notifyState c
    (s.lifeState c) .restoring cause cause.origin) := (tells_advise ..).trans (tells_notifyState ..)
  have life := (congrArg Carrier.life (tells.carrier c)).trans (moveTo_carrier s c .restoring).1
  rw [eq]
  split
  · rw [(tells_notifyState ..).carrier, moveTo_active_of_restoring restoring]
    simp only [State.setCarrier_carrier, if_true, life]
    rfl
  · exact life

theorem movePlaces_of_drain {old : LifeState} (drain : old.isDrain = true) (awake : new.isDrain = false)
    (up : new.isSleeper = false) (s : State) : s.movePlaces c old new = s.leaveDrain c := by
  have stays : old.isSleeper = false ∧ old ≠ .queued := by
    cases old <;> simp [LifeState.isDrain, LifeState.isSleeper] at drain ⊢
  simp [State.movePlaces, drain, awake, up, stays]

theorem exec_drainTimerExpires (running : s.phase = .running) (draining : s.lifeState c = .draining) :
    exec (.drainTimerExpires c) s = .next ((s.setLife c { (s.carrier c).life with
      drain := max (s.carrier c).life.drain ((s.carrier c).life.drainLength * 1000) }).enterRestoring c .drainTimeout) :=
  congrArg Host.Outcome.next (if_pos ⟨running, draining⟩)

/-- A lifecycle part that differs in its counts only. -/
theorem alone_setLife (s : State) (c : CarrierIx) (x : Life) (h : x.state = s.lifeState c) : Alone c s (s.setLife c x) :=
  Apart.alone ⟨fun d other => by simp [State.setLife, other], rfl, rfl, rfl, rfl⟩
    (fun d other _ => by simp [State.setLife, other]) (keeps_setLife s c x h)

theorem setActive_eq (x : Carrier) (pending : x.life.wakePending = none) (hold : x.life.hold = false)
    (received : x.drainedReceived = false) : ({ x with
      life := { x.life with state := .active, dwell := 0, wakePending := none, hold := false }, drainedReceived := false } :
        Carrier) = { x with life := { x.life with state := .active, dwell := 0 } } := by
  obtain ⟨_, _, _, ⟨⟩, _⟩ := x
  simp_all

theorem setCarrier_setCarrier (s : State) (c : CarrierIx) (x y : Carrier) :
    (s.setCarrier c x).setCarrier c y = s.setCarrier c y := by
  simp [State.setCarrier]

theorem exec_settleTimerExpires (running : s.phase = .running) (restoring : s.lifeState c = .restoring) :
    let l := (s.carrier c).life
    exec (.settleTimerExpires c) s =
      .next ((s.setLife c { l with settle := max l.settle (l.settleLength * 1000) }).settleNow c) :=
  congrArg Host.Outcome.next (if_pos ⟨running, restoring⟩)

/-- R134: the settle timer of a RESTORING carrier. -/
theorem settleNow_eq (restoring : s.lifeState c = .restoring) (settle : Nat) :
    (s.setLife c { (s.carrier c).life with settle := settle }).settleNow c =
      (s.setCarrier c { s.carrier c with
        life := { (s.carrier c).life with state := .active, dwell := 0, settle := settle, wakePending := none,
                                          hold := false },
        drainedReceived := false }).notify
          (.carrierState c .restoring .active .settled .timed s.calendar.minute s.calendar.second) := by
  have same : (s.setLife c { (s.carrier c).life with settle := settle }).lifeState c = .restoring :=
    (setLife_lifeState s c c (x := { (s.carrier c).life with settle := settle }) rfl).trans restoring
  rw [State.settleNow, if_pos same, State.moveAndTell, moveTo_active_of_restoring same, same]
  simp only [State.notifyState, State.setLife, State.setCarrier_carrier, if_true, setCarrier_setCarrier]
  rfl

/-- R134: a settle time of 0: the state of a carrier that has entered RESTORING and goes on to ACTIVE. -/
theorem settle_at_once {b : State} (restoring : b.lifeState c = .restoring)
    (pending : (b.carrier c).life.wakePending = none) (hold : (b.carrier c).life.hold = false)
    (received : (b.carrier c).drainedReceived = false) :
    b.moveTo c .active = b.setLife c { (b.carrier c).life with state := .active, dwell := 0 } := by
  rw [moveTo_active_of_restoring restoring, setActive_eq _ pending hold received]; rfl

/-- R96, R106: the lifecycle part after entry to RESTORING. -/
theorem enterRestoring_counts (s : State) (c : CarrierIx) (cause : Cause) :
    let l := ((s.enterRestoring c cause).carrier c).life
    l.settle = 0 ∧ l.hold = false ∧ l.settleLength = (s.profileOf c).settleTime := by
  intro l
  have life : l = _ := enterRestoring_life s c cause
  rw [life]
  split <;> exact ⟨rfl, rfl, rfl⟩

/-- R74, R79: the anchor's part after a drain has been abandoned. -/
theorem enterRestoring_anchor (drain : (s.lifeState c).isDrain = true) (other : s.anchorOf c ≠ c) (cause : Cause) :
    let a := s.anchorOf c
    let t := s.enterRestoring c cause
    (t.cover a).pledgeTotal = (s.cover a).pledgeTotal - (s.cover c).pledge ∧
      (t.cover a).drainList = (s.cover a).drainList.filter (· != c) ∧
      (t.cover a).sleeperList = (s.cover a).sleeperList := by
  have cover : (s.enterRestoring c cause).cover (s.anchorOf c) = _ := (enterRestoring_cover ..).trans
    ((moveTo_cover ..).trans (by rw [movePlaces_of_drain drain rfl rfl, leaveDrain_cover _ _ _ other, if_neg other, if_pos rfl]))
  simp only [cover, and_self]

theorem enterRestoring_advisories (unqueued : s.lifeState c ≠ .queued) (slumber : s.lifeState c ≠ .slumber)
    (managed : s.isManaged c = true) (cause : Cause) : (s.enterRestoring c cause).advisories =
      if s.trunkLost = true ∨ s.settings.advisoryDestination = 0#48 then
        { s.advisories with withheld := min 4294967295 (s.advisories.withheld + 1) }
      else { s.advisories with sent := min 4294967295 (s.advisories.sent + 1) } := by
  rw [(told_enterRestoring unqueued slumber managed cause).1.advisories, tellsReturn_advisories, opened_advisories]

/-- R106, R134: entry to RESTORING from DRAINING, as what has been sent and the notices that follow. -/
theorem enterRestoring_told (state : s.lifeState c = .draining) (cause : Cause) :
    let b := (s.moveTo c .restoring).advise .openUp c cause
    let told := b.notify
      (.carrierState c .draining .restoring cause cause.origin s.calendar.minute s.calendar.second)
    ((s.profileOf c).settleTime ≠ 0 → s.enterRestoring c cause = told) ∧
    ((s.profileOf c).settleTime = 0 → s.enterRestoring c cause =
      (told.setLife c { (b.carrier c).life with state := .active, dwell := 0 }).notify
        (.carrierState c .restoring .active .settled .timed s.calendar.minute s.calendar.second)) := by
  intro b told
  obtain ⟨restoring, eq⟩ := enterRestoring_eq s c cause
  have moved : Keeps s (s.moveTo c .restoring) :=
    keeps_moveTo (moveAllowed_awake (managed_of state (by decide)) (by decide) rfl)
  have calendar : b.calendar = s.calendar := (moved.trans (keeps_advise ..)).calendar
  have same : b.notifyState c (s.lifeState c) .restoring cause cause.origin = told := by
    rw [State.notifyState, calendar, state]
  have carrier : told.carrier c = b.carrier c := (tells_notify ..).carrier c
  obtain ⟨life, -, -, received⟩ := moveTo_carrier s c .restoring
  have moves : b.carrier c = (s.moveTo c .restoring).carrier c := (tells_advise ..).carrier c
  rw [same] at restoring eq
  refine ⟨fun long => by rw [eq, if_neg long], fun short => ?_⟩
  rw [eq, if_pos short, settle_at_once restoring (by rw [carrier, moves, life]; rfl) (by rw [carrier, moves, life]; rfl)
    (by rw [carrier, moves, received]; exact Bool.and_false _), carrier, State.notifyState]
  have toldCalendar : told.calendar = s.calendar := (keeps_notify b _).calendar.trans calendar
  rw [State.setLife, State.setCarrier_calendar, toldCalendar]

/-- R102: the drain timer of a DRAINING carrier expires. -/
theorem drainTimerExpiry (running : s.phase = .running) (state : s.lifeState c = .draining) (other : s.anchorOf c ≠ c) :
    ∃ b t, exec (.drainTimerExpires c) s = .next t ∧ Alone c s b ∧ b.engine = s.engine ∧
      b.path = (if s.trunkLost = true ∨ s.settings.advisoryDestination = 0#48 then s.path
        else (s.sends .trunk s.settings.advisoryDestination (s.advisoryLayout 2 c 8)).path) ∧
      (let told := b.notify
        (.carrierState c .draining .restoring .drainTimeout .timed s.calendar.minute s.calendar.second)
      ((s.profileOf c).settleTime ≠ 0 → t = told) ∧
      ((s.profileOf c).settleTime = 0 → t = (told.setLife c { (b.carrier c).life with state := .active, dwell := 0 }).notify
        (.carrierState c .restoring .active .settled .timed s.calendar.minute s.calendar.second))) ∧
      Alone c s t ∧ t.lifeState c = (if (s.profileOf c).settleTime = 0 then .active else .restoring) ∧
      (t.carrier c).life.settle = 0 ∧ (t.carrier c).life.hold = false ∧
      (t.carrier c).life.settleLength = (s.profileOf c).settleTime ∧ (t.cover c).pledge = 0 ∧
      (t.cover (s.anchorOf c)).pledgeTotal = (s.cover (s.anchorOf c)).pledgeTotal - (s.cover c).pledge ∧
      (t.cover (s.anchorOf c)).drainList = (s.cover (s.anchorOf c)).drainList.filter (· != c) ∧
      (t.cover (s.anchorOf c)).sleeperList = (s.cover (s.anchorOf c)).sleeperList ∧
      t.advisories = (if s.trunkLost = true ∨ s.settings.advisoryDestination = 0#48 then
          { s.advisories with withheld := min 4294967295 (s.advisories.withheld + 1) }
        else { s.advisories with sent := min 4294967295 (s.advisories.sent + 1) }) := by
  obtain ⟨timed, same, meaning⟩ : ∃ timed : Life, timed.state = s.lifeState c ∧
      exec (.drainTimerExpires c) s = .next ((s.setLife c timed).enterRestoring c .drainTimeout) :=
    ⟨{ (s.carrier c).life with drain := max (s.carrier c).life.drain ((s.carrier c).life.drainLength * 1000) }, rfl,
      exec_drainTimerExpires running state⟩
  generalize at_end : s.setLife c timed = e at meaning
  have begun : Alone c s e := at_end ▸ alone_setLife s c timed same
  have state' : e.lifeState c = .draining := at_end ▸ (setLife_lifeState s c c same).trans state
  have drain : (e.lifeState c).isDrain = true := by rw [state']; rfl
  have only : CarriersOnly s e := at_end ▸ setCarrier_carriersOnly ..
  have cover (d : CarrierIx) : e.cover d = s.cover d := at_end ▸ setCarrier_cover s c d { s.carrier c with life := timed } rfl
  have anchor : e.anchorOf c = s.anchorOf c := begun.keeps.anchorOf_eq c
  have profile : e.profileOf c = s.profileOf c := by simp [State.profileOf, begun.keeps.profiles, begun.keeps.config]
  have managed : e.isManaged c = true := managed_of state' (by decide)
  have awake : e.lifeState c ≠ .queued ∧ e.lifeState c ≠ .slumber := by simp [state']
  have moved := moveTo_carriersOnly awake.1 awake.2 (new := .restoring) (by decide)
  obtain ⟨-, whole⟩ := told_enterRestoring awake.1 awake.2 managed .drainTimeout
  obtain ⟨long, short⟩ := enterRestoring_told state' .drainTimeout
  obtain ⟨total, drainList, sleeperList⟩ := enterRestoring_anchor drain (anchor ▸ other) .drainTimeout
  obtain ⟨settle, hold, length⟩ := enterRestoring_counts e c .drainTimeout
  rw [anchor, cover, cover] at total
  rw [anchor, cover] at drainList sleeperList
  rw [profile] at long short length
  rw [begun.keeps.calendar] at long short
  refine ⟨(e.moveTo c .restoring).advise .openUp c .drainTimeout, _, meaning, ?_, ?_, ?_, ⟨long, short⟩, begun.trans whole,
    ?_, settle, hold, length, enterRestoring_pledge drain _, total, drainList, sleeperList, ?_⟩
  · exact begun.trans ((alone_moveTo awake.1 awake.2 (by decide) (moveAllowed_awake managed (by decide) rfl)).trans
      (alone_advise ..))
  · rw [← opened_eq_advise, opened_engine, moved, only]
  · rw [← opened_eq_advise, opened_path (only.trans moved)]; rfl
  · rw [enterRestoring_lifeState, if_pos rfl, profile]
  · rw [enterRestoring_advisories awake.1 awake.2 managed, only]; rfl

/-- Settles O31. -/
theorem carrierTimerExpiries : Obligations.CarrierTimerExpiries := by
  refine ⟨fun c s running => ⟨fun none => ?_, drainTimerExpiry running⟩,
    fun c s running => ⟨fun none => ?_, fun restoring => ?_⟩, fun g s running => ?_⟩
  · exact congrArg Host.Outcome.next (if_neg fun h => none h.2)
  · exact congrArg Host.Outcome.next (if_neg fun h => none h.2)
  · exact (exec_settleTimerExpires running restoring).trans (congrArg _ (settleNow_eq restoring _))
  · refine ⟨s.setLockOuts (s.lockOuts.set g none g.isLt), congrArg Host.Outcome.next (if_pos running), ?_, fun h other => ?_, rfl⟩
    · simp [State.lockedOut, State.setLockOuts]
    · simp [State.setLockOuts, Fin.val_inj, other.symm]

/-! ## The minute boundary -/

/-- R92, R113: a carrier that a recomputation finds to have left the quiet set. -/
theorem recompute_leaves {b : State} (managed : b.isManaged c = true) (was : memberOf b.calendar.quiet c.val = true)
    (now : memberOf (recomputeEffect b).finish.calendar.quiet c.val = false) :
    let t := (recomputeEffect b).finish
    (t.lifeState c).isDrain = false ∧ t.lifeState c ≠ .doze ∧ t.lifeState c ≠ .slumber ∧
      (t.lifeState c = .rampdown ∨ t.lifeState c = .deepening → (t.carrier c).life.wakePending ≠ none) := by
  have leaves : b.leavesQuiet c = true := by
    rw [(keeps_recompute b).calendar] at now
    simp [State.leavesQuiet, was, now]
  obtain ⟨doze, slumber, drain, mark⟩ := recompute_wakes managed leaves
  refine ⟨drain, doze, slumber, fun resting unmarked => ?_⟩
  obtain ⟨k, marked, -⟩ := mark resting
  exact Option.some_ne_none k (marked.symm.trans unmarked)

/-- R91: a recomputation that finds the sets as they were hands nothing on. -/
theorem recompute_of_same_sets {b : State} (quiet : (recomputeEffect b).finish.calendar.quiet = b.calendar.quiet)
    (deep : (recomputeEffect b).finish.calendar.deep = b.calendar.deep) : (recomputeEffect b).finish = b.reformSets := by
  rw [(keeps_recompute b).calendar] at quiet deep
  exact recompute_of_no_difference (leavesQuiet_of_same quiet.symm)
    (joinsDeep_of_subset fun c joined => by rw [← deep]; exact joined)

/-- Settles O34. -/
theorem minuteBoundary : Obligations.MinuteBoundary := by
  intro s minute counted
  refine ⟨fun reset => congrArg Host.Outcome.next (if_neg reset), fun running => ?_⟩
  exact ⟨(recomputeEffect counted).finish, congrArg Host.Outcome.next (if_pos running), keeps_recompute counted,
    fun c managed was now => recompute_leaves (b := counted) managed was now, windowClose_recompute counted,
    deepPermission_recompute counted, fun quiet deep => recompute_of_same_sets (b := counted) quiet deep⟩

end Sys2Proof.Machine
end

section
/-! PROOFS. What the Radio Link Controller sends: directives and releases byte for byte, the head of a unit's queue, the unit
deep timer. -/

namespace Sys2Proof.Machine

variable {s t : State} {c d : CarrierIx} {v w : UnitIx} {kind : DirectiveKind}

/-! ## Frames to a unit -/

/-- What an injected frame makes of the Frame Path depends on the Frame Path alone. -/
theorem offerInjected_path (h : t.path = s.path) (port : Port) (f : Frame) :
    (t.offerInjected port f).path = (s.offerInjected port f).path := by
  simp only [State.offerInjected, h]
  split
  · rfl
  · exact h

theorem offerInjected_eq (s : State) (port : Port) (f : Frame) :
    s.offerInjected port f = s.setPath (s.offerInjected port f).path := by
  simp only [State.offerInjected]
  split <;> rfl

/-- 12.3: the body of a directive, field by field. -/
theorem directive_body (d : Directive) : d.body = laid (directiveLayout d.kind.code d.token d.link d.key.toNat) := by
  simp [Directive.body, directiveLayout]

/-- R146, R182: the Frame Path once a directive has been sent. -/
def State.pathWith (s : State) (v : UnitIx) (code token link key : Nat) : FramePath :=
  (s.sends (.branch v) (s.unitSettings v).address (directiveLayout code token link key)).path

/-- R146: the send of a directive as a whole. -/
theorem transmit_eq (s : State) (v : UnitIx) (d : Directive) : s.transmit v d =
    (s.setUnit v { s.unit v with
      sent := some (s.ownFrame (s.unitSettings v).address d.body), attempts := 1,
      replyTimer := some (s.unitSettings v).replyTimeout.toNat }).setPath
        (s.pathWith v d.kind.code d.token d.link d.key.toNat) := by
  unfold State.transmit State.pathWith
  rw [offerInjected_eq, ← inject_sends, State.inject, directive_body]
  refine congrArg (State.setPath · _) ?_
  exact offerInjected_path (t := State.setUnit v _ s) (s := s) rfl ..

/-- R155: UNIT-RELEASE as a whole. -/
theorem releaseUnit_eq (s : State) (v : UnitIx) : s.releaseUnit v =
    ((s.advanceToken).setUnit v { s.unit v with
      state := some .releasing, releaseTimer := some (s.unitSettings v).releaseTime.toNat, deepTimer := none }).setPath
        (s.pathWith v 5 s.token 0 0) := by
  unfold State.releaseUnit State.pathWith
  rw [State.inject, offerInjected_eq, ← inject_sends, State.inject, directive_body]
  refine congrArg (State.setPath · _) ?_
  exact offerInjected_path (t := State.setUnit v _ s.advanceToken) (s := s) rfl ..

/-- What is sent depends on none of the tokens and units. -/
theorem pathWith_setUnit (s : State) (w v : UnitIx) (x : RadioUnit) (code token link key : Nat) :
    (s.setUnit w x).pathWith v code token link key = s.pathWith v code token link key :=
  offerInjected_path (s := s) (t := s.setUnit w x) rfl ..

theorem pathWith_advanceToken (s : State) (v : UnitIx) (code token link key : Nat) :
    s.advanceToken.pathWith v code token link key = s.pathWith v code token link key :=
  offerInjected_path (s := s) (t := s.advanceToken) rfl ..

/-- A frame sent to a unit leaves the trunk's queue and every other branch queue. -/
theorem pathWith_trunkQueue (s : State) (v : UnitIx) (code token link key : Nat) :
    (s.pathWith v code token link key).trunkQueue = s.path.trunkQueue := by
  simp only [State.pathWith, State.sends, State.offerInjected]
  split <;> rfl

theorem transmit_toldAs (s : State) (v : UnitIx) (d : Directive) : ToldAs s (s.transmit v d) := by
  rw [transmit_eq]; exact ⟨rfl, pathWith_trunkQueue .., rfl⟩

theorem releaseUnit_toldAs (s : State) (v : UnitIx) : ToldAs s (s.releaseUnit v) := by
  rw [releaseUnit_eq]; exact ⟨rfl, pathWith_trunkQueue .., rfl⟩

theorem transmit_headSent (s : State) (v : UnitIx) (d : Directive) : HeadSent v d s (s.transmit v d) := by
  rw [transmit_eq]
  exact ⟨by simp [State.unit, State.setUnit], by simp [State.unit, State.setUnit], by simp [State.unit, State.setUnit], rfl⟩

theorem transmit_unit_other (s : State) (d : Directive) (other : w ≠ v) : (s.transmit v d).unit w = s.unit w := by
  rw [transmit_eq]
  simp [State.unit, State.setUnit, Fin.val_inj, other.symm]

theorem transmit_unit_same (s : State) (v : UnitIx) (d : Directive) : (s.transmit v d).unit v = { s.unit v with
    sent := ((s.transmit v d).unit v).sent, attempts := ((s.transmit v d).unit v).attempts,
    replyTimer := ((s.transmit v d).unit v).replyTimer } := by
  rw [transmit_eq]
  simp [State.unit, State.setUnit]

/-! ## Directives for carriers -/

/-- R145: the directive that a carrier is handed. -/
def State.directiveFor (s : State) (kind : DirectiveKind) (c : CarrierIx) : Directive :=
  { kind := kind, carrier := some c, token := s.token, link := (s.unit (s.unitOf c)).linkOf c, key := (s.config c).key }

/-- R145: the state once a unit's queue has taken a directive. -/
def State.queued (s : State) (kind : DirectiveKind) (c : CarrierIx) : State :=
  (s.advanceToken).setUnit (s.unitOf c)
    { s.unit (s.unitOf c) with queue := (s.unit (s.unitOf c)).queue ++ [s.directiveFor kind c] }

/-- R145: all that handing on a directive can do. -/
theorem handDirective_eq (used : (s.unit (s.unitOf c)).state ≠ none)
    (reachable : (s.unit (s.unitOf c)).state ≠ some .unreachable) : s.handDirective kind c =
      some (if (s.unit (s.unitOf c)).state = some .deep then (s.queued kind c).releaseUnit (s.unitOf c)
        else s.queued kind c) := by
  simp only [State.handDirective]
  split <;> simp_all [State.queued, State.directiveFor]

/-- R144: the link number of a directive is the lowest that the carrier holds. -/
theorem linkOf_eq {x : RadioUnit} {l : Fin 4} (holds : x.map[l] = some c)
    (lowest : ∀ m : Fin 4, m < l → x.map[m] ≠ some c) : x.linkOf c = l.val := by
  have found : (List.finRange 4).find? (fun l => x.map[l] == some c) = some l := by
    rw [← List.ofFn_id, List.find?_ofFn_eq_some]
    exact ⟨by simpa using holds, l, rfl, fun m lt => by simpa using lowest m lt⟩
  rw [RadioUnit.linkOf, found]; rfl

theorem queued_unit_same (s : State) (kind : DirectiveKind) (c : CarrierIx) : (s.queued kind c).unit (s.unitOf c) =
    { s.unit (s.unitOf c) with queue := (s.unit (s.unitOf c)).queue ++ [s.directiveFor kind c] } := by
  simp [State.queued, State.unit, State.setUnit]

theorem queued_unit_other (s : State) (kind : DirectiveKind) (other : v ≠ s.unitOf c) :
    (s.queued kind c).unit v = s.unit v := by
  simp [State.queued, State.unit, State.setUnit, Fin.val_inj, other.symm]

theorem queued_toldAs (s : State) (kind : DirectiveKind) (c : CarrierIx) : ToldAs s (s.queued kind c) := ⟨rfl, rfl, rfl⟩

theorem releaseUnit_unit_other (s : State) (other : w ≠ v) : (s.releaseUnit v).unit w = s.unit w := by
  rw [releaseUnit_eq]
  simp [State.unit, State.setUnit, Fin.val_inj, other.symm]

theorem keeps_queued (s : State) (kind : DirectiveKind) (c : CarrierIx) : Keeps s (s.queued kind c) :=
  (keeps_advanceToken s).trans (keeps_setUnit s.advanceToken _ _ rfl rfl)

/-! ## The head of a unit's queue -/

theorem sendHead_of_busy (busy : (s.unit v).state ≠ some .up ∨ (s.unit v).sent ≠ none) : sendHeadEffect v s = (s, []) :=
  if_neg fun idle => busy.elim (· idle.1) (· idle.2)

theorem sendHead_of_empty (empty : (s.unit v).queue = []) : sendHeadEffect v s = (s, []) := by
  unfold sendHeadEffect
  dsimp only
  split
  · rw [empty]
  · rfl

theorem sendHead_of_head {d : Directive} {rest : List Directive} (up : (s.unit v).state = some .up)
    (idle : (s.unit v).sent = none) (head : (s.unit v).queue = d :: rest)
    (may : d.kind = .carrierDeepen → s.mayDeepen = true) : sendHeadEffect v s = (s.transmit v d, []) := by
  unfold sendHeadEffect
  simp only [up, idle, head, and_self, if_true]
  refine if_neg fun stays => ?_
  have := may stays.1
  simp [this] at stays

theorem sendHead_of_withdrawn {d : Directive} {rest : List Directive} (up : (s.unit v).state = some .up)
    (idle : (s.unit v).sent = none) (head : (s.unit v).queue = d :: rest) (deepen : d.kind = .carrierDeepen)
    (carrier : d.carrier = some c) (may : s.mayDeepen = false) :
    sendHeadEffect v s = (s.setUnit v { s.unit v with queue := rest }, [.withdrawn c, .sendHead v]) := by
  unfold sendHeadEffect
  simp [up, idle, head, deepen, carrier, may]

theorem mayDeepen_iff : s.mayDeepen = true ↔ s.engine.mode = .acting ∧ s.trunkLost = false := by
  simp [State.mayDeepen]

/-! ## The unit deep timer -/

theorem deepReady_iff : s.deepReady v = true ↔ (s.unit v).state = some .up ∧
    (∃ c, s.isManaged c = true ∧ s.unitOf c = v) ∧
      ∀ c, s.isManaged c = true → s.unitOf c = v → s.lifeState c = .slumber := by
  simp only [State.deepReady, Bool.and_eq_true, beq_iff_eq, Bool.not_eq_true', List.isEmpty_eq_false_iff_exists_mem,
    List.all_eq_true, mem_unitCarriers, and_assoc, and_imp]

/-- R153, R154: what lets the unit deep timer send UNIT-DEEP. -/
def State.mayGoDeep (s : State) (v : UnitIx) : Prop :=
  (s.unit v).queue = [] ∧ (s.unit v).sent = none ∧ (s.unitSettings v).deepPermitted = 1#8 ∧ s.mayDeepen = true

theorem deepExpire_of_may (ready : s.deepReady v = true) (may : s.mayGoDeep v) : s.deepExpire v =
    ((s.advanceToken).setUnit v { s.unit v with
      state := some .deepPending, queue := [s.unitDirective .unitDeep], deepTimer := none }).transmit v
        (s.unitDirective .unitDeep) := by
  obtain ⟨empty, idle, permitted, acting⟩ := may
  exact if_pos (by simp [ready, empty, idle, permitted, acting])

theorem deepExpire_of_not (not : ¬(s.deepReady v = true ∧ s.mayGoDeep v)) : s.deepExpire v =
    s.setUnit v { s.unit v with deepTimer := some ((s.unitSettings v).deepDelay.toNat * 1000) } := by
  refine if_neg fun all => not ?_
  simp only [Bool.and_eq_true, List.isEmpty_iff, Option.isNone_iff_eq_none, beq_iff_eq] at all
  obtain ⟨⟨⟨⟨ready, empty⟩, idle⟩, permitted⟩, acting⟩ := all
  exact ⟨ready, empty, idle, permitted, acting⟩

/-- R154: UNIT-DEEP as it is sent. -/
theorem deepSent (s : State) (v : UnitIx) :
    let d := s.unitDirective .unitDeep
    let t := ((s.advanceToken).setUnit v { s.unit v with state := some .deepPending, queue := [d], deepTimer := none }).transmit v d
    HeadSent v d s t ∧ ToldAs s t ∧ t.carriers = s.carriers ∧ t.wakeQueue = s.wakeQueue ∧
      t.token = (if s.token < 255 then s.token + 1 else 1) ∧ (∀ w, w ≠ v → t.unit w = s.unit w) ∧
      t.path = (s.sends (.branch v) (s.unitSettings v).address (directiveLayout 4 s.token 0 0)).path ∧
      t.unit v = { s.unit v with
        state := some .deepPending, queue := [d], sent := (t.unit v).sent, attempts := (t.unit v).attempts,
        replyTimer := (t.unit v).replyTimer, deepTimer := none } := by
  intro d t
  have made : t = _ := transmit_eq ..
  rw [pathWith_setUnit, pathWith_advanceToken] at made
  refine ⟨⟨?_, ?_, ?_, congrArg FramePath.branchQueues (by rw [made]; rfl)⟩, ⟨?_, ?_, ?_⟩, ?_, ?_, ?_, fun w other => ?_,
    ?_, ?_⟩
  all_goals rw [made]
  · simp [State.unit, State.setUnit]
  · simp [State.unit, State.setUnit]
  · simp [State.unit, State.setUnit]; rfl
  · rfl
  · exact pathWith_trunkQueue ..
  · rfl
  · rfl
  · rfl
  · rfl
  · simp [State.unit, State.setUnit, Fin.val_inj, other.symm]
  · rfl
  · simp [State.unit, State.setUnit]

/-- Settles O36: by whether every condition of R153 and R154 holds. -/
theorem unitDeepTimerExpiry : Obligations.UnitDeepTimerExpiry := by
  unfold Obligations.UnitDeepTimerExpiry
  intro u s running timer may
  have meaning : exec (.unitDeepTimerExpires u) s = .next (s.deepExpire u) :=
    congrArg Host.Outcome.next (if_pos ⟨running, Option.isSome_iff_ne_none.mpr timer⟩)
  have conditions : may ↔ s.deepReady u = true ∧ s.mayGoDeep u := by
    simp only [may, deepReady_iff, State.mayGoDeep, mayDeepen_iff]
    tauto
  rw [meaning]
  refine ⟨fun all => ?_, fun missing => by rw [deepExpire_of_not (mt conditions.mpr missing)]⟩
  obtain ⟨ready, goes⟩ := conditions.mp all
  obtain ⟨⟨sent, attempts, -⟩, -, carriers, -, token, others, path, unit⟩ := deepSent s u
  refine ⟨_, s.unitDirective .unitDeep, rfl, keeps_deepExpire s u, ?_⟩
  rw [deepExpire_of_may ready goes]
  exact ⟨carriers, by rw [unit], by rw [unit], rfl, rfl, sent, attempts, by rw [unit], path, token, others⟩

/-! ## The deepen decision -/

/-- What the part sends into a branch egress queue depends on that queue and on what an event keeps. -/
theorem sends_branchQueues (k : Keeps s t) (same : t.path.branchQueues = s.path.branchQueues) (v : UnitIx)
    (body : List (Nat × Nat)) :
    (t.sends (.branch v) (t.unitSettings v).address body).path.branchQueues =
      (s.sends (.branch v) (s.unitSettings v).address body).path.branchQueues := by
  have link : t.path.linkUp (.branch v) = s.path.linkUp (.branch v) := by simp only [FramePath.linkUp, k.branchUp]
  simp only [State.sends, State.offerInjected, link, State.unitSettings, k.unitConfig, k.stationAddress, k.settings]
  split
  · simp [FramePath.setQueue, FramePath.queue, same]
  · exact same

/-- R146: what is sent is the same before an event that leaves the branch egress queues alone. -/
theorem HeadSent.before {u : State} {d : Directive} (h : HeadSent v d t u) (k : Keeps s t)
    (same : t.path.branchQueues = s.path.branchQueues) : HeadSent v d s u := by
  obtain ⟨sent, attempts, timer, queues⟩ := h
  refine ⟨sent, attempts, ?_, queues.trans (sends_branchQueues k same v _)⟩
  rw [timer, State.unitSettings, k.unitConfig]
  rfl

/-- R112, R115: a carrier that enters a state other than SLUMBER and QUEUED, and the notice of it. -/
theorem moveAndTell_quiet {new : LifeState} (alike : Alike s t) (same : t.lifeState c = s.lifeState c)
    (unqueued : t.lifeState c ≠ .queued) (old : t.lifeState c ≠ .slumber) (h : new ≠ .slumber)
    (allowed : MoveAllowed t c new) (cause : Cause) :
    ToldAs (s.tells c (s.lifeState c) new cause cause.origin) (t.moveAndTell c new cause) ∧
      Alone c t (t.moveAndTell c new cause) := by
  have alone := alone_moveTo unqueued old h allowed
  have quiet : ToldAs t (t.moveTo c new) := (moveTo_carriersOnly unqueued old h).toldAs
  refine ⟨?_, alone.trans (alone_notifyState ..)⟩
  rw [← same]
  exact ((alike.silent alone.keeps quiet).notifyState ..).toToldAs

/-- R74, R78, R127: a carrier that stays on the lists it is on. -/
theorem movePlaces_of_same_lists {old new : LifeState} (drain : old.isDrain = true → new.isDrain = true)
    (sleeper : old.isSleeper = new.isSleeper) (unqueued : old ≠ .queued) (s : State) : s.movePlaces c old new = s := by
  have stays : (old.isDrain && !new.isDrain) = false := by
    cases h : old.isDrain
    · rfl
    · simp [drain h]
  simp [State.movePlaces, stays, sleeper, unqueued]

/-- R97: nothing of another carrier is touched by a move that changes no list. -/
theorem moveTo_other_of_same_lists {e : CarrierIx} {new : LifeState} (drain : (s.lifeState c).isDrain = true → new.isDrain = true)
    (sleeper : (s.lifeState c).isSleeper = new.isSleeper) (unqueued : s.lifeState c ≠ .queued) (other : e ≠ c) :
    (s.moveTo c new).carrier e = s.carrier e := by
  have cover : (s.moveTo c new).cover e = s.cover e := by
    rw [moveTo_cover, movePlaces_of_same_lists drain sleeper unqueued]
  rw [moveTo_other s c e new other]
  exact congrArg (fun x => { s.carrier e with cover := x }) cover

/-- R145: a unit whose queue has taken a directive, and what it has made of it. -/
theorem handed_of (h : s.handDirective kind c = some t) : (s.unit (s.unitOf c)).state ≠ none ∧
    (s.unit (s.unitOf c)).state ≠ some .unreachable ∧
      t = if (s.unit (s.unitOf c)).state = some .deep then (s.queued kind c).releaseUnit (s.unitOf c)
        else s.queued kind c := by
  have used : (s.unit (s.unitOf c)).state ≠ none := fun unused => by
    rw [handDirective_of_untaken (.inl unused)] at h
    cases h
  have reachable : (s.unit (s.unitOf c)).state ≠ some .unreachable := fun silent => by
    rw [handDirective_of_untaken (.inr silent)] at h
    cases h
  rw [handDirective_eq used reachable] at h
  exact ⟨used, reachable, (Option.some.inj h).symm⟩

/-- R145: what a unit's queue takes changes nothing that is told at T, and nobody's place in the wake queue. -/
theorem handed_toldAs (h : s.handDirective kind c = some t) : ToldAs s t ∧ t.wakeQueue = s.wakeQueue := by
  obtain ⟨-, -, rfl⟩ := handed_of h
  split
  · exact ⟨(queued_toldAs s kind c).trans (releaseUnit_toldAs ..), by rw [releaseUnit_eq]; rfl⟩
  · exact ⟨queued_toldAs s kind c, rfl⟩

/-- R115, R145: what the deepen decision has done before the head of the unit's queue is considered. -/
structure Deepening (c : CarrierIx) (s handed t : State) : Prop where
  state : t.lifeState c = .deepening
  told : ToldAs (s.tells c .doze .deepening .deepen .timed) t
  carriers : ∀ e, e ≠ c → t.carrier e = s.carrier e
  wakeQueue : t.wakeQueue = s.wakeQueue
  units : t.units = handed.units
  branches : t.path.branchQueues = handed.path.branchQueues
  keeps : Keeps s t

theorem deepening_of_handed (due : s.deepenDue c = true) (h : s.handDirective .carrierDeepen c = some t) :
    Deepening c s t (t.moveAndTell c .deepening .deepen) := by
  have doze : s.lifeState c = .doze := by
    simp only [State.deepenDue, Bool.and_eq_true, beq_iff_eq] at due
    exact due.1.1.1.1
  have carriers := handDirective_carriers h
  have same : t.lifeState c = s.lifeState c := lifeState_of_carriers carriers c
  have dozes : t.lifeState c = .doze := same.trans doze
  obtain ⟨quiet, wakeQueue⟩ := handed_toldAs h
  have allowed : MoveAllowed t c .deepening := moveAllowed_sleeper (by rw [dozes]; rfl) rfl
  obtain ⟨told, alone⟩ := moveAndTell_quiet ((Alike.refl s).silent (keeps_handDirective h) quiet) same
    (by simp [dozes]) (by simp [dozes]) (by decide) allowed .deepen
  rw [doze] at told
  refine ⟨by rw [moveAndTell_lifeState, if_pos rfl], told, fun e other => ?_, alone.wakeQueue.trans wakeQueue, alone.units,
    alone.branches, (keeps_handDirective h).trans alone.keeps⟩
  · calc (t.moveAndTell c .deepening .deepen).carrier e
      _ = (t.moveTo c .deepening).carrier e := (tells_notifyState ..).carrier e
      _ = t.carrier e := moveTo_other_of_same_lists (by rw [dozes]; decide) (by rw [dozes]; rfl) (by simp [dozes]) other
      _ = s.carrier e := by rw [State.carrier, State.carrier, carriers]

/-- R115: a carrier for which a condition fails, or whose unit takes no directive, is not moved. -/
theorem deepenEffect_of_not (h : s.deepenDue c = false ∨ (s.unit (s.unitOf c)).state = none ∨
    (s.unit (s.unitOf c)).state = some .unreachable) : deepenEffect c s = (s, []) := by
  unfold deepenEffect
  rcases h with undue | untaken
  · simp [undue]
  · simp [handDirective_of_untaken untaken]

/-- R115, R146: the deepen decision as a whole, where considering the head of the queue hands on nothing. -/
theorem finish_deepenEffect (due : s.deepenDue c = true) (h : s.handDirective .carrierDeepen c = some t)
    (last : (sendHeadEffect (s.unitOf c) (t.moveAndTell c .deepening .deepen)).2 = []) :
    (deepenEffect c s).finish = (sendHeadEffect (s.unitOf c) (t.moveAndTell c .deepening .deepen)).1 := by
  have effect : deepenEffect c s = (t.moveAndTell c .deepening .deepen, [.sendHead (s.unitOf c)]) := by
    simp [deepenEffect, due, h]
  rw [effect, Effect.finish, work_singleton (k := .sendHead (s.unitOf c)) last]
  rfl

/-- Settles O32: by the decision's conditions, then by what the unit does at the time. -/
theorem deepenDelayReached : Obligations.DeepenDelayReached := by
  unfold Obligations.DeepenDelayReached
  intro c s running u delay due may toUnit
  have meaning : exec (.deepenDelayReached c) s = .next (deepenEffect c s).finish :=
    congrArg Host.Outcome.next (if_pos running)
  rw [meaning]
  refine ⟨fun missing => ?_, ?_⟩
  · have stays : deepenEffect c s = (s, []) := by
      refine deepenEffect_of_not ?_
      by_contra all
      simp only [not_or, Bool.not_eq_false, deepenDue_iff] at all
      obtain ⟨⟨doze, delayed, elapsed, member, acting, trunk⟩, used, reachable⟩ := all
      exact missing ⟨⟨doze, delayed, elapsed⟩, member, acting, trunk, used, reachable⟩
    rw [stays]
    rfl
  · rintro ⟨doze, delayed, elapsed⟩ ⟨member, acting, trunk, used, reachable⟩ waits
    have isDue : s.deepenDue c = true := deepenDue_iff.mpr ⟨doze, delayed, elapsed, member, acting, trunk⟩
    obtain ⟨handed, taken⟩ : ∃ t, s.handDirective .carrierDeepen c = some t := ⟨_, handDirective_eq used reachable⟩
    have begun := deepening_of_handed isDue taken
    have whole := finish_deepenEffect isDue taken
    obtain ⟨-, -, made⟩ := handed_of taken
    have kept := keeps_finish _ (keeps_deepenEffect c s)
    have unit (v : UnitIx) : (handed.moveAndTell c .deepening .deepen).unit v = handed.unit v := by
      rw [State.unit, begun.units, State.unit]
    by_cases idle : (s.unit u).state = some .up ∧ (s.unit u).sent = none
    · obtain ⟨up, unsent⟩ := idle
      rw [if_neg (by rw [up]; decide)] at made
      have atUnit := queued_unit_same s .carrierDeepen c
      rw [← made, ← unit] at atUnit
      have may' : (handed.moveAndTell c .deepening .deepen).mayDeepen = true := by
        rw [mayDeepen_iff, begun.keeps.mode, begun.keeps.trunkLost]
        exact ⟨acting, trunk⟩
      have sent := sendHead_of_head (v := u) (by rw [atUnit]; exact up) (by rw [atUnit]; exact unsent)
        (by rw [atUnit]; exact congrArg (· ++ [_]) (waits up unsent)) (fun _ => may')
      rw [whole (by rw [sent])] at kept ⊢
      rw [sent] at kept ⊢
      obtain ⟨outstanding, -, -, queues⟩ := (transmit_headSent (handed.moveAndTell c .deepening .deepen) u
        (s.directiveFor .carrierDeepen c)).before begun.keeps (begun.branches.trans (by rw [made]; rfl))
      have sameUnit := transmit_unit_same (handed.moveAndTell c .deepening .deepen) u (s.directiveFor .carrierDeepen c)
      refine ⟨_, s.directiveFor .carrierDeepen c, rfl, kept, ?_, begun.told.trans (transmit_toldAs ..), ?_, ?_, ?_, rfl, rfl,
        rfl, rfl, fun l holds lowest => linkOf_eq holds lowest, fun _ => outstanding, fun _ _ => queues, ?_, ?_⟩
      · rw [lifeState_of_carriers (transmit_carriers ..), begun.state]
      · intro e other
        rw [← begun.carriers e other, State.carrier, State.carrier, transmit_carriers]
      · rw [transmit_eq]
        exact begun.wakeQueue
      · rw [sameUnit, atUnit]
      · intro deep
        rw [up] at deep
        cases deep
      · exact fun _ busy => absurd ⟨up, unsent⟩ busy
    · have atUnit : ((handed.moveAndTell c .deepening .deepen).unit u).queue = (s.unit u).queue ++ [s.directiveFor .carrierDeepen c] ∧
          ((handed.moveAndTell c .deepening .deepen).unit u).sent = (s.unit u).sent ∧
          ((handed.moveAndTell c .deepening .deepen).unit u).state =
            if (s.unit u).state = some .deep then some .releasing else (s.unit u).state := by
        rw [unit, made]
        split
        · rw [releaseUnit_unit, queued_unit_same]
          exact ⟨rfl, rfl, rfl⟩
        · rw [queued_unit_same]
          exact ⟨rfl, rfl, rfl⟩
      obtain ⟨queue, sent, state⟩ := atUnit
      have busy := sendHead_of_busy (s := handed.moveAndTell c .deepening .deepen) (v := u) (by
        rw [state, sent]
        by_cases up : (s.unit u).state = some .up
        · exact .inr fun unsent => idle ⟨up, unsent⟩
        · refine .inl ?_
          split
          · decide
          · exact up)
      rw [whole (by rw [busy])] at kept ⊢
      rw [busy] at kept ⊢
      refine ⟨_, s.directiveFor .carrierDeepen c, rfl, kept, begun.state, begun.told, begun.carriers, begun.wakeQueue, queue,
        rfl, rfl, rfl, rfl, fun l holds lowest => linkOf_eq holds lowest, fun up => ?_, fun up unsent => absurd ⟨up, unsent⟩ idle,
        fun deep => ⟨by rw [state, if_pos deep], ?_⟩, fun undeep _ => ?_⟩
      · rw [sent]
        exact fun unsent => idle ⟨up, unsent⟩
      · rw [begun.branches, made, if_pos deep, releaseUnit_eq]
        exact sends_branchQueues (s := s) (t := s.queued .carrierDeepen c) (keeps_queued ..) rfl u _
      · rw [begun.branches, made, if_neg undeep]
        rfl

end Sys2Proof.Machine
end

section
/-! PROOFS. A unit that awaits no reply: the head of its queue is considered and its deep timer tested (R116, R146, R153). -/

namespace Sys2Proof.Machine

variable {s t u : State} {c d : CarrierIx} {v w : UnitIx} {cls : WakeClass} {depth : Depth} {cause : Cause}

/-! ## One carrier that changes its state -/

/-- From `s` to `t` nothing of a carrier other than `c` has changed beside its coverage part, and no radio unit, token or
branch egress queue: `Alone` but for the wake queue. -/
structure Single (c : CarrierIx) (s t : State) : Prop where
  others : ∀ d, d ≠ c → t.carrier d = { s.carrier d with cover := (t.carrier d).cover }
  units : t.units = s.units
  token : t.token = s.token
  branches : t.path.branchQueues = s.path.branchQueues
  keeps : Keeps s t

theorem Single.trans (h : Single c s t) (k : Single c t u) : Single c s u where
  others d other := by rw [k.others d other, h.others d other]
  units := k.units.trans h.units
  token := k.token.trans h.token
  branches := k.branches.trans h.branches
  keeps := h.keeps.trans k.keeps

theorem Alone.single (h : Alone c s t) : Single c s t := ⟨h.others, h.units, h.token, h.branches, h.keeps⟩

theorem Single.lifeState (h : Single c s t) (other : d ≠ c) : t.lifeState d = s.lifeState d := by
  rw [State.lifeState, h.others d other, State.lifeState]

theorem Single.unit (h : Single c s t) (v : UnitIx) : t.unit v = s.unit v := by rw [State.unit, h.units, State.unit]

/-- R123, R126: a carrier that is queued, and the notice of it. -/
theorem told_enterQueued (unqueued : s.lifeState c ≠ .queued) (old : s.lifeState c ≠ .slumber)
    (managed : s.isManaged c = true) (cls : WakeClass) (depth : Depth) (cause : Cause) :
    Alike (s.tells c (s.lifeState c) .queued cause cause.origin) (s.enterQueued c cls depth cause) ∧
      Single c s (s.enterQueued c cls depth cause) := by
  have moved := alone_moveTo unqueued old (new := .queued) (by decide) (moveAllowed_awake managed (by decide) rfl)
  have quiet : ToldAs s (s.moveTo c .queued) := (moveTo_carriersOnly unqueued old (by decide)).toldAs
  have placed (q : WakeQueue) : Single c (s.moveTo c .queued) ((s.moveTo c .queued).setWakeQueue q) :=
    ⟨fun _ _ => rfl, rfl, rfl, rfl, keeps_setWakeQueue ..⟩
  have alike (q : WakeQueue) : Alike s ((s.moveTo c .queued).setWakeQueue q) :=
    ((Alike.refl s).silent moved.keeps quiet).silent (keeps_setWakeQueue _ q) ⟨rfl, rfl, rfl⟩
  unfold State.enterQueued
  exact ⟨(alike _).notifyState .., (moved.single.trans (placed _)).trans (alone_notifyState ..).single⟩

theorem moveAndTell_life (s : State) (c : CarrierIx) (new : LifeState) (cause : Cause) :
    ((s.moveAndTell c new cause).carrier c).life = (s.carrier c).life.enter new (s.profileOf c) := by
  rw [State.moveAndTell, (tells_notifyState ..).carrier, (moveTo_carrier s c new).1]

theorem enterQueued_life (s : State) (c : CarrierIx) (cls : WakeClass) (depth : Depth) (cause : Cause) :
    ((s.enterQueued c cls depth cause).carrier c).life = (s.carrier c).life.enter .queued (s.profileOf c) := by
  rw [State.enterQueued, (tells_notifyState ..).carrier, State.setWakeQueue_at_carrier, (moveTo_carrier s c .queued).1]

/-- Only a carrier in WARMUP holds a slot. -/
theorem enterQueued_warmups (unheld : s.lifeState c ≠ .warmup) :
    (s.enterQueued c cls depth cause).warmups = s.warmups := by
  have moved := warmups_of_move (s := s) (c := c) (new := .queued) (enterQueued_lifeState s c · cls depth cause)
  simpa [unheld] using moved

/-! ## The unit deep timer -/

theorem State.setUnit_self (s : State) (v : UnitIx) : s.setUnit v (s.unit v) = s := by
  simp [State.setUnit, State.unit]

theorem deepTest_of_not (not : ¬(s.deepReady v = true ∧ (s.unit v).deepTimer = none)) : s.deepTest v = s :=
  if_neg (by simpa using not)

theorem deepTest_of_starts (ready : s.deepReady v = true) (stopped : (s.unit v).deepTimer = none)
    (h : (s.unitSettings v).deepDelay.toNat ≠ 0 ∨ ¬s.mayGoDeep v) : s.deepTest v =
      s.setUnit v { s.unit v with deepTimer := some ((s.unitSettings v).deepDelay.toNat * 1000) } := by
  refine (if_pos (by simp [ready, stopped])).trans ?_
  split
  · rename_i zero
    refine deepExpire_of_not fun all => ?_
    have : (s.unitSettings v).deepDelay.toNat = 0 := by
      have : (s.unitSettings v).deepDelay.toNat * 1000 = 0 := zero
      omega
    exact h.elim (· this) (· all.2)
  · rfl

theorem deepTest_of_goes (ready : s.deepReady v = true) (stopped : (s.unit v).deepTimer = none)
    (zero : (s.unitSettings v).deepDelay.toNat = 0) (goes : s.mayGoDeep v) : s.deepTest v =
      ((s.advanceToken).setUnit v { s.unit v with
        state := some .deepPending, queue := [s.unitDirective .unitDeep], deepTimer := none }).transmit v
          (s.unitDirective .unitDeep) := by
  refine (if_pos (by simp [ready, stopped])).trans ?_
  rw [if_pos (by rw [State.deepDelay, zero]), deepExpire_of_may ready goes]

/-- R153: where UNIT-DEEP may not be sent the test sets the timer, or nothing. -/
theorem deepTest_timer (h : ¬s.mayGoDeep v) : ∃ timer, s.deepTest v = s.setUnit v { s.unit v with deepTimer := timer } ∧
    (s.deepReady v = true → (s.unit v).deepTimer = none →
      timer = some ((s.unitSettings v).deepDelay.toNat * 1000)) ∧
    (¬(s.deepReady v = true ∧ (s.unit v).deepTimer = none) → timer = (s.unit v).deepTimer) := by
  by_cases starts : s.deepReady v = true ∧ (s.unit v).deepTimer = none
  · exact ⟨_, deepTest_of_starts starts.1 starts.2 (.inr h), fun _ _ => rfl, fun not => absurd starts not⟩
  · exact ⟨_, (deepTest_of_not starts).trans (State.setUnit_self ..).symm, fun ready stopped => absurd ⟨ready, stopped⟩ starts,
      fun _ => rfl⟩

theorem setTimer_headSent {d : Directive} (h : HeadSent v d s t) (timer : Option Nat) :
    HeadSent v d s (t.setUnit v { t.unit v with deepTimer := timer }) := by
  obtain ⟨sent, attempts, reply, queues⟩ := h
  refine ⟨?_, ?_, ?_, queues⟩ <;> rwa [State.setUnit_unit, if_pos rfl]

/-- R153: the three conditions of an UP unit. -/
theorem starts_iff (up : (s.unit v).state = some .up) :
    ((∃ c, s.isManaged c = true ∧ s.unitOf c = v) ∧
        (∀ c, s.isManaged c = true → s.unitOf c = v → s.lifeState c = .slumber) ∧ (s.unit v).deepTimer = none) ↔
      s.deepReady v = true ∧ (s.unit v).deepTimer = none := by
  simp [deepReady_iff, up, and_assoc]

theorem deepReady_transmit (s : State) (v : UnitIx) (d : Directive) : (s.transmit v d).deepReady v = s.deepReady v := by
  have states (c : CarrierIx) : (s.transmit v d).lifeState c = s.lifeState c := lifeState_of_carriers (transmit_carriers ..) c
  have kept := keeps_transmit s v d
  have carriers : (s.transmit v d).unitCarriers v = s.unitCarriers v := by
    simp only [State.unitCarriers, kept.managed, State.unitOf, kept.config]
  rw [State.deepReady, State.deepReady, carriers, transmit_unit_same]
  simp only [states]

/-! ## The head and the test -/

/-- R146, R153: a head that may be sent. -/
theorem work_head_sent {d : Directive} {rest : List Directive} (up : (s.unit v).state = some .up)
    (idle : (s.unit v).sent = none) (head : (s.unit v).queue = d :: rest)
    (may : d.kind = .carrierDeepen → s.mayDeepen = true) :
    s.work [.sendHead v, .deepTest v] = (s.transmit v d).deepTest v := by
  have sent := sendHead_of_head up idle head may
  refine work_eq (by simp [costs, Task.cost]) (.cons (t := s.transmit v d) ?_ (done_of_alone (k := .deepTest v) rfl))
  change Done (sendHeadEffect v s).2 (sendHeadEffect v s).1 _
  rw [sent]
  exact .nil _

/-- R153: with nothing waiting the test alone is made. -/
theorem work_head_empty (empty : (s.unit v).queue = []) : s.work [.sendHead v, .deepTest v] = s.deepTest v := by
  refine work_eq (by simp [costs, Task.cost]) (.cons (t := s) ?_ (done_of_alone (k := .deepTest v) rfl))
  change Done (sendHeadEffect v s).2 (sendHeadEffect v s).1 _
  rw [sendHead_of_empty empty]
  exact .nil _

theorem headConsidered_sends {d : Directive} {rest : List Directive} (up : (s.unit v).state = some .up)
    (idle : (s.unit v).sent = none) (head : (s.unit v).queue = d :: rest)
    (may : d.kind = .carrierDeepen → s.engine.mode = .acting ∧ s.trunkLost = false) :
    let t := s.work [.sendHead v, .deepTest v]
    let starts := (∃ c, s.isManaged c = true ∧ s.unitOf c = v) ∧
      (∀ c, s.isManaged c = true → s.unitOf c = v → s.lifeState c = .slumber) ∧ (s.unit v).deepTimer = none
    HeadSent v d s t ∧ ToldAs s t ∧ t.carriers = s.carriers ∧ t.wakeQueue = s.wakeQueue ∧ t.token = s.token ∧
      (∀ w, w ≠ v → t.unit w = s.unit w) ∧
      t.unit v = { s.unit v with sent := (t.unit v).sent, attempts := (t.unit v).attempts,
                                 replyTimer := (t.unit v).replyTimer, deepTimer := (t.unit v).deepTimer } ∧
      (starts → (t.unit v).deepTimer = some ((s.unitSettings v).deepDelay.toNat * 1000)) ∧
      (¬starts → (t.unit v).deepTimer = (s.unit v).deepTimer) := by
  intro t starts
  have same : (s.transmit v d).unit v = _ := transmit_unit_same s v d
  have busy : ¬(s.transmit v d).mayGoDeep v := fun goes => by
    have empty := goes.1
    rw [same, head] at empty
    cases empty
  obtain ⟨timer, made, starting, left⟩ := deepTest_timer busy
  rw [← work_head_sent up idle head fun deepen => mayDeepen_iff.mpr (may deepen)] at made
  change t = _ at made
  rw [deepReady_transmit, same, State.unitSettings, (keeps_transmit s v d).unitConfig] at starting
  rw [deepReady_transmit, same] at left
  have unit : t.unit v = { (s.transmit v d).unit v with deepTimer := timer } := by
    rw [made, State.setUnit_unit, if_pos rfl]
  refine ⟨?_, ?_, ?_, ?_, ?_, fun w other => ?_, by rw [unit, same], fun go => ?_, fun stay => ?_⟩
  · rw [made]
    exact setTimer_headSent (transmit_headSent s v d) timer
  · rw [made]
    exact (transmit_toldAs s v d).trans ⟨rfl, rfl, rfl⟩
  · rw [made]
    exact transmit_carriers ..
  · rw [made, transmit_eq]
    rfl
  · rw [made, transmit_eq]
    rfl
  · rw [made, State.setUnit_unit, if_neg other, transmit_unit_other s d other]
  · rw [unit]
    obtain ⟨ready, stopped⟩ := (starts_iff up).mp go
    exact starting ready stopped
  · rw [unit]
    exact left (mt (starts_iff up).mpr stay)

/-- R153, R154: with nothing waiting. -/
theorem headConsidered_rests (up : (s.unit v).state = some .up) (idle : (s.unit v).sent = none)
    (empty : (s.unit v).queue = []) :
    let t := s.work [.sendHead v, .deepTest v]
    let starts := (∃ c, s.isManaged c = true ∧ s.unitOf c = v) ∧
      (∀ c, s.isManaged c = true → s.unitOf c = v → s.lifeState c = .slumber) ∧ (s.unit v).deepTimer = none
    let may := (s.unitSettings v).deepPermitted = 1#8 ∧ s.engine.mode = .acting ∧ s.trunkLost = false
    let delay := (s.unitSettings v).deepDelay.toNat
    (¬starts → t = s) ∧
    (starts → delay ≠ 0 ∨ ¬may → t = s.setUnit v { s.unit v with deepTimer := some (delay * 1000) }) ∧
    (starts → delay = 0 → may →
      let d : Directive := { kind := .unitDeep, carrier := none, token := s.token, link := 0, key := 0#16 }
      HeadSent v d s t ∧ ToldAs s t ∧ t.carriers = s.carriers ∧ t.wakeQueue = s.wakeQueue ∧
      t.token = (if s.token < 255 then s.token + 1 else 1) ∧ (∀ w, w ≠ v → t.unit w = s.unit w) ∧
      t.unit v = { s.unit v with state := some .deepPending, queue := [d], sent := (t.unit v).sent,
                                 attempts := (t.unit v).attempts, replyTimer := (t.unit v).replyTimer, deepTimer := none }) := by
  intro t starts may delay
  have made : t = s.deepTest v := work_head_empty empty
  have goes : s.mayGoDeep v ↔ may := by simp [State.mayGoDeep, empty, idle, mayDeepen_iff, may]
  rw [made]
  refine ⟨fun stay => deepTest_of_not (mt (starts_iff up).mpr stay), fun go blocked => ?_, fun go zero allowed => ?_⟩
  · obtain ⟨ready, stopped⟩ := (starts_iff up).mp go
    exact deepTest_of_starts ready stopped (blocked.imp_right (mt goes.mp))
  · obtain ⟨ready, stopped⟩ := (starts_iff up).mp go
    rw [deepTest_of_goes ready stopped zero (goes.mpr allowed)]
    obtain ⟨sent, told, carriers, wakeQueue, token, others, -, unit⟩ := deepSent s v
    exact ⟨sent, told, carriers, wakeQueue, token, others, unit⟩

/-- R116, R125: a carrier whose CARRIER-DEEPEN is withdrawn returns to DOZE, or is queued with its mark. -/
theorem done_withdrawn (deepening : s.lifeState c = .deepening)
    (full : (s.carrier c).life.wakePending ≠ none → s.settings.slots ≤ s.warmups) :
    ∃ t, Done [.withdrawn c] s t ∧ Single c s t ∧ (t.carrier c).life.wakePending = none ∧
      ((s.carrier c).life.wakePending = none → t.lifeState c = .doze ∧ (t.carrier c).life.doze = 0 ∧
        t.wakeQueue = s.wakeQueue ∧ ToldAs (s.tells c .deepening .doze .deepenWithdrawn .timed) t) ∧
      ∀ k, (s.carrier c).life.wakePending = some k → t.lifeState c = .queued ∧
        t.wakeQueue = s.wakeQueue.join k.cls { carrier := c, depth := .light } ∧
        ToldAs (s.tells c .deepening .queued k.cause k.cause.origin) t := by
  have managed : s.isManaged c = true := managed_of deepening (by decide)
  cases mark : (s.carrier c).life.wakePending with
  | none =>
    have effect : Task.effect (.withdrawn c) s = (s.moveAndTell c .doze .deepenWithdrawn, []) := by
      simp [Task.effect, withdrawnEffect, deepening, mark]
    obtain ⟨told, alone⟩ := moveAndTell_quiet (c := c) (new := .doze) (Alike.refl s) rfl (by simp [deepening])
      (by simp [deepening]) (by decide) (moveAllowed_sleeper (by rw [deepening]; rfl) rfl) .deepenWithdrawn
    rw [deepening] at told
    have life := moveAndTell_life s c .doze .deepenWithdrawn
    refine ⟨_, done_singleton_iff.mpr (by rw [effect]; exact .nil _), alone.single, ?_, fun _ => ⟨?_, ?_, alone.wakeQueue, told⟩,
      nofun⟩
    · rw [life]
      exact mark
    · rw [moveAndTell_lifeState, if_pos rfl]
    · rw [life]
      rfl
  | some k =>
    have effect : Task.effect (.withdrawn c) s = (s.enterQueued c k.cls .light k.cause, [.grants]) := by
      simp [Task.effect, withdrawnEffect, deepening, mark]
    obtain ⟨told, single⟩ := told_enterQueued (by simp [deepening]) (by simp [deepening]) managed k.cls .light k.cause
    rw [deepening] at told
    have still : (s.enterQueued c k.cls .light k.cause).settings.slots ≤ (s.enterQueued c k.cls .light k.cause).warmups := by
      rw [single.keeps.settings, enterQueued_warmups (by simp [deepening])]
      exact full (by simp [mark])
    refine ⟨_, done_singleton_iff.mpr (by rw [effect]; exact done_grants_of_full still), single, ?_, nofun, ?_⟩
    · rw [enterQueued_life]
      rfl
    · rintro k' ⟨⟩
      exact ⟨by rw [enterQueued_lifeState, if_pos rfl], enterQueued_wakeQueue (by simp [deepening]), told.toToldAs⟩

/-- R146: the head of an idle UP unit's queue is considered, where it is no CARRIER-DEEPEN. -/
theorem done_sendHead_plain (up : (s.unit v).state = some .up) (idle : (s.unit v).sent = none)
    (plain : ∀ e, (s.unit v).queue.head? = some e → e.kind ≠ .carrierDeepen) :
    ∃ t, Done [.sendHead v] s t ∧ Keeps s t ∧ ToldAs s t ∧ t.carriers = s.carriers ∧ t.wakeQueue = s.wakeQueue ∧
      (∀ w, w ≠ v → t.unit w = s.unit w) ∧
      t.unit v = { s.unit v with sent := (t.unit v).sent, attempts := (t.unit v).attempts, replyTimer := (t.unit v).replyTimer } ∧
      ((s.unit v).queue = [] → t = s) ∧ ∀ e, (s.unit v).queue.head? = some e → HeadSent v e s t := by
  cases queue : (s.unit v).queue with
  | nil =>
    have effect : (Task.sendHead v).effect s = (s, []) := sendHead_of_empty queue
    exact ⟨s, done_singleton_iff.mpr (by rw [effect]; exact .nil s), .refl s, .refl s, rfl, rfl, fun _ _ => rfl, rfl,
      fun _ => rfl, nofun⟩
  | cons e rest =>
    have effect : (Task.sendHead v).effect s = (s.transmit v e, []) :=
      sendHead_of_head up idle queue fun deepen => absurd deepen (plain e (by rw [queue]; rfl))
    refine ⟨_, done_singleton_iff.mpr (by rw [effect]; exact .nil _), keeps_transmit .., transmit_toldAs ..,
      transmit_carriers .., by rw [transmit_eq]; rfl, fun w other => transmit_unit_other s e other, transmit_unit_same ..,
      nofun, ?_⟩
    rintro e' ⟨⟩
    exact transmit_headSent ..

/-- R116: a CARRIER-DEEPEN that may not be sent, and the directive behind it. -/
theorem headConsidered_withdraws {d : Directive} {rest : List Directive} (up : (s.unit v).state = some .up)
    (idle : (s.unit v).sent = none) (head : (s.unit v).queue = d :: rest) (deepen : d.kind = .carrierDeepen)
    (carrier : d.carrier = some c) (deepening : s.lifeState c = .deepening)
    (barred : s.engine.mode ≠ .acting ∨ s.trunkLost = true)
    (full : (s.carrier c).life.wakePending ≠ none → s.settings.slots ≤ s.warmups)
    (plain : ∀ e, rest.head? = some e → e.kind ≠ .carrierDeepen) :
    let t := s.work [.sendHead v, .deepTest v]
    t.unit v = { s.unit v with queue := rest, sent := (t.unit v).sent, attempts := (t.unit v).attempts,
                               replyTimer := (t.unit v).replyTimer, deepTimer := (t.unit v).deepTimer } ∧
      (∀ w, w ≠ v → t.unit w = s.unit w) ∧
      (rest = [] → t.unit v = { s.unit v with queue := [], deepTimer := (t.unit v).deepTimer } ∧
        t.path.branchQueues = s.path.branchQueues) ∧
      (∀ e, rest.head? = some e → HeadSent v e s t) ∧
      (∀ e, e ≠ c → t.lifeState e = s.lifeState e) ∧ (t.carrier c).life.wakePending = none ∧
      ((s.carrier c).life.wakePending = none → t.lifeState c = .doze ∧ (t.carrier c).life.doze = 0 ∧
        t.wakeQueue = s.wakeQueue ∧ ToldAs (s.tells c .deepening .doze .deepenWithdrawn .timed) t) ∧
      ∀ k, (s.carrier c).life.wakePending = some k → t.lifeState c = .queued ∧
        t.wakeQueue = s.wakeQueue.join k.cls { carrier := c, depth := .light } ∧
        ∀ p ∈ keptCauses, k.cause = p.1 → ToldAs (s.tells c .deepening .queued p.1 p.2) t := by
  intro t
  have mayNot : s.mayDeepen = false := by
    rw [Bool.eq_false_iff, Ne, mayDeepen_iff]
    rintro ⟨acting, trunk⟩
    exact barred.elim (· acting) (by simp [trunk])
  have effect : (Task.sendHead v).effect s = (s.setUnit v { s.unit v with queue := rest }, [.withdrawn c, .sendHead v]) :=
    sendHead_of_withdrawn up idle head deepen carrier mayNot
  generalize begun : s.setUnit v { s.unit v with queue := rest } = b at effect
  have atUnit : b.unit v = { s.unit v with queue := rest } := by rw [← begun, State.setUnit_unit, if_pos rfl]
  have others (w : UnitIx) (other : w ≠ v) : b.unit w = s.unit w := by rw [← begun, State.setUnit_unit, if_neg other]
  have alike (old new : LifeState) (cause : Cause) (origin : Origin) :
      ToldAs (s.tells c old new cause origin) (b.tells c old new cause origin) := by
    rw [← begun]
    have silent : Alike s (s.setUnit v { s.unit v with queue := rest }) :=
      (Alike.refl s).silent (keeps_setUnit s v _ rfl rfl) ⟨rfl, rfl, rfl⟩
    exact (silent.notify _).toToldAs
  obtain ⟨m, withdrawn, single, unmarked, toDoze, toQueued⟩ := done_withdrawn (s := b) (c := c) (by rw [← begun]; exact deepening)
    (by rw [← begun]; exact full)
  have atUnit' : m.unit v = { s.unit v with queue := rest } := (single.unit v).trans atUnit
  obtain ⟨r, sent, keeps, told, carriers, wakeQueue, others', unit, silent, heads⟩ := done_sendHead_plain (s := m) (v := v)
    (by rw [atUnit']; exact up) (by rw [atUnit']; exact idle) (by rw [atUnit']; exact plain)
  have first : Keeps s m := by
    have first : Keeps s b := by rw [← begun]; exact keeps_setUnit s v _ rfl rfl
    exact first.trans single.keeps
  have kept : Keeps s r := first.trans keeps
  have branches : m.path.branchQueues = s.path.branchQueues := single.branches.trans (by rw [← begun]; rfl)
  have barred' : ¬r.mayGoDeep v := fun goes => by
    have may := goes.2.2.2
    rw [mayDeepen_iff, kept.mode, kept.trunkLost, ← mayDeepen_iff, mayNot] at may
    cases may
  obtain ⟨timer, made, -, -⟩ := deepTest_timer barred'
  have whole : t = r.setUnit v { r.unit v with deepTimer := timer } := by
    rw [← made]
    refine work_eq (by simp [costs, Task.cost]) (.cons (t := r) ?_ (done_of_alone (k := .deepTest v) rfl))
    rw [effect]
    exact done_cons_iff.mpr ⟨m, done_singleton_iff.mp withdrawn, sent⟩
  have unitAt : t.unit v = { r.unit v with deepTimer := timer } := by rw [whole, State.setUnit_unit, if_pos rfl]
  have told' : ToldAs m t := by
    rw [whole]
    exact told.trans ⟨rfl, rfl, rfl⟩
  have carriers' : t.carriers = m.carriers := by rw [whole]; exact carriers
  have wakeQueue' : t.wakeQueue = m.wakeQueue := by rw [whole]; exact wakeQueue
  have states (e : CarrierIx) : t.lifeState e = m.lifeState e := lifeState_of_carriers carriers' e
  have carrierAt : t.carrier c = m.carrier c := by rw [State.carrier, carriers', State.carrier]
  refine ⟨by rw [unitAt, unit, atUnit'], fun w other => ?_, fun alone => ?_, fun e first' => ?_, fun e other => ?_, ?_,
    fun clear => ?_, fun k mark => ?_⟩
  · rw [whole, State.setUnit_unit, if_neg other, others' w other, single.unit, others w other]
  · have none_sent : r = m := silent (by rw [atUnit']; exact alone)
    refine ⟨by rw [unitAt, none_sent, atUnit', alone], ?_⟩
    rw [whole, none_sent]
    exact branches
  · rw [whole]
    exact setTimer_headSent ((heads e (by rw [atUnit']; exact first')).before first branches) timer
  · rw [states, single.lifeState other, ← begun]
    rfl
  · rw [carrierAt]
    exact unmarked
  · obtain ⟨doze, elapsed, waiting, tells⟩ := toDoze (by rw [← begun]; exact clear)
    refine ⟨(states c).trans doze, by rw [carrierAt]; exact elapsed, ?_, ((alike ..).trans tells).trans told'⟩
    rw [wakeQueue', waiting, ← begun]
    rfl
  · obtain ⟨queued, waiting, tells⟩ := toQueued k (by rw [← begun]; exact mark)
    refine ⟨(states c).trans queued, by rw [wakeQueue', waiting, ← begun]; rfl, fun p listed cause => ?_⟩
    have origin : p.1.origin = p.2 := (by decide : ∀ p ∈ keptCauses, p.1.origin = p.2) p listed
    rw [cause, origin] at tells
    exact ((alike ..).trans tells).trans told'

/-- R116, R146, R153: a unit that is UP and awaits no reply. -/
theorem headConsidered (up : (s.unit v).state = some .up) (idle : (s.unit v).sent = none) :
    HeadConsidered v s (s.work [.sendHead v, .deepTest v]) where
  keeps := keeps_work ..
  sends _ _ := headConsidered_sends up idle
  withdraws _ _ _ head deepen carrier deepening barred full plain :=
    headConsidered_withdraws up idle head deepen carrier deepening barred full plain
  rests := headConsidered_rests up idle

end Sys2Proof.Machine
end

section
/-! PROOFS. Which carrier a task turns, from which state to which, and what it sets off: so a state that nothing in an event
turns is kept through it. -/

namespace Sys2Proof.Machine

variable {s t u : State} {c d : CarrierIx} {v : UnitIx} {k j : Task} {l : List Task} {cause : Cause}

/-! ## The turns of a task -/

/-- RESTORING, or through it ACTIVE (R106, R134). -/
def LifeState.isBack : LifeState → Bool
  | .restoring | .active => true
  | _ => false

/-- What a task's own effect may do to the lifecycle state of carrier `c`. -/
def Task.turns (k : Task) (c : CarrierIx) (old new : LifeState) : Prop :=
  match k with
  | .wake d k => d = c ∧ ((new = .queued ∧ (old = .doze ∨ old = .slumber ∨ old = .lost ∧ k = .management)) ∨
      (old.isDrain = true ∧ new.isBack = true))
  | .grants => old = .queued ∧ new = .warmup
  | .lose d _ => d = c ∧ new = .lost
  | .ended d _ _ => d = c ∧ (old = .rampdown ∨ old = .deepening ∨ old = .warmup)
  | .withdrawn d => d = c ∧ old = .deepening
  | .linkUp d => d = c ∧ old = .lost ∧ new = .queued
  | .deepen d => d = c ∧ old = .doze ∧ new = .deepening
  | .abandon d _ => d = c ∧ old.isDrain = true ∧ new.isBack = true
  | .report d _ => d = c ∧ (old.isDrain = true ∨ old = .doze)
  | .group _ _ => (old.isDrain = true ∧ new.isBack = true) ∨ (old = .active ∧ new = .draining)
  | .anchorLost _ | .sendHead _ | .deepTest _ | .recover _ => False

theorem abandonEffect_turns (c d : CarrierIx) (cause : Cause) (s : State) :
    (abandonEffect d cause s).1.lifeState c = s.lifeState c ∨
      (d = c ∧ (s.lifeState c).isDrain = true ∧ ((abandonEffect d cause s).1.lifeState c).isBack = true) := by
  unfold abandonEffect
  split
  · rename_i drain
    rw [enterRestoring_lifeState]
    split
    · rename_i same
      subst same
      exact .inr ⟨rfl, drain, by split <;> rfl⟩
    · exact .inl rfl
  · exact .inl rfl

theorem deepenEffect_turns (c d : CarrierIx) (s : State) : (deepenEffect d s).1.lifeState c = s.lifeState c ∨
    (d = c ∧ s.lifeState c = .doze ∧ (deepenEffect d s).1.lifeState c = .deepening) := by
  unfold deepenEffect
  split
  · rename_i due
    split
    · rename_i handed
      rw [moveAndTell_lifeState, lifeState_of_carriers (handDirective_carriers handed)]
      split
      · rename_i same
        subst same
        exact .inr ⟨rfl, (deepenDue_iff.mp due).1, rfl⟩
      · exact .inl rfl
    · exact .inl rfl
  · exact .inl rfl

theorem wakeEffect_turns (c d : CarrierIx) (k : WakeKind) (s : State) : (wakeEffect d k s).1.lifeState c = s.lifeState c ∨
    (Task.wake d k).turns c (s.lifeState c) ((wakeEffect d k s).1.lifeState c) := by
  have queued (cls : WakeClass) (depth : Depth) (from_ : s.lifeState d = .doze ∨ s.lifeState d = .slumber ∨
      s.lifeState d = .lost ∧ k = .management) : (s.enterQueued d cls depth k.cause).lifeState c = s.lifeState c ∨
      (Task.wake d k).turns c (s.lifeState c) ((s.enterQueued d cls depth k.cause).lifeState c) := by
    rw [enterQueued_lifeState]
    split
    · rename_i same
      subst same
      exact .inr ⟨rfl, .inl ⟨rfl, from_⟩⟩
    · exact .inl rfl
  have kept : (s.keepWake d k.cls k.cause).lifeState c = s.lifeState c := setLife_lifeState s d c rfl
  have abandoned : (abandonEffect d k.cause s).1.lifeState c = s.lifeState c ∨
      (Task.wake d k).turns c (s.lifeState c) ((abandonEffect d k.cause s).1.lifeState c) :=
    (abandonEffect_turns c d k.cause s).imp_right fun ⟨same, drain, back⟩ => ⟨same, .inr ⟨drain, back⟩⟩
  unfold wakeEffect
  split
  case h_1 old => exact queued _ _ (.inl old)
  case h_2 old =>
    split
    · exact .inl rfl
    · exact queued _ _ (.inr (.inl old))
  case h_3 | h_4 =>
    split
    · exact .inl rfl
    · exact .inl kept
  case h_5 | h_6 =>
    split
    · exact .inl rfl
    · exact abandoned
  case h_8 old =>
    split
    · rename_i management
      exact queued _ _ (.inr (.inr ⟨old, management⟩))
    · exact .inl rfl
  all_goals exact .inl rfl

theorem grantsEffect_turns (c : CarrierIx) (s : State) : (grantsEffect s).1.lifeState c = s.lifeState c ∨
    (s.lifeState c = .queued ∧ (grantsEffect s).1.lifeState c = .warmup) := by
  have granted (d : CarrierIx) : (grantTo d s).1.lifeState c = s.lifeState c ∨
      (s.lifeState c = .queued ∧ (grantTo d s).1.lifeState c = .warmup) := by
    have moved : (s.moveAndTell d .warmup .granted).lifeState c = if c = d then .warmup else s.lifeState c :=
      moveAndTell_lifeState ..
    unfold grantTo
    split
    · rename_i queued
      have either : (s.moveAndTell d .warmup .granted).lifeState c = s.lifeState c ∨
          (s.lifeState c = .queued ∧ (s.moveAndTell d .warmup .granted).lifeState c = .warmup) := by
        rw [moved]
        split
        · rename_i same
          subst same
          exact .inr ⟨queued, rfl⟩
        · exact .inl rfl
      dsimp only
      split
      · rename_i handed
        rw [lifeState_of_carriers (handDirective_carriers handed)]
        exact either
      · exact either
    · exact .inl rfl
  unfold grantsEffect
  split
  · split
    · exact .inl rfl
    · exact granted _
  · exact .inl rfl

theorem sleepEnded_other (how : DirectiveEnd) (other : c ≠ d) : (sleepEnded d how s).1.lifeState c = s.lifeState c := by
  unfold sleepEnded
  split
  case h_1 => dsimp only; split <;> simp [other]
  case h_2 => simp [enterRestoring_lifeState, other]
  all_goals rfl

theorem deepenEnded_other (how : DirectiveEnd) (other : c ≠ d) : (deepenEnded d how s).1.lifeState c = s.lifeState c := by
  unfold deepenEnded
  dsimp only
  split
  case h_1 | h_2 => split <;> simp [other]
  all_goals rfl

theorem wakeEnded_other (how : DirectiveEnd) (other : c ≠ d) : (wakeEnded d how s).1.lifeState c = s.lifeState c := by
  unfold wakeEnded
  split
  case h_1 => simp [enterRestoring_lifeState, other]
  all_goals rfl

/-- R112, R117, R132: the outcome of a directive turns its own carrier. -/
theorem endedEffect_turns (c d : CarrierIx) (kind : DirectiveKind) (how : DirectiveEnd) (s : State) :
    (endedEffect d kind how s).1.lifeState c = s.lifeState c ∨
      (d = c ∧ (s.lifeState c = .rampdown ∨ s.lifeState c = .deepening ∨ s.lifeState c = .warmup)) := by
  by_cases same : d = c
  · subst same
    by_cases old : s.lifeState d = .rampdown ∨ s.lifeState d = .deepening ∨ s.lifeState d = .warmup
    · exact .inr ⟨rfl, old⟩
    · rw [not_or, not_or] at old
      refine .inl ?_
      cases kind <;> simp [endedEffect, old]
  · refine .inl ?_
    have other : c ≠ d := Ne.symm same
    cases kind <;> simp only [endedEffect]
    · split
      · exact sleepEnded_other how other
      · rfl
    · split
      · exact deepenEnded_other how other
      · rfl
    · split
      · exact wakeEnded_other how other
      · rfl

theorem withdrawnEffect_turns (c d : CarrierIx) (s : State) : (withdrawnEffect d s).1.lifeState c = s.lifeState c ∨
    (d = c ∧ s.lifeState c = .deepening) := by
  unfold withdrawnEffect
  split
  · rename_i old
    by_cases same : d = c
    · exact .inr ⟨same, same ▸ old⟩
    · refine .inl ?_
      split <;> simp [Ne.symm same]
  · exact .inl rfl

theorem linkUpEffect_turns (c d : CarrierIx) (s : State) : (linkUpEffect d s).1.lifeState c = s.lifeState c ∨
    (d = c ∧ s.lifeState c = .lost ∧ (linkUpEffect d s).1.lifeState c = .queued) := by
  unfold linkUpEffect
  split
  · rename_i old
    rw [enterQueued_lifeState]
    split
    · rename_i same
      subst same
      exact .inr ⟨rfl, old, rfl⟩
    · exact .inl rfl
  · exact .inl rfl

theorem completeDrain_turns (c d : CarrierIx) (cause : Cause) (origin : Origin) (s : State) :
    (completeDrain d cause origin s).1.lifeState c = s.lifeState c ∨ (d = c ∧ s.lifeState c = .draining) := by
  unfold completeDrain
  split
  · rename_i old
    by_cases same : d = c
    · exact .inr ⟨same, same ▸ old⟩
    · refine .inl ?_
      have moved : (s.moveTo d .rampdown).lifeState c = s.lifeState c := by rw [moveTo_lifeState, if_neg (Ne.symm same)]
      dsimp only
      split
      · rename_i handed
        rw [(tells_notifyState ..).lifeState, lifeState_of_carriers (handDirective_carriers handed), moved]
      · rw [(tells_notifyState ..).lifeState, moved]
  · exact .inl rfl

theorem reportEffect_turns (c d : CarrierIx) (m : Meter) (s : State) : (reportEffect d m s).1.lifeState c = s.lifeState c ∨
    (d = c ∧ ((s.lifeState c).isDrain = true ∨ s.lifeState c = .doze)) := by
  have abandoned : (abandonEffect d .loadRose s).1.lifeState c = s.lifeState c ∨
      (d = c ∧ ((s.lifeState c).isDrain = true ∨ s.lifeState c = .doze)) :=
    (abandonEffect_turns c d .loadRose s).imp_right fun ⟨same, drain, _⟩ => ⟨same, .inl drain⟩
  unfold reportEffect
  dsimp only
  split
  case h_1 =>
    split
    · exact abandoned
    · split
      · exact (completeDrain_turns c d .drainQuiet .timed s).imp_right fun ⟨same, old⟩ => ⟨same, .inl (by rw [old]; rfl)⟩
      · exact .inl rfl
  case h_2 =>
    split
    · exact abandoned
    · exact .inl rfl
  case h_3 => exact (deepenEffect_turns c d s).imp_right fun ⟨same, old, _⟩ => ⟨same, .inr old⟩
  all_goals exact .inl rfl

/-- R74, R76: what the admissions of a group turn. -/
theorem admissions_turns (report : Vector Meter 32) (c : CarrierIx) (l : List CarrierIx) (s : State) :
    (l.foldl (State.tryAdmit report) s).lifeState c = s.lifeState c ∨
      (c ∈ l ∧ (l.foldl (State.tryAdmit report) s).lifeState c = .draining) := by
  induction l generalizing s with
  | nil => exact .inl rfl
  | cons d l ih =>
    rcases ih (State.tryAdmit report s d) with same | ⟨mem, drains⟩
    · rw [List.foldl_cons, same]
      by_cases own : c = d
      · subst own
        unfold State.tryAdmit
        dsimp only
        split
        · exact .inr ⟨List.mem_cons_self, by rw [beginDrain_lifeState, if_pos rfl]⟩
        · exact .inl rfl
      · exact .inl (tryAdmit_lifeState report d c s own)
    · exact .inr ⟨List.mem_cons_of_mem _ mem, drains⟩

theorem groupEffect_turns (c a : CarrierIx) (report : Vector Meter 32) (s : State) :
    (groupEffect a report s).1.lifeState c = s.lifeState c ∨
      (Task.group a report).turns c (s.lifeState c) ((groupEffect a report s).1.lifeState c) := by
  unfold groupEffect
  split
  · split
    · unfold reliefEffect
      split
      · exact (abandonEffect_turns c _ .relief s).imp_right fun ⟨_, drain, back⟩ => .inl ⟨drain, back⟩
      · split <;> exact .inl rfl
    · exact (admissions_turns report c _ s).imp_right fun ⟨mem, drains⟩ => .inr ⟨(candidates_active mem).1, drains⟩
  · exact .inl rfl

/-- What the effect of a task may turn. -/
theorem effect_turns (k : Task) (c : CarrierIx) (s : State) : (k.effect s).1.lifeState c = s.lifeState c ∨
    k.turns c (s.lifeState c) ((k.effect s).1.lifeState c) := by
  cases k with
  | wake d k => exact wakeEffect_turns c d k s
  | grants => exact grantsEffect_turns c s
  | anchorLost a => exact .inl rfl
  | sendHead v => exact .inl (lifeState_of_carriers (sendHeadEffect_carriers v s) c)
  | lose d cause =>
    change (loseEffect d cause s).1.lifeState c = _ ∨ _
    rw [loseEffect_lifeState]
    split
    · rename_i h
      exact .inr ⟨h.1.symm, (loseEffect_lifeState d c cause s).trans (if_pos h)⟩
    · exact .inl rfl
  | ended d kind how => exact endedEffect_turns c d kind how s
  | withdrawn d => exact withdrawnEffect_turns c d s
  | linkUp d => exact linkUpEffect_turns c d s
  | deepen d => exact deepenEffect_turns c d s
  | abandon d cause => exact abandonEffect_turns c d cause s
  | report d m => exact reportEffect_turns c d m s
  | group a rep => exact groupEffect_turns c a rep s
  | deepTest v => exact .inl (lifeState_of_carriers (deepTest_carriers ..) c)
  | recover v =>
    refine .inl ?_
    change (recoverEffect v s).1.lifeState c = _
    unfold recoverEffect
    split
    · exact lifeState_of_carriers (releaseUnit_carriers ..) c
    · rfl

/-! ## What a task sets off -/

/-- R145: the unit of a carrier takes no directive. -/
def State.untaken (s : State) (c : CarrierIx) : Prop :=
  (s.unit (s.unitOf c)).state = none ∨ (s.unit (s.unitOf c)).state = some .unreachable

theorem untaken_of_handDirective {kind : DirectiveKind} (h : s.handDirective kind c = none) : s.untaken c := by
  by_contra taken
  rw [State.untaken, not_or] at taken
  rw [handDirective_eq taken.1 taken.2] at h
  cases h

/-- Where a task comes from that another sets off in state `s`. -/
def Task.spawns (k : Task) (s : State) : Task → Prop
  | .grants | .sendHead _ => True
  | .lose c _ => (k = .grants ∧ s.lifeState c = .queued ∧ s.untaken c) ∨ (∃ kind how, k = .ended c kind how) ∨
      ∃ m, k = .report c m
  | .wake _ kind => (kind = .anchorLost ∧ ∃ a, k = .anchorLost a) ∨ (kind = .relief ∧ ∃ a r, k = .group a r)
  | .withdrawn _ => ∃ v, k = .sendHead v
  | .linkUp _ => ∃ v, k = .recover v
  | .anchorLost a => ∃ cause, k = .lose a cause
  | .ended .. | .deepen _ | .abandon .. | .report .. | .group .. | .deepTest _ | .recover _ => False

theorem deepenEffect_tasks (c : CarrierIx) (s : State) : ∀ j ∈ (deepenEffect c s).2, ∃ v, j = .sendHead v := by
  unfold deepenEffect
  repeat' split
  all_goals simp

/-- R131: a grant touches no unit before CARRIER-WAKE is handed on. -/
theorem moveAndTell_unit_of_queued (queued : s.lifeState c = .queued) :
    (s.moveAndTell c .warmup .granted).unit ((s.moveAndTell c .warmup .granted).unitOf c) = s.unit (s.unitOf c) := by
  have moved : Keeps s (s.moveTo c .warmup) :=
    keeps_moveTo (moveAllowed_awake (managed_of queued (by decide)) (by decide) rfl)
  have units : (s.moveTo c .warmup).units = s.units := by
    refine Eq.trans ?_ (movePlaces_units s c (s.lifeState c) .warmup)
    simp [State.moveTo, State.moveSlumber, queued]
  have tells := tells_notifyState (s.moveTo c .warmup) c (s.lifeState c) .warmup .granted Cause.granted.origin
  rw [State.moveAndTell, State.unitOf, (moved.trans tells.keeps).config, State.unit, tells.units, units]
  rfl

theorem grantsEffect_tasks (s : State) : ∀ j ∈ (grantsEffect s).2, (∃ v, j = .sendHead v) ∨ j = .grants ∨
    ∃ c cause, (s.lifeState c = .queued ∧ s.untaken c) ∧ j = .lose c cause := by
  have granted (d : CarrierIx) : ∀ j ∈ (grantTo d s).2, (∃ v, j = .sendHead v) ∨ j = .grants ∨
      ∃ c cause, (s.lifeState c = .queued ∧ s.untaken c) ∧ j = .lose c cause := by
    unfold grantTo
    split
    · rename_i queued
      dsimp only
      split
      · simp
      · rename_i refused
        have untaken := untaken_of_handDirective refused
        rw [State.untaken, moveAndTell_unit_of_queued queued] at untaken
        intro j mem
        obtain rfl | rfl := List.mem_pair.mp mem
        · exact .inr (.inr ⟨d, _, ⟨queued, untaken⟩, rfl⟩)
        · exact .inr (.inl rfl)
    · simp
  unfold grantsEffect
  split
  · split
    · simp
    · exact granted _
  · simp

theorem endedEffect_tasks (c : CarrierIx) (kind : DirectiveKind) (how : DirectiveEnd) (s : State) :
    ∀ j ∈ (endedEffect c kind how s).2, j = .grants ∨ ∃ cause, j = .lose c cause := by
  unfold endedEffect sleepEnded deepenEnded wakeEnded
  dsimp only
  repeat' split
  all_goals simp

theorem completeDrain_tasks (c : CarrierIx) (cause : Cause) (origin : Origin) (s : State) :
    ∀ j ∈ (completeDrain c cause origin s).2, (∃ v, j = .sendHead v) ∨ ∃ cause, j = .lose c cause := by
  unfold completeDrain
  dsimp only
  repeat' split
  all_goals simp

theorem reportEffect_tasks (c : CarrierIx) (m : Meter) (s : State) :
    ∀ j ∈ (reportEffect c m s).2, (∃ v, j = .sendHead v) ∨ ∃ cause, j = .lose c cause := by
  unfold reportEffect
  dsimp only
  repeat' split
  case isFalse.isTrue => exact completeDrain_tasks c .drainQuiet .timed s
  case h_3 => exact fun j mem => .inl (deepenEffect_tasks c s j mem)
  all_goals simp [abandonEffect_tasks]

theorem sendHeadEffect_tasks (v : UnitIx) (s : State) :
    ∀ j ∈ (sendHeadEffect v s).2, (∃ c, j = .withdrawn c) ∨ j = .sendHead v := by
  unfold sendHeadEffect
  dsimp only
  repeat' split
  case h_2.isTrue =>
    rename_i d _ _ _
    cases d.carrier <;> simp
  all_goals simp

/-- What the effect of a task may set off. -/
theorem effect_spawns (k : Task) (s : State) : ∀ j ∈ (k.effect s).2, k.spawns s j := by
  cases k with
  | wake d k =>
    intro j mem
    rw [wakeEffect_tasks j mem]
    trivial
  | grants =>
    intro j mem
    rcases grantsEffect_tasks s j mem with ⟨v, rfl⟩ | rfl | ⟨c, cause, held, rfl⟩
    · trivial
    · trivial
    · exact .inl ⟨rfl, held⟩
  | anchorLost a =>
    intro j mem
    obtain ⟨d, -, rfl⟩ := List.mem_map.mp mem
    exact .inl ⟨rfl, a, rfl⟩
  | sendHead v =>
    intro j mem
    rcases sendHeadEffect_tasks v s j mem with ⟨c, rfl⟩ | rfl
    · exact ⟨v, rfl⟩
    · trivial
  | lose d cause =>
    intro j mem
    simp only [Task.effect, loseEffect] at mem
    split at mem
    · cases mem
    · simp only [List.mem_append, List.mem_singleton, List.mem_ite_nil_right] at mem
      rcases mem with (rfl | ⟨-, rfl⟩) | ⟨-, rfl⟩
      · trivial
      · trivial
      · exact ⟨cause, rfl⟩
  | ended d kind how =>
    intro j mem
    rcases endedEffect_tasks d kind how s j mem with rfl | ⟨cause, rfl⟩
    · trivial
    · exact .inr (.inl ⟨kind, how, rfl⟩)
  | withdrawn d =>
    intro j mem
    simp only [Task.effect, withdrawnEffect] at mem
    split at mem
    · split at mem
      · cases mem
      · rw [List.mem_singleton.mp mem]
        trivial
    · cases mem
  | linkUp d =>
    intro j mem
    simp only [Task.effect, linkUpEffect] at mem
    split at mem
    · rw [List.mem_singleton.mp mem]
      trivial
    · cases mem
  | deepen d =>
    intro j mem
    obtain ⟨v, rfl⟩ := deepenEffect_tasks d s j mem
    trivial
  | abandon d cause =>
    intro j mem
    rw [Task.effect, abandonEffect_tasks] at mem
    cases mem
  | report d m =>
    intro j mem
    rcases reportEffect_tasks d m s j mem with ⟨v, rfl⟩ | ⟨cause, rfl⟩
    · trivial
    · exact .inr (.inr ⟨m, rfl⟩)
  | group a rep =>
    intro j mem
    simp only [Task.effect, groupEffect, reliefEffect] at mem
    repeat' split at mem
    all_goals simp [abandonEffect_tasks] at mem
    subst mem
    exact .inr ⟨rfl, a, rep, rfl⟩
  | deepTest v => simp [Task.effect]
  | recover v =>
    intro j mem
    simp only [Task.effect, recoverEffect] at mem
    split at mem
    · obtain ⟨d, -, rfl⟩ := List.mem_map.mp mem
      exact ⟨v, rfl⟩
    · cases mem

/-! ## What an event keeps of one carrier -/

/-- What safe tasks keep, and set off only safe tasks, is kept through an event of safe tasks. -/
theorem Done.stays (Q : State → Prop) (safe : Task → Prop)
    (step : ∀ k s, safe k → Q s → Q (k.effect s).1 ∧ ∀ j ∈ (k.effect s).2, safe j)
    (h : Done l s t) (all : ∀ k ∈ l, safe k) (holds : Q s) : Q t := by
  induction h with
  | nil => exact holds
  | @cons k l s t u _ _ ihFirst ihRest =>
    obtain ⟨own, spawned⟩ := step k s (all k List.mem_cons_self) holds
    exact ihRest (fun j mem => all j (List.mem_cons_of_mem _ mem)) (ihFirst spawned own)

/-- The tasks that may bring a LOST carrier out of LOST: the WAKE of R136, and the branch link up event of R157. -/
def Task.mayFind (c : CarrierIx) : Task → Prop
  | .wake d .management => d = c
  | .linkUp d => d = c
  | .recover _ => True
  | _ => False

theorem mayFind_of_turns {new : LifeState} (turned : k.turns c .lost new) : k.mayFind c ∨ new = .lost := by
  cases k with
  | wake d k =>
    obtain ⟨same, ⟨-, from_⟩ | ⟨drain, -⟩⟩ := turned
    · obtain h | h | ⟨-, rfl⟩ := from_
      · cases h
      · cases h
      · exact .inl same
    · cases drain
  | lose d cause => exact .inr turned.2
  | linkUp d => exact .inl turned.1
  | grants => cases turned.1
  | ended d kind how => simp [Task.turns] at turned
  | withdrawn d => cases turned.2
  | deepen d => cases turned.2.1
  | abandon d cause => cases turned.2.1
  | report d m => simp [Task.turns, LifeState.isDrain] at turned
  | group a rep => simp [Task.turns, LifeState.isDrain] at turned
  | anchorLost a | sendHead v | deepTest v | recover v => exact turned.elim

theorem mayFind_of_spawned (spawned : k.spawns s j) (finds : j.mayFind c) : k.mayFind c := by
  cases j with
  | wake d kind =>
    obtain ⟨rfl, -⟩ | ⟨rfl, -⟩ := spawned
    · exact finds.elim
    · exact finds.elim
  | linkUp d =>
    obtain ⟨v, rfl⟩ := spawned
    trivial
  | recover v => exact spawned.elim
  | grants | anchorLost a | sendHead v | lose d cause | ended d kind how | withdrawn d | deepen d | abandon d cause
    | report d m | group a rep | deepTest v => exact finds.elim

/-- R136: a carrier stays LOST through an event that holds neither. -/
theorem Done.stays_lost (h : Done l s t) (none : ∀ k ∈ l, ¬k.mayFind c) (lost : s.lifeState c = .lost) :
    t.lifeState c = .lost := by
  refine h.stays (fun s => s.lifeState c = .lost) (fun k => ¬k.mayFind c) (fun k s safe lost => ⟨?_, fun j mem => ?_⟩) none lost
  · rcases effect_turns k c s with same | turned
    · rw [same, lost]
    · rw [lost] at turned
      exact (mayFind_of_turns turned).resolve_left safe
  · exact mt (mayFind_of_spawned (effect_spawns k s j mem)) safe

/-- The tasks that may turn a carrier that is in RESTORING or ACTIVE. -/
def Task.mayTurnBack (c : CarrierIx) : Task → Prop
  | .lose d _ => d = c
  | .ended d _ _ => d = c
  | .report d _ => d = c
  | .group _ _ => True
  | _ => False

/-- R133, R134: a carrier that is back stays in its state through an event that holds none of them. -/
theorem Done.stays_back {old : LifeState} (h : Done l s t) (none : ∀ k ∈ l, ¬k.mayTurnBack c) (back : old.isBack = true)
    (state : s.lifeState c = old) : t.lifeState c = old := by
  refine h.stays (fun s => s.lifeState c = old) (fun k => ¬k.mayTurnBack c) (fun k s safe state => ⟨?_, fun j mem => ?_⟩) none
    state
  · rcases effect_turns k c s with same | turned
    · rw [same, state]
    · rw [state] at turned
      refine absurd ?_ safe
      cases old <;> cases back <;> cases k <;> simp_all [Task.turns, Task.mayTurnBack, LifeState.isDrain]
  · intro turns
    have spawned := effect_spawns k s j mem
    cases j with
    | lose d cause =>
      obtain rfl : d = c := turns
      obtain ⟨-, queued, -⟩ | ⟨kind, how, rfl⟩ | ⟨m, rfl⟩ := spawned
      · rw [state] at queued
        rw [queued] at back
        cases back
      · exact safe rfl
      · exact safe rfl
    | ended d kind how | report d m | group a rep => exact spawned.elim
    | grants | anchorLost a | sendHead v | wake d kind | withdrawn d | linkUp d | deepen d | abandon d cause
      | deepTest v | recover v => exact turns.elim

end Sys2Proof.Machine
end

section
/-! PROOFS. Entry to LOST (R135, R152) told as a whole, and with what it sets off where it hands nothing on to another
carrier. -/

namespace Sys2Proof.Machine

variable {s t u : State} {c d : CarrierIx} {v : UnitIx} {cause : Cause}

/-! ## What a move to a state other than SLUMBER leaves -/

/-- What is told at T, and sent anywhere, is the same. -/
structure Quiet (s t : State) : Prop where
  path : t.path = s.path
  engine : t.engine = s.engine
  advisories : t.advisories = s.advisories
  token : t.token = s.token

theorem Quiet.refl (s : State) : Quiet s s := ⟨rfl, rfl, rfl, rfl⟩

theorem Quiet.trans (h : Quiet s t) (k : Quiet t u) : Quiet s u :=
  ⟨k.path.trans h.path, k.engine.trans h.engine, k.advisories.trans h.advisories,
    k.token.trans h.token⟩

theorem Quiet.toldAs (h : Quiet s t) : ToldAs s t := ⟨h.engine, by rw [h.path], h.advisories⟩

theorem Quiet.ite {p : Prop} [Decidable p] (h : Quiet s t) (k : Quiet s u) : Quiet s (if p then t else u) := by
  split
  · exact h
  · exact k

theorem quiet_movePlaces (s : State) (c : CarrierIx) (old new : LifeState) : Quiet s (s.movePlaces c old new) := by
  have drained (s : State) : Quiet s (s.leaveDrain c) := ⟨rfl, rfl, rfl, rfl⟩
  have woken (s : State) : Quiet s (s.leaveSleepers c) := ⟨rfl, rfl, rfl, rfl⟩
  have slept (s : State) : Quiet s (s.joinSleepers c) := ⟨rfl, rfl, rfl, rfl⟩
  have left (s : State) (q : WakeQueue) : Quiet s (s.setWakeQueue q) := ⟨rfl, rfl, rfl, rfl⟩
  unfold State.movePlaces
  exact (((Quiet.ite (drained s) (.refl s)).trans (.ite (woken _) (.refl _))).trans (.ite (slept _) (.refl _))).trans
    (.ite (left _ _) (.refl _))

/-- R97: a move to a state other than SLUMBER sends nothing. -/
theorem quiet_moveTo (s : State) (c : CarrierIx) {new : LifeState} (h : new ≠ .slumber) : Quiet s (s.moveTo c new) := by
  have last (s : State) (old : LifeState) : Quiet s (s.moveSlumber c old new) := by
    unfold State.moveSlumber
    rw [if_neg (c := new = .slumber ∧ old ≠ .slumber) fun all => h all.1]
    exact .ite ⟨rfl, rfl, rfl, rfl⟩ (.refl _)
  have set (s : State) (x : Carrier) : Quiet s (s.setCarrier c x) := ⟨rfl, rfl, rfl, rfl⟩
  unfold State.moveTo
  exact ((quiet_movePlaces s c _ new).trans (set _ _)).trans (last _ _)

/-- R118, R153: an exit from SLUMBER stops the unit deep timer. -/
theorem moveTo_units (s : State) (c : CarrierIx) {new : LifeState} (h : new ≠ .slumber) (v : UnitIx) :
    (s.moveTo c new).unit v =
      if s.lifeState c = .slumber ∧ v = s.unitOf c then { s.unit v with deepTimer := none } else s.unit v := by
  by_cases old : s.lifeState c = .slumber
  · rw [(moveTo_carriersOnly_of_slumber old h).unit, State.stopDeepTimer, State.setUnit_unit]
    simp only [old, true_and]
    split
    · rename_i same
      rw [same]
    · rfl
  · have units : (s.moveTo c new).units = s.units := by
      refine Eq.trans ?_ (movePlaces_units s c (s.lifeState c) new)
      simp [State.moveTo, State.moveSlumber, h, old]
    rw [State.unit, units, if_neg fun all => old all.1]
    rfl

/-! ## Flags as they are told -/

theorem Alike.raiseFlag (h : Alike s t) (f : Flag) : Alike (s.raiseFlag f) (t.raiseFlag f) := by
  have raised : t.flagRaised f = s.flagRaised f := by simp only [State.flagRaised, h.engine]
  simp only [State.raiseFlag, raised]
  split
  · exact h
  · exact (h.setFlag f).notify _

theorem Alike.tellsLoss (h : Alike s t) (same : t.lifeState c = s.lifeState c) (cause : Cause) (origin : Origin) :
    Alike (s.tellsLoss c cause origin) (t.tellsLoss c cause origin) := by
  have flag := h.raiseFlag .carrierLost
  simp only [State.tellsLoss, State.tells, same, flag.calendar]
  exact flag.notify _

theorem raiseFlag_branchQueues (s : State) (f : Flag) : (s.raiseFlag f).path.branchQueues = s.path.branchQueues := by
  unfold State.raiseFlag
  split
  · rfl
  · exact notify_branchQueues ..

/-! ## Entry to LOST -/

/-- R135, R152: what entry to LOST does by itself. -/
structure Loss (c : CarrierIx) (cause : Cause) (s t : State) : Prop where
  keeps : Keeps s t
  state : ∀ d, t.lifeState d = if d = c then .lost else s.lifeState d
  others : ∀ d, d ≠ c → t.carrier d = { s.carrier d with cover := (t.carrier d).cover }
  record : ∀ d, t.carrier d = (s.moveTo c .lost).carrier d
  raised : t.flagRaised .carrierLost = true
  told : ToldAs (s.tellsLoss c cause cause.origin) t
  branches : t.path.branchQueues = s.path.branchQueues
  wakeQueue : t.wakeQueue = if s.lifeState c = .queued then s.wakeQueue.leave c else s.wakeQueue
  unitState : ∀ v, (t.unit v).state = (s.unit v).state
  queue : (t.unit (s.unitOf c)).queue = (s.unit (s.unitOf c)).queue.filter fun d => !d.isFor c
  unit : ∀ v, v ≠ s.unitOf c → t.unit v = s.unit v

theorem loss_loseEffect (managed : s.lifeState c ≠ .unmanaged) (found : s.lifeState c ≠ .lost) (cause : Cause) :
    Loss c cause s (loseEffect c cause s).1 ∧ (loseEffect c cause s).2 =
      [.sendHead (s.unitOf c)] ++ (if s.lifeState c = .warmup then [.grants] else []) ++
        (if s.isAnchor c then [.anchorLost c] else []) := by
  have kept := keeps_loseEffect c cause s
  have states := fun d => loseEffect_lifeState c d cause s
  have effect : loseEffect c cause s = (((((s.moveTo c .lost).removeDirective c).raiseFlag .carrierLost).notifyState c
      (s.lifeState c) .lost cause cause.origin), [.sendHead (s.unitOf c)] ++
        (if s.lifeState c = .warmup then [.grants] else []) ++ (if s.isAnchor c then [.anchorLost c] else [])) :=
    if_neg (by simp [managed, found])
  rw [effect] at kept states ⊢
  have moved : Keeps s (s.moveTo c .lost) :=
    keeps_moveTo (moveAllowed_awake (by simp [State.isManaged, managed]) (by decide) rfl)
  have alike : Alike s ((s.moveTo c .lost).removeDirective c) :=
    ((Alike.refl s).silent moved (quiet_moveTo s c (by decide)).toldAs).silent (keeps_removeDirective ..) ⟨rfl, rfl, rfl⟩
  have tells : Tells ((s.moveTo c .lost).removeDirective c) (((s.moveTo c .lost).removeDirective c).raiseFlag .carrierLost
      |>.notifyState c (s.lifeState c) .lost cause cause.origin) :=
    (tells_raiseFlag _ _ (by decide)).trans (tells_notifyState ..)
  have unitOf : (s.moveTo c .lost).unitOf c = s.unitOf c := by rw [State.unitOf, moved.config]; rfl
  have record (d : CarrierIx) := (tells.carrier d).trans (State.setUnit_at_carrier ..)
  refine ⟨⟨kept, fun d => ?_, fun d other => ?_, record, ?_, ((alike.raiseFlag _).notifyState ..).toToldAs, ?_, ?_,
    fun v => ?_, ?_, fun v other => ?_⟩,
    rfl⟩
  · rw [states]
    simp [managed]
  · rw [record, moveTo_other s c d .lost other]
  · exact (tells_notifyState ..).keeps.flags _ (raiseFlag_raised ..)
  · exact (notify_branchQueues ..).trans ((raiseFlag_branchQueues ..).trans (congrArg _ (quiet_moveTo s c (by decide)).path))
  · refine tells.wakeQueue.trans ((moveTo_wakeQueue ..).trans (movePlaces_wakeQueue ..))
  · rw [tells.unit, State.removeDirective, unitOf, State.setUnit_unit]
    split
    · rename_i own
      rw [own, moveTo_units s c (by decide)]
      split <;> split <;> rfl
    · rw [moveTo_units s c (by decide)]
      split <;> rfl
  · rw [tells.unit, State.removeDirective, unitOf, State.setUnit_unit, if_pos rfl, moveTo_units s c (by decide)]
    split <;> split <;> rfl
  · rw [tells.unit, State.removeDirective, unitOf, State.setUnit_unit, if_neg other, moveTo_units s c (by decide), if_neg]
    exact fun h => other h.2

theorem done_sendHead_of_empty (empty : (s.unit v).queue = []) : Done [.sendHead v] s s := by
  have effect : (Task.sendHead v).effect s = (s, []) := sendHead_of_empty empty
  rw [done_singleton_iff, effect]
  exact .nil s

/-- R82: an anchor without dependents hands the anchor-lost cause to none. -/
theorem done_anchorLost_of_none (none : ∀ d, d ≠ c → s.isManaged d = true → s.anchorOf d ≠ c) : Done [.anchorLost c] s s := by
  have empty : s.dependents c = [] := by
    simp only [State.dependents, List.filter_eq_nil_iff, Bool.and_eq_true, beq_iff_eq, State.isDependent, bne_iff_ne]
    rintro d - ⟨⟨managed, dependent⟩, anchor⟩
    exact none d (fun same => dependent (anchor.trans same.symm)) managed anchor
  have effect : (Task.anchorLost c).effect s = (s, []) := by simp [Task.effect, anchorLostEffect, empty]
  rw [done_singleton_iff, effect]
  exact .nil s

theorem done_ite {p : Prop} [Decidable p] {k : Task} (h : p → Done [k] s s) : Done (if p then [k] else []) s s := by
  split
  · exact h ‹p›
  · exact .nil s

/-- R135: a carrier that hands nothing on to another, with no directive of another in its unit's queue, enters LOST, and that
is all. -/
theorem done_lose_solitary (managed : s.lifeState c ≠ .unmanaged) (found : s.lifeState c ≠ .lost) (alone : Solitary s c)
    (mine : ∀ d ∈ (s.unit (s.unitOf c)).queue, d.carrier = some c) (cause : Cause) :
    Done [.lose c cause] s (loseEffect c cause s).1 := by
  obtain ⟨loss, tasks⟩ := loss_loseEffect managed found cause
  obtain ⟨waits, dependents⟩ := alone
  rw [done_singleton_iff]
  change Done (loseEffect c cause s).2 (loseEffect c cause s).1 _
  rw [tasks, done_append_iff]
  refine ⟨_, done_append_iff.mpr ⟨_, done_sendHead_of_empty ?_, done_ite fun warm => done_grants_of_empty ?_⟩,
    done_ite fun _ => done_anchorLost_of_none fun d other managed => ?_⟩
  · rw [loss.queue, List.filter_eq_nil_iff]
    intro d mem
    simp [Directive.isFor, mine d mem]
  · rw [loss.wakeQueue, if_neg (by rw [warm]; decide)]
    exact waits warm
  · rw [loss.keeps.anchorOf_eq]
    exact dependents d other (by rwa [loss.keeps.managed] at managed)

theorem Done.keeps {l : List Task} (h : Done l s t) : Keeps s t := by
  induction h with
  | nil => exact .refl _
  | @cons k l s t u _ _ ihFirst ihRest => exact (keeps_task k s).trans (ihFirst.trans ihRest)

/-- R135: a managed carrier that is handed entry to LOST in an event that finds none again is LOST at its end. -/
theorem Done.lost_of_mem {l : List Task} (h : Done l s t) (mem : .lose c cause ∈ l) (none : ∀ k ∈ l, ¬k.mayFind c)
    (managed : s.isManaged c = true) : t.lifeState c = .lost := by
  obtain ⟨before, after, rfl⟩ := List.append_of_mem mem
  obtain ⟨m, first, rest⟩ := done_append_iff.mp h
  obtain ⟨n, own, last⟩ := done_cons_iff.mp rest
  have still : m.lifeState c ≠ .unmanaged := by
    have := first.keeps.managed c
    rw [managed] at this
    simpa [State.isManaged] using this
  have lost : ((Task.lose c cause).effect m).1.lifeState c = .lost :=
    (loseEffect_lifeState c c cause m).trans (if_pos ⟨rfl, still⟩)
  have stays : n.lifeState c = .lost := own.stays_lost
    (fun j mem => mt (mayFind_of_spawned (effect_spawns _ m j mem)) (by simp [Task.mayFind])) lost
  exact last.stays_lost (fun k mem => none k (by simp [mem])) stays

/-- R135: entry to LOST, with all that it sets off. -/
theorem done_lose (managed : s.lifeState c ≠ .unmanaged) (found : s.lifeState c ≠ .lost) (h : Done [.lose c cause] s t) :
    t.lifeState c = .lost ∧ t.flagRaised .carrierLost = true := by
  refine ⟨h.lost_of_mem List.mem_cons_self (by simp [Task.mayFind]) (by simp [State.isManaged, managed]), ?_⟩
  exact (done_singleton_iff.mp h).keeps.flags _ (loss_loseEffect managed found cause).1.raised

end Sys2Proof.Machine
end

section
/-! PROOFS. What an event leaves as it is: a radio unit that is UNREACHABLE with nothing waiting, and RELEASING as the state of
one, unless the event recovers a unit (R155 to R157); and the notices that wait outside the trunk state UP (R179). -/

namespace Sys2Proof.Machine

variable {s t u : State} {c d : CarrierIx} {v w : UnitIx} {k j : Task} {l : List Task} {cause : Cause}
  {new : LifeState} {kind : DirectiveKind}

/-- R156: a unit that is UNREACHABLE, with nothing queued or outstanding and its deep timer stopped. -/
def RadioUnit.isSilent (x : RadioUnit) : Prop :=
  x.state = some .unreachable ∧ x.queue = [] ∧ x.sent = none ∧ x.deepTimer = none

/-- From `s` to `t` no silent unit has changed, and none in RELEASING has left it; and outside UP notices have only joined
those that wait. -/
structure Steady (s t : State) : Prop where
  silent : ∀ v, (s.unit v).isSilent → t.unit v = s.unit v
  releasing : ∀ v, (s.unit v).state = some .releasing → (t.unit v).state = some .releasing
  trunk : t.path.trunkState = s.path.trunkState
  notices : s.path.trunkState ≠ .up → s.engine.notices <+: t.engine.notices

theorem Steady.refl (s : State) : Steady s s := ⟨fun _ _ => rfl, fun _ => id, rfl, fun _ => List.prefix_refl _⟩

theorem Steady.trans (h : Steady s t) (k : Steady t u) : Steady s u where
  silent v still := by
    have first := h.silent v still
    rw [k.silent v (by rwa [first]), first]
  releasing v state := k.releasing v (h.releasing v state)
  trunk := k.trunk.trans h.trunk
  notices waits := (h.notices waits).trans (k.notices (by rwa [h.trunk]))

theorem steady_of_units (h : t.units = s.units) (trunk : t.path.trunkState = s.path.trunkState)
    (notices : s.path.trunkState ≠ .up → s.engine.notices <+: t.engine.notices) : Steady s t := by
  have unit (v : UnitIx) : t.unit v = s.unit v := by rw [State.unit, h, State.unit]
  exact ⟨fun v _ => unit v, fun v state => by rwa [unit], trunk, notices⟩

/-- Nothing that this speaks of has changed. -/
theorem steady_of_same (units : t.units = s.units) (trunk : t.path.trunkState = s.path.trunkState)
    (engine : t.engine = s.engine) : Steady s t :=
  steady_of_units units trunk fun _ => by rw [engine]

theorem Tells.steady (h : Tells s t) (notices : s.path.trunkState ≠ .up → s.engine.notices <+: t.engine.notices) : Steady s t :=
  steady_of_units h.units h.keeps.trunkState notices

theorem steady_setUnit {x : RadioUnit} (silent : (s.unit v).isSilent → x = s.unit v)
    (releasing : (s.unit v).state = some .releasing → x.state = some .releasing) : Steady s (s.setUnit v x) where
  silent w still := by
    rw [State.setUnit_unit]
    split
    · rename_i same
      subst same
      exact silent still
    · rfl
  releasing w state := by
    rw [State.setUnit_unit]
    split
    · rename_i same
      subst same
      exact releasing state
    · exact state
  trunk := rfl
  notices _ := List.prefix_refl _

/-! ## Notices -/

theorem setEngine_setEngine (s : State) (e e' : Engine) : (s.setEngine e).setEngine e' = s.setEngine e' := rfl

/-- R179: outside UP a notice joins those that wait, or is lost. -/
theorem offerNotice_notices (waits : s.path.trunkState ≠ .up) (n : NoticeContent) :
    s.engine.notices <+: (s.offerNotice n).1.engine.notices := by
  have stays (e : Engine) : (s.setEngine e).passIfUp = s.setEngine e := if_neg waits
  unfold State.offerNotice
  split
  · dsimp only
    split
    · rw [setEngine_setEngine, stays]
      exact List.prefix_append _ _
    · exact List.prefix_refl _
  · exact List.prefix_refl _

theorem steady_notify (s : State) (n : NoticeContent) : Steady s (s.notify n) := by
  refine (tells_notify s n).steady fun waits => ?_
  have first := offerNotice_notices waits n
  unfold State.notify
  dsimp only
  split
  · refine first.trans (offerNotice_notices (s := (s.offerNotice n).1.setFlag .noticeDropped) ?_ _)
    exact fun up => waits ((tells_offerNotice s n).keeps.trunkState.symm.trans up)
  · exact first

theorem steady_notifyState (s : State) (c : CarrierIx) (old new : LifeState) (cause : Cause) (origin : Origin) :
    Steady s (s.notifyState c old new cause origin) := steady_notify ..

theorem steady_raiseFlag (s : State) (f : Flag) : Steady s (s.raiseFlag f) := by
  unfold State.raiseFlag
  split
  · exact .refl s
  · exact (steady_of_units rfl rfl fun _ => List.prefix_refl _ : Steady s (s.setFlag f)).trans (steady_notify ..)

theorem steady_offerInjected (s : State) (port : Port) (f : Frame) : Steady s (s.offerInjected port f) := by
  refine (tells_offerInjected ..).steady fun _ => ?_
  rw [offerInjected_eq]
  exact List.prefix_refl _

theorem steady_advise (s : State) (kind : Advisory) (c : CarrierIx) (reason : Cause) :
    Steady s (s.advise kind c reason) := by
  have counted (x : AdvisoryCounters) : Steady s { s with advisories := x } := steady_of_same rfl rfl rfl
  unfold State.advise
  split
  · exact counted _
  · exact (counted _).trans (steady_offerInjected ..)

/-- A unit that is neither UNREACHABLE nor in RELEASING. -/
theorem steady_setUnit_of_other {x : RadioUnit} (reachable : (s.unit v).state ≠ some .unreachable)
    (settled : (s.unit v).state ≠ some .releasing) : Steady s (s.setUnit v x) :=
  steady_setUnit (fun still => absurd still.1 reachable) (fun state => absurd state settled)

/-! ## The shared operations -/

theorem steady_transmit (s : State) (d : Directive) (reachable : (s.unit v).state ≠ some .unreachable)
    (settled : (s.unit v).state ≠ some .releasing) : Steady s (s.transmit v d) :=
  (steady_setUnit_of_other reachable settled).trans (steady_offerInjected ..)

theorem steady_stopDeepTimer (s : State) (v : UnitIx) : Steady s (s.stopDeepTimer v) :=
  steady_setUnit (fun still => by rw [← still.2.2.2]) id

theorem steady_deepTest (s : State) (v : UnitIx) : Steady s (s.deepTest v) := by
  by_cases starts : s.deepReady v = true ∧ (s.unit v).deepTimer = none
  · obtain ⟨ready, stopped⟩ := starts
    obtain ⟨up, -⟩ := deepReady_iff.mp ready
    have reachable : (s.unit v).state ≠ some .unreachable := by simp [up]
    have settled : (s.unit v).state ≠ some .releasing := by simp [up]
    by_cases held : (s.unitSettings v).deepDelay.toNat ≠ 0 ∨ ¬s.mayGoDeep v
    · rw [deepTest_of_starts ready stopped held]
      exact steady_setUnit_of_other reachable settled
    · rw [not_or, not_not, not_not] at held
      rw [deepTest_of_goes ready stopped held.1 held.2]
      have pending (x : RadioUnit) : Steady s (s.advanceToken.setUnit v x) :=
        (steady_of_same rfl rfl rfl : Steady s s.advanceToken).trans (steady_setUnit_of_other reachable settled)
      exact (pending _).trans (steady_transmit _ _ (by simp) (by simp))
  · rw [deepTest_of_not starts]
    exact .refl s

theorem steady_moveTo (s : State) (c : CarrierIx) (new : LifeState) : Steady s (s.moveTo c new) := by
  have places : Steady s (s.movePlaces c (s.lifeState c) new) := steady_of_same (movePlaces_units ..) (by rw [(quiet_movePlaces ..).path]) (quiet_movePlaces ..).engine
  have set (s : State) (x : Carrier) : Steady s (s.setCarrier c x) := steady_of_same rfl rfl rfl
  have last (s : State) (old : LifeState) : Steady s (s.moveSlumber c old new) := by
    unfold State.moveSlumber
    split
    · exact steady_stopDeepTimer ..
    · split
      · exact steady_deepTest ..
      · exact .refl s
  unfold State.moveTo
  exact (places.trans (set _ _)).trans (last _ _)

theorem steady_moveAndTell (s : State) (c : CarrierIx) (new : LifeState) (cause : Cause) :
    Steady s (s.moveAndTell c new cause) := (steady_moveTo ..).trans (steady_notifyState ..)

theorem steady_enterQueued (s : State) (c : CarrierIx) (cls : WakeClass) (depth : Depth) (cause : Cause) :
    Steady s (s.enterQueued c cls depth cause) := by
  have joined (s : State) (q : WakeQueue) : Steady s (s.setWakeQueue q) := steady_of_same rfl rfl rfl
  unfold State.enterQueued
  exact ((steady_moveTo s c .queued).trans (joined ..)).trans (steady_notifyState ..)

theorem steady_enterRestoring (s : State) (c : CarrierIx) (cause : Cause) : Steady s (s.enterRestoring c cause) := by
  obtain ⟨-, eq⟩ := enterRestoring_eq s c cause
  have first : Steady s (((s.moveTo c .restoring).advise .openUp c cause).notifyState c (s.lifeState c) .restoring cause
      cause.origin) := ((steady_moveTo ..).trans (steady_advise ..)).trans (steady_notifyState ..)
  rw [eq]
  split
  · exact (first.trans (steady_moveTo ..)).trans (steady_notifyState ..)
  · exact first

/-- R145: a unit that takes a directive is not UNREACHABLE, and one in RELEASING stays there. -/
theorem steady_handDirective (h : s.handDirective kind c = some t) : Steady s t := by
  obtain ⟨-, reachable, rfl⟩ := handed_of h
  have queued : Steady s (s.queued kind c) :=
    (steady_of_same rfl rfl rfl : Steady s s.advanceToken).trans
      (steady_setUnit (fun still => absurd still.1 reachable) (fun state => state))
  split
  · rename_i deep
    refine ⟨fun v still => ?_, fun v state => ?_, (tells_inject ..).keeps.trunkState, fun _ => ?_⟩
    · have other : v ≠ s.unitOf c := fun same => by
        subst same
        exact reachable still.1
      rw [releaseUnit_unit_other _ other, queued.silent v still]
    · have other : v ≠ s.unitOf c := fun same => by
        subst same
        rw [deep] at state
        cases state
      rw [releaseUnit_unit_other _ other, queued.releasing v state]
    · rw [(releaseUnit_toldAs ..).engine]
      exact List.prefix_refl _
  · exact queued

theorem steady_removeDirective (s : State) (c : CarrierIx) : Steady s (s.removeDirective c) := by
  refine steady_setUnit (fun still => ?_) (fun state => ?_)
  · obtain ⟨-, empty, unsent, -⟩ := still
    rw [unsent, empty]
    exact congrArg (fun q => { s.unit (s.unitOf c) with queue := q }) empty.symm
  · dsimp only
    split <;> exact state

/-! ## The tasks -/

theorem steady_abandonEffect (c : CarrierIx) (cause : Cause) (s : State) : Steady s (abandonEffect c cause s).1 := by
  unfold abandonEffect
  split
  · exact steady_enterRestoring ..
  · exact .refl s

theorem steady_wakeEffect (c : CarrierIx) (k : WakeKind) (s : State) : Steady s (wakeEffect c k s).1 := by
  have kept : Steady s (s.keepWake c k.cls k.cause) := steady_of_same rfl rfl rfl
  unfold wakeEffect
  split
  case h_1 => exact steady_enterQueued ..
  case h_2 =>
    split
    · exact .refl s
    · exact steady_enterQueued ..
  case h_3 | h_4 =>
    split
    · exact .refl s
    · exact kept
  case h_5 | h_6 =>
    split
    · exact .refl s
    · exact steady_abandonEffect ..
  case h_7 => exact steady_of_same rfl rfl rfl
  case h_8 =>
    split
    · exact steady_enterQueued ..
    · exact .refl s
  all_goals exact .refl s

theorem steady_grantsEffect (s : State) : Steady s (grantsEffect s).1 := by
  have granted (d : CarrierIx) : Steady s (grantTo d s).1 := by
    unfold grantTo
    split
    · dsimp only
      split
      · rename_i handed
        exact (steady_moveAndTell ..).trans (steady_handDirective handed)
      · exact steady_moveAndTell ..
    · exact .refl s
  unfold grantsEffect
  split
  · split
    · exact .refl s
    · exact granted _
  · exact .refl s

theorem steady_loseEffect (c : CarrierIx) (cause : Cause) (s : State) : Steady s (loseEffect c cause s).1 := by
  unfold loseEffect
  dsimp only
  split
  · exact .refl s
  · exact (((steady_moveTo ..).trans (steady_removeDirective ..)).trans (steady_raiseFlag ..)).trans
      (steady_notifyState ..)

theorem steady_sendHeadEffect (v : UnitIx) (s : State) : Steady s (sendHeadEffect v s).1 := by
  unfold sendHeadEffect
  dsimp only
  split
  · rename_i idle
    have reachable : (s.unit v).state ≠ some .unreachable := by simp [idle.1]
    have settled : (s.unit v).state ≠ some .releasing := by simp [idle.1]
    split
    · exact .refl s
    · split
      · exact steady_setUnit_of_other reachable settled
      · exact steady_transmit s _ reachable settled
  · exact .refl s

theorem Steady.acted {p : Prop} [Decidable p] {e : Effect} (h : Steady s e.1) : Steady s (if p then e else (s, [])).1 := by
  split
  · exact h
  · exact .refl s

theorem steady_endedEffect (c : CarrierIx) (kind : DirectiveKind) (how : DirectiveEnd) (s : State) :
    Steady s (endedEffect c kind how s).1 := by
  have slept : Steady s (sleepEnded c how s).1 := by
    unfold sleepEnded
    split
    case h_1 =>
      dsimp only
      split
      · exact steady_moveAndTell ..
      · exact (steady_moveAndTell ..).trans (steady_enterQueued ..)
    case h_2 => exact steady_enterRestoring ..
    all_goals exact .refl s
  have deepened : Steady s (deepenEnded c how s).1 := by
    unfold deepenEnded
    dsimp only
    split
    case h_1 | h_2 =>
      split
      · exact steady_moveAndTell ..
      · exact steady_enterQueued ..
    all_goals exact .refl s
  have woken : Steady s (wakeEnded c how s).1 := by
    unfold wakeEnded
    split
    case h_1 => exact steady_enterRestoring ..
    all_goals exact .refl s
  unfold endedEffect
  split
  case h_1 => exact slept.acted
  case h_2 => exact deepened.acted
  case h_3 => exact woken.acted
  case h_4 | h_5 => exact .refl s

theorem steady_withdrawnEffect (c : CarrierIx) (s : State) : Steady s (withdrawnEffect c s).1 := by
  unfold withdrawnEffect
  split
  · split
    · exact steady_moveAndTell ..
    · exact steady_enterQueued ..
  · exact .refl s

theorem steady_linkUpEffect (c : CarrierIx) (s : State) : Steady s (linkUpEffect c s).1 := by
  unfold linkUpEffect
  split
  · exact steady_enterQueued ..
  · exact .refl s

theorem steady_deepenEffect (c : CarrierIx) (s : State) : Steady s (deepenEffect c s).1 := by
  unfold deepenEffect
  split
  · split
    · rename_i handed
      exact (steady_handDirective handed).trans (steady_moveAndTell ..)
    · exact .refl s
  · exact .refl s

theorem steady_completeDrain (c : CarrierIx) (cause : Cause) (origin : Origin) (s : State) :
    Steady s (completeDrain c cause origin s).1 := by
  unfold completeDrain
  split
  · dsimp only
    split
    · rename_i handed
      exact ((steady_moveTo ..).trans (steady_handDirective handed)).trans (steady_notifyState ..)
    · exact (steady_moveTo ..).trans (steady_notifyState ..)
  · exact .refl s

theorem steady_reportEffect (c : CarrierIx) (m : Meter) (s : State) : Steady s (reportEffect c m s).1 := by
  unfold reportEffect
  dsimp only
  split
  case h_1 =>
    split
    · exact steady_abandonEffect ..
    · split
      · exact steady_completeDrain ..
      · exact .refl s
  case h_2 =>
    split
    · exact steady_abandonEffect ..
    · exact .refl s
  case h_3 => exact steady_deepenEffect ..
  all_goals exact .refl s

theorem steady_beginDrain (s : State) (c : CarrierIx) (pledge : Nat) (cause : Cause) :
    Steady s (s.beginDrain c pledge cause) := by
  have joined : Steady s (s.joinDrain c pledge) := steady_of_same rfl rfl rfl
  exact ((joined.trans (steady_moveTo ..)).trans (steady_advise ..)).trans (steady_notifyState ..)

theorem steady_admissions (report : Vector Meter 32) (l : List CarrierIx) (s : State) :
    Steady s (l.foldl (State.tryAdmit report) s) := by
  induction l generalizing s with
  | nil => exact .refl s
  | cons c l ih =>
    refine Steady.trans ?_ (ih _)
    unfold State.tryAdmit
    dsimp only
    split
    · exact steady_beginDrain ..
    · exact .refl s

theorem steady_groupEffect (a : CarrierIx) (report : Vector Meter 32) (s : State) :
    Steady s (groupEffect a report s).1 := by
  unfold groupEffect
  split
  · split
    · unfold reliefEffect
      split
      · exact steady_abandonEffect ..
      · split <;> exact .refl s
    · exact steady_admissions ..
  · exact .refl s

/-- A task that recovers no unit. -/
def Task.isRecover : Task → Bool
  | .recover _ => true
  | _ => false

theorem steady_task (k : Task) (s : State) (other : k.isRecover = false) : Steady s (k.effect s).1 := by
  cases k with
  | wake d k => exact steady_wakeEffect d k s
  | grants => exact steady_grantsEffect s
  | anchorLost a => exact .refl s
  | sendHead v => exact steady_sendHeadEffect v s
  | lose d cause => exact steady_loseEffect d cause s
  | ended d kind how => exact steady_endedEffect d kind how s
  | withdrawn d => exact steady_withdrawnEffect d s
  | linkUp d => exact steady_linkUpEffect d s
  | deepen d => exact steady_deepenEffect d s
  | abandon d cause => exact steady_abandonEffect d cause s
  | report d m => exact steady_reportEffect d m s
  | group a rep => exact steady_groupEffect a rep s
  | deepTest v => exact steady_deepTest s v
  | recover v => cases other

theorem isRecover_of_spawned (spawned : k.spawns s j) : j.isRecover = false := by
  cases j with
  | recover v => exact spawned.elim
  | _ => rfl

/-- An event that recovers no unit. -/
theorem Done.steady (h : Done l s t) (none : ∀ k ∈ l, k.isRecover = false) : Steady s t := by
  induction h with
  | nil => exact .refl _
  | @cons k l s t u _ _ ihFirst ihRest =>
    exact ((steady_task k s (none k List.mem_cons_self)).trans
      (ihFirst fun j mem => isRecover_of_spawned (effect_spawns k s j mem))).trans
        (ihRest fun j mem => none j (List.mem_cons_of_mem _ mem))

end Sys2Proof.Machine
end

section
/-! PROOFS. The timers of a radio unit (R149, R155): resends, directives given up, and the end of the release time. -/

namespace Sys2Proof.Machine

variable {s t u : State} {c d : CarrierIx} {v w : UnitIx} {cause : Cause} {kind : DirectiveKind}

/-! ## The end of a directive -/

theorem dropHead_eq {d : Directive} {rest : List Directive} (head : (s.unit v).queue = d :: rest) : s.dropHead v =
    s.setUnit v { s.unit v with queue := rest, sent := none, attempts := 0, replyTimer := none } := by
  rw [State.dropHead, head]
  rfl

theorem alike_setUnit (s : State) (v : UnitIx) {x : RadioUnit} (used : x.state.isSome = (s.unit v).state.isSome)
    (map : x.map = (s.unit v).map) : Alike s (s.setUnit v x) :=
  (Alike.refl s).silent (keeps_setUnit s v x used map) ⟨rfl, rfl, rfl⟩

/-- R150: the end of a carrier's directive. -/
theorem endDirective_of_carrier {d : Directive} {rest : List Directive} (head : (s.unit v).queue = d :: rest)
    (carrier : d.carrier = some c) (other : d.kind ≠ .unitDeep) (how : DirectiveEnd) :
    endDirective v how s = (s.dropHead v, [.ended c d.kind how, .sendHead v]) := by
  unfold endDirective
  simp [head, other, carrier]

theorem endDirective_of_unitDeep {d : Directive} {rest : List Directive} (head : (s.unit v).queue = d :: rest)
    (deep : d.kind = .unitDeep) (how : DirectiveEnd) : endDirective v how s = unitDeepEnded v how (s.dropHead v) := by
  unfold endDirective
  simp [head, deep]

/-- R112, R117, R132: a carrier whose directive is given up while it waits for the outcome. -/
theorem endedEffect_usedUp (waits : (kind = .carrierSleep ∧ s.lifeState c = .rampdown) ∨
    (kind = .carrierDeepen ∧ s.lifeState c = .deepening) ∨ (kind = .carrierWake ∧ s.lifeState c = .warmup)) :
    endedEffect c kind .usedUp s = (s, [.lose c .radioSilent]) := by
  obtain ⟨rfl, old⟩ | ⟨rfl, old⟩ | ⟨rfl, old⟩ := waits <;> simp [endedEffect, old, sleepEnded, deepenEnded, wakeEnded]

/-- R135: a directive's carrier that is handed entry to LOST behind its end, and the head behind the directive. -/
theorem done_ended_lose {how : DirectiveEnd} (ended : endedEffect c kind how s = (s, [.lose c cause])) :
    Done [.ended c kind how, .sendHead v] s t ↔ ∃ m, Done [.lose c cause] s m ∧ Done [.sendHead v] m t := by
  have effect : (Task.ended c kind how).effect s = (s, [.lose c cause]) := ended
  rw [done_cons_iff, effect]

/-- R135, R146: the carrier is LOST at the end; where nothing waits behind and it hands nothing on, that is all. -/
theorem ended_lose {d : Directive} {rest : List Directive} {how : DirectiveEnd} (head : (s.unit v).queue = d :: rest)
    (ended : endedEffect c kind how (s.dropHead v) = (s.dropHead v, [.lose c cause]))
    (managed : s.lifeState c ≠ .unmanaged) (found : s.lifeState c ≠ .lost) :
    let t := (s.dropHead v).work [.ended c kind how, .sendHead v]
    Keeps s t ∧ t.lifeState c = .lost ∧ t.flagRaised .carrierLost = true ∧
      (rest = [] → s.unitOf c = v → Solitary s c →
        ToldAs (s.tellsLoss c cause cause.origin) t ∧ t.path.branchQueues = s.path.branchQueues) := by
  intro t
  have done : Done _ (s.dropHead v) t := done_work [.ended c kind how, .sendHead v] (s.dropHead v) (by simp [costs, Task.cost])
  obtain ⟨m, lose, sent⟩ := (done_ended_lose ended).mp done
  have dropped := dropHead_eq head
  have alike : Alike s (s.dropHead v) := by
    rw [dropped]
    exact alike_setUnit s v rfl rfl
  have state : (s.dropHead v).lifeState c = s.lifeState c := by rw [dropped]; rfl
  obtain ⟨lost, raised⟩ := done_lose (by rwa [state]) (by rwa [state]) lose
  refine ⟨?_, sent.stays_lost (by simp [Task.mayFind]) lost, sent.keeps.flags _ raised, fun last own alone => ?_⟩
  · have first : Keeps s (s.dropHead v) := by
      rw [dropped]
      exact keeps_setUnit s v _ rfl rfl
    exact first.trans done.keeps
  · have unit : ((s.dropHead v).unit ((s.dropHead v).unitOf c)).queue = [] := by
      rw [dropped]
      change ((s.setUnit v _).unit (s.unitOf c)).queue = []
      rw [own, State.setUnit_unit, if_pos rfl, last]
    have alone' : Solitary (s.dropHead v) c := by
      rw [dropped]
      exact alone
    obtain ⟨loss, -⟩ := loss_loseEffect (s := s.dropHead v) (c := c) (by rwa [state]) (by rwa [state]) cause
    obtain rfl : m = _ := lose.unique (done_lose_solitary (by rwa [state]) (by rwa [state]) alone' (by rw [unit]; nofun) cause)
    have same : t = _ := sent.unique (done_sendHead_of_empty (by
      have own' : (s.dropHead v).unitOf c = v := by rw [dropped]; exact own
      have := loss.queue
      rwa [unit, own', List.filter_nil] at this))
    rw [same]
    exact ⟨(alike.tellsLoss state cause cause.origin).toToldAs.trans loss.told, loss.branches.trans (by rw [dropped]; rfl)⟩

/-! ## Entry to LOST for the carriers of a unit -/

theorem done_loses_of_lost {l : List CarrierIx} (all : ∀ d ∈ l, s.lifeState d = .lost) (cause : Cause) :
    Done (l.map (.lose · cause)) s s := by
  induction l with
  | nil => exact .nil s
  | cons d l ih =>
    have effect : (Task.lose d cause).effect s = (s, []) := if_pos (.inr (all d List.mem_cons_self))
    refine done_cons_iff.mpr ⟨s, ?_, ih fun e mem => all e (List.mem_cons_of_mem _ mem)⟩
    rw [effect]
    exact .nil s

/-- R135: of carriers of which all but one are LOST, the one alone takes the entry. -/
theorem done_loses_single {l : List CarrierIx} (mem : c ∈ l) (others : ∀ d ∈ l, d ≠ c → s.lifeState d = .lost)
    (one : Done [.lose c cause] s t) (state : ∀ d, t.lifeState d = if d = c then .lost else s.lifeState d) :
    Done (l.map (.lose · cause)) s t := by
  induction l with
  | nil => cases mem
  | cons d l ih =>
    by_cases same : d = c
    · subst same
      refine done_cons_iff.mpr ⟨t, done_singleton_iff.mp one, done_loses_of_lost (fun e mem => ?_) cause⟩
      rw [state]
      split
      · rfl
      · exact others e (List.mem_cons_of_mem _ mem) ‹_›
    · have effect : (Task.lose d cause).effect s = (s, []) := if_pos (.inr (others d List.mem_cons_self same))
      refine done_cons_iff.mpr ⟨s, by rw [effect]; exact .nil s, ih ?_ fun e mem => others e (List.mem_cons_of_mem _ mem)⟩
      exact (List.mem_cons.mp mem).resolve_left (Ne.symm same)

theorem costs_loses (l : List CarrierIx) (cause : Cause) : costs (l.map (.lose · cause)) = 0 := by
  simp [costs, Task.cost, Function.comp_def]

/-- R156: the unit falls silent, and its carriers are handed entry to LOST. -/
theorem loses_of_unit (v : UnitIx) (cause : Cause) {b : State} (silent : (b.unit v).isSilent) :
    let t := b.work ((b.unitCarriers v).map (.lose · cause))
    Keeps b t ∧ t.unit v = b.unit v ∧ (∀ c, b.isManaged c = true → b.unitOf c = v → t.lifeState c = .lost) ∧
      ∀ c, b.isManaged c = true → b.unitOf c = v → b.lifeState c ≠ .lost → Solitary b c →
        (∀ e, e ≠ c → b.isManaged e = true → b.unitOf e = v → b.lifeState e = .lost) → Loss c cause b t := by
  intro t
  have done : Done _ b t := done_work ((b.unitCarriers v).map (.lose · cause)) b (by rw [costs_loses]; decide)
  refine ⟨done.keeps, (done.steady (by simp [Task.isRecover])).silent v silent, fun c managed own => ?_,
    fun c managed own found alone others => ?_⟩
  · exact done.lost_of_mem (List.mem_map_of_mem (mem_unitCarriers.mpr ⟨managed, own⟩)) (by simp [Task.mayFind]) managed
  · have unmanaged : b.lifeState c ≠ .unmanaged := by simpa [State.isManaged] using managed
    obtain ⟨loss, -⟩ := loss_loseEffect (s := b) unmanaged found cause
    have one := done_lose_solitary unmanaged found alone (by rw [own, silent.2.1]; nofun) cause
    have whole := done_loses_single (mem_unitCarriers.mpr ⟨managed, own⟩)
      (fun d mem other => others d other (mem_unitCarriers.mp mem).1 (mem_unitCarriers.mp mem).2) one loss.state
    rw [show t = _ from done.unique whole]
    exact loss

theorem setUnit_setUnit (s : State) (v : UnitIx) (x y : RadioUnit) : (s.setUnit v x).setUnit v y = s.setUnit v y := by
  simp [State.setUnit]

/-- R156: what is left of a unit that has given up. -/
def RadioUnit.gone (x : RadioUnit) : RadioUnit :=
  { x with state := some .unreachable, queue := [], sent := none, attempts := 0, replyTimer := none, releaseTimer := none,
           deepTimer := none }

/-- R154, R156: a UNIT-DEEP given up. -/
theorem unitDeepEnded_usedUp {d : Directive} {rest : List Directive} (head : (s.unit v).queue = d :: rest) :
    unitDeepEnded v .usedUp (s.dropHead v) = (s.setUnit v (s.unit v).gone,
      ((s.setUnit v (s.unit v).gone).unitCarriers v).map (.lose · .radioSilent)) := by
  have dropped := dropHead_eq head
  have unit : ((s.dropHead v).unit v).silenced = { (s.unit v).gone with state := (s.unit v).state } := by
    rw [dropped, State.setUnit_unit, if_pos rfl]
    rfl
  unfold unitDeepEnded
  dsimp only
  rw [unit, dropped, setUnit_setUnit]
  rfl

/-! ## The obligations -/

/-- Settles O35: a resend; a directive given up, by its kind; and the end of the release time, which leaves the unit UP and
awaiting no reply. -/
theorem replyAndReleaseTimerExpiry : Obligations.ReplyAndReleaseTimerExpiry := by
  unfold Obligations.ReplyAndReleaseTimerExpiry
  refine ⟨fun u s running => ?_, fun u s running => ⟨fun other => ?_, fun releasing idle => ?_⟩⟩
  · have meaning (timer : (s.unit u).replyTimer ≠ none) : exec (.replyTimerExpires u) s = .next (replyExpired u s).finish :=
      congrArg Host.Outcome.next (if_pos ⟨running, Option.isSome_iff_ne_none.mpr timer⟩)
    have given_up (sent : (s.unit u).sent ≠ none) (used : (s.unitSettings u).retries.toNat + 1 ≤ (s.unit u).attempts) :
        replyExpired u s = endDirective u .usedUp s := by
      obtain ⟨bytes, sent⟩ := Option.ne_none_iff_exists'.mp sent
      unfold replyExpired
      rw [sent]
      exact if_neg (Nat.not_lt.mpr used)
    refine ⟨fun stopped => ?_, fun bytes timer sent left => ?_, fun d rest c timer sent head used carrier waits => ?_,
      fun d rest pending timer sent head deep used => ?_⟩
    · exact congrArg Host.Outcome.next (if_neg fun h => by simp [stopped] at h)
    · rw [meaning timer]
      have resent : replyExpired u s = (s.resend u bytes, []) := by
        unfold replyExpired
        rw [sent]
        exact if_pos left
      rw [resent]
      rfl
    · have other : d.kind ≠ .unitDeep := by
        obtain ⟨kind, -⟩ | ⟨kind, -⟩ | ⟨kind, -⟩ := waits <;> simp [kind]
      have awake : s.lifeState c ≠ .unmanaged ∧ s.lifeState c ≠ .lost := by
        obtain ⟨-, old⟩ | ⟨-, old⟩ | ⟨-, old⟩ := waits <;> simp [old]
      rw [meaning timer, given_up sent used, endDirective_of_carrier head carrier other]
      have ended : endedEffect c d.kind .usedUp (s.dropHead u) = (s.dropHead u, [.lose c .radioSilent]) := by
        rw [dropHead_eq head]
        exact endedEffect_usedUp waits
      exact ⟨_, rfl, ended_lose head ended awake.1 awake.2⟩
    · have used_unit : (s.unit u).gone.state.isSome = (s.unit u).state.isSome := by rw [pending]; rfl
      have kept := keeps_setUnit s u (s.unit u).gone used_unit rfl
      have unit : (s.setUnit u (s.unit u).gone).unit u = (s.unit u).gone := by rw [State.setUnit_unit, if_pos rfl]
      obtain ⟨keeps, same, lost, single⟩ :=
        loses_of_unit u .radioSilent (b := s.setUnit u (s.unit u).gone) (by rw [unit]; exact ⟨rfl, rfl, rfl, rfl⟩)
      rw [meaning timer, given_up sent used, endDirective_of_unitDeep head deep, unitDeepEnded_usedUp head]
      refine ⟨_, rfl, kept.trans keeps, same.trans unit, lost, fun c managed own found alone others => ?_⟩
      exact ((alike_setUnit s u used_unit rfl).tellsLoss rfl _ _).toToldAs.trans (single c managed own found alone others).told
  · exact congrArg Host.Outcome.next (if_neg fun h => other h.2)
  · have meaning : exec (.releaseTimerExpires u) s = .next (releaseEnded u s).finish :=
      congrArg Host.Outcome.next (if_pos ⟨running, releasing⟩)
    refine ⟨_, meaning, headConsidered ?_ ?_⟩
    · rw [State.setUnit_unit, if_pos rfl]
    · rw [State.setUnit_unit, if_pos rfl]
      exact idle

end Sys2Proof.Machine
end

section
/-! PROOFS. Radio replies (R148 to R151): how a reply is read, and what is done with one that has no effect, or is
unsolicited. -/

namespace Sys2Proof.Machine

variable {s t : State} {c d : CarrierIx} {v : UnitIx} {r : Report} {body : List Byte} {w : Walk} {a : ActionEntry} {s' : State}
  {token link : Nat}

/-! ## Reading a reply -/

/-- 12.3, byte 2 of a radio reply. -/
def Report.wire : Report → Nat
  | .ready => 1 | .asleepLight => 2 | .asleepDeep => 3 | .fault => 4 | .unitDown => 5 | .unitBusy => 6

theorem Report.ofCode_eq_some_iff {b : Byte} : Report.ofCode b = some r ↔ b.toNat = r.wire := by
  unfold Report.ofCode
  cases r <;> split <;> simp_all [Report.wire]

theorem Report.ofCode_eq_none_iff {b : Byte} : Report.ofCode b = none ↔ ¬(1 ≤ b.toNat ∧ b.toNat ≤ 6) := by
  unfold Report.ofCode
  split <;> simp_all
  omega

/-- R148, R181: a reply that cannot be read. -/
theorem readRadioReply_eq_none_iff : readRadioReply body = none ↔
    ¬(3 ≤ body.length ∧ 1 ≤ (byteAt body 2).toNat ∧ (byteAt body 2).toNat ≤ 6) := by
  unfold readRadioReply
  split
  · simp
    omega
  · simp only [Option.map_eq_none_iff, Report.ofCode_eq_none_iff]
    simp
    omega

/-- 12.3: a reply that can be read. -/
theorem readRadioReply_of_code (long : 3 ≤ body.length) (code : Report.ofCode (byteAt body 2) = some r) :
    readRadioReply body = some ((byteAt body 0).toNat, (byteAt body 1).toNat, r) := by
  unfold readRadioReply
  rw [if_neg (by omega), code]
  rfl

theorem exists_report (known : 1 ≤ (byteAt body 2).toNat ∧ (byteAt body 2).toNat ≤ 6) :
    ∃ r, Report.ofCode (byteAt body 2) = some r := by
  refine Option.ne_none_iff_exists'.mp fun none => ?_
  exact Report.ofCode_eq_none_iff.mp none known

/-! ## Which test takes a reply -/

theorem exec_radioReply (done : WalkDone s w a s') (kind : a.kind = .radioReply) (side : w.port = .branch v) :
    exec (.walkEnds w.port) s = .next (radioReply v (w.bytes.drop a.bodyOffset) s').finish := by
  obtain ⟨n, good, meaning⟩ := exec_walkEnds_done done
  rw [meaning, disposeFrame, good]
  simp only [kind, side]
  rfl

theorem radioReply_unused_unread (unused : (s.unit v).state = none) (unread : readRadioReply body = none) :
    radioReply v body s = (s, []) := by
  unfold radioReply
  rw [unused, unread]

theorem radioReply_used_unread (used : (s.unit v).state ≠ none) (unread : readRadioReply body = none) :
    radioReply v body s = (s.countDiscarded v, []) := by
  obtain ⟨st, state⟩ := Option.ne_none_iff_exists'.mp used
  unfold radioReply
  rw [state, unread]

theorem radioReply_unused (unused : (s.unit v).state = none) (read : readRadioReply body = some (token, link, r)) :
    radioReply v body s = (if token = 0 then s else s.raiseFlag .lateReply, []) := by
  unfold radioReply
  rw [unused, read]

theorem radioReply_taken (used : (s.unit v).state ≠ none) (read : readRadioReply body = some (token, link, r))
    (stays : ¬((s.unit v).state = some .unreachable ∧ s.path.linkUp (.branch v) = true)) :
    radioReply v body s = takeReply v token link r s := by
  obtain ⟨st, state⟩ := Option.ne_none_iff_exists'.mp used
  unfold radioReply
  rw [read]
  simp only [state]
  refine if_neg fun h => stays ⟨?_, h.2⟩
  rw [state, h.1]

theorem radioReply_recovers (state : (s.unit v).state = some .unreachable) (up : s.path.linkUp (.branch v) = true)
    (read : readRadioReply body = some (token, link, r)) :
    radioReply v body s = ((takeReply v token link r s).1, (takeReply v token link r s).2 ++ [.recover v]) := by
  unfold radioReply
  rw [read]
  simp [state, up]

/-- R148: a token that is not awaited. -/
theorem awaits_eq_false (h : (s.unit v).sent = none ∨ ∀ d, (s.unit v).queue.head? = some d → d.token ≠ token) :
    (s.unit v).awaits token = false := by
  unfold RadioUnit.awaits
  rcases h with unsent | other
  · simp [unsent]
  · cases head : (s.unit v).queue.head? with
    | none => simp
    | some d => simp [other d head]

theorem takeReply_late (some_token : token ≠ 0) (late : (s.unit v).awaits token = false) :
    takeReply v token link r s = (s.raiseFlag .lateReply, []) := by
  simp [takeReply, some_token, late]

theorem takeReply_unsolicited : takeReply v 0 link r s = unsolicitedReply v link r s := if_pos rfl

theorem takeReply_awaited (some_token : token ≠ 0) (awaited : (s.unit v).awaits token = true) :
    takeReply v token link r s = endDirective v (.report r) s := by
  simp [takeReply, some_token, awaited]

theorem carrierAt_eq_some_iff {x : RadioUnit} : x.carrierAt link = some c ↔ ∃ h : link < 4, x.map[link] = some c := by
  unfold RadioUnit.carrierAt
  split <;> simp_all

theorem carrierAt_eq_none {x : RadioUnit} (empty : ∀ h : link < 4, x.map[link] = none) : x.carrierAt link = none := by
  unfold RadioUnit.carrierAt
  split
  · exact empty _
  · rfl

/-- R151: an unsolicited reply that is of no use. -/
theorem unsolicitedReply_counted (idle : (s.unit v).carrierAt link = none ∨ (r ≠ .ready ∧ r ≠ .fault)) :
    unsolicitedReply v link r s = (s.countDiscarded v, []) := by
  unfold unsolicitedReply
  rcases idle with nobody | ⟨ready, fault⟩
  · rw [nobody]
  · cases (s.unit v).carrierAt link with
    | none => rfl
    | some c => cases r <;> simp_all

/-- Settles O19: by which of the tests takes the reply. -/
theorem radioReplyWithoutEffect : Obligations.RadioReplyWithoutEffect := by
  unfold Obligations.RadioReplyWithoutEffect
  intro u w a s s' done kind side body token link report readable recovers counted
  rw [exec_radioReply done kind side]
  have unread (h : ¬readable) : readRadioReply body = none := readRadioReply_eq_none_iff.mpr h
  have read (h : readable) : ∃ r, Report.ofCode (byteAt body 2) = some r ∧ readRadioReply body = some (token, link, r) := by
    obtain ⟨r, code⟩ := exists_report h.2
    exact ⟨r, code, readRadioReply_of_code h.1 code⟩
  refine ⟨fun h unused => ?_, fun h used => ?_, fun h unused zero => ?_, fun h unused some_token => ?_,
    fun h stays used some_token late => ?_, fun h stays used zero idle => ?_⟩
  · rw [radioReply_unused_unread unused (unread h)]
    rfl
  · rw [radioReply_used_unread used (unread h)]
    rfl
  · obtain ⟨r, -, reads⟩ := read h
    rw [radioReply_unused unused reads, if_pos zero]
    rfl
  · obtain ⟨r, -, reads⟩ := read h
    rw [radioReply_unused unused reads, if_neg some_token]
    rfl
  · obtain ⟨r, -, reads⟩ := read h
    rw [radioReply_taken used reads stays, takeReply_late some_token (awaits_eq_false late)]
    rfl
  · obtain ⟨r, code, reads⟩ := read h
    rw [radioReply_taken used reads stays, zero, takeReply_unsolicited, unsolicitedReply_counted]
    · rfl
    · refine idle.imp carrierAt_eq_none fun other => ?_
      have byte : report = r.wire := Report.ofCode_eq_some_iff.mp code
      rw [byte] at other
      exact ⟨by rintro rfl; exact other.1 rfl, by rintro rfl; exact other.2 rfl⟩

end Sys2Proof.Machine
end

section
/-! PROOFS. What a wake cause of any class does to the carriers it reaches, while no slot is free (R124 to R127, R138, R139):
first the wake queue, then one carrier, then all of them in turn. -/

namespace Sys2Proof.Machine

variable {s t u : State} {c d : CarrierIx} {v : UnitIx} {cls : WakeClass} {cause : Cause} {origin : Origin} {q : WakeQueue}
  {w : Waiting} {l : List CarrierIx} {k : WakeKind}

/-! ## The wake queue -/

/-- R125, R127: what a cause of a class makes of the queue: those that stay keep their places, those that are brought stand at
the tail of the class. -/
def WakeQueue.taking (cls : WakeClass) (stays : Waiting → Bool) (brought : List Waiting) (q : WakeQueue) : WakeQueue :=
  match cls with
  | .priority =>
    { priority := q.priority ++ brought, coverage := q.coverage.filter stays, ordinary := q.ordinary.filter stays }
  | .coverage => { q with coverage := q.coverage ++ brought, ordinary := q.ordinary.filter stays }
  | .ordinary => { q with ordinary := q.ordinary ++ brought }

theorem WakeQueue.below_taking (cls : WakeClass) (stays : Waiting → Bool) (brought : List Waiting) (q : WakeQueue) :
    (q.taking cls stays brought).below cls = (q.below cls).filter stays := by
  cases cls <;> simp [WakeQueue.taking, WakeQueue.below]

theorem WakeQueue.taking_taking (cls : WakeClass) (stays stays' : Waiting → Bool) (b b' : List Waiting) (q : WakeQueue) :
    (q.taking cls stays b).taking cls stays' b' = q.taking cls (fun w => stays' w && stays w) (b ++ b') := by
  cases cls <;> simp [WakeQueue.taking, List.filter_filter]

theorem filter_other {l : List Waiting} (h : ∀ w ∈ l, w.carrier ≠ c) : l.filter (fun w => w.carrier != c) = l :=
  List.filter_eq_self.mpr fun w mem => by simpa using h w mem

theorem WakeQueue.mem_below (mem : w ∈ q.below cls) : w.carrier ∈ q.carriers := by
  rw [WakeQueue.carriers_eq]
  refine List.mem_map_of_mem ?_
  cases cls with
  | priority =>
    rw [List.append_assoc]
    exact List.mem_append_right _ mem
  | coverage => exact List.mem_append_right _ mem
  | ordinary => cases mem

/-- A carrier that waits in no lower class: what is brought joins the class. -/
theorem WakeQueue.taking_of_absent (absent : ∀ w ∈ q.below cls, w.carrier ≠ c) (brought : List Waiting) :
    q.taking cls (fun w => w.carrier != c) brought = match cls with
      | .priority => { q with priority := q.priority ++ brought }
      | .coverage => { q with coverage := q.coverage ++ brought }
      | .ordinary => { q with ordinary := q.ordinary ++ brought } := by
  cases cls with
  | priority =>
    obtain ⟨first, second⟩ := List.forall_mem_append.mp absent
    simp only [WakeQueue.taking, filter_other first, filter_other second]
  | coverage => simp only [WakeQueue.taking, filter_other (l := q.ordinary) absent]
  | ordinary => rfl

theorem WakeQueue.taking_none (absent : ∀ w ∈ q.below cls, w.carrier ≠ c) :
    q.taking cls (fun w => w.carrier != c) [] = q := by
  rw [WakeQueue.taking_of_absent absent]
  cases cls <;> simp

/-- R126: a carrier that is not in the queue joins it. -/
theorem WakeQueue.taking_join (absent : c ∉ q.carriers) (depth : Depth) :
    q.taking cls (fun w => w.carrier != c) [{ carrier := c, depth := depth }] =
      q.join cls { carrier := c, depth := depth } := by
  have below : ∀ w ∈ q.below cls, w.carrier ≠ c := fun w mem same => by
    subst same
    exact absent (WakeQueue.mem_below mem)
  rw [WakeQueue.taking_of_absent below]
  cases cls <;> rfl

theorem WakeQueue.placeOf_eq (q : WakeQueue) (c : CarrierIx) : q.placeOf c =
    ((q.priority.find? fun w => w.carrier == c).map (·, WakeClass.priority)).or
      (((q.coverage.find? fun w => w.carrier == c).map (·, WakeClass.coverage)).or
        ((q.ordinary.find? fun w => w.carrier == c).map (·, WakeClass.ordinary))) := by
  simp [WakeQueue.placeOf, WakeQueue.entries, List.find?_append, List.find?_map]

theorem find?_waiting_eq_none {l : List Waiting} : (l.find? fun w => w.carrier == c) = none ↔ ∀ w ∈ l, w.carrier ≠ c := by
  simp

/-- R127: a carrier that waits in a lower class goes to the tail of the class; one that does not stays. -/
theorem WakeQueue.promote_eq_taking (once : q.carriers.Nodup) (c : CarrierIx) (cls : WakeClass) :
    q.promote c cls = q.taking cls (fun w => w.carrier != c) ((q.below cls).find? fun w => w.carrier == c).toList := by
  have apart : (∀ w ∈ q.priority, w.carrier = c → (∀ x ∈ q.coverage, x.carrier ≠ c) ∧ ∀ x ∈ q.ordinary, x.carrier ≠ c) ∧
      ∀ w ∈ q.coverage, w.carrier = c → ∀ x ∈ q.ordinary, x.carrier ≠ c := by
    rw [WakeQueue.carriers_eq, List.map_append, List.map_append, List.nodup_append, List.nodup_append] at once
    obtain ⟨⟨-, -, first⟩, -, last⟩ := once
    refine ⟨fun w mem same => ⟨fun x held => ?_, fun x held => ?_⟩, fun w mem same x held => ?_⟩
    · exact fun e => first _ (List.mem_map_of_mem mem) _ (List.mem_map_of_mem held) (same.trans e.symm)
    · exact fun e => last _ (List.mem_append_left _ (List.mem_map_of_mem mem)) _ (List.mem_map_of_mem held) (same.trans e.symm)
    · exact fun e => last _ (List.mem_append_right _ (List.mem_map_of_mem mem)) _ (List.mem_map_of_mem held) (same.trans e.symm)
  have stays (absent : ∀ w ∈ q.below cls, w.carrier ≠ c) :
      q = q.taking cls (fun w => w.carrier != c) ((q.below cls).find? fun w => w.carrier == c).toList := by
    rw [find?_waiting_eq_none.mpr absent, Option.toList_none, WakeQueue.taking_none absent]
  have place := q.placeOf_eq c
  unfold WakeQueue.promote
  cases first : q.priority.find? fun w => w.carrier == c with
  | some w =>
    rw [first] at place
    obtain ⟨cov, ord⟩ := apart.1 w (List.mem_of_find?_eq_some first) (by simpa using List.find?_some first)
    rw [show q.placeOf c = some (w, .priority) from place]
    have top : cls.above .priority = false := by cases cls <;> rfl
    simp only [top]
    refine stays ?_
    cases cls with
    | priority => exact List.forall_mem_append.mpr ⟨cov, ord⟩
    | coverage => exact ord
    | ordinary => exact fun _ mem => by cases mem
  | none =>
    have pri := find?_waiting_eq_none.mp first
    rw [first] at place
    cases second : q.coverage.find? fun w => w.carrier == c with
    | some w =>
      rw [second] at place
      have ord := apart.2 w (List.mem_of_find?_eq_some second) (by simpa using List.find?_some second)
      rw [show q.placeOf c = some (w, .coverage) from place]
      cases cls with
      | priority =>
        have found : ((q.below .priority).find? fun w => w.carrier == c) = some w := by
          rw [WakeQueue.below, List.find?_append, second]
          rfl
        rw [found]
        simp only [WakeClass.above, WakeClass.code]
        simp [WakeQueue.leave, WakeQueue.join, WakeQueue.taking, filter_other pri]
      | coverage => exact stays ord
      | ordinary => exact stays fun _ mem => by cases mem
    | none =>
      have cov := find?_waiting_eq_none.mp second
      rw [second] at place
      cases third : q.ordinary.find? fun w => w.carrier == c with
      | some w =>
        rw [third] at place
        rw [show q.placeOf c = some (w, .ordinary) from place]
        cases cls with
        | priority =>
          have found : ((q.below .priority).find? fun w => w.carrier == c) = some w := by
            rw [WakeQueue.below, List.find?_append, second, third]
            rfl
          rw [found]
          simp only [WakeClass.above, WakeClass.code]
          simp [WakeQueue.leave, WakeQueue.join, WakeQueue.taking, filter_other pri]
        | coverage =>
          have found : ((q.below .coverage).find? fun w => w.carrier == c) = some w := third
          rw [found]
          simp only [WakeClass.above, WakeClass.code]
          simp [WakeQueue.leave, WakeQueue.join, WakeQueue.taking, filter_other pri, filter_other cov]
        | ordinary => exact stays fun _ mem => by cases mem
      | none =>
        rw [third] at place
        rw [show q.placeOf c = none from place]
        have ord := find?_waiting_eq_none.mp third
        refine stays ?_
        cases cls with
        | priority => exact List.forall_mem_append.mpr ⟨cov, ord⟩
        | coverage => exact ord
        | ordinary => exact fun _ mem => by cases mem

/-! ## One carrier -/

/-- R126, R127: what a cause of a class brings of one carrier. -/
def State.bringing (cls : WakeClass) (s : State) (c : CarrierIx) : Option Waiting :=
  if s.lifeState c = .doze then some { carrier := c, depth := .light }
  else if s.lifeState c = .slumber then some { carrier := c, depth := .deep }
  else (s.wakeQueue.below cls).find? fun w => w.carrier == c

theorem broughtTo_eq (cls : WakeClass) (s : State) (reached : CarrierIx → Bool) :
    s.broughtTo cls reached = ((List.finRange 32).filter reached).filterMap (s.bringing cls) := by
  rw [List.filterMap_filter]
  refine List.filterMap_congr fun c _ => ?_
  cases h : reached c <;> simp [State.bringing]

/-- What a cause does to the one carrier that it reaches, part by part. -/
theorem causeTaken_single (told : ToldAs (s.tellsWake cause origin c) t)
    (branches : t.path.branchQueues = s.path.branchQueues)
    (queue : t.wakeQueue = s.wakeQueue.taking cls (fun w => w.carrier != c) (s.bringing cls c).toList)
    (state : t.lifeState c = if s.lifeState c = .doze ∨ s.lifeState c = .slumber then .queued
      else if (s.lifeState c).isDrain = true then (if (s.profileOf c).settleTime = 0 then .active else .restoring)
      else s.lifeState c)
    (mark : s.lifeState c = .rampdown ∨ s.lifeState c = .deepening → (t.carrier c).life = { (s.carrier c).life with
      wakePending := some (raiseMark cls cause (s.carrier c).life.wakePending) })
    (others : ∀ d, d ≠ c → t.carrier d = { s.carrier d with cover := (t.carrier d).cover })
    (units : ∀ v, t.unit v =
      if s.lifeState c = .slumber ∧ v = s.unitOf c then { s.unit v with deepTimer := none } else s.unit v)
    (token : t.token = s.token) : CauseTaken cls cause origin (fun d => d == c) s t where
  told := by simpa [filter_eq_singleton] using told
  branches := branches
  queue := by
    have stays : (fun w : Waiting => !(w.carrier == c)) = fun w => w.carrier != c := rfl
    have brought : (s.broughtTo cls fun d => d == c) = (s.bringing cls c).toList := by
      rw [broughtTo_eq, filter_eq_singleton, List.filterMap_cons, List.filterMap_nil]
      cases s.bringing cls c <;> rfl
    rw [queue, stays, brought]
    cases cls <;> rfl
  states d := by
    by_cases h : d = c
    · subst h
      simpa using state
    · simp [h, lifeState_of_cover (others d h)]
  marks d reached rest := by
    obtain rfl : d = c := by simpa using reached
    rw [mark rest]
    cases (s.carrier d).life.wakePending with
    | none => rfl
    | some k => simp [raiseMark, WakeClass.above]
  others d unreached := others d (by simpa using unreached)
  exits v := by
    rintro ⟨d, reached, slumber, rfl⟩
    obtain rfl : d = c := by simpa using reached
    rw [units, if_pos ⟨slumber, rfl⟩]
  units v outside := by
    rw [units, if_neg]
    rintro ⟨slumber, same⟩
    exact outside c (by simp) slumber same.symm
  token := token

/-- R127: a carrier that does not wait is in no class of the queue. -/
theorem absent_of_unqueued (law : WakeQueueLaw s) (unqueued : s.lifeState c ≠ .queued) : c ∉ s.wakeQueue.carriers :=
  mt ((wakeQueueLaw_iff.mp law).2 c).mp unqueued

theorem bringing_of_unqueued (law : WakeQueueLaw s) (unqueued : s.lifeState c ≠ .queued) (doze : s.lifeState c ≠ .doze)
    (slumber : s.lifeState c ≠ .slumber) (cls : WakeClass) : s.bringing cls c = none ∧
      s.wakeQueue = s.wakeQueue.taking cls (fun w => w.carrier != c) (s.bringing cls c).toList := by
  have absent : ∀ w ∈ s.wakeQueue.below cls, w.carrier ≠ c := fun w mem same => by
    subst same
    exact absent_of_unqueued law unqueued (WakeQueue.mem_below mem)
  have none_brought : s.bringing cls c = none := by
    simp only [State.bringing, doze, slumber, if_false]
    exact find?_waiting_eq_none.mpr absent
  refine ⟨none_brought, ?_⟩
  rw [none_brought]
  exact (WakeQueue.taking_none absent).symm

/-- R126: a sleeper is queued. -/
theorem causeTaken_sleeper {depth : Depth} (law : WakeQueueLaw s)
    (old : s.lifeState c = .doze ∧ depth = .light ∨ s.lifeState c = .slumber ∧ depth = .deep) :
    CauseTaken cls cause cause.origin (fun d => d == c) s (s.enterQueued c cls depth cause) := by
  have unqueued : s.lifeState c ≠ .queued := by obtain ⟨old, -⟩ | ⟨old, -⟩ := old <;> simp [old]
  have managed : s.isManaged c = true := by obtain ⟨old, -⟩ | ⟨old, -⟩ := old <;> exact managed_of old (by decide)
  have sleeper : s.lifeState c = .doze ∨ s.lifeState c = .slumber := old.imp And.left And.left
  have moved : Keeps s (s.moveTo c .queued) := keeps_moveTo (moveAllowed_awake managed (by decide) rfl)
  have quiet := quiet_moveTo s c (new := .queued) (by decide)
  have alike (q : WakeQueue) : Alike s ((s.moveTo c .queued).setWakeQueue q) :=
    ((Alike.refl s).silent moved quiet.toldAs).silent (keeps_setWakeQueue _ q) ⟨rfl, rfl, rfl⟩
  have tells (q : WakeQueue) := tells_notifyState ((s.moveTo c .queued).setWakeQueue q) c (s.lifeState c) .queued cause
    cause.origin
  refine causeTaken_single ?told ?branches ?queue ?state ?mark ?others ?units ?token
  case told =>
    rw [State.tellsWake, if_pos sleeper]
    exact ((alike _).notifyState c (s.lifeState c) .queued cause cause.origin).toToldAs
  case branches => exact (notify_branchQueues ..).trans (congrArg FramePath.branchQueues quiet.path)
  case queue =>
    have brings : s.bringing cls c = some { carrier := c, depth := depth } := by
      obtain ⟨old, rfl⟩ | ⟨old, rfl⟩ := old <;> simp [State.bringing, old]
    rw [enterQueued_wakeQueue unqueued, brings]
    exact (WakeQueue.taking_join (absent_of_unqueued law unqueued) depth).symm
  case state => simp [sleeper]
  case mark =>
    intro rest
    obtain old | old := sleeper <;> simp [old] at rest
  case others =>
    intro d other
    rw [State.enterQueued, (tells _).carrier, State.setWakeQueue_at_carrier, moveTo_other s c d .queued other]
  case units =>
    intro v
    rw [State.enterQueued, (tells _).unit, ← moveTo_units s c (new := .queued) (by decide)]
    rfl
  case token =>
    rw [State.enterQueued, (tells _).token]
    exact quiet.token

/-- R113: a carrier in RAMPDOWN or DEEPENING keeps the cause. -/
theorem causeTaken_kept (law : WakeQueueLaw s) (old : s.lifeState c = .rampdown ∨ s.lifeState c = .deepening) :
    CauseTaken cls cause origin (fun d => d == c) s (s.keepWake c cls cause) := by
  have neither : s.lifeState c ≠ .doze ∧ s.lifeState c ≠ .slumber ∧ s.lifeState c ≠ .queued ∧
      (s.lifeState c).isDrain = false := by
    obtain old | old := old <;> simp [old, LifeState.isDrain]
  obtain ⟨doze, slumber, unqueued, drain⟩ := neither
  refine causeTaken_single ?told rfl ?queue ?state ?mark ?others ?units rfl
  case told =>
    rw [State.tellsWake, if_neg (by simp [doze, slumber]), if_neg (by simp [drain])]
    exact ⟨rfl, rfl, rfl⟩
  case queue => exact (bringing_of_unqueued law unqueued doze slumber cls).2
  case state =>
    rw [if_neg (by simp [doze, slumber]), if_neg (by simp [drain])]
    exact setLife_lifeState s c c rfl
  case mark => exact fun _ => by simp [State.keepWake, State.setLife]
  case others =>
    intro d other
    simp [State.keepWake, State.setLife, other]
  case units => exact fun v => by rw [if_neg (by simp [slumber])]; rfl

/-- R106: a carrier in a drain state is abandoned. -/
theorem causeTaken_abandoned (law : WakeQueueLaw s) (drain : (s.lifeState c).isDrain = true) :
    CauseTaken cls cause cause.origin (fun d => d == c) s (s.enterRestoring c cause) := by
  have neither : s.lifeState c ≠ .doze ∧ s.lifeState c ≠ .slumber ∧ s.lifeState c ≠ .queued ∧
      ¬(s.lifeState c = .rampdown ∨ s.lifeState c = .deepening) := by
    cases old : s.lifeState c <;> simp [old, LifeState.isDrain] at drain ⊢
  obtain ⟨doze, slumber, unqueued, awake⟩ := neither
  obtain ⟨told, alone⟩ := told_enterRestoring unqueued slumber (isDrain_managed drain) cause
  refine causeTaken_single ?told alone.branches ?queue ?state (fun rest => absurd rest awake) alone.others ?units alone.token
  case told =>
    rw [State.tellsWake, if_neg (by simp [doze, slumber]), if_pos drain]
    exact told.toToldAs
  case queue => exact alone.wakeQueue.trans (bringing_of_unqueued law unqueued doze slumber cls).2
  case state => simp [enterRestoring_lifeState, doze, slumber, drain]
  case units => exact fun v => by rw [if_neg (by simp [slumber]), State.unit, alone.units, State.unit]

/-- R127: a carrier that waits is promoted, or stays. -/
theorem causeTaken_waiting (law : WakeQueueLaw s) (queued : s.lifeState c = .queued) :
    CauseTaken cls cause origin (fun d => d == c) s (s.setWakeQueue (s.wakeQueue.promote c cls)) := by
  refine causeTaken_single ?told rfl ?queue ?state (by simp [queued]) (fun _ _ => rfl) ?units rfl
  case told =>
    rw [State.tellsWake, if_neg (by simp [queued]), if_neg (by simp [queued, LifeState.isDrain])]
    exact ⟨rfl, rfl, rfl⟩
  case queue =>
    rw [State.setWakeQueue_wakeQueue, WakeQueue.promote_eq_taking (wakeQueueLaw_iff.mp law).1, State.bringing,
      if_neg (by simp [queued]), if_neg (by simp [queued])]
  case state => simp [queued, LifeState.isDrain]
  case units => exact fun v => by rw [if_neg (by simp [queued])]; rfl

/-- R124: a carrier that is awake, or managed by nobody, or LOST, takes nothing. -/
theorem causeTaken_idle (law : WakeQueueLaw s) (resting : (s.lifeState c).isResting = false) (unqueued : s.lifeState c ≠ .queued) :
    CauseTaken cls cause origin (fun d => d == c) s s := by
  have neither : s.lifeState c ≠ .doze ∧ s.lifeState c ≠ .slumber ∧ (s.lifeState c).isDrain = false ∧
      ¬(s.lifeState c = .rampdown ∨ s.lifeState c = .deepening) := by
    cases old : s.lifeState c <;> simp [old, LifeState.isResting, LifeState.isDrain, LifeState.isSleeper] at resting ⊢
  obtain ⟨doze, slumber, drain, awake⟩ := neither
  refine causeTaken_single ?told rfl ?queue ?state (fun rest => absurd rest awake) (fun _ _ => rfl) ?units rfl
  case told =>
    rw [State.tellsWake, if_neg (by simp [doze, slumber]), if_neg (by simp [drain])]
    exact ⟨rfl, rfl, rfl⟩
  case queue => exact (bringing_of_unqueued law unqueued doze slumber cls).2
  case state => rw [if_neg (by simp [doze, slumber]), if_neg (by simp [drain])]
  case units => exact fun v => by rw [if_neg (by simp [slumber])]

/-- R124: a wake cause other than traffic, handed to one carrier; a management WAKE to one that is not LOST. -/
theorem causeTaken_wakeEffect (law : WakeQueueLaw s) (other : k ≠ .traffic) (found : k = .management → s.lifeState c ≠ .lost) :
    CauseTaken k.cls k.cause k.cause.origin (fun d => d == c) s (wakeEffect c k s).1 := by
  unfold wakeEffect
  cases old : s.lifeState c with
  | doze => exact causeTaken_sleeper law (.inl ⟨old, rfl⟩)
  | slumber => simpa [other] using causeTaken_sleeper law (.inr ⟨old, rfl⟩)
  | rampdown => simpa [other] using causeTaken_kept law (.inl old)
  | deepening => simpa [other] using causeTaken_kept law (.inr old)
  | draining | drainHeld =>
    have drain : (s.lifeState c).isDrain = true := by rw [old]; rfl
    simpa [other, abandonEffect, drain] using causeTaken_abandoned law drain
  | queued => exact causeTaken_waiting law old
  | lost =>
    simp only
    rw [if_neg fun management => found management old]
    exact causeTaken_idle law (by rw [old]; rfl) (by simp [old])
  | active | restoring | warmup | unmanaged => exact causeTaken_idle law (by rw [old]; rfl) (by simp [old])

/-! ## The carriers reached, in turn -/

/-- R124: no cause moves a carrier into WARMUP or out of it. -/
theorem CauseTaken.warmups_eq {reached : CarrierIx → Bool} (h : CauseTaken cls cause origin reached s t) :
    t.warmups = s.warmups := by
  simp only [State.warmups, h.states]
  congr 1
  refine List.filter_congr fun d _ => ?_
  split_ifs with sleeper drain
  · obtain old | old := sleeper.2 <;> rw [old] <;> rfl
  · cases old : s.lifeState d <;> simp_all [LifeState.isDrain]
  · cases old : s.lifeState d <;> simp_all [LifeState.isDrain]
  · rfl

theorem wakeEffect_single (law : WakeQueueLaw s) (full : s.settings.slots ≤ s.warmups) (other : k ≠ .traffic)
    (found : k = .management → s.lifeState c ≠ .lost) :
    let t := (wakeEffect c k s).1
    Done [.wake c k] s t ∧ Keeps s t ∧ WakeQueueLaw t ∧ t.warmups = s.warmups := by
  intro t
  have kept : Keeps s t := keeps_task (.wake c k) s
  have warmups : t.warmups = s.warmups := (causeTaken_wakeEffect (c := c) law other found).warmups_eq
  refine ⟨?_, kept, (chain_task (.wake c k) s).wakeQueueLaw law, warmups⟩
  rw [done_singleton_iff]
  have grants : ∀ j ∈ (wakeEffect c k s).2, j = .grants := wakeEffect_tasks
  have still : t.settings.slots ≤ t.warmups := by rw [kept.settings, warmups]; exact full
  have each (l : List Task) (all : ∀ j ∈ l, j = .grants) : Done l t t := by
    induction l with
    | nil => exact .nil t
    | cons j l ih =>
      obtain rfl := all j List.mem_cons_self
      exact .cons (done_singleton_iff.mp (done_grants_of_full still)) (ih fun i mem => all i (List.mem_cons_of_mem _ mem))
  exact each _ grants

/-- Nothing is reached. -/
theorem causeTaken_nobody (cls : WakeClass) (cause : Cause) (origin : Origin) (s : State) :
    CauseTaken cls cause origin (fun d => decide (d ∈ ([] : List CarrierIx))) s s where
  told := by simpa using ToldAs.refl s
  branches := rfl
  queue := by
    rw [broughtTo_eq]
    cases cls <;> simp
  states := by simp
  marks := by simp
  others := by simp
  exits := by simp
  units := by simp
  token := rfl

/-- The state of a carrier that has not been reached is as it was. -/
theorem CauseTaken.unreached {reached : CarrierIx → Bool} (h : CauseTaken cls cause origin reached s t)
    (unreached : reached c = false) : t.lifeState c = s.lifeState c := by
  simp [h.states, unreached]

/-- R118, R153: a unit after a cause, by whether one of its carriers has left SLUMBER. -/
theorem CauseTaken.unit_cases {reached : CarrierIx → Bool} (h : CauseTaken cls cause origin reached s t) (v : UnitIx) :
    ((∃ c, reached c = true ∧ s.lifeState c = .slumber ∧ s.unitOf c = v) ∧
      t.unit v = { s.unit v with deepTimer := none }) ∨
    ((∀ c, reached c = true → s.lifeState c = .slumber → s.unitOf c ≠ v) ∧ t.unit v = s.unit v) := by
  by_cases left : ∃ c, reached c = true ∧ s.lifeState c = .slumber ∧ s.unitOf c = v
  · exact .inl ⟨left, h.exits v left⟩
  · have none_left := fun c r o e => left ⟨c, r, o, e⟩
    exact .inr ⟨none_left, h.units v none_left⟩

/-- What the queue has become, with the carriers reached as a list in ascending index. -/
theorem CauseTaken.queue_eq (h : CauseTaken cls cause origin (fun d => decide (d ∈ l)) s t) (sorted : l.Pairwise (· < ·)) :
    t.wakeQueue = s.wakeQueue.taking cls (fun w => !decide (w.carrier ∈ l)) (l.filterMap (s.bringing cls)) := by
  have taken := h.queue
  rw [broughtTo_eq, filter_mem_of_sorted sorted] at taken
  rw [taken]
  cases cls <;> rfl

/-- What is brought of a carrier that has not been reached is as it was. -/
theorem CauseTaken.bringing (h : CauseTaken cls cause origin (fun d => decide (d ∈ l)) s t) (sorted : l.Pairwise (· < ·))
    (fresh : c ∉ l) : t.bringing cls c = s.bringing cls c := by
  have below : (t.wakeQueue.below cls).find? (fun w => w.carrier == c) =
      (s.wakeQueue.below cls).find? fun w => w.carrier == c := by
    rw [h.queue_eq sorted, WakeQueue.below_taking, List.find?_filter]
    refine congrArg (List.find? · _) (funext fun w => ?_)
    by_cases same : w.carrier = c <;> simp [same, fresh]
  simp only [State.bringing, h.unreached (c := c) (by simp [fresh]), below]

/-- A cause that has reached the carriers of `l` reaches one carrier more, of a higher index. -/
theorem CauseTaken.next (h : CauseTaken cls cause origin (fun d => decide (d ∈ l)) s t) (kept : Keeps s t)
    (one : CauseTaken cls cause origin (fun d => d == c) t u) (sorted : (l ++ [c]).Pairwise (· < ·)) :
    CauseTaken cls cause origin (fun d => decide (d ∈ l ++ [c])) s u := by
  have parts := List.pairwise_append.mp sorted
  have sorted_l : l.Pairwise (· < ·) := parts.1
  have fresh : c ∉ l := fun mem => lt_irrefl c (parts.2.2 c mem c (List.mem_singleton_self c))
  have before : t.carrier c = { s.carrier c with cover := (t.carrier c).cover } := h.others c (by simpa using fresh)
  have state : t.lifeState c = s.lifeState c := lifeState_of_cover before
  have after (d : CarrierIx) (other : d ≠ c) : u.carrier d = { t.carrier d with cover := (u.carrier d).cover } :=
    one.others d (by simpa using other)
  have profile : t.profileOf c = s.profileOf c := by
    simp [State.profileOf, State.config, kept.profiles, kept.carrierConfig]
  have unit_of : t.unitOf c = s.unitOf c := by simp [State.unitOf, State.config, kept.carrierConfig]
  refine ⟨?told, one.branches.trans h.branches, ?queue, fun d => ?states, fun d mem rest => ?marks,
    fun d unreached => ?others, fun v left => ?exits, fun v stays => ?units, one.token.trans h.token⟩
  case told =>
    have so_far := h.told
    have last := one.told
    rw [filter_mem_of_sorted sorted_l] at so_far
    rw [filter_eq_singleton] at last
    rw [filter_mem_of_sorted sorted, List.foldl_append]
    have tells := tells_foldl_tellsWake (cause := cause) (origin := origin) l s
    have alike := (Alike.refl s).keeps tells.keeps kept so_far
    exact (alike.tellsWake cause origin c (state.trans (tells.lifeState c).symm)).toToldAs.trans last
  case queue =>
    have last : u.wakeQueue = t.wakeQueue.taking cls (fun w => w.carrier != c) (t.bringing cls c).toList := by
      have single := one.queue
      rw [broughtTo_eq, filter_eq_singleton, List.filterMap_cons, List.filterMap_nil] at single
      rw [single]
      cases cls <;> cases t.bringing _ c <;> rfl
    rw [h.queue_eq sorted_l, WakeQueue.taking_taking, h.bringing sorted_l fresh] at last
    rw [broughtTo_eq, filter_mem_of_sorted sorted, List.filterMap_append, List.filterMap_cons, List.filterMap_nil, last]
    have stays : (fun w : Waiting => w.carrier != c && !decide (w.carrier ∈ l)) =
        fun w => !decide (w.carrier ∈ l ++ [c]) := by
      funext w
      by_cases same : w.carrier = c <;> simp [same]
    rw [stays]
    cases cls <;> cases s.bringing _ c <;> rfl
  case states =>
    by_cases same : d = c
    · subst same
      simpa [state, profile] using one.states d
    · simpa [same] using (lifeState_of_cover (after d same)).trans (h.states d)
  case marks =>
    by_cases same : d = c
    · subst same
      have life : (t.carrier d).life = (s.carrier d).life := by rw [before]
      have := one.marks d (by simp) (by rwa [state])
      rwa [life] at this
    · rw [after d same]
      exact h.marks d (by simpa [same] using mem) rest
  case others =>
    have split : d ∉ l ∧ d ≠ c := by simpa using unreached
    obtain ⟨outside, other⟩ := split
    rw [after d other, h.others d (by simpa using outside)]
  case exits =>
    have stopped : t.unit v = { s.unit v with deepTimer := none } ∨ t.unit v = s.unit v :=
      (h.unit_cases v).imp And.right And.right
    rcases one.unit_cases v with ⟨_, last⟩ | ⟨stays, last⟩
    · rcases stopped with so_far | so_far <;> rw [last, so_far]
    · obtain ⟨d, mem, slumber, place⟩ := left
      have earlier : d ∈ l := by
        rcases List.mem_append.mp (of_decide_eq_true mem) with mem | mem
        · exact mem
        · obtain rfl := List.mem_singleton.mp mem
          exact absurd (unit_of.trans place) (stays d (by simp) (state.trans slumber))
      rw [last, h.exits v ⟨d, by simpa using earlier, slumber, place⟩]
  case units =>
    have so_far := h.units v fun d mem => stays d (by simpa using Or.inl (of_decide_eq_true mem))
    have last := one.units v fun d same slumber => by
      obtain rfl : d = c := by simpa using same
      exact unit_of ▸ stays d (by simp) (state ▸ slumber)
    exact last.trans so_far

/-- R124 to R127: a cause handed to carriers in ascending index, of which those that it does not reach are UNMANAGED. -/
theorem done_wakes (reached : CarrierIx → Bool) (other : k ≠ .traffic) (sorted : l.Pairwise (· < ·)) (law : WakeQueueLaw s)
    (full : s.settings.slots ≤ s.warmups) (found : k = .management → ∀ c ∈ l, s.lifeState c ≠ .lost)
    (rest : ∀ c ∈ l, reached c = false → s.lifeState c = .unmanaged) :
    ∃ t, Done (l.map (.wake · k)) s t ∧ Keeps s t ∧ WakeQueueLaw t ∧
      CauseTaken k.cls k.cause k.cause.origin (fun d => decide (d ∈ l.filter reached)) s t := by
  induction l using List.reverseRecOn with
  | nil => exact ⟨s, .nil s, .refl s, law, causeTaken_nobody ..⟩
  | append_singleton l c ih =>
    have parts := List.pairwise_append.mp sorted
    obtain ⟨t, done, kept, law', so_far⟩ := ih parts.1 (fun m d mem => found m d (List.mem_append_left _ mem))
      (fun d mem => rest d (List.mem_append_left _ mem))
    have fresh : c ∉ l := fun mem => lt_irrefl c (parts.2.2 c mem c (List.mem_singleton_self c))
    have state : t.lifeState c = s.lifeState c := so_far.unreached (c := c) (by simp [fresh])
    have last : c ∈ l ++ [c] := by simp
    rw [List.map_append]
    cases here : reached c with
    | true =>
      have full' : t.settings.slots ≤ t.warmups := by rw [kept.settings, so_far.warmups_eq]; exact full
      have found' : k = .management → t.lifeState c ≠ .lost := fun m => by rw [state]; exact found m c last
      obtain ⟨one, keeps, law'', -⟩ := wakeEffect_single (c := c) law' full' other found'
      have grown : (l ++ [c]).filter reached = l.filter reached ++ [c] := by simp [here]
      rw [grown]
      exact ⟨_, done_append_iff.mpr ⟨t, done, one⟩, kept.trans keeps, law'',
        so_far.next kept (causeTaken_wakeEffect law' other found') (grown ▸ sorted.filter _)⟩
    | false =>
      have idle : (Task.wake c k).effect t = (t, []) := by
        simp [Task.effect, wakeEffect, state.trans (rest c last here)]
      have same : (l ++ [c]).filter reached = l.filter reached := by simp [here]
      rw [same]
      exact ⟨t, done_append_iff.mpr ⟨t, done, done_singleton_iff.mpr (by rw [idle]; exact .nil t)⟩, kept, law', so_far⟩

end Sys2Proof.Machine
end

section
/-! PROOFS. Unsolicited radio replies: FAULT, with the loss of an anchor, and READY (R82, R135, R136, R151). -/

namespace Sys2Proof.Machine

variable {s t : State} {c d : CarrierIx} {v : UnitIx} {cause : Cause} {w : Walk} {a : ActionEntry} {s' : State} {link : Nat}

/-! ## The loss of an anchor -/

theorem mem_dependents : d ∈ s.dependents c ↔ s.isManaged d = true ∧ s.anchorOf d = c ∧ d ≠ c := by
  simp only [State.dependents, List.mem_filter, List.mem_finRange, true_and, Bool.and_eq_true, beq_iff_eq, State.isDependent,
    bne_iff_ne]
  constructor
  · rintro ⟨⟨managed, dependent⟩, anchor⟩
    exact ⟨managed, anchor, fun same => dependent (anchor.trans same.symm)⟩
  · rintro ⟨managed, anchor, other⟩
    exact ⟨⟨managed, fun same => other (same.symm.trans anchor)⟩, anchor⟩

theorem done_anchorLost : Done [.anchorLost c] s t ↔ Done ((s.dependents c).map (.wake · .anchorLost)) s t := by
  rw [done_singleton_iff]
  rfl

/-- R82: the loss of an anchor reaches each of its dependents. -/
theorem woken_anchorLost (h : Done [.anchorLost c] s t) (managed : s.isManaged d = true) (anchor : s.anchorOf d = c)
    (other : d ≠ c) : Woken .coverage d t := by
  have worked : s.work ((s.dependents c).map (.wake · .anchorLost)) = t :=
    work_eq (by simp [costs, Task.cost, Function.comp_def]) (done_anchorLost.mp h)
  rw [← worked]
  exact woken_work (k := .anchorLost) (by decide) (List.mem_map_of_mem (f := (Task.wake · .anchorLost)) (mem_dependents.mpr ⟨managed, anchor, other⟩))
    (by simp [Task.mayLull]) s

/-- R82, R135: the carriers that the loss of a carrier reaches. -/
def State.lostWith (s : State) (c d : CarrierIx) : Bool :=
  s.anchorOf c == c && s.anchorOf d == c && s.isManaged d && d != c

theorem lostWith_iff : s.lostWith c d = true ↔ s.anchorOf c = c ∧ s.anchorOf d = c ∧ s.isManaged d = true ∧ d ≠ c := by
  simp [State.lostWith, and_assoc]

theorem woken_lose (h : Done [.lose c cause] s t) (managed : s.lifeState c ≠ .unmanaged) (found : s.lifeState c ≠ .lost)
    (dependent : s.lostWith c d = true) : Woken .coverage d t := by
  obtain ⟨self, anchor, managed_d, other⟩ := lostWith_iff.mp dependent
  obtain ⟨loss, tasks⟩ := loss_loseEffect managed found cause
  have isAnchor : s.isAnchor c = true := by simp [State.isAnchor, State.isManaged, managed, self]
  have all := done_singleton_iff.mp h
  change Done (loseEffect c cause s).2 (loseEffect c cause s).1 t at all
  rw [tasks, if_pos isAnchor] at all
  obtain ⟨m, before, last⟩ := done_append_iff.mp all
  have kept : Keeps s m := loss.keeps.trans before.keeps
  exact woken_anchorLost last (by rw [kept.managed, managed_d]) (by rw [kept.anchorOf_eq, anchor]) other

/-- R82, R135: while no slot is free or becomes free, and no directive of another carrier waits, the loss is the carrier's own,
and then what its cause does to its dependents. -/
theorem lose_with_dependents (h : Done [.lose c cause] s t) (managed : s.lifeState c ≠ .unmanaged)
    (found : s.lifeState c ≠ .lost) (mine : ∀ d ∈ (s.unit (s.unitOf c)).queue, d.carrier = some c) (law : WakeQueueLaw s)
    (cold : s.lifeState c ≠ .warmup) (full : s.settings.slots ≤ s.warmups) :
    CauseTaken .coverage .anchorLost .external (s.lostWith c) (loseEffect c cause s).1 t := by
  obtain ⟨loss, tasks⟩ := loss_loseEffect managed found cause
  have all := done_singleton_iff.mp h
  change Done (loseEffect c cause s).2 (loseEffect c cause s).1 t at all
  rw [tasks, if_neg cold, List.append_nil] at all
  have law' : WakeQueueLaw (loseEffect c cause s).1 := (chain_task (.lose c cause) s).wakeQueueLaw law
  generalize (loseEffect c cause s).1 = b at loss all law'
  obtain ⟨m, sent, last⟩ := done_append_iff.mp all
  have same : m = b := sent.unique (done_sendHead_of_empty (by
    rw [loss.queue, List.filter_eq_nil_iff]
    intro d mem
    simp [Directive.isFor, mine d mem]))
  rw [same] at last
  have full' : b.settings.slots ≤ b.warmups := by
    have moved := warmups_of_move loss.state
    rw [loss.keeps.settings]
    simp only [cold, if_false, Nat.add_zero] at moved
    rw [moved]
    exact full
  have reaches (d : CarrierIx) : s.lostWith c d = decide (d ∈ if s.isAnchor c then b.dependents c else []) := by
    rw [Bool.eq_iff_iff, lostWith_iff, decide_eq_true_iff]
    split
    · rename_i isAnchor
      rw [mem_dependents, loss.keeps.managed, loss.keeps.anchorOf_eq]
      simp only [State.isAnchor, Bool.and_eq_true, beq_iff_eq] at isAnchor
      tauto
    · rename_i alone
      simp only [State.isAnchor, State.isManaged, bne_iff_ne, Bool.and_eq_true, beq_iff_eq, not_and] at alone
      simp [alone managed]
  rw [show s.lostWith c = _ from funext reaches]
  split at last
  · rename_i isAnchor
    rw [if_pos isAnchor]
    have sorted : (b.dependents c).Pairwise (· < ·) := (List.pairwise_lt_finRange 32).filter _
    obtain ⟨u, wakes, -, -, taken⟩ := done_wakes (k := .anchorLost) (fun _ => true) (by decide) sorted law' full' nofun
      (by simp)
    rw [(done_anchorLost.mp last).unique wakes]
    rw [List.filter_eq_self.mpr (by simp)] at taken
    exact taken
  · rename_i alone
    rw [if_neg alone, done_nil_iff.mp last]
    exact causeTaken_nobody ..

/-- R127: taking out a carrier that does not wait changes nothing. -/
theorem WakeQueue.leave_of_absent {q : WakeQueue} (absent : c ∉ q.carriers) : q.leave c = q := by
  rw [WakeQueue.carriers_eq] at absent
  have all : ∀ w ∈ q.priority ++ q.coverage ++ q.ordinary, w.carrier ≠ c :=
    fun w mem same => absent (List.mem_map.mpr ⟨w, mem, same⟩)
  simp only [List.forall_mem_append] at all
  obtain ⟨⟨pri, cov⟩, ord⟩ := all
  simp only [WakeQueue.leave, filter_other pri, filter_other cov, filter_other ord]

theorem Loss.leaves (h : Loss c cause s t) (law : WakeQueueLaw s) : t.wakeQueue = s.wakeQueue.leave c := by
  rw [h.wakeQueue]
  split
  · rfl
  · rename_i unqueued
    exact (WakeQueue.leave_of_absent (absent_of_unqueued law unqueued)).symm

/-! ## Unsolicited replies -/

/-- R151: an unsolicited reply for the carrier that holds its link number. -/
theorem exec_unsolicited (done : WalkDone s w a s') (kind : a.kind = .radioReply) (side : w.port = .branch v)
    (used : (s'.unit v).state ≠ none)
    (stays : (s'.unit v).state = some .unreachable → s'.path.linkUp (.branch v) = false)
    (long : 3 ≤ (w.bytes.drop a.bodyOffset).length) (zero : byteAt (w.bytes.drop a.bodyOffset) 0 = 0#8) {r : Report}
    (code : Report.ofCode (byteAt (w.bytes.drop a.bodyOffset) 2) = some r) :
    exec (.walkEnds w.port) s =
      .next (unsolicitedReply v (byteAt (w.bytes.drop a.bodyOffset) 1).toNat r s').finish := by
  rw [exec_radioReply done kind side, radioReply_taken used (readRadioReply_of_code long code)
    (fun h => by rw [stays h.1] at h; cases h.2), zero]
  exact congrArg (fun e : Effect => Host.Outcome.next e.finish) takeReply_unsolicited

theorem unsolicitedReply_fault (holds : (s.unit v).carrierAt link = some c) :
    unsolicitedReply v link .fault s = (s, [.lose c .fault]) := by
  unfold unsolicitedReply
  rw [holds]

theorem unsolicitedReply_ready (holds : (s.unit v).carrierAt link = some c) : unsolicitedReply v link .ready s =
    (if s.lifeState c = .lost then s.enterRestoring c .ready else s, []) := by
  unfold unsolicitedReply
  rw [holds]

/-- Settles O20: by the report and the carrier's state. -/
theorem unsolicitedReplies : Obligations.UnsolicitedReplies := by
  unfold Obligations.UnsolicitedReplies
  intro u c link w a s s' done kind side used stays body dependent told long zero place held
  have holds : (s'.unit u).carrierAt link = some c := carrierAt_eq_some_iff.mpr held
  have fault (byte : byteAt body 2 = 4#8) :
      exec (.walkEnds w.port) s = .next (s'.work [.lose c .fault]) := by
    rw [exec_unsolicited (r := .fault) done kind side used stays long zero
      (Report.ofCode_eq_some_iff.mpr (congrArg BitVec.toNat byte)), place, unsolicitedReply_fault holds]
    rfl
  have ready (byte : byteAt body 2 = 1#8) : exec (.walkEnds w.port) s =
      .next (if s'.lifeState c = .lost then s'.enterRestoring c .ready else s') := by
    rw [exec_unsolicited (r := .ready) done kind side used stays long zero
      (Report.ofCode_eq_some_iff.mpr (congrArg BitVec.toNat byte)), place, unsolicitedReply_ready holds]
    rfl
  refine ⟨fun byte managed found => ?_, fun byte lost => ?_, fun byte lost => ?_, fun byte found => ?_⟩
  · have worked : Done [.lose c .fault] s' (s'.work [.lose c .fault]) := done_work _ _ (by simp [costs, Task.cost])
    obtain ⟨state, raised⟩ := done_lose managed found worked
    obtain ⟨loss, -⟩ := loss_loseEffect managed found .fault
    refine ⟨_, fault byte, worked.keeps, state, raised, fun d reached => woken_lose worked managed found reached,
      fun mine => ⟨fun alone => ?_, fun law cold full => ?_⟩⟩
    · rw [worked.unique (done_lose_solitary managed found alone mine .fault)]
      exact ⟨loss.told, loss.branches⟩
    · refine ⟨_, loss.told, loss.branches, loss.leaves law, by rw [loss.state, if_pos rfl], fun d other => ?_, loss.keeps,
        lose_with_dependents worked managed found mine law cold full⟩
      rw [loss.others d other]
  · rw [fault byte]
    have effect : (Task.lose c .fault).effect s' = (s', []) := if_pos (.inr lost)
    rw [work_singleton (by rw [effect]), effect]
  · rw [ready byte, if_pos lost]
    obtain ⟨alike, alone⟩ := told_enterRestoring (s := s') (c := c) (by simp [lost]) (by simp [lost])
      (managed_of lost (by decide)) .ready
    exact ⟨_, rfl, alone, alike.toToldAs, by rw [enterRestoring_lifeState, if_pos rfl]⟩
  · rw [ready byte, if_neg found]

end Sys2Proof.Machine
end

section
/-! PROOFS. Flags and notices in full (R176, R178, R179), and what the trunk's link reports and grace timer bring (R10 to R12,
R139). -/

namespace Sys2Proof.Machine

variable {s t : State} {c d : CarrierIx} {f g : Flag} {n : NoticeContent}

/-! ## Notices -/

/-- R178: when a notice is generated. -/
theorem noticeWanted_iff : s.noticeWanted n = true ↔
    s.settings.noticeEnables.getLsbD n.enableBit = true ∧ s.settings.noticeDestination ≠ 0#48 := by
  simp [State.noticeWanted, memberOf]

/-- 12.3: the body of a notice, field by field. -/
theorem notice_body (n : Notice) : n.body = laid (noticeLayout n.sequence n.content) := by
  cases content : n.content with
  | carrierState => simp [Notice.body, noticeLayout, content]
  | flag => simp [Notice.body, noticeLayout, content]
  | trunk restored => cases restored <;> simp [Notice.body, noticeLayout, content, markByte, markOf]

/-- R179: what the queue passes, byte for byte. -/
theorem passNotices_eq (s : State) : s.passNotices = { s.engine.notices.foldl (fun u n => u.sends .trunk n.destination
    (noticeLayout n.sequence n.content)) s with engine := { s.engine with notices := [] } } := by
  unfold State.passNotices
  simp only [notice_body, inject_sends]
  rfl

/-- What is injected changes the Frame Path alone. -/
theorem sends_setEngine (s : State) (e : Engine) (port : Port) (dest : Addr) (body : List (Nat × Nat)) :
    (s.setEngine e).sends port dest body = (s.sends port dest body).setEngine e := by
  unfold State.sends State.offerInjected
  by_cases linked : s.path.linkUp port = true
  · rw [if_pos linked, if_pos (show (s.setEngine e).path.linkUp port = true from linked)]
    rfl
  · rw [if_neg linked, if_neg (show ¬(s.setEngine e).path.linkUp port = true from linked)]

/-- The notice that is made, and the state that has counted it (R178). -/
def State.made (s : State) (n : NoticeContent) : Notice :=
  { destination := s.settings.noticeDestination, sequence := s.engine.sequence, content := n }

theorem notify_of_unwanted (unwanted : s.noticeWanted n = false) : s.notify n = s := by
  simp [State.notify, State.offerNotice, unwanted]

theorem notify_of_room (wanted : s.noticeWanted n = true) (room : s.engine.notices.length < 16) : s.notify n =
    (s.setEngine { s.engine with sequence := s.engine.sequence + 1, notices := s.engine.notices ++ [s.made n] }).passIfUp := by
  have offered : s.offerNotice n = ((s.setEngine { s.engine with
      sequence := s.engine.sequence + 1, notices := s.engine.notices ++ [s.made n] }).passIfUp, false) := by
    unfold State.offerNotice
    rw [if_pos wanted]
    exact if_pos room
  unfold State.notify
  rw [offered]
  rfl

theorem offerNotice_of_full (wanted : s.noticeWanted n = true) (full : 16 ≤ s.engine.notices.length) :
    s.offerNotice n = (s.setEngine { s.engine with sequence := s.engine.sequence + 1 }, true) := by
  unfold State.offerNotice
  rw [if_pos wanted]
  exact if_neg (Nat.not_lt.mpr full)

theorem passIfUp_of_down (down : s.path.trunkState ≠ .up) : s.passIfUp = s := if_neg down

/-! ## Flags -/

theorem mask_getLsbD (f g : Flag) : f.mask.getLsbD g.position.val = (g == f) := by
  cases f <;> cases g <;> rfl

theorem setFlag_flagRaised (s : State) (f g : Flag) : (s.setFlag f).flagRaised g = (s.flagRaised g || g == f) := by
  rw [← mask_getLsbD]
  exact BitVec.getLsbD_or

theorem raiseFlag_of_raised (raised : s.flagRaised f = true) : s.raiseFlag f = s := if_pos raised

theorem raiseFlag_of_clear (clear : s.flagRaised f = false) : s.raiseFlag f = (s.setFlag f).notify (.flag f) :=
  if_neg (by simp [clear])

/-- R179: a notice that finds sixteen waiting. -/
theorem notify_of_full (wanted : s.noticeWanted n = true)
    (full : 16 ≤ s.engine.notices.length) :
    (s.notify n).flagRaised .noticeDropped = true ∧
      s.notify n = { s with engine := { s.engine with
        flags := (s.notify n).engine.flags, sequence := (s.notify n).engine.sequence } } ∧
      (s.notify n).engine.sequence = s.engine.sequence +
        (if s.flagRaised .noticeDropped = false ∧ s.settings.noticeEnables.getLsbD 1 = true then 2 else 1) ∧
      ∀ g, g ≠ .noticeDropped → (s.notify n).flagRaised g = s.flagRaised g := by
  obtain ⟨-, destination⟩ := noticeWanted_iff.mp wanted
  have offered := offerNotice_of_full wanted full
  generalize counting : s.setEngine { s.engine with sequence := s.engine.sequence + 1 } = counted at offered
  have flags (g : Flag) : counted.flagRaised g = s.flagRaised g := by rw [← counting]; rfl
  have whole : s.notify n = if s.flagRaised .noticeDropped = true then counted
      else ((counted.setFlag .noticeDropped).offerNotice (.flag .noticeDropped)).1 := by
    unfold State.notify
    rw [offered]
    dsimp only
    rw [flags]
    cases s.flagRaised .noticeDropped <;> rfl
  cases dropped : s.flagRaised .noticeDropped with
  | true =>
    rw [dropped, if_pos rfl] at whole
    rw [whole, flags]
    rw [← counting]
    exact ⟨dropped, rfl, rfl, fun g _ => rfl⟩
  | false =>
    rw [dropped, if_neg (by decide)] at whole
    have raised (g : Flag) : (counted.setFlag .noticeDropped).flagRaised g = (s.flagRaised g || g == .noticeDropped) := by
      rw [setFlag_flagRaised, flags]
    by_cases told : s.settings.noticeEnables.getLsbD 1 = true
    · have second : (counted.setFlag .noticeDropped).offerNotice (.flag .noticeDropped) = _ :=
        offerNotice_of_full (noticeWanted_iff.mpr (by rw [← counting]; exact ⟨told, destination⟩)) (by rw [← counting]; exact full)
      rw [second] at whole
      rw [whole]
      refine ⟨(raised .noticeDropped).trans (by simp), by rw [← counting]; rfl, ?_, fun g other =>
        (raised g).trans (by simp [other])⟩
      rw [if_pos ⟨rfl, told⟩, ← counting]
      exact BitVec.add_assoc ..
    · have second : (counted.setFlag .noticeDropped).offerNotice (.flag .noticeDropped) = (counted.setFlag .noticeDropped, false) :=
        if_neg fun wanted => told (by
          have := (noticeWanted_iff.mp wanted).1
          rwa [← counting] at this)
      rw [second] at whole
      rw [whole]
      refine ⟨(raised .noticeDropped).trans (by simp), by rw [← counting]; rfl, ?_, fun g other =>
        (raised g).trans (by simp [other])⟩
      rw [if_neg (fun h => told h.2), ← counting]
      rfl

/-- R179: in UP, with none waiting, a notice is injected at once. -/
theorem notify_of_up (wanted : s.noticeWanted n = true) (up : s.path.trunkState = .up) (none_waits : s.engine.notices = []) :
    s.notify n = ({ s with engine := { s.engine with sequence := s.engine.sequence + 1 } } : State).sends .trunk
      s.settings.noticeDestination (noticeLayout s.engine.sequence n) := by
  rw [notify_of_room wanted (by rw [none_waits]; decide), none_waits, List.nil_append]
  refine (if_pos up).trans ?_
  rw [passNotices_eq]
  simp only [State.setEngine_engine, List.foldl_cons, List.foldl_nil]
  rw [sends_setEngine]
  refine Eq.trans ?_ (sends_setEngine ..).symm
  exact congrArg (fun waiting => (s.sends .trunk s.settings.noticeDestination (noticeLayout s.engine.sequence n)).setEngine
    { s.engine with sequence := s.engine.sequence + 1, notices := waiting }) none_waits.symm

theorem exec_trunkLinkUp_of_failing (running : s.phase = .running) (failing : s.path.trunkState = .failing) :
    exec .trunkLinkUp s = .next (State.passNotices
      { s with path := { s.path with trunkReport := true, trunkState := .up, grace := none } }) := by
  refine congrArg Host.Outcome.next ((if_pos running).trans ?_)
  rw [failing]
  rfl

theorem enabled_iff : ((∃ c old new cause origin minute second, n = .carrierState c old new cause origin minute second ∧
      s.settings.noticeEnables.getLsbD 0 = true) ∨ (∃ f, n = .flag f ∧ s.settings.noticeEnables.getLsbD 1 = true) ∨
      (∃ restored, n = .trunk restored ∧ s.settings.noticeEnables.getLsbD 2 = true)) ∧
        s.settings.noticeDestination ≠ 0#48 ↔ s.noticeWanted n = true := by
  rw [noticeWanted_iff]
  cases n <;> simp [NoticeContent.enableBit]

/-- Settles O51. -/
theorem flagsAndNotices : Obligations.FlagsAndNotices := by
  unfold Obligations.FlagsAndNotices
  refine ⟨fun f s raised => raiseFlag_of_raised raised, fun f s clear => ⟨s.setFlag f, raiseFlag_of_clear clear, rfl,
    setFlag_flagRaised s f⟩, fun n s => ⟨fun unwanted => ?_, fun wanted up waits => ?_, fun wanted down room => ?_,
    fun wanted _ full => ?_⟩, fun s running failing => ?_⟩
  · exact notify_of_unwanted (Bool.eq_false_iff.mpr (mt enabled_iff.mpr unwanted))
  · exact notify_of_up (enabled_iff.mp wanted) up waits
  · exact (notify_of_room (enabled_iff.mp wanted) room).trans (passIfUp_of_down down)
  · exact ⟨_, rfl, notify_of_full (enabled_iff.mp wanted) full⟩
  · rw [exec_trunkLinkUp_of_failing running failing, passNotices_eq]

end Sys2Proof.Machine
end

section
/-! PROOFS. The trunk's link reports and the expiry of its grace timer (R10 to R12, R139), with the notices of the loss and of the
return. -/

namespace Sys2Proof.Machine

variable {s t : State} {c : CarrierIx} {k : WakeKind} {l : List CarrierIx}

/-! ## Wake causes that find nothing to do -/

/-- R124: a wake cause other than WAKE has no effect on a carrier that neither drains, sleeps nor waits. -/
theorem wakeEffect_idle (other : k ≠ .management) (drain : (s.lifeState c).isDrain = false)
    (sleeper : (s.lifeState c).isSleeper = false) (queued : s.lifeState c ≠ .queued) : wakeEffect c k s = (s, []) := by
  unfold wakeEffect
  cases state : s.lifeState c <;> simp_all [LifeState.isDrain, LifeState.isSleeper]

theorem done_wakes_idle (idle : ∀ c ∈ l, wakeEffect c k s = (s, [])) : Done (l.map (.wake · k)) s s := by
  induction l with
  | nil => exact .nil s
  | cons c l ih =>
    rw [List.map_cons, done_cons_iff]
    refine ⟨s, ?_, ih fun d mem => idle d (List.mem_cons_of_mem _ mem)⟩
    rw [show (Task.wake c k).effect s = (s, []) from idle c List.mem_cons_self]
    exact .nil s

/-! ## The loss of the trunk (R11) -/

/-- The trunk counted lost, with TRUNK-DOWN raised and the TRUNK notice generated. -/
def State.lostTrunk (s : State) : State := ((s.trunkTo .lost none).raiseFlag .trunkDown).notify (.trunk false)

theorem tells_lostTrunk (s : State) : Tells (s.trunkTo .lost none) s.lostTrunk :=
  (tells_raiseFlag _ _ (by decide)).trans (tells_notify _ _)

theorem lostTrunk_lifeState (s : State) (c : CarrierIx) : s.lostTrunk.lifeState c = s.lifeState c :=
  (tells_lostTrunk s).lifeState c

theorem done_trunkLost (s : State) : Done ((List.finRange 32).map (.wake · .trunkLost)) s.lostTrunk (trunkLostEffect s).finish :=
  done_work _ _ (by simp [costs, Task.cost, Function.comp_def])

/-- R139: every carrier that sleeps or drains is reached. -/
theorem trunkLost_woken (s : State) (c : CarrierIx) : Woken .coverage c (trunkLostEffect s).finish := by
  have reached : Task.wake c .trunkLost ∈ (List.finRange 32).map fun d => Task.wake d .trunkLost :=
    List.mem_map.mpr ⟨c, List.mem_finRange c, rfl⟩
  have calm : ∀ k ∈ (List.finRange 32).map fun d => Task.wake d .trunkLost, k.mayLull = false := fun k mem => by
    obtain ⟨d, -, rfl⟩ := List.mem_map.mp mem
    rfl
  exact woken_work (by decide) reached calm s.lostTrunk

/-- R127, R139: with no slot free, all that the cause does. -/
theorem trunkLost_causeTaken (law : WakeQueueLaw s) (full : s.settings.slots ≤ s.warmups) :
    CauseTaken .coverage .trunkLost .external (fun _ => true) s.lostTrunk (trunkLostEffect s).finish := by
  have told := tells_lostTrunk s
  have law' : WakeQueueLaw s.lostTrunk := by
    simp only [WakeQueueLaw, lostTrunk_lifeState, told.wakeQueue]
    exact law
  have full' : s.lostTrunk.settings.slots ≤ s.lostTrunk.warmups := by
    rw [told.keeps.settings, warmups_of_state (s := s) (lostTrunk_lifeState s)]
    exact full
  obtain ⟨t, done, -, -, taken⟩ := done_wakes (k := .trunkLost) (fun _ => true) (by decide)
    (List.pairwise_lt_finRange 32) law' full' (fun h => by cases h) (fun _ _ h => by cases h)
  rw [(done_trunkLost s).unique done]
  have everyone : (fun d : CarrierIx => decide (d ∈ (List.finRange 32).filter fun _ => true)) = fun _ => true := by
    funext d
    simp
  rw [everyone] at taken
  exact taken

theorem trunkLost_of_idle (idle : ∀ c, (s.lifeState c).isDrain = false ∧ (s.lifeState c).isSleeper = false ∧
    s.lifeState c ≠ .queued) : (trunkLostEffect s).finish = s.lostTrunk := by
  refine (done_trunkLost s).unique (done_wakes_idle fun c _ => ?_)
  obtain ⟨drain, sleeper, queued⟩ := idle c
  rw [← lostTrunk_lifeState] at drain sleeper queued
  exact wakeEffect_idle (by decide) drain sleeper queued

/-- R139, R179: what the cause tells comes behind the notices of the loss. -/
theorem trunkLost_notices (s : State) : s.lostTrunk.engine.notices <+: (trunkLostEffect s).finish.engine.notices := by
  refine (Done.steady (done_trunkLost s) fun k mem => ?_).notices ?_
  · obtain ⟨d, -, rfl⟩ := List.mem_map.mp mem
    rfl
  · rw [(tells_lostTrunk s).keeps.trunkState]
    exact TrunkState.noConfusion

/-! ## The return of the trunk (R12, R179) -/

theorem passNotices_of_empty (empty : s.engine.notices = []) : s.passNotices = s := by
  unfold State.passNotices
  rw [empty]
  exact congrArg (fun waiting => s.setEngine { s.engine with notices := waiting }) empty.symm

theorem passNotices_notices (s : State) : s.passNotices.engine.notices = [] := rfl

theorem passNotices_engine (s : State) : s.passNotices.engine = { s.engine with notices := [] } := rfl

/-- R12, R179: the notice of the return joins those that wait, and the queue passes them all. -/
theorem trunkRestored_of_wanted (wanted : s.noticeWanted (.trunk true) = true) (room : s.engine.notices.length < 16) :
    s.trunkRestored = ((s.trunkTo .up none).setEngine { s.engine with
      sequence := s.engine.sequence + 1, notices := s.engine.notices ++ [s.made (.trunk true)] }).passNotices := by
  have passed := notify_of_room (s := s.trunkTo .up none) (n := .trunk true) wanted room
  unfold State.trunkRestored
  rw [passed]
  refine (passNotices_of_empty ?_).trans (if_pos rfl)
  exact (congrArg (fun t : State => t.engine.notices) (if_pos rfl)).trans (passNotices_notices _)

theorem trunkRestored_of_unwanted (unwanted : s.noticeWanted (.trunk true) = false) :
    s.trunkRestored = (s.trunkTo .up none).passNotices :=
  congrArg State.passNotices (notify_of_unwanted unwanted)

theorem foldl_sends_setEngine (l : List Notice) (s : State) (e : Engine) :
    l.foldl (fun u n => u.sends .trunk n.destination (noticeLayout n.sequence n.content)) (s.setEngine e) =
      (l.foldl (fun u n => u.sends .trunk n.destination (noticeLayout n.sequence n.content)) s).setEngine e := by
  induction l generalizing s with
  | nil => rfl
  | cons n l ih => rw [List.foldl_cons, List.foldl_cons, sends_setEngine, ih]

/-- Settles O26. -/
theorem trunkReportsAndGrace : Obligations.TrunkReportsAndGrace := by
  unfold Obligations.TrunkReportsAndGrace
  refine ⟨fun s => ⟨fun running up => ?upDown, fun running returning => ?returningDown, fun other => ?otherDown,
    fun running lost => ?lostUp, fun running failing => ?failingUp, fun other => ?otherUp⟩, fun s running =>
    ⟨fun failing => ?failingGrace, fun returning => ?returningGrace, fun returning room => ?returningRoom, fun still => ?stillGrace⟩⟩
  case upDown =>
    refine congrArg Host.Outcome.next ((if_pos running).trans ?_)
    rw [up]
    rfl
  case returningDown =>
    refine congrArg Host.Outcome.next ((if_pos running).trans ?_)
    rw [returning]
    rfl
  case otherDown =>
    refine congrArg Host.Outcome.next ?_
    obtain off | failing | lost := other
    · exact if_neg off
    · rw [failing]
      exact ite_self _
    · rw [lost]
      exact ite_self _
  case lostUp =>
    refine congrArg Host.Outcome.next ((if_pos running).trans ?_)
    rw [lost]
    rfl
  case failingUp =>
    refine ⟨_, exec_trunkLinkUp_of_failing running failing, tells_passNotices _, rfl, fun empty => ?_⟩
    rw [passNotices_of_empty (by exact empty)]
  case otherUp =>
    refine congrArg Host.Outcome.next ?_
    obtain off | up | returning := other
    · exact if_neg off
    · rw [up]
      exact ite_self _
    · rw [returning]
      exact ite_self _
  case failingGrace =>
    have kept : Keeps s.lostTrunk (trunkLostEffect s).finish := keeps_work _ _
    refine ⟨(trunkLostEffect s).finish, ?_, ⟨(tells_lostTrunk s).keeps.trans kept, kept, trunkLost_notices s,
      trunkLost_of_idle, trunkLost_causeTaken⟩, kept.flags _ ((tells_notify _ _).keeps.flags _ (raiseFlag_raised _ _)),
      fun c => ?_⟩
    · refine congrArg Host.Outcome.next ((if_pos running).trans ?_)
      rw [failing]
    · obtain ⟨doze, slumber, drain, marked⟩ := trunkLost_woken s c
      refine ⟨drain, doze, slumber, fun rest => ?_⟩
      obtain ⟨k, mark, -⟩ := marked rest
      rw [mark]
      exact Option.some_ne_none k
  case returningGrace =>
    refine ⟨s.trunkRestored, ?_, (tells_notify _ _).trans (tells_passNotices _), passNotices_notices _⟩
    refine congrArg Host.Outcome.next ((if_pos running).trans ?_)
    rw [returning]
  case returningRoom =>
    have restored : exec .trunkGraceExpires s = .next s.trunkRestored := by
      refine congrArg Host.Outcome.next ((if_pos running).trans ?_)
      rw [returning]
    refine ⟨fun wanted => ?_, fun unwanted => ?_⟩
    · rw [restored, trunkRestored_of_wanted (noticeWanted_iff.mpr wanted) room, passNotices_eq, State.setEngine_engine,
        foldl_sends_setEngine]
      rfl
    · rw [restored, trunkRestored_of_unwanted (Bool.eq_false_iff.mpr (mt noticeWanted_iff.mp unwanted)), passNotices_eq]
      rfl
  case stillGrace =>
    refine congrArg Host.Outcome.next ((if_pos running).trans ?_)
    obtain up | lost := still
    · rw [up]
    · rw [lost]

end Sys2Proof.Machine
end

section
/-! PROOFS. The PRIORITY cause of a TRIGGER-PRIORITY frame (R44, R80, R138). -/

namespace Sys2Proof.Machine

variable {s t v : State} {c d : CarrierIx} {k : WakeKind} {l : List CarrierIx} {a : ActionEntry} {mask : Byte}

/-! ## Causes that find their carriers awake or on the way to sleep -/

/-- R124: a wake cause other than WAKE that finds its carrier neither asleep nor draining moves no carrier, sets nothing off and
tells nothing. -/
theorem wakeEffect_calm (other : k ≠ .management) (doze : s.lifeState c ≠ .doze) (slumber : s.lifeState c ≠ .slumber)
    (drain : (s.lifeState c).isDrain = false) : (wakeEffect c k s).2 = [] ∧ (wakeEffect c k s).1.path = s.path ∧
      ∀ d, (wakeEffect c k s).1.lifeState d = s.lifeState d := by
  have kept : (s.keepWake c k.cls k.cause).path = s.path ∧ ∀ d, (s.keepWake c k.cls k.cause).lifeState d = s.lifeState d :=
    ⟨rfl, fun d => setLife_lifeState s c d rfl⟩
  have promoted (q : WakeQueue) : (s.setWakeQueue q).path = s.path ∧ ∀ d, (s.setWakeQueue q).lifeState d = s.lifeState d :=
    ⟨rfl, fun _ => rfl⟩
  have still : s.path = s.path ∧ ∀ d, s.lifeState d = s.lifeState d := ⟨rfl, fun _ => rfl⟩
  unfold wakeEffect
  cases state : s.lifeState c with
  | doze => exact absurd state doze
  | slumber => exact absurd state slumber
  | draining | drainHeld =>
    rw [state] at drain
    cases drain
  | rampdown | deepening =>
    dsimp only
    split
    · exact ⟨rfl, still⟩
    · exact ⟨rfl, kept⟩
  | queued => exact ⟨rfl, promoted _⟩
  | lost =>
    dsimp only
    rw [if_neg other]
    exact ⟨rfl, still⟩
  | active | restoring | warmup | unmanaged => exact ⟨rfl, still⟩

theorem done_wakes_calm (other : k ≠ .management) (calm : ∀ c ∈ l, s.lifeState c ≠ .doze ∧ s.lifeState c ≠ .slumber ∧
    (s.lifeState c).isDrain = false) : ∃ t, Done (l.map (.wake · k)) s t ∧ t.path = s.path := by
  induction l generalizing s with
  | nil => exact ⟨s, .nil s, rfl⟩
  | cons c l ih =>
    obtain ⟨doze, slumber, drain⟩ := calm c List.mem_cons_self
    obtain ⟨alone, path, states⟩ := wakeEffect_calm other doze slumber drain
    obtain ⟨t, done, same⟩ := ih (s := (wakeEffect c k s).1) fun d mem => by
      rw [states]
      exact calm d (List.mem_cons_of_mem _ mem)
    refine ⟨t, ?_, same.trans path⟩
    rw [List.map_cons, done_cons_iff]
    refine ⟨_, ?_, done⟩
    rw [show ((Task.wake c k).effect s).2 = [] from alone]
    exact .nil _

/-! ## The frame -/

/-- R80: what starting the lock-outs of a mask leaves. -/
theorem startLockOuts_eq (mask : Byte) (s : State) :
    s.startLockOuts mask = { s with lockOuts := (s.startLockOuts mask).lockOuts } := by
  unfold State.startLockOuts
  dsimp only
  split <;> rfl

theorem startLockOuts_at (mask : Byte) (s : State) (g : SectorIx) : (s.startLockOuts mask).lockOuts[g] =
    if memberOf mask g.val = true ∧ s.settings.lockOutTime ≠ 0 then some (s.settings.lockOutTime * 1000)
    else s.lockOuts[g] := by
  unfold State.startLockOuts
  by_cases off : s.settings.lockOutTime = 0
  · simp [off]
  · simp [off, State.setLockOuts, msPerSecond]

/-- R44: the carriers that the PRIORITY cause reaches. -/
def State.inSectors (mask : Byte) (s : State) : List CarrierIx :=
  s.managedCarriers.filter fun c => memberOf mask (s.config c).sectorIx.val

theorem mem_inSectors : c ∈ s.inSectors mask ↔
    s.isManaged c = true ∧ memberOf mask (s.config c).sectorIx.val = true := by
  simp [State.inSectors, mem_managedCarriers]

theorem costs_wakes (other : k ≠ .management) (l : List CarrierIx) : costs (l.map (.wake · k)) = 0 := by
  cases k <;> simp [costs, Task.cost, Function.comp_def] at other ⊢

/-- R44: a TRIGGER-PRIORITY frame once it has been forwarded and the lock-outs have started. -/
def State.locked (a : ActionEntry) (port : Port) (bytes : List Byte) (s : State) : State :=
  (s.forward a.portSet port bytes).startLockOuts a.sectorMask

theorem done_priorityFrame (a : ActionEntry) (port : Port) (bytes : List Byte) (s : State) :
    Done (((s.locked a port bytes).inSectors a.sectorMask).map (.wake · .priority)) (s.locked a port bytes)
      (priorityFrame a port bytes s).finish :=
  done_work _ _ ((costs_wakes (by decide) _).trans_le (Nat.zero_le _))

/-- R138: every carrier reached that sleeps or drains is woken, and a mark is one of class PRIORITY. -/
theorem priorityFrame_woken (a : ActionEntry) (port : Port) (bytes : List Byte) (s : State)
    (mem : c ∈ (s.locked a port bytes).inSectors a.sectorMask) : Woken .priority c (priorityFrame a port bytes s).finish := by
  have reached : Task.wake c .priority ∈ ((s.locked a port bytes).inSectors a.sectorMask).map fun d => Task.wake d .priority :=
    List.mem_map.mpr ⟨c, mem, rfl⟩
  have calm : ∀ k ∈ ((s.locked a port bytes).inSectors a.sectorMask).map fun d => Task.wake d .priority,
      k.mayLull = false := fun k mem => by
    obtain ⟨d, -, rfl⟩ := List.mem_map.mp mem
    rfl
  exact woken_work (by decide) reached calm (s.locked a port bytes)

theorem eq_priority {cls : WakeClass} (high : WakeClass.priority.code ≤ cls.code) : cls = .priority := by
  revert high
  cases cls <;> decide

/-- Settles O18. -/
theorem priorityTrigger : Obligations.PriorityTrigger := by
  intro w a s s' done kind
  obtain ⟨n, good, meaning⟩ := exec_walkEnds_done done
  have offered := offered_forward a.portSet w.port w.bytes s'
  generalize forwarded : s'.forward a.portSet w.port w.bytes = v at offered
  have lockedEq : s'.locked a w.port w.bytes = v.startLockOuts a.sectorMask := by rw [State.locked, forwarded]
  have work := done_priorityFrame a w.port w.bytes s'
  have kept : Keeps (s'.locked a w.port w.bytes) (priorityFrame a w.port w.bytes s').finish := keeps_work _ _
  have woken (c : CarrierIx) := priorityFrame_woken (c := c) a w.port w.bytes s'
  generalize result : (priorityFrame a w.port w.bytes s').finish = t at work kept woken
  rw [lockedEq] at work kept woken
  have state (c : CarrierIx) : (v.startLockOuts a.sectorMask).lifeState c = s'.lifeState c := by
    rw [startLockOuts_eq, offered.2]; rfl
  have mem (c : CarrierIx) : c ∈ (v.startLockOuts a.sectorMask).inSectors a.sectorMask ↔
      s'.isManaged c = true ∧ memberOf a.sectorMask (s'.config c).sectorIx.val = true := by
    rw [mem_inSectors, startLockOuts_eq, offered.2]; rfl
  have lockOuts : t.lockOuts = (v.startLockOuts a.sectorMask).lockOuts := kept.lockOuts
  have started : { v with lockOuts := t.lockOuts } = v.startLockOuts a.sectorMask := by
    rw [lockOuts]
    exact (startLockOuts_eq ..).symm
  refine ⟨v, t, offered, ?_, fun g => ?_, ?_, ⟨fun nobody => ?_, fun calm => ?_⟩, fun c managed sector => ?_, fun law full => ?_⟩
  · rw [meaning, disposeFrame, good]
    simp only [kind, result]
  · rw [lockOuts, startLockOuts_at, offered.2]
  · rw [started]
    exact kept
  · rw [started]
    have empty : (v.startLockOuts a.sectorMask).inSectors a.sectorMask = [] :=
      List.eq_nil_iff_forall_not_mem.mpr fun c held => nobody c ((mem c).mp held)
    rw [empty] at work
    exact (done_nil_iff.mp work)
  · obtain ⟨u, still, path⟩ := done_wakes_calm (k := .priority) (by decide) fun c held => by
      rw [state]
      exact calm c ((mem c).mp held)
    rw [work.unique still, path, startLockOuts_eq]
  · obtain ⟨doze, slumber, drain, marked⟩ := woken c ((mem c).mpr ⟨managed, sector⟩)
    refine ⟨doze, slumber, drain, fun rest => ?_⟩
    obtain ⟨k, mark, high⟩ := marked rest
    rw [mark, Option.map_some, eq_priority high]
  · have law' : WakeQueueLaw (v.startLockOuts a.sectorMask) := by
      simp only [WakeQueueLaw, state]
      rw [startLockOuts_eq, offered.2]
      exact law
    have full' : (v.startLockOuts a.sectorMask).settings.slots ≤ (v.startLockOuts a.sectorMask).warmups := by
      rw [warmups_of_state state, startLockOuts_eq, offered.2]
      exact full
    have sorted : ((v.startLockOuts a.sectorMask).inSectors a.sectorMask).Pairwise (· < ·) :=
      ((List.pairwise_lt_finRange 32).filter _).filter _
    obtain ⟨u, wakes, -, -, taken⟩ := done_wakes (k := .priority) (fun _ => true) (by decide) sorted law' full'
      (fun h => by cases h) (fun _ _ h => by cases h)
    rw [started, work.unique wakes]
    have reached : (fun c => decide (c ∈ ((v.startLockOuts a.sectorMask).inSectors a.sectorMask).filter fun _ => true)) =
        fun c => s'.isManaged c && memberOf a.sectorMask (s'.config c).sectorIx.val := by
      funext c
      rw [Bool.eq_iff_iff]
      simp [mem]
    rw [reached] at taken
    exact taken

end Sys2Proof.Machine
end

section
/-! PROOFS. A carrier whose unit takes directives is not lost by what a wake sets off (R131, R136, R145), and its CARRIER-WAKE
stays in its unit's queue until it is answered. -/

namespace Sys2Proof.Machine

variable {s t u : State} {c d : CarrierIx} {v w : UnitIx} {k j : Task} {l : List Task} {cause : Cause} {new : LifeState}
  {kind : DirectiveKind}

/-! ## The units through a wake -/

/-- CARRIER-WAKE for a carrier is in a unit's queue. -/
def State.wakeQueued (s : State) (v : UnitIx) (c : CarrierIx) : Prop :=
  ∃ d ∈ (s.unit v).queue, d.kind = .carrierWake ∧ d.carrier = some c

/-- A unit's state is as it was, or it was DEEP and has been released (R145, R155). -/
def RadioUnit.settled (x y : RadioUnit) : Prop :=
  y.state = x.state ∨ x.state = some .deep ∧ y.state = some .releasing

/-- From `s` to `t` every unit has its state, or was DEEP and has been released, and no directive for `c` has left a queue but
a CARRIER-DEEPEN. -/
structure Serving (c : CarrierIx) (s t : State) : Prop where
  settled : ∀ v, (s.unit v).settled (t.unit v)
  stays : ∀ v, ∀ d ∈ (s.unit v).queue, d.kind ≠ .carrierDeepen → d.carrier = some c → d ∈ (t.unit v).queue

theorem Serving.refl (c : CarrierIx) (s : State) : Serving c s s := ⟨fun _ => .inl rfl, fun _ _ mem _ _ => mem⟩

theorem Serving.waits (h : Serving c s t) (waits : s.wakeQueued v c) : t.wakeQueued v c := by
  obtain ⟨d, mem, wakes, own⟩ := waits
  exact ⟨d, h.stays v d mem (by simp [wakes]) own, wakes, own⟩

theorem RadioUnit.settled_trans {x y z : RadioUnit} (h : x.settled y) (k : y.settled z) : x.settled z := by
  obtain same | ⟨deep, released⟩ := h
  · obtain last | ⟨deep, released⟩ := k
    · exact .inl (last.trans same)
    · exact .inr ⟨same.symm.trans deep, released⟩
  · obtain last | ⟨deep', -⟩ := k
    · exact .inr ⟨deep, last.trans released⟩
    · rw [released] at deep'
      cases deep'

theorem Serving.trans (h : Serving c s t) (k : Serving c t u) : Serving c s u :=
  ⟨fun v => RadioUnit.settled_trans (h.settled v) (k.settled v), fun v d mem kind own => k.stays v d (h.stays v d mem kind own) kind own⟩

/-- R145: a unit that takes directives has not ceased to. -/
theorem Serving.taken (h : Serving c s t) (v : UnitIx)
    (out : (t.unit v).state = none ∨ (t.unit v).state = some .unreachable) :
    (s.unit v).state = none ∨ (s.unit v).state = some .unreachable := by
  obtain same | ⟨-, released⟩ := h.settled v
  · rwa [same] at out
  · simp [released] at out

/-- R153: only the unit deep timer takes a unit out of UP. -/
theorem Serving.stays_up (h : Serving c s t) (up : (s.unit v).state = some .up) : (t.unit v).state = some .up := by
  obtain same | ⟨deep, -⟩ := h.settled v
  · exact same.trans up
  · rw [up] at deep
    cases deep

theorem serving_of_same (state : ∀ v, (t.unit v).state = (s.unit v).state) (queue : ∀ v, (t.unit v).queue = (s.unit v).queue) :
    Serving c s t :=
  ⟨fun v => .inl (state v), fun v d mem _ _ => by rwa [queue]⟩

theorem serving_of_units (h : t.units = s.units) : Serving c s t := by
  have unit (v : UnitIx) : t.unit v = s.unit v := by rw [State.unit, h, State.unit]
  exact serving_of_same (fun v => by rw [unit]) (fun v => by rw [unit])

theorem serving_setUnit {x : RadioUnit} (settled : (s.unit v).settled x)
    (stays : ∀ d ∈ (s.unit v).queue, d.kind ≠ .carrierDeepen → d.carrier = some c → d ∈ x.queue) :
    Serving c s (s.setUnit v x) where
  settled w := by
    rw [State.setUnit_unit]
    split
    · rename_i same
      subst same
      exact settled
    · exact .inl rfl
  stays w d mem kind own := by
    rw [State.setUnit_unit]
    split
    · rename_i same
      subst same
      exact stays d mem kind own
    · exact mem

theorem serving_moveTo (s : State) (d : CarrierIx) (h : new ≠ .slumber) : Serving c s (s.moveTo d new) := by
  have unit := moveTo_units s d h
  exact serving_of_same (fun v => by rw [unit]; split <;> rfl) fun v => by rw [unit]; split <;> rfl

theorem serving_moveAndTell (s : State) (d : CarrierIx) (h : new ≠ .slumber) (cause : Cause) :
    Serving c s (s.moveAndTell d new cause) :=
  (serving_moveTo s d h).trans (serving_of_units (tells_notifyState ..).units)

theorem serving_enterQueued (s : State) (d : CarrierIx) (cls : WakeClass) (depth : Depth) (cause : Cause) :
    Serving c s (s.enterQueued d cls depth cause) := by
  have joined (s : State) (q : WakeQueue) : Serving c s (s.setWakeQueue q) := serving_of_units rfl
  unfold State.enterQueued
  exact ((serving_moveTo s d (by decide)).trans (joined ..)).trans (serving_of_units (tells_notifyState ..).units)

theorem serving_enterRestoring (s : State) (d : CarrierIx) (cause : Cause) : Serving c s (s.enterRestoring d cause) := by
  obtain ⟨-, eq⟩ := enterRestoring_eq s d cause
  have tells : Tells (s.moveTo d .restoring) (((s.moveTo d .restoring).advise .openUp d cause).notifyState d
    (s.lifeState d) .restoring cause cause.origin) := (tells_advise ..).trans (tells_notifyState ..)
  have first := (serving_moveTo (c := c) s d (new := .restoring) (by decide)).trans (serving_of_units tells.units)
  rw [eq]
  split
  · exact (first.trans (serving_moveTo _ d (by decide))).trans (serving_of_units (tells_notifyState ..).units)
  · exact first

theorem serving_setPath (s : State) (p : FramePath) : Serving c s (s.setPath p) := serving_of_units rfl

theorem serving_releaseUnit (deep : (s.unit v).state = some .deep) : Serving c s (s.releaseUnit v) := by
  have later : Serving c s s.advanceToken := serving_of_units rfl
  rw [releaseUnit_eq]
  refine Serving.trans (later.trans ?_) (serving_setPath _ _)
  exact serving_setUnit (.inr ⟨deep, rfl⟩) fun e mem _ _ => mem

theorem serving_handDirective (h : s.handDirective kind d = some t) : Serving c s t := by
  obtain ⟨used, reachable, rfl⟩ := handed_of h
  have queued : Serving c s (s.queued kind d) := by
    have later : Serving c s s.advanceToken := serving_of_units rfl
    exact later.trans (serving_setUnit (.inl rfl) fun e mem _ _ => List.mem_append_left _ mem)
  split
  · rename_i deep
    refine queued.trans (serving_releaseUnit ?_)
    rw [queued_unit_same]
    exact deep
  · exact queued

/-- R152: a carrier that is lost takes no other's directive out of the queue. -/
theorem serving_removeDirective (s : State) (other : d ≠ c) : Serving c s (s.removeDirective d) := by
  refine serving_setUnit (.inl ?_) (fun e mem _ own => ?_)
  · dsimp only
    split <;> rfl
  · refine List.mem_filter.mpr ⟨mem, ?_⟩
    simp [Directive.isFor, own, Ne.symm other]

theorem serving_transmit (s : State) (v : UnitIx) (d : Directive) : Serving c s (s.transmit v d) := by
  rw [transmit_eq]
  refine Serving.trans ?_ (serving_setPath _ _)
  exact serving_setUnit (.inl rfl) fun e mem _ _ => mem

/-! ## The tasks that a wake sets off -/

/-- The tasks that end no directive, and begin no drain, no sleep and no recovery. -/
def Task.isCalling : Task → Bool
  | .wake .. | .grants | .anchorLost _ | .sendHead _ | .lose .. | .withdrawn _ | .linkUp _ => true
  | _ => false

theorem isCalling_of_spawned (spawned : k.spawns s j) : j.isCalling = true := by
  cases j with
  | ended | deepen | abandon | report | group | deepTest | recover => exact spawned.elim
  | _ => rfl

theorem serving_wakeEffect (d : CarrierIx) (k : WakeKind) (s : State) : Serving c s (wakeEffect d k s).1 := by
  have kept : Serving c s (s.keepWake d k.cls k.cause) := serving_of_units rfl
  have abandoned : Serving c s (abandonEffect d k.cause s).1 := by
    unfold abandonEffect
    split
    · exact serving_enterRestoring ..
    · exact .refl c s
  unfold wakeEffect
  split
  case h_1 => exact serving_enterQueued ..
  case h_2 =>
    split
    · exact .refl c s
    · exact serving_enterQueued ..
  case h_3 | h_4 =>
    split
    · exact .refl c s
    · exact kept
  case h_5 | h_6 =>
    split
    · exact .refl c s
    · exact abandoned
  case h_7 => exact serving_of_units rfl
  case h_8 =>
    split
    · exact serving_enterQueued ..
    · exact .refl c s
  all_goals exact .refl c s

theorem serving_grantTo (d : CarrierIx) (s : State) : Serving c s (grantTo d s).1 := by
  unfold grantTo
  split
  · dsimp only
    split
    · rename_i handed
      exact (serving_moveAndTell s d (by decide) _).trans (serving_handDirective handed)
    · exact serving_moveAndTell s d (by decide) _
  · exact .refl c s

theorem serving_grantsEffect (s : State) : Serving c s (grantsEffect s).1 := by
  unfold grantsEffect
  split
  · split
    · exact .refl c s
    · exact serving_grantTo ..
  · exact .refl c s

theorem serving_loseEffect (other : d ≠ c) (cause : Cause) (s : State) : Serving c s (loseEffect d cause s).1 := by
  unfold loseEffect
  dsimp only
  split
  · exact .refl c s
  · have told (s : State) (old : LifeState) :
        Serving c s ((s.raiseFlag .carrierLost).notifyState d old .lost cause cause.origin) :=
      serving_of_units ((tells_raiseFlag _ _ (by decide)).trans (tells_notifyState ..)).units
    exact ((serving_moveTo s d (by decide)).trans (serving_removeDirective _ other)).trans (told ..)

theorem serving_sendHeadEffect (v : UnitIx) (s : State) : Serving c s (sendHeadEffect v s).1 := by
  unfold sendHeadEffect
  dsimp only
  split
  · split
    · exact .refl c s
    · rename_i head
      split
      · rename_i deepens
        refine serving_setUnit (.inl rfl) fun e mem kind _ => ?_
        rw [head] at mem
        rcases List.mem_cons.mp mem with rfl | mem
        · exact absurd deepens.1 kind
        · exact mem
      · exact serving_transmit ..
  · exact .refl c s

theorem serving_withdrawnEffect (d : CarrierIx) (s : State) : Serving c s (withdrawnEffect d s).1 := by
  unfold withdrawnEffect
  split
  · split
    · exact serving_moveAndTell s d (by decide) _
    · exact serving_enterQueued ..
  · exact .refl c s

theorem serving_linkUpEffect (d : CarrierIx) (s : State) : Serving c s (linkUpEffect d s).1 := by
  unfold linkUpEffect
  split
  · exact serving_enterQueued ..
  · exact .refl c s

theorem serving_task (calling : k.isCalling = true) (other : ∀ cause, k ≠ .lose c cause) (s : State) :
    Serving c s (k.effect s).1 := by
  cases k with
  | wake d k => exact serving_wakeEffect d k s
  | grants => exact serving_grantsEffect s
  | anchorLost a => exact .refl c s
  | sendHead v => exact serving_sendHeadEffect v s
  | lose d cause => exact serving_loseEffect (fun same => other cause (by rw [same])) cause s
  | withdrawn d => exact serving_withdrawnEffect d s
  | linkUp d => exact serving_linkUpEffect d s
  | ended | deepen | abandon | report | group | deepTest | recover => cases calling

/-! ## A carrier whose unit takes directives -/

/-- The tasks of a wake, but for the loss of `c`. -/
def Task.spares (c : CarrierIx) (k : Task) : Prop := k.isCalling = true ∧ ∀ cause, k ≠ .lose c cause

theorem Keeps.unitOf_eq (h : Keeps s t) (c : CarrierIx) : t.unitOf c = s.unitOf c := by rw [State.unitOf, h.config, State.unitOf]

theorem Serving.untaken (h : Serving c s t) (keeps : Keeps s t) (out : t.untaken d) : s.untaken d := by
  rw [State.untaken, keeps.unitOf_eq] at out
  exact h.taken _ out

/-- R131: with its unit in use and reachable `c` is handed to no loss. -/
theorem spares_of_spawned (spares : k.spares c) (taken : ¬s.untaken c) (spawned : k.spawns s j) : j.spares c := by
  refine ⟨isCalling_of_spawned spawned, fun cause same => ?_⟩
  subst same
  obtain ⟨-, -, untaken⟩ | ⟨kind, how, rfl⟩ | ⟨m, rfl⟩ := spawned
  · exact taken untaken
  · cases spares.1
  · cases spares.1

/-- R135: only its own loss makes a carrier LOST. -/
theorem effect_stays_found (spares : k.spares c) (found : s.lifeState c ≠ .lost) : (k.effect s).1.lifeState c ≠ .lost := by
  intro lost
  rcases effect_turns k c s with same | turned
  · exact found (same.symm.trans lost)
  · rw [lost] at turned
    obtain ⟨calling, other⟩ := spares
    cases k with
    | wake d k =>
      obtain ⟨-, ⟨queued, -⟩ | ⟨-, back⟩⟩ := turned
      · cases queued
      · cases back
    | grants => cases turned.2
    | lose d cause => exact other cause (by rw [turned.1])
    | withdrawn d =>
      obtain ⟨rfl, old⟩ := turned
      have moved : (withdrawnEffect d s).1.lifeState d = .doze ∨ (withdrawnEffect d s).1.lifeState d = .queued := by
        rw [withdrawnEffect, if_pos old]
        split
        · exact .inl (by rw [moveAndTell_lifeState, if_pos rfl])
        · exact .inr (by rw [enterQueued_lifeState, if_pos rfl])
      rw [show (withdrawnEffect d s).1.lifeState d = .lost from lost] at moved
      simp at moved
    | linkUp d => cases turned.2.2
    | anchorLost | sendHead => exact turned.elim
    | ended | deepen | abandon | report | group | deepTest | recover => cases calling

/-- R131, R136: a carrier that is not LOST, with its unit in use and reachable, does not become so. -/
theorem Done.spared (h : Done l s t) (spares : ∀ k ∈ l, k.spares c) (taken : ¬s.untaken c) (found : s.lifeState c ≠ .lost) :
    ¬t.untaken c ∧ t.lifeState c ≠ .lost := by
  refine h.stays (fun s => ¬s.untaken c ∧ s.lifeState c ≠ .lost) (Task.spares c) (fun k s spares holds => ?_) spares ⟨taken, found⟩
  obtain ⟨taken, found⟩ := holds
  exact ⟨⟨mt ((serving_task spares.1 spares.2 s).untaken (keeps_task k s)) taken, effect_stays_found spares found⟩,
    fun j mem => spares_of_spawned spares taken (effect_spawns k s j mem)⟩

/-- A LOST carrier whose unit takes directives, before its turn comes. -/
theorem Done.stays_taken (h : Done l s t) (calling : ∀ k ∈ l, k.isCalling = true) (none_finds : ∀ k ∈ l, ¬k.mayFind c)
    (taken : ¬s.untaken c) (lost : s.lifeState c = .lost) (spares : ∀ k ∈ l, ∀ cause, k ≠ .lose c cause) :
    ¬t.untaken c ∧ t.lifeState c = .lost := by
  have kept := h.stays (fun s => ¬s.untaken c) (Task.spares c) (fun k s spares taken =>
    ⟨mt ((serving_task spares.1 spares.2 s).untaken (keeps_task k s)) taken,
      fun j mem => spares_of_spawned spares taken (effect_spawns k s j mem)⟩) (fun k mem => ⟨calling k mem, spares k mem⟩) taken
  exact ⟨kept, h.stays_lost none_finds lost⟩

/-- R111, R131: a carrier in RAMPDOWN or WARMUP leaves it only by the end of its directive, or by its loss. -/
theorem effect_awaits (spares : k.spares c) (awaits : s.lifeState c = .rampdown ∨ s.lifeState c = .warmup) :
    (k.effect s).1.lifeState c = s.lifeState c := by
  rcases effect_turns k c s with same | turned
  · exact same
  · obtain ⟨calling, other⟩ := spares
    cases k with
    | grants => simp [turned.1] at awaits
    | lose d cause => exact absurd rfl (turned.1 ▸ other cause)
    | wake d k => obtain awaits | awaits := awaits <;> simp [Task.turns, LifeState.isDrain, awaits] at turned
    | withdrawn d => simp [turned.2] at awaits
    | linkUp d => simp [turned.2.1] at awaits
    | anchorLost | sendHead => exact turned.elim
    | ended | deepen | abandon | report | group | deepTest | recover => cases calling

/-- R111, R131: it stays there, with its directive. -/
theorem Done.stays_awaiting {d : Directive} {old : LifeState} (h : Done l s t) (spares : ∀ k ∈ l, k.spares c)
    (taken : ¬s.untaken c) (awaits : old = .rampdown ∨ old = .warmup) (state : s.lifeState c = old)
    (mem : d ∈ (s.unit v).queue) (kind : d.kind ≠ .carrierDeepen) (own : d.carrier = some c) :
    t.lifeState c = old ∧ d ∈ (t.unit v).queue := by
  have kept := h.stays (fun t => ¬t.untaken c ∧ t.lifeState c = old ∧ d ∈ (t.unit v).queue) (Task.spares c)
    (fun k t spares holds => ?_) spares ⟨taken, state, mem⟩
  · exact kept.2
  · obtain ⟨taken, state, mem⟩ := holds
    have serving := serving_task spares.1 spares.2 t
    have same := effect_awaits spares (by rw [state]; exact awaits)
    exact ⟨⟨mt (serving.untaken (keeps_task k t)) taken, same.trans state, serving.stays v d mem kind own⟩,
      fun j mem => spares_of_spawned spares taken (effect_spawns k t j mem)⟩

/-- R131: a carrier in WARMUP stays there, with its CARRIER-WAKE. -/
theorem Done.stays_served (h : Done l s t) (spares : ∀ k ∈ l, k.spares c) (taken : ¬s.untaken c)
    (warmup : s.lifeState c = .warmup) (waits : s.wakeQueued v c) : t.lifeState c = .warmup ∧ t.wakeQueued v c := by
  obtain ⟨d, mem, wakes, own⟩ := waits
  obtain ⟨state, mem⟩ := h.stays_awaiting spares taken (.inr rfl) warmup mem (by simp [wakes]) own
  exact ⟨state, d, mem, wakes, own⟩

end Sys2Proof.Machine
end

section
/-! PROOFS. A grant that is made to the carrier that waits first (R130, R131). -/

namespace Sys2Proof.Machine

variable {s t g : State} {c d : CarrierIx} {v : UnitIx} {l : List Task} {w : Waiting} {cls : WakeClass}

/-! ## WARMUP -/

/-- From `s` to `t` carrier `c` has left QUEUED for WARMUP and nothing else of any carrier, the branch queues or the token has
changed beside the lists of anchors; the notice has been generated. -/
structure Warmed (c : CarrierIx) (s t : State) : Prop where
  told : Alike (s.tells c .queued .warmup .granted .timed) t
  state : t.lifeState c = .warmup
  others : ∀ d, d ≠ c → t.carrier d = s.carrier d
  record : ∀ d, t.carrier d = (s.moveTo c .warmup).carrier d
  queue : t.wakeQueue = s.wakeQueue.leave c
  units : t.units = s.units
  token : t.token = s.token
  branches : t.path.branchQueues = s.path.branchQueues
  keeps : Keeps s t

theorem movePlaces_warmup (s : State) : s.movePlaces c .queued .warmup = s.setWakeQueue (s.wakeQueue.leave c) := by
  simp [State.movePlaces, LifeState.isDrain, LifeState.isSleeper]

/-- R131: a QUEUED carrier that enters WARMUP. -/
theorem warmed (queued : s.lifeState c = .queued) : Warmed c s (s.moveAndTell c .warmup .granted) := by
  have managed : s.isManaged c = true := managed_of queued (by decide)
  have moved : Keeps s (s.moveTo c .warmup) := keeps_moveTo (moveAllowed_awake managed (by decide) rfl)
  have quiet := quiet_moveTo s c (new := .warmup) (by decide)
  have tells := tells_notifyState (s.moveTo c .warmup) c .queued .warmup .granted .timed
  have result : s.moveAndTell c .warmup .granted = (s.moveTo c .warmup).notifyState c .queued .warmup .granted .timed := by
    rw [State.moveAndTell, queued]
    rfl
  have units : (s.moveTo c .warmup).units = s.units := by
    refine Eq.trans ?_ (movePlaces_units s c (s.lifeState c) .warmup)
    simp [State.moveTo, State.moveSlumber, queued]
  have told := (((Alike.refl s).silent moved quiet.toldAs).notifyState c .queued .warmup .granted .timed)
  rw [result]
  refine ⟨told, ?_, fun d other => ?_, tells.carrier, ?_, tells.units.trans units, tells.token.trans quiet.token,
    (notify_branchQueues ..).trans (congrArg FramePath.branchQueues quiet.path), moved.trans tells.keeps⟩
  · rw [tells.lifeState, moveTo_lifeState, if_pos rfl]
  · have cover : (s.moveTo c .warmup).cover d = s.cover d := by
      rw [moveTo_cover, queued, movePlaces_warmup]
      rfl
    rw [tells.carrier, moveTo_other s c d .warmup other]
    exact congrArg (fun x => { s.carrier d with cover := x }) cover
  · rw [tells.wakeQueue, moveTo_wakeQueue, queued, movePlaces_warmup]
    rfl

/-- R131, R145: a grant whose CARRIER-WAKE is taken. -/
theorem grantTo_of_taken (queued : s.lifeState c = .queued) (taken : ¬s.untaken c) :
    ∃ m, Warmed c s m ∧ grantTo c s = (if (s.unit (s.unitOf c)).state = some .deep then
        (m.queued .carrierWake c).releaseUnit (s.unitOf c) else m.queued .carrierWake c,
      [.sendHead (s.unitOf c), .grants]) := by
  have warmed := warmed queued
  generalize made : s.moveAndTell c .warmup .granted = m at warmed
  have unit : m.unit (m.unitOf c) = s.unit (s.unitOf c) := by
    rw [warmed.keeps.unitOf_eq, State.unit, warmed.units, State.unit]
  rw [State.untaken, not_or] at taken
  have handed := handDirective_eq (s := m) (c := c) (kind := .carrierWake) (by rw [unit]; exact taken.1) (by rw [unit]; exact taken.2)
  refine ⟨m, warmed, ?_⟩
  rw [grantTo, if_pos queued, made]
  dsimp only
  rw [handed, unit, warmed.keeps.unitOf_eq]

/-- R131: a grant whose CARRIER-WAKE is not taken. -/
theorem grantTo_of_untaken (queued : s.lifeState c = .queued) (untaken : s.untaken c) :
    ∃ m, Warmed c s m ∧ grantTo c s = (m, [.lose c .radioSilent, .grants]) := by
  have warmed := warmed queued
  generalize made : s.moveAndTell c .warmup .granted = m at warmed
  have unit : m.unit (m.unitOf c) = s.unit (s.unitOf c) := by
    rw [warmed.keeps.unitOf_eq, State.unit, warmed.units, State.unit]
  have refused := handDirective_of_untaken (s := m) (c := c) (kind := .carrierWake) (by rw [unit]; exact untaken)
  refine ⟨m, warmed, ?_⟩
  rw [grantTo, if_pos queued, made]
  dsimp only
  rw [refused]

/-- R130: the carrier that waits first is the one granted. -/
theorem grantsEffect_of_first (free : s.warmups < s.settings.slots) (first : s.wakeQueue.first = some w) :
    grantsEffect s = grantTo w.carrier s := by
  rw [grantsEffect, if_pos free, first]

theorem first_of_entries (entries : s.wakeQueue.entries = [(w, cls)]) : s.wakeQueue.first = some w := by
  rw [WakeQueue.first, entries]
  rfl

theorem leave_entries (q : WakeQueue) (c : CarrierIx) : (q.leave c).entries = q.entries.filter fun e => e.1.carrier != c := by
  simp [WakeQueue.leave, WakeQueue.entries, List.filter_map, Function.comp_def]

theorem leave_of_alone {q : WakeQueue} (entries : q.entries = [(w, cls)]) : (q.leave w.carrier).entries = [] := by
  rw [leave_entries, entries]
  simp

theorem join_of_empty {q : WakeQueue} (empty : q.entries = []) (cls : WakeClass) (w : Waiting) :
    (q.join cls w).entries = [(w, cls)] := by
  have parts : q.priority = [] ∧ q.coverage = [] ∧ q.ordinary = [] := by simpa [WakeQueue.entries] using empty
  obtain ⟨priority, coverage, ordinary⟩ := parts
  cases cls <;> simp [WakeQueue.join, WakeQueue.entries, priority, coverage, ordinary]

theorem queued_lifeState (s : State) (kind : DirectiveKind) (c d : CarrierIx) : (s.queued kind c).lifeState d = s.lifeState d :=
  rfl

/-! ## One carrier waits -/

/-- R130, R131: the one carrier that waits is granted a free slot, and its unit is one in RELEASING. -/
theorem done_grants_releasing (free : s.warmups < s.settings.slots) (entries : s.wakeQueue.entries = [(w, cls)])
    (queued : s.lifeState w.carrier = .queued) (state : (s.unit (s.unitOf w.carrier)).state = some .releasing) :
    ∃ m, Warmed w.carrier s m ∧ Done [.grants] s (m.queued .carrierWake w.carrier) := by
  obtain ⟨m, warmed, effect⟩ := grantTo_of_taken queued (by simp [State.untaken, state])
  rw [if_neg (by simp [state])] at effect
  refine ⟨m, warmed, done_singleton_iff.mpr ?_⟩
  rw [show Task.grants.effect s = grantsEffect s from rfl, grantsEffect_of_first free (first_of_entries entries), effect]
  have unit : ((m.queued .carrierWake w.carrier).unit (s.unitOf w.carrier)).state = some .releasing := by
    rw [← warmed.keeps.unitOf_eq, queued_unit_same, warmed.keeps.unitOf_eq, State.unit, warmed.units]
    exact state
  have waits : (Task.sendHead (s.unitOf w.carrier)).effect (m.queued .carrierWake w.carrier) = (m.queued .carrierWake w.carrier, []) :=
    sendHead_of_busy (by simp [unit])
  have empty : (m.queued .carrierWake w.carrier).wakeQueue.entries = [] :=
    (congrArg WakeQueue.entries warmed.queue).trans (leave_of_alone entries)
  exact done_cons_iff.mpr ⟨_, by rw [waits]; exact .nil _, done_grants_of_empty empty⟩

/-- R130, R131, R146: the one carrier that waits is granted a free slot, and its unit is UP and idle. -/
theorem done_grants_idle (free : s.warmups < s.settings.slots) (entries : s.wakeQueue.entries = [(w, cls)])
    (queued : s.lifeState w.carrier = .queued) (up : (s.unit (s.unitOf w.carrier)).state = some .up)
    (waits : (s.unit (s.unitOf w.carrier)).queue = []) (idle : (s.unit (s.unitOf w.carrier)).sent = none) :
    ∃ m, Warmed w.carrier s m ∧ Done [.grants] s
      ((m.queued .carrierWake w.carrier).transmit (s.unitOf w.carrier) (m.directiveFor .carrierWake w.carrier)) := by
  obtain ⟨m, warmed, effect⟩ := grantTo_of_taken queued (by simp [State.untaken, up])
  rw [if_neg (by simp [up])] at effect
  refine ⟨m, warmed, done_singleton_iff.mpr ?_⟩
  rw [show Task.grants.effect s = grantsEffect s from rfl, grantsEffect_of_first free (first_of_entries entries), effect]
  have unit : (m.queued .carrierWake w.carrier).unit (s.unitOf w.carrier) =
      { s.unit (s.unitOf w.carrier) with queue := [m.directiveFor .carrierWake w.carrier] } := by
    have own : m.unit (s.unitOf w.carrier) = s.unit (s.unitOf w.carrier) := by rw [State.unit, warmed.units, State.unit]
    rw [← warmed.keeps.unitOf_eq, queued_unit_same, warmed.keeps.unitOf_eq, own, waits]
    rfl
  have sent : (Task.sendHead (s.unitOf w.carrier)).effect (m.queued .carrierWake w.carrier) =
      ((m.queued .carrierWake w.carrier).transmit (s.unitOf w.carrier) (m.directiveFor .carrierWake w.carrier), []) :=
    sendHead_of_head (rest := []) (by rw [unit]; exact up) (by rw [unit]; exact idle) (by rw [unit])
      (fun deepen => by cases deepen)
  have empty : ((m.queued .carrierWake w.carrier).transmit (s.unitOf w.carrier)
      (m.directiveFor .carrierWake w.carrier)).wakeQueue.entries = [] := by
    rw [transmit_eq]
    exact (congrArg WakeQueue.entries warmed.queue).trans (leave_of_alone entries)
  exact done_cons_iff.mpr ⟨_, by rw [sent]; exact .nil _, done_grants_of_empty empty⟩

theorem Warmed.directiveFor (h : Warmed c s t) (kind : DirectiveKind) : t.directiveFor kind c = s.directiveFor kind c := by
  have unit : t.unit (s.unitOf c) = s.unit (s.unitOf c) := by rw [State.unit, h.units, State.unit]
  rw [State.directiveFor, State.directiveFor, h.keeps.unitOf_eq, unit, h.token, h.keeps.config]

/-- R130, R131, R146: what the grant to the one carrier that waits leaves, its unit being UP and idle. -/
theorem granted_idle (free : s.warmups < s.settings.slots) (entries : s.wakeQueue.entries = [(w, cls)])
    (queued : s.lifeState w.carrier = .queued) (up : (s.unit (s.unitOf w.carrier)).state = some .up)
    (waits : (s.unit (s.unitOf w.carrier)).queue = []) (idle : (s.unit (s.unitOf w.carrier)).sent = none) :
    ∃ t, Done [.grants] s t ∧ t.lifeState w.carrier = .warmup ∧ t.wakeQueue.entries = [] ∧
      ToldAs (s.tells w.carrier .queued .warmup .granted .timed) t ∧
      (∀ d, d ≠ w.carrier → t.lifeState d = s.lifeState d) ∧
      (t.unit (s.unitOf w.carrier)).queue = [s.directiveFor .carrierWake w.carrier] ∧
      (t.unit (s.unitOf w.carrier)).sent ≠ none := by
  obtain ⟨m, warmed, done⟩ := done_grants_idle free entries queued up waits idle
  have states (d : CarrierIx) : ((m.queued .carrierWake w.carrier).transmit (s.unitOf w.carrier)
      (m.directiveFor .carrierWake w.carrier)).lifeState d = m.lifeState d :=
    (lifeState_of_carriers (transmit_carriers ..) d).trans rfl
  have unit := transmit_unit_same (m.queued .carrierWake w.carrier) (s.unitOf w.carrier) (m.directiveFor .carrierWake w.carrier)
  have own : m.unit (s.unitOf w.carrier) = s.unit (s.unitOf w.carrier) := by rw [State.unit, warmed.units, State.unit]
  refine ⟨_, done, (states _).trans warmed.state, ?_, ?_, fun d other => ?_, ?_, ?_⟩
  · rw [transmit_eq]
    exact (congrArg WakeQueue.entries warmed.queue).trans (leave_of_alone entries)
  · exact (warmed.told.toToldAs.trans (queued_toldAs ..)).trans (transmit_toldAs ..)
  · rw [states, State.lifeState, warmed.others d other, State.lifeState]
  · rw [unit, ← warmed.keeps.unitOf_eq, queued_unit_same, warmed.keeps.unitOf_eq, own, waits, warmed.directiveFor]
    rfl
  · rw [transmit_eq]
    simp

end Sys2Proof.Machine
end

section
/-! PROOFS. WAKE (R136, R137). -/

namespace Sys2Proof.Machine

variable {s t : State} {c d : CarrierIx} {r : Request} {rest : List Request} {l : List CarrierIx}

/-! ## The sets of a request -/

theorem single_getLsbD (c d : CarrierIx) : (1#32 <<< c.val).getLsbD d.val = decide (d = c) := by
  revert c d
  decide

/-- Carriers added to a set, one after another. -/
theorem getLsbD_foldl_set (p : CarrierIx → Bool) (l : List CarrierIx) (acc : BitVec 32) (d : CarrierIx) :
    (l.foldl (fun acc (c : CarrierIx) => if p c then acc ||| (1#32 <<< c.val) else acc) acc).getLsbD d.val =
      (acc.getLsbD d.val || decide (d ∈ l) && p d) := by
  induction l generalizing acc with
  | nil => simp
  | cons c l ih =>
    rw [List.foldl_cons, ih]
    cases held : p c with
    | false =>
      rw [if_neg Bool.false_ne_true]
      by_cases same : d = c <;> simp [same, held]
    | true =>
      rw [if_pos rfl, BitVec.getLsbD_or, single_getLsbD]
      by_cases same : d = c <;> simp [same, held]

/-- R137: the named carriers that are skipped. -/
theorem skippedSet_getLsbD (s : State) (r : Request) (c : CarrierIx) :
    (s.skippedSet r).getLsbD c.val = (memberOf r.carrierSet c.val && s.isSkipped r c) := by
  rw [State.skippedSet, getLsbD_foldl_set fun c => memberOf r.carrierSet c.val && s.isSkipped r c]
  simp

/-- R137: the carriers that are handed the cause. -/
def State.called (s : State) (r : Request) : List CarrierIx :=
  (List.finRange 32).filter fun c => memberOf r.carrierSet c.val && (s.config c).admitsClass r.cls

theorem wakeTasks_eq (s : State) (r : Request) : s.wakeTasks r = (s.called r).map (.wake · .management) := by
  simp [State.wakeTasks, State.called, State.isSkipped]

theorem mem_called : c ∈ s.called r ↔ memberOf r.carrierSet c.val = true ∧ (s.config c).admitsClass r.cls = true := by
  simp [State.called]

theorem exec_wake (h : Takes .wake s r rest) (permitted : r.cls ≤ s.permissions[7]) (long : 4 ≤ r.values.length) :
    exec .wake s = .next (((s.taken rest).work (((s.taken rest).called r).map (.wake · .management))).respond r .done 0
      (beBytes 4 ((s.taken rest).skippedSet r).toNat)) := by
  have ok : (s.taken rest).permission r .wake = none := permission_ok .wake permitted
  refine (onRequest_takes _ h).trans ?_
  rw [ok, holds_ok 4 long, firstOf_none, answer_none, wakeTasks_eq]

theorem exec_wake_short (h : Takes .wake s r rest) (permitted : r.cls ≤ s.permissions[7]) (short : r.values.length < 4) :
    exec .wake s = .next ((s.taken rest).respond r .badLength 0 []) := by
  have ok : (s.taken rest).permission r .wake = none := permission_ok .wake permitted
  refine (onRequest_takes _ h).trans ?_
  rw [ok, holds_short 4 short, firstOf_none, answer_some]

/-! ## What the cause does -/

theorem done_called (s : State) (r : Request) : Done ((s.called r).map (.wake · .management)) s
    (s.work ((s.called r).map (.wake · .management))) := by
  refine done_work _ _ ((costs_map_le _ 6 (fun _ => Nat.le_refl _) _).trans ?_)
  have := List.length_filter_le (fun c : CarrierIx => memberOf r.carrierSet c.val && (s.config c).admitsClass r.cls)
    (List.finRange 32)
  rw [List.length_finRange] at this
  change 6 * (s.called r).length ≤ 500
  rw [State.called]
  omega

theorem called_woken (mem : c ∈ l) (s : State) : Woken .ordinary c (s.work (l.map (.wake · .management))) := by
  have reached : Task.wake c .management ∈ l.map fun d => Task.wake d .management := List.mem_map.mpr ⟨c, mem, rfl⟩
  have calm : ∀ k ∈ l.map fun d => Task.wake d .management, k.mayLull = false := fun k mem => by
    obtain ⟨d, -, rfl⟩ := List.mem_map.mp mem
    rfl
  exact woken_work (by decide) reached calm s

/-- R136: WAKE brings a LOST carrier to QUEUED, and a grant follows where it may. -/
theorem wakeEffect_of_lost (lost : s.lifeState c = .lost) :
    (Task.wake c .management).effect s = (s.enterQueued c .coverage .unknown .wake, [.grants]) := by
  simp [Task.effect, wakeEffect, lost, WakeKind.cause]

theorem wakes_spare (l : List CarrierIx) (c : CarrierIx) : ∀ k ∈ l.map (Task.wake · .management), k.spares c := by
  intro k mem
  obtain ⟨d, -, rfl⟩ := List.mem_map.mp mem
  exact ⟨rfl, fun cause => by simp⟩

/-- R136: a LOST carrier that WAKE names, with its unit in use and reachable, is LOST no more. -/
theorem called_found (nodup : l.Nodup) (mem : c ∈ l) (lost : s.lifeState c = .lost) (taken : ¬s.untaken c)
    (h : Done (l.map (.wake · .management)) s t) : t.lifeState c = .queued ∨ t.lifeState c = .warmup := by
  obtain ⟨before, after, rfl⟩ := List.append_of_mem mem
  rw [List.map_append, List.map_cons] at h
  obtain ⟨m, first, others⟩ := done_append_iff.mp h
  obtain ⟨n, own, last⟩ := done_cons_iff.mp others
  have fresh : c ∉ before := (List.nodup_append.mp nodup).2.2 |> fun apart mem => apart c mem c List.mem_cons_self rfl
  have unfound : ∀ k ∈ before.map (Task.wake · .management), ¬k.mayFind c := by
    intro k mem
    obtain ⟨d, held, rfl⟩ := List.mem_map.mp mem
    exact fun same => fresh (same ▸ held)
  obtain ⟨taken', lost'⟩ := first.stays_taken (fun k mem => (wakes_spare before c k mem).1) unfound taken lost
    fun k mem => (wakes_spare before c k mem).2
  rw [wakeEffect_of_lost lost'] at own
  have queued : (m.enterQueued c .coverage .unknown .wake).lifeState c = .queued := by rw [enterQueued_lifeState, if_pos rfl]
  have keeps : Keeps m (m.enterQueued c .coverage .unknown .wake) := keeps_enterQueued (managed_of lost' (by decide))
  have taken'' : ¬(m.enterQueued c .coverage .unknown .wake).untaken c :=
    mt ((serving_enterQueued (c := c) m c .coverage .unknown .wake).untaken keeps) taken'
  have tail : Done ([.grants] ++ after.map (.wake · .management)) (m.enterQueued c .coverage .unknown .wake) t :=
    done_append_iff.mpr ⟨n, own, last⟩
  have spares : ∀ k ∈ [Task.grants] ++ after.map (Task.wake · .management), k.spares c := by
    intro k mem
    rcases List.mem_append.mp mem with mem | mem
    · obtain rfl := List.mem_singleton.mp mem
      exact ⟨rfl, fun cause => by simp⟩
    · exact wakes_spare after c k mem
  obtain ⟨-, found⟩ := tail.spared spares taken'' (by simp [queued])
  have waking := tail.isWaking (c := c) (fun k mem => by
    have := (spares k mem).1
    cases k <;> simp_all [Task.isCalling, Task.mayLull]) (by simp [queued, LifeState.isWaking])
  revert waking found
  cases t.lifeState c <;> simp [LifeState.isWaking]

theorem called_idle (idle : ∀ c ∈ l, s.lifeState c = .unmanaged ∨ s.lifeState c = .active ∨ s.lifeState c = .restoring ∨
    s.lifeState c = .warmup) : Done (l.map (.wake · .management)) s s := by
  refine done_wakes_idle fun c mem => ?_
  obtain state | state | state | state := idle c mem <;> simp [wakeEffect, state]

/-- Frame Paths that agree part by part. -/
theorem path_eq {told : State} (same : ToldAs told t) (from_ : Keeps s told) (to_ : Keeps s t)
    (branches : t.path.branchQueues = told.path.branchQueues) : t.path = told.path := by
  have trunk := same.trunk
  have up := to_.branchUp.trans from_.branchUp.symm
  have reports := to_.branchReport.trans from_.branchReport.symm
  have trunkReport := to_.trunkReport.trans from_.trunkReport.symm
  have state := to_.trunkState.trans from_.trunkState.symm
  have grace := to_.grace.trans from_.grace.symm
  revert trunk branches up reports trunkReport state grace
  generalize t.path = p
  generalize told.path = q
  rintro branches trunk up reports trunkReport state grace
  cases p
  cases q
  simp_all

/-- R127: nothing waits below class ORDINARY. -/
theorem promote_ordinary (q : WakeQueue) (c : CarrierIx) : q.promote c .ordinary = q := by
  unfold WakeQueue.promote
  split
  · rename_i k _
    cases k <;> rfl
  · rfl

/-- R124: what WAKE does to one carrier that is not LOST. -/
theorem causeTaken_management (found : s.lifeState c ≠ .lost) :
    CauseTaken .ordinary .wake .requested (fun d => d == c) s (wakeEffect c .management s).1 := by
  have idle (awake : (s.lifeState c).isResting = false) :
      CauseTaken .ordinary .wake .requested (fun d => d == c) s s := by
    refine causeTaken_refl ?_ ?_ ?_ ⟨?_, ?_⟩ <;> cases old : s.lifeState c <;>
      simp_all [LifeState.isResting, LifeState.isDrain, LifeState.isSleeper]
  unfold wakeEffect
  cases old : s.lifeState c with
  | doze => exact causeTaken_enterQueued (.inl old) (by simp [State.placeFor, old])
  | slumber => exact causeTaken_enterQueued (.inr old) (by simp [State.placeFor, old])
  | rampdown => exact causeTaken_keepWake (.inl old)
  | deepening => exact causeTaken_keepWake (.inr old)
  | draining | drainHeld =>
    have drain : (s.lifeState c).isDrain = true := by rw [old]; rfl
    have abandoned : (abandonEffect c .wake s).1 = s.enterRestoring c .wake := by rw [abandonEffect, if_pos drain]
    exact abandoned ▸ causeTaken_enterRestoring drain
  | queued =>
    have same : s.setWakeQueue (s.wakeQueue.promote c .ordinary) = s := by
      rw [promote_ordinary]
      rfl
    exact same.symm ▸ idle (by rw [old]; rfl)
  | lost => exact absurd old found
  | active | restoring | warmup | unmanaged => exact idle (by rw [old]; rfl)

/-- R130: with no slot free a wake cause sets nothing off. -/
theorem done_wake_of_full {k : WakeKind} (full : (wakeEffect c k s).1.settings.slots ≤ (wakeEffect c k s).1.warmups) :
    Done [.wake c k] s (wakeEffect c k s).1 := by
  have each (l : List Task) (all : ∀ j ∈ l, j = .grants) : Done l (wakeEffect c k s).1 (wakeEffect c k s).1 := by
    induction l with
    | nil => exact .nil _
    | cons j l ih =>
      obtain rfl := all j List.mem_cons_self
      exact .cons (done_singleton_iff.mp (done_grants_of_full full)) (ih fun i mem => all i (List.mem_cons_of_mem _ mem))
  exact done_singleton_iff.mpr (each _ wakeEffect_tasks)

/-- R124, R137: WAKE handed to carriers in ascending index while no slot is free. -/
theorem done_calls (sorted : l.Pairwise (· < ·)) (full : s.settings.slots ≤ s.warmups) (found : ∀ c ∈ l, s.lifeState c ≠ .lost) :
    ∃ t, Done (l.map (.wake · .management)) s t ∧ Keeps s t ∧
      CauseTaken .ordinary .wake .requested (fun d => decide (d ∈ l)) s t := by
  induction l using List.reverseRecOn with
  | nil => exact ⟨s, .nil s, .refl s, causeTaken_none s⟩
  | append_singleton l c ih =>
    have parts := List.pairwise_append.mp sorted
    obtain ⟨t, done, kept, so_far⟩ := ih parts.1 fun d mem => found d (List.mem_append_left _ mem)
    have fresh : c ∉ l := fun mem => lt_irrefl c (parts.2.2 c mem c (List.mem_singleton_self c))
    have state : t.lifeState c = s.lifeState c := so_far.lifeState_of_unreached (c := c) (by simp [fresh])
    have last := causeTaken_management (s := t) (c := c) (by rw [state]; exact found c (by simp))
    have keeps : Keeps t (wakeEffect c .management t).1 := keeps_wakeEffect ..
    have full' : (wakeEffect c .management t).1.settings.slots ≤ (wakeEffect c .management t).1.warmups := by
      rw [keeps.settings, kept.settings, last.warmups, so_far.warmups]
      exact full
    rw [List.map_append]
    exact ⟨_, done_append_iff.mpr ⟨t, done, done_wake_of_full full'⟩, kept.trans keeps, so_far.snoc kept last sorted⟩

/-- R136, R137: a LOST carrier that WAKE queues, where nothing follows. -/
theorem enterQueued_of_lost (lost : s.lifeState c = .lost) :
    let told := s.tells c .lost .queued .wake .requested
    let t := s.enterQueued c .coverage .unknown .wake
    t.lifeState c = .queued ∧ t.wakeQueue = s.wakeQueue.join .coverage { carrier := c, depth := .unknown } ∧
      t.engine = told.engine ∧ t.path = told.path ∧ t.units = s.units ∧ ∀ d, d ≠ c → t.carrier d = s.carrier d := by
  intro told t
  have managed : s.isManaged c = true := managed_of lost (by decide)
  obtain ⟨same, single⟩ := told_enterQueued (by simp [lost]) (by simp [lost]) managed .coverage .unknown .wake
  rw [lost] at same
  have tells : Tells s told := tells_notify ..
  refine ⟨by rw [enterQueued_lifeState, if_pos rfl], enterQueued_wakeQueue (by simp [lost]), same.engine,
    path_eq same.toToldAs tells.keeps single.keeps (single.branches.trans (notify_branchQueues ..).symm), single.units,
    fun d other => ?_⟩
  have moved : (s.moveTo c .queued).carrier d = s.carrier d :=
    moveTo_other_of_same_lists (by simp [lost, LifeState.isDrain]) (by rw [lost]; rfl) (by simp [lost]) other
  have quiet := tells_notifyState ((s.moveTo c .queued).setWakeQueue ((s.moveTo c .queued).wakeQueue.join .coverage
    { carrier := c, depth := .unknown })) c (s.lifeState c) .queued .wake Cause.wake.origin
  exact (quiet.carrier d).trans moved

/-- R131: the one carrier that waits is granted a slot, and its unit takes no directive. -/
theorem granted_untaken {w : Waiting} {cls : WakeClass} (free : s.warmups < s.settings.slots)
    (entries : s.wakeQueue.entries = [(w, cls)]) (queued : s.lifeState w.carrier = .queued) (untaken : s.untaken w.carrier)
    (h : Done [.grants] s t) : t.lifeState w.carrier = .lost ∧ t.flagRaised .carrierLost = true := by
  obtain ⟨m, warmed, effect⟩ := grantTo_of_untaken queued untaken
  have rest := done_singleton_iff.mp h
  rw [show Task.grants.effect s = grantsEffect s from rfl, grantsEffect_of_first free (first_of_entries entries), effect] at rest
  obtain ⟨n, lost, last⟩ := done_cons_iff.mp rest
  obtain ⟨state, raised⟩ := done_lose (by simp [warmed.state]) (by simp [warmed.state]) (done_singleton_iff.mpr lost)
  exact ⟨last.stays_lost (by simp [Task.mayFind]) state, last.keeps.flags _ raised⟩

/-- R130, R131: the one carrier that waits is granted a slot, and its unit takes CARRIER-WAKE. -/
theorem granted_taken {w : Waiting} {cls : WakeClass} (free : s.warmups < s.settings.slots)
    (entries : s.wakeQueue.entries = [(w, cls)]) (queued : s.lifeState w.carrier = .queued) (taken : ¬s.untaken w.carrier)
    (h : Done [.grants] s t) : t.lifeState w.carrier = .warmup ∧ t.wakeQueued (s.unitOf w.carrier) w.carrier := by
  obtain ⟨m, warmed, effect⟩ := grantTo_of_taken queued taken
  have rest := done_singleton_iff.mp h
  rw [show Task.grants.effect s = grantsEffect s from rfl, grantsEffect_of_first free (first_of_entries entries), effect] at rest
  have keeps : Keeps s (m.queued .carrierWake w.carrier) := warmed.keeps.trans (keeps_queued ..)
  have waits : (m.queued .carrierWake w.carrier).wakeQueued (s.unitOf w.carrier) w.carrier := by
    rw [← warmed.keeps.unitOf_eq]
    exact ⟨m.directiveFor .carrierWake w.carrier, by
      rw [queued_unit_same]
      exact List.mem_append_right _ (List.mem_singleton_self _), rfl, rfl⟩
  have serving : Serving w.carrier s (m.queued .carrierWake w.carrier) := by
    have first : Serving w.carrier s m := serving_of_units warmed.units
    have later : Serving w.carrier m m.advanceToken := serving_of_units rfl
    exact first.trans (later.trans (serving_setUnit (.inl rfl) fun e mem _ _ => List.mem_append_left _ mem))
  have spares : ∀ k ∈ [Task.sendHead (s.unitOf w.carrier), .grants], k.spares w.carrier := by
    intro k mem
    rcases List.mem_pair.mp mem with rfl | rfl <;> exact ⟨rfl, fun cause => by simp⟩
  split at rest
  · rename_i deep
    have used : ((m.queued .carrierWake w.carrier).unit (s.unitOf w.carrier)).state.isSome = true := by
      rw [keeps.inUse, deep]
      rfl
    have released : Serving w.carrier (m.queued .carrierWake w.carrier)
        ((m.queued .carrierWake w.carrier).releaseUnit (s.unitOf w.carrier)) := by
      refine serving_releaseUnit ?_
      rw [← warmed.keeps.unitOf_eq, queued_unit_same, warmed.keeps.unitOf_eq, State.unit, warmed.units]
      exact deep
    refine rest.stays_served spares ?_ ?_ (released.waits waits)
    · exact mt ((serving.trans released).untaken (keeps.trans (keeps_releaseUnit _ _ used))) taken
    · exact (lifeState_of_carriers (releaseUnit_carriers ..) _).trans warmed.state
  · exact rest.stays_served spares (mt (serving.untaken keeps) taken) warmed.state waits

theorem called_of_alone (named : ∀ d : CarrierIx, memberOf r.carrierSet d.val = true ↔ d = c)
    (admitted : (s.config c).admitsClass r.cls = true) : s.called r = [c] := by
  have only : (fun d : CarrierIx => memberOf r.carrierSet d.val && (s.config d).admitsClass r.cls) = fun d => d == c := by
    funext d
    rw [Bool.eq_iff_iff]
    simp only [Bool.and_eq_true, named, beq_iff_eq]
    exact ⟨And.left, fun same => ⟨same, same ▸ admitted⟩⟩
  rw [State.called, only, filter_eq_singleton]

/-- Settles O48. -/
theorem wakeRequest : Obligations.WakeRequest := by
  intro r rest s takes permitted
  refine ⟨exec_wake_short takes permitted, fun long => ?_⟩
  intro named admitted
  have done := done_called (s.taken rest) r
  have kept : Keeps (s.taken rest) ((s.taken rest).work (((s.taken rest).called r).map (.wake · .management))) := keeps_work ..
  have woken (c : CarrierIx) (mem : c ∈ (s.taken rest).called r) := called_woken mem (s.taken rest)
  refine ⟨(s.taken rest).skippedSet r, _, exec_wake takes permitted long, fun c => skippedSet_getLsbD (s.taken rest) r c, kept, ?_⟩
  generalize (s.taken rest).work (((s.taken rest).called r).map (.wake · .management)) = t at done kept woken
  have full_of (full : s.settings.slots ≤ s.warmups) (u : State) (settings : u.settings = s.settings)
      (warmups : u.warmups = s.warmups) : u.settings.slots ≤ u.warmups := by rw [settings, warmups]; exact full
  have member (c : CarrierIx) (name : named c = true) (admits : admitted c = true) : c ∈ (s.taken rest).called r :=
    mem_called.mpr ⟨name, admits⟩
  have nodup : ((s.taken rest).called r).Nodup := (List.nodup_finRange 32).filter _
  refine ⟨fun c name admits => ?reached, fun c name admits lost used reachable => ?found,
    fun c alone admits lost => ?lone, fun none_reached => ?nobody, fun full found => ?taken, fun c alone admits doze free empty
      up waits idle => ?doze⟩
  case reached =>
    obtain ⟨doze, slumber, drain, marked⟩ := woken c (member c name admits)
    refine ⟨doze, slumber, drain, fun rest => ?_⟩
    obtain ⟨k, mark, -⟩ := marked rest
    rw [mark]
    exact Option.some_ne_none k
  case found => exact called_found (s := s.taken rest) nodup (member c name admits) lost (not_or.mpr ⟨used, reachable⟩) done
  case lone =>
    rw [called_of_alone (s := s.taken rest) alone admits, List.map_singleton] at done
    have own := done_singleton_iff.mp done
    rw [wakeEffect_of_lost (s := s.taken rest) lost] at own
    obtain ⟨queued, queue, engine, path, units, others⟩ := enterQueued_of_lost (s := s.taken rest) lost
    have warmups : ((s.taken rest).enterQueued c .coverage .unknown .wake).warmups = s.warmups :=
      enterQueued_warmups (by simp [lost])
    have keeps : Keeps (s.taken rest) ((s.taken rest).enterQueued c .coverage .unknown .wake) :=
      keeps_enterQueued (managed_of (s := s.taken rest) lost (by decide))
    refine ⟨fun full => ?_, fun free empty => ?_⟩
    · have same : t = (s.taken rest).enterQueued c .coverage .unknown .wake :=
        own.unique (done_grants_of_full (full_of full _ keeps.settings warmups))
      rw [same]
      exact ⟨queued, queue, engine, path, units, others⟩
    · have entries : ((s.taken rest).enterQueued c .coverage .unknown .wake).wakeQueue.entries =
          [({ carrier := c, depth := .unknown }, .coverage)] := by
        rw [queue]
        exact join_of_empty empty ..
      have free' : ((s.taken rest).enterQueued c .coverage .unknown .wake).warmups <
          ((s.taken rest).enterQueued c .coverage .unknown .wake).settings.slots := by
        rw [warmups, keeps.settings]
        exact free
      have untaken : ((s.taken rest).enterQueued c .coverage .unknown .wake).untaken c ↔ s.untaken c := by
        rw [State.untaken, keeps.unitOf_eq, State.unit, units]
        rfl
      refine ⟨fun ⟨used, reachable⟩ => ?_, fun refuses => ?_⟩
      · obtain ⟨warmup, there⟩ := granted_taken free' entries queued (mt untaken.mp (not_or.mpr ⟨used, reachable⟩)) own
        rw [keeps.unitOf_eq] at there
        exact ⟨warmup, there⟩
      · refine granted_untaken free' entries queued (untaken.mpr ?_) own
        by_contra taken
        exact refuses (not_or.mp taken)
  case nobody =>
    refine done.unique (called_idle fun c mem => ?_)
    obtain ⟨name, admits⟩ := mem_called.mp mem
    exact (none_reached c name).resolve_left (by rw [show admitted c = true from admits]; decide)
  case taken =>
    have sorted : ((s.taken rest).called r).Pairwise (· < ·) := (List.pairwise_lt_finRange 32).filter _
    obtain ⟨u, calls, -, taken⟩ := done_calls sorted (s := s.taken rest) full fun c mem =>
      found c (mem_called.mp mem).1 (mem_called.mp mem).2
    have reached : (fun c => decide (c ∈ (s.taken rest).called r)) = fun c => named c && admitted c := by
      funext c
      rw [Bool.eq_iff_iff, decide_eq_true_iff, mem_called, Bool.and_eq_true]
      exact Iff.rfl
    rw [reached] at taken
    rw [done.unique calls]
    exact taken
  case doze =>
    rw [called_of_alone (s := s.taken rest) alone admits, List.map_singleton] at done
    have own := done_singleton_iff.mp done
    have effect : (Task.wake c .management).effect (s.taken rest) =
        ((s.taken rest).enterQueued c .ordinary .light .wake, [.grants]) := by
      simp [Task.effect, wakeEffect, doze, WakeKind.cause, WakeKind.cls]
    rw [effect] at own
    obtain ⟨-, single⟩ := told_enterQueued (s := s.taken rest) (c := c) (by simp [doze]) (by simp [doze])
      (managed_of (s := s.taken rest) doze (by decide)) .ordinary .light .wake
    have queue : ((s.taken rest).enterQueued c .ordinary .light .wake).wakeQueue = s.wakeQueue.join .ordinary
      { carrier := c, depth := .light } := enterQueued_wakeQueue (by simp [doze])
    have queued : ((s.taken rest).enterQueued c .ordinary .light .wake).lifeState c = .queued := by
      rw [enterQueued_lifeState, if_pos rfl]
    have warmups : ((s.taken rest).enterQueued c .ordinary .light .wake).warmups = s.warmups :=
      enterQueued_warmups (by simp [doze])
    have unitOf : ((s.taken rest).enterQueued c .ordinary .light .wake).unitOf c = s.unitOf c := single.keeps.unitOf_eq c
    have unit : ((s.taken rest).enterQueued c .ordinary .light .wake).unit (s.unitOf c) = s.unit (s.unitOf c) := single.unit _
    have settings : ((s.taken rest).enterQueued c .ordinary .light .wake).settings = s.settings := single.keeps.settings
    obtain ⟨u, granted, warmup, -, -, -, directives, sent⟩ := granted_idle
      (s := (s.taken rest).enterQueued c .ordinary .light .wake) (w := { carrier := c, depth := .light }) (cls := .ordinary)
      (by rw [warmups, settings]; exact free) (by rw [queue]; exact join_of_empty empty ..) queued
      (by rw [unitOf, unit]; exact up) (by rw [unitOf, unit]; exact waits) (by rw [unitOf, unit]; exact idle)
    rw [unitOf] at directives sent
    rw [own.unique granted, directives]
    refine ⟨warmup, rfl, ?_, sent⟩
    exact congrArg (fun token => [token]) single.token

end Sys2Proof.Machine
end

section
/-! PROOFS. A reply with the token that is awaited (R148, R150): READY, and the reports that make the carrier LOST. -/

namespace Sys2Proof.Machine

variable {s t b : State} {c e : CarrierIx} {v : UnitIx} {r : Report} {body : List Byte} {w : Walk} {a : ActionEntry} {s' : State}
  {d : Directive} {rest : List Directive} {st : UnitState} {l : List Task} {cause : Cause}

/-- R148: a reply that carries the token of the outstanding directive ends it. -/
theorem exec_awaited (done : WalkDone s w a s') (kind : a.kind = .radioReply) (side : w.port = .branch v)
    (state : (s'.unit v).state = some st) (reachable : st ≠ .unreachable) (sent : (s'.unit v).sent ≠ none)
    (head : (s'.unit v).queue = d :: rest) (some_token : d.token ≠ 0) (long : 3 ≤ (w.bytes.drop a.bodyOffset).length)
    (token : (byteAt (w.bytes.drop a.bodyOffset) 0).toNat = d.token)
    (code : Report.ofCode (byteAt (w.bytes.drop a.bodyOffset) 2) = some r) :
    exec (.walkEnds w.port) s = .next (endDirective v (.report r) s').finish := by
  have awaited : (s'.unit v).awaits (byteAt (w.bytes.drop a.bodyOffset) 0).toNat = true := by
    simp [RadioUnit.awaits, head, token, Option.isSome_iff_ne_none, sent]
  have used : (s'.unit v).state ≠ none := by simp [state]
  have stays : ¬((s'.unit v).state = some .unreachable ∧ s'.path.linkUp (.branch v) = true) := by simp [state, reachable]
  rw [exec_radioReply done kind side, radioReply_taken used (readRadioReply_of_code long code) stays,
    takeReply_awaited (by rw [token]; exact some_token) awaited]

/-- R150: the unit once its directive has left the head of the queue. -/
theorem alike_dropHead (head : (s.unit v).queue = d :: rest) : Alike s (s.dropHead v) := by
  rw [dropHead_eq head]
  exact alike_setUnit s v rfl rfl

theorem keeps_dropHead_of (head : (s.unit v).queue = d :: rest) : Keeps s (s.dropHead v) := by
  rw [dropHead_eq head]
  exact keeps_setUnit s v _ rfl rfl

theorem dropHead_unit (head : (s.unit v).queue = d :: rest) : (s.dropHead v).unit v =
    { s.unit v with queue := rest, sent := none, attempts := 0, replyTimer := none } := by
  rw [dropHead_eq head, State.setUnit_unit, if_pos rfl]

theorem dropHead_lifeState (s : State) (v : UnitIx) (c : CarrierIx) : (s.dropHead v).lifeState c = s.lifeState c := rfl

/-! ## READY -/

/-- R112, R132: READY for a carrier whose radio refused to sleep, or has woken. -/
theorem endedEffect_ready (waits : (d.kind = .carrierSleep ∧ s.lifeState c = .rampdown) ∨
    (d.kind = .carrierWake ∧ s.lifeState c = .warmup)) : endedEffect c d.kind (.report .ready) s =
      (s.enterRestoring c (if d.kind = .carrierSleep then .radioRefused else .ready),
        if d.kind = .carrierWake then [.grants] else []) := by
  obtain ⟨kind, old⟩ | ⟨kind, old⟩ := waits <;> simp [endedEffect, kind, old, sleepEnded, wakeEnded]

/-- R112, R132: what follows the entry to RESTORING. -/
theorem done_ready (waits : (d.kind = .carrierSleep ∧ b.lifeState c = .rampdown) ∨
    (d.kind = .carrierWake ∧ b.lifeState c = .warmup)) :
    Done [.ended c d.kind (.report .ready), .sendHead v] b t ↔
      ∃ m, Done (if d.kind = .carrierWake then [.grants] else [])
        (b.enterRestoring c (if d.kind = .carrierSleep then .radioRefused else .ready)) m ∧ Done [.sendHead v] m t := by
  have effect : (Task.ended c d.kind (.report .ready)).effect b = _ := endedEffect_ready waits
  rw [done_cons_iff, effect]

theorem ready_back (waits : (d.kind = .carrierSleep ∧ b.lifeState c = .rampdown) ∨
    (d.kind = .carrierWake ∧ b.lifeState c = .warmup)) (h : Done [.ended c d.kind (.report .ready), .sendHead v] b t) :
    t.lifeState c = if (b.profileOf c).settleTime = 0 then .active else .restoring := by
  obtain ⟨m, grants, sent⟩ := (done_ready waits).mp h
  have entered := enterRestoring_lifeState (s := b) c c (if d.kind = .carrierSleep then .radioRefused else .ready)
  rw [if_pos rfl] at entered
  have back : LifeState.isBack (if (b.profileOf c).settleTime = 0 then .active else .restoring) = true := by split <;> rfl
  have between := grants.stays_back (c := c) (by split <;> simp [Task.mayTurnBack]) back entered
  exact sent.stays_back (c := c) (by simp [Task.mayTurnBack]) back between

/-- R112, R133: where no carrier waits for the slot, entry to RESTORING and the head behind the directive are all. -/
theorem ready_alone (waits : (d.kind = .carrierSleep ∧ b.lifeState c = .rampdown) ∨
    (d.kind = .carrierWake ∧ b.lifeState c = .warmup)) (nobody : d.kind = .carrierWake → b.wakeQueue.entries = [])
    (h : Done [.ended c d.kind (.report .ready), .sendHead v] b t) :
    ∃ m, Alike (b.tellsReturn c (if d.kind = .carrierSleep then .radioRefused else .ready) .external) m ∧ Alone c b m ∧
      Done [.sendHead v] m t := by
  obtain ⟨m, grants, sent⟩ := (done_ready waits).mp h
  have awake : b.lifeState c ≠ .queued ∧ b.lifeState c ≠ .slumber ∧ b.isManaged c = true := by
    obtain ⟨-, old⟩ | ⟨-, old⟩ := waits <;> exact ⟨by simp [old], by simp [old], managed_of old (by decide)⟩
  obtain ⟨unqueued, slumber, managed⟩ := awake
  obtain ⟨told, alone⟩ := told_enterRestoring unqueued slumber managed
    (if d.kind = .carrierSleep then .radioRefused else .ready)
  have origin : Cause.origin (if d.kind = .carrierSleep then .radioRefused else .ready) = .external := by split <;> rfl
  rw [origin] at told
  have same : m = b.enterRestoring c (if d.kind = .carrierSleep then .radioRefused else .ready) := by
    split at grants
    · rename_i wake
      exact grants.unique (done_grants_of_empty (by rw [alone.wakeQueue]; exact nobody wake))
    · exact done_nil_iff.mp grants
  exact ⟨m, same ▸ told, same ▸ alone, sent⟩

/-! ## Reports that make the carrier LOST -/

theorem endedEffect_lost (waits : (d.kind = .carrierSleep ∧ s.lifeState c = .rampdown) ∨
      (d.kind = .carrierWake ∧ s.lifeState c = .warmup) ∨ (d.kind = .carrierDeepen ∧ s.lifeState c = .deepening))
    (sleep : d.kind = .carrierSleep → r ≠ .ready ∧ r ≠ .asleepLight) (wake : d.kind = .carrierWake → r ≠ .ready)
    (deepen : d.kind = .carrierDeepen → r ≠ .asleepLight ∧ r ≠ .asleepDeep) :
    endedEffect c d.kind (.report r) s = (s, [.lose c .fault]) := by
  obtain ⟨kind, old⟩ | ⟨kind, old⟩ | ⟨kind, old⟩ := waits
  · cases r <;> simp [endedEffect, kind, old, sleepEnded] at sleep ⊢
  · cases r <;> simp [endedEffect, kind, old, wakeEnded] at wake ⊢
  · cases r <;> simp [endedEffect, kind, old, deepenEnded] at deepen ⊢

/-- Settles O21: the directive leaves the head of the queue; then the report, and what waited behind. -/
theorem replyEndsSleepOrWake : Obligations.ReplyEndsSleepOrWake := by
  unfold Obligations.ReplyEndsSleepOrWake
  intro u c d rest w a s s' done kind side up sent head carrier some_token body report long token low high waits
  obtain ⟨r, code⟩ := exists_report ⟨low, high⟩
  have byte : report = r.wire := Report.ofCode_eq_some_iff.mp code
  have other : d.kind ≠ .unitDeep := by obtain ⟨kind, -⟩ | ⟨kind, -⟩ | ⟨kind, -⟩ := waits <;> simp [kind]
  have meaning := exec_awaited done kind side up (by decide) sent head some_token long token code
  rw [endDirective_of_carrier head carrier other] at meaning
  have alike := alike_dropHead head
  have kept := keeps_dropHead_of head
  have unit := dropHead_unit head
  refine ⟨fun ready plain => ?_, fun sleep wake deepen => ?_⟩
  · obtain rfl : r = .ready := by rw [byte] at ready; cases r <;> simp_all [Report.wire]
    have waits' : (d.kind = .carrierSleep ∧ (s'.dropHead u).lifeState c = .rampdown) ∨
        (d.kind = .carrierWake ∧ (s'.dropHead u).lifeState c = .warmup) :=
      waits.imp_right fun h => h.resolve_right fun deepen => plain deepen.1
    have work : Done _ (s'.dropHead u) _ := done_work [.ended c d.kind (.report .ready), .sendHead u] (s'.dropHead u)
      (by simp [costs, Task.cost])
    have state := ready_back waits' work
    rw [alike.profileOf] at state
    have told : (s'.dropHead u).lifeState c = s'.lifeState c := rfl
    refine ⟨_, meaning, kept.trans work.keeps, state, fun last nobody => ?_, fun e first may nobody => ?_⟩
    · obtain ⟨m, tells, alone, sends⟩ := ready_alone waits' nobody work
      have empty : (m.unit u).queue = [] := by rw [State.unit, alone.units, ← State.unit, unit, last]
      have same := sends.unique (done_sendHead_of_empty empty)
      change ToldAs _ ((s'.dropHead u).work _) ∧ ((s'.dropHead u).work _).path.branchQueues = _
      rw [same]
      exact ⟨(alike.tellsReturn c _ .external told).toToldAs.trans tells.toToldAs, alone.branches.trans (by rw [dropHead_eq head]; rfl)⟩
    · obtain ⟨m, tells, alone, sends⟩ := ready_alone waits' nobody work
      have own : m.unit u = { s'.unit u with queue := rest, sent := none, attempts := 0, replyTimer := none } := by
        rw [State.unit, alone.units, ← State.unit, unit]
      obtain ⟨rest', queue⟩ : ∃ rest', rest = e :: rest' := by
        cases rest with
        | nil => cases first
        | cons x rest' => exact ⟨rest', by rw [Option.some.inj first]⟩
      have first_kept : Keeps s' m := kept.trans alone.keeps
      have may' : e.kind = .carrierDeepen → m.mayDeepen = true := fun deepens => by
        obtain ⟨acting, trunk⟩ := may deepens
        exact mayDeepen_iff.mpr ⟨first_kept.mode.trans acting, first_kept.trunkLost.trans trunk⟩
      have effect : (Task.sendHead u).effect m = (m.transmit u e, []) :=
        sendHead_of_head (rest := rest') (by rw [own]; exact up) (by rw [own]) (by rw [own]; exact queue) may'
      have same := sends.unique (done_singleton_iff.mpr (by rw [effect]; exact .nil _))
      have branches : m.path.branchQueues = s'.path.branchQueues := alone.branches.trans (by rw [dropHead_eq head]; rfl)
      change HeadSent u e s' ((s'.dropHead u).work _) ∧ (((s'.dropHead u).work _).unit u).queue = rest
      rw [same]
      exact ⟨(transmit_headSent m u e).before first_kept branches, by rw [transmit_unit_same, own]⟩
  · have awake : s'.lifeState c ≠ .unmanaged ∧ s'.lifeState c ≠ .lost := by
      obtain ⟨-, old⟩ | ⟨-, old⟩ | ⟨-, old⟩ := waits <;> simp [old]
    rw [byte] at sleep wake deepen
    have ended : endedEffect c d.kind (.report r) (s'.dropHead u) = (s'.dropHead u, [.lose c .fault]) := by
      refine endedEffect_lost waits (fun kind => ?_) (fun kind => ?_) (fun kind => ?_)
      · have := sleep kind
        exact ⟨by rintro rfl; exact this.1 rfl, by rintro rfl; exact this.2 rfl⟩
      · have := wake kind
        rintro rfl
        exact this rfl
      · have := deepen kind
        exact ⟨by rintro rfl; exact this.1 rfl, by rintro rfl; exact this.2 rfl⟩
    exact ⟨_, meaning, ended_lose head ended awake.1 awake.2⟩

end Sys2Proof.Machine
end

section
/-! PROOFS. ASLEEP-LIGHT and ASLEEP-DEEP (R112, R117, R118, R125, R150, R153). -/

namespace Sys2Proof.Machine

variable {s t b q : State} {c e : CarrierIx} {v : UnitIx} {r : Report} {w : Walk} {a : ActionEntry} {s' : State}
  {d : Directive} {k : KeptWake} {depth : Depth} {cause : Cause} {new : LifeState}

theorem Alike.tells (h : Alike s t) (c : CarrierIx) (old new : LifeState) (cause : Cause) (origin : Origin) :
    Alike (s.tells c old new cause origin) (t.tells c old new cause origin) := by
  simp only [State.tells, h.calendar]
  exact h.notify _

theorem Alike.trans (h : Alike s t) (k : Alike t b) : Alike s b where
  toToldAs := h.toToldAs.trans k.toToldAs
  stationAddress := k.stationAddress.trans h.stationAddress
  settings := k.settings.trans h.settings
  calendar := k.calendar.trans h.calendar
  carrierConfig := k.carrierConfig.trans h.carrierConfig
  profiles := k.profiles.trans h.profiles
  trunkState := k.trunkState.trans h.trunkState

/-! ## The outcome of a directive -/

/-- R112, R117: with no wake-pending mark ASLEEP-LIGHT is entry to DOZE. -/
theorem endedEffect_light (waits : (d.kind = .carrierSleep ∧ s.lifeState c = .rampdown) ∨
    (d.kind = .carrierDeepen ∧ s.lifeState c = .deepening)) (clear : (s.carrier c).life.wakePending = none) :
    endedEffect c d.kind (.report .asleepLight) s = (s.moveAndTell c .doze .asleepLight, []) := by
  obtain ⟨kind, old⟩ | ⟨kind, old⟩ := waits <;> simp [endedEffect, kind, old, sleepEnded, deepenEnded, clear]

theorem endedEffect_deep (kind : d.kind = .carrierDeepen) (old : s.lifeState c = .deepening)
    (clear : (s.carrier c).life.wakePending = none) :
    endedEffect c d.kind (.report .asleepDeep) s = (s.moveAndTell c .slumber .asleepDeep, []) := by
  simp [endedEffect, kind, old, deepenEnded, clear]

/-- R112, R125: with a mark the carrier goes on to QUEUED. -/
theorem endedEffect_light_marked (kind : d.kind = .carrierSleep) (old : s.lifeState c = .rampdown)
    (mark : (s.carrier c).life.wakePending = some k) : endedEffect c d.kind (.report .asleepLight) s =
      ((s.moveAndTell c .doze .asleepLight).enterQueued c k.cls .light k.cause, [.grants]) := by
  simp [endedEffect, kind, old, sleepEnded, mark]

/-- R117, R125. -/
theorem endedEffect_deepen_marked (kind : d.kind = .carrierDeepen) (old : s.lifeState c = .deepening)
    (mark : (s.carrier c).life.wakePending = some k)
    (report : r = .asleepLight ∧ depth = .light ∨ r = .asleepDeep ∧ depth = .deep) :
    endedEffect c d.kind (.report r) s = (s.enterQueued c k.cls depth k.cause, [.grants]) := by
  obtain ⟨rfl, rfl⟩ | ⟨rfl, rfl⟩ := report <;> simp [endedEffect, kind, old, deepenEnded, mark]

/-- R150: an outcome that sets nothing off, and nothing to send behind it. -/
theorem work_ended {how : DirectiveEnd} (effect : endedEffect c d.kind how s = (t, [])) (still : sendHeadEffect v t = (t, [])) :
    s.work [.ended c d.kind how, .sendHead v] = t := by
  refine work_eq (by simp [costs, Task.cost]) (done_cons_iff.mpr ⟨t, ?_, done_singleton_iff.mpr ?_⟩)
  · rw [show (Task.ended c d.kind how).effect s = (t, []) from effect]
    exact .nil t
  · rw [show (Task.sendHead v).effect t = (t, []) from still]
    exact .nil t

/-- R130, R150: an outcome that queues the carrier, with no slot free and nothing to send behind it. -/
theorem work_ended_queued {how : DirectiveEnd} (effect : endedEffect c d.kind how s = (t, [.grants]))
    (full : t.settings.slots ≤ t.warmups) (empty : (t.unit v).queue = []) :
    s.work [.ended c d.kind how, .sendHead v] = t := by
  refine work_eq (by simp [costs, Task.cost]) (done_cons_iff.mpr ⟨t, ?_, done_sendHead_of_empty empty⟩)
  rw [show (Task.ended c d.kind how).effect s = (t, [.grants]) from effect]
  exact done_grants_of_full full

/-! ## Sleepers -/

/-- R97: a sleeper that stays one leaves every other carrier, and its own coverage part, as they are. -/
theorem moveAndTell_sleeper (old : (s.lifeState c).isSleeper = true) (sleeper : new.isSleeper = true) (cause : Cause) :
    (∀ e, e ≠ c → (s.moveAndTell c new cause).carrier e = s.carrier e) ∧ (s.moveAndTell c new cause).cover c = s.cover c ∧
      (s.moveAndTell c new cause).wakeQueue = s.wakeQueue := by
  have drain : (s.lifeState c).isDrain = true → new.isDrain = true := by
    cases h : s.lifeState c <;> simp [h, LifeState.isSleeper, LifeState.isDrain] at old ⊢
  have unqueued : s.lifeState c ≠ .queued := by rintro h; simp [h, LifeState.isSleeper] at old
  have stays := movePlaces_of_same_lists drain (old.trans sleeper.symm) unqueued s (c := c)
  have tells := tells_notifyState (s.moveTo c new) c (s.lifeState c) new cause cause.origin
  refine ⟨fun e other => ?_, ?_, ?_⟩
  · rw [State.moveAndTell, tells.carrier, moveTo_other_of_same_lists drain (old.trans sleeper.symm) unqueued other]
  · have cover : (s.moveTo c new).cover c = s.cover c := by rw [moveTo_cover, stays]
    rw [State.moveAndTell, State.cover, tells.carrier]
    exact cover
  · rw [State.moveAndTell, tells.wakeQueue, moveTo_wakeQueue, stays]

/-- R118: a carrier of unit `v` that enters SLUMBER, before the test of the deep timer. -/
def State.inSlumber (s : State) (c : CarrierIx) : State :=
  s.setCarrier c ((s.carrier c).onMove .slumber (s.profileOf c))

/-- R118, R153: entry to SLUMBER, and the test of the unit deep timer. -/
theorem moveTo_slumber (old : s.lifeState c = .deepening) : s.moveTo c .slumber = (s.inSlumber c).deepTest (s.unitOf c) := by
  have stays : s.movePlaces c .deepening .slumber = s :=
    movePlaces_of_same_lists (by simp [LifeState.isDrain]) rfl (by decide) s
  unfold State.moveTo
  dsimp only
  rw [old, stays]
  rfl

theorem inSlumber_life (s : State) (c : CarrierIx) :
    ((s.inSlumber c).carrier c).life = { (s.carrier c).life with state := .slumber, hold := false } := by
  rw [State.inSlumber, State.setCarrier_carrier, if_pos rfl]
  rfl

theorem inSlumber_lifeState (s : State) (c e : CarrierIx) :
    (s.inSlumber c).lifeState e = if e = c then .slumber else s.lifeState e := by
  rw [State.lifeState, State.inSlumber, State.setCarrier_carrier]
  split <;> rfl

/-- R153: the three conditions, of which the carrier that has just entered SLUMBER meets its own. -/
theorem inSlumber_starts (own : s.unitOf c = v) :
    ((∃ e, (s.inSlumber c).isManaged e = true ∧ (s.inSlumber c).unitOf e = v) ∧
        (∀ e, (s.inSlumber c).isManaged e = true → (s.inSlumber c).unitOf e = v → (s.inSlumber c).lifeState e = .slumber) ∧
        ((s.inSlumber c).unit v).deepTimer = none) ↔
      (∀ e, e ≠ c → s.isManaged e = true → s.unitOf e = v → s.lifeState e = .slumber) ∧ (s.unit v).deepTimer = none := by
  have unitOf (e : CarrierIx) : (s.inSlumber c).unitOf e = s.unitOf e := rfl
  have unit : (s.inSlumber c).unit v = s.unit v := rfl
  have isManaged (e : CarrierIx) (other : e ≠ c) : (s.inSlumber c).isManaged e = s.isManaged e := by
    rw [State.isManaged, inSlumber_lifeState, if_neg other, State.isManaged]
  have self : (s.inSlumber c).isManaged c = true := by rw [State.isManaged, inSlumber_lifeState, if_pos rfl]; rfl
  rw [unit]
  refine ⟨fun ⟨_, all, stopped⟩ => ⟨fun e other held place => ?_, stopped⟩, fun ⟨all, stopped⟩ => ⟨⟨c, self, own⟩, fun e held place => ?_,
    stopped⟩⟩
  · have := all e ((isManaged e other).trans held) place
    rwa [inSlumber_lifeState, if_neg other] at this
  · rw [inSlumber_lifeState]
    split
    · rfl
    · rename_i other
      rw [isManaged e other] at held
      exact all e other held place

/-- R117, R118, R153: a carrier of an idle unit that enters SLUMBER with nothing behind its directive. -/
theorem slept_deep (old : b.lifeState c = .deepening) (own : b.unitOf c = v) (up : (b.unit v).state = some .up)
    (empty : (b.unit v).queue = []) (idle : (b.unit v).sent = none) :
    let t := b.moveAndTell c .slumber .asleepDeep
    let starts := (∀ e, e ≠ c → b.isManaged e = true → b.unitOf e = v → b.lifeState e = .slumber) ∧ (b.unit v).deepTimer = none
    let may := (b.unitSettings v).deepPermitted = 1#8 ∧ b.engine.mode = .acting ∧ b.trunkLost = false
    let delay := (b.unitSettings v).deepDelay.toNat
    sendHeadEffect v t = (t, []) ∧ Keeps b t ∧ t.lifeState c = .slumber ∧
      (t.carrier c).life = { (b.carrier c).life with state := .slumber, hold := false } ∧
      ToldAs (b.tells c .deepening .slumber .asleepDeep .external) t ∧
      (∀ w, w ≠ v → t.unit w = b.unit w) ∧
      (¬starts → t.unit v = b.unit v ∧ t.token = b.token) ∧
      (starts → delay ≠ 0 ∨ ¬may → t.unit v = { b.unit v with deepTimer := some (delay * 1000) } ∧ t.token = b.token) ∧
      (starts → delay = 0 → may → (t.unit v).queue = [b.unitDirective .unitDeep] ∧ (t.unit v).state = some .deepPending ∧
        (t.unit v).deepTimer = none ∧ t.token = (if b.token < 255 then b.token + 1 else 1) ∧
        HeadSent v (b.unitDirective .unitDeep) b t) := by
  intro t starts may delay
  have moved : b.moveTo c .slumber = (b.inSlumber c).deepTest v := by rw [moveTo_slumber old, own]
  obtain ⟨stay, timed, goes⟩ := headConsidered_rests (s := b.inSlumber c) (v := v) up idle empty
  rw [work_head_empty (s := b.inSlumber c) empty, inSlumber_starts own] at stay timed goes
  have kept : Keeps b (b.moveTo c .slumber) := keeps_moveTo (moveAllowed_sleeper (by rw [old]; rfl) rfl)
  rw [moved] at kept
  have slumber : ToldAs b (b.inSlumber c) := ⟨rfl, rfl, rfl⟩
  have same (v : UnitIx) : (b.inSlumber c).unit v = b.unit v := rfl
  have setTimer (x : RadioUnit) (w : UnitIx) (other : w ≠ v) : ((b.inSlumber c).setUnit v x).unit w = b.unit w := by
    rw [State.setUnit_unit, if_neg other]
    rfl
  have parts : ToldAs b ((b.inSlumber c).deepTest v) ∧ (∀ w, w ≠ v → ((b.inSlumber c).deepTest v).unit w = b.unit w) ∧
      ((((b.inSlumber c).deepTest v).unit v).state ≠ some .up ∨ (((b.inSlumber c).deepTest v).unit v).queue = []) := by
    by_cases go : starts
    · by_cases sends : delay = 0 ∧ may
      · obtain ⟨-, told, -, -, -, others, unit⟩ := goes go sends.1 sends.2
        exact ⟨slumber.trans told, others, .inl (by rw [unit]; simp)⟩
      · rw [timed go (by tauto)]
        exact ⟨⟨rfl, rfl, rfl⟩, setTimer _, .inr (by rw [State.setUnit_unit, if_pos rfl]; exact empty)⟩
    · rw [stay go]
      exact ⟨slumber, fun _ _ => rfl, .inr empty⟩
  obtain ⟨told, others, still⟩ := parts
  have tells := tells_notifyState ((b.inSlumber c).deepTest v) c .deepening .slumber .asleepDeep .external
  have made : t = ((b.inSlumber c).deepTest v).notifyState c .deepening .slumber .asleepDeep .external := by
    change b.moveAndTell c .slumber .asleepDeep = _
    rw [State.moveAndTell, old, moved]
    rfl
  have carrier (e : CarrierIx) : t.carrier e = (b.inSlumber c).carrier e := by
    rw [made, tells.carrier, State.carrier, deepTest_carriers, State.carrier]
  have unit (w : UnitIx) : t.unit w = ((b.inSlumber c).deepTest v).unit w := by rw [made, tells.unit]
  have token : t.token = ((b.inSlumber c).deepTest v).token := by rw [made, tells.token]
  refine ⟨?_, by rw [made]; exact kept.trans tells.keeps, ?_, ?_, ?_, fun w other => (unit w).trans (others w other),
    fun not => ?_, fun go held => ?_, fun go zero allowed => ?_⟩
  · obtain busy | none_waits := still
    · exact sendHead_of_busy (.inl (by rw [unit]; exact busy))
    · exact sendHead_of_empty (by rw [unit]; exact none_waits)
  · rw [State.lifeState, carrier, inSlumber_life]
  · rw [carrier, inSlumber_life]
  · rw [made]
    exact (((Alike.refl b).silent kept told).notifyState ..).toToldAs
  · rw [unit, token, stay not]
    exact ⟨rfl, rfl⟩
  · rw [unit, token, timed go held, State.setUnit_unit, if_pos rfl]
    exact ⟨rfl, rfl⟩
  · obtain ⟨⟨sent, attempts, timer, branches⟩, -, -, -, next, -, own⟩ := goes go zero allowed
    refine ⟨?_, ?_, ?_, token.trans next, ?_, ?_, ?_, ?_⟩
    · rw [unit, own]; rfl
    · rw [unit, own]
    · rw [unit, own]
    · rw [unit]; exact sent
    · rw [unit]; exact attempts
    · rw [unit]; exact timer
    · rw [made]
      refine (notify_branchQueues ..).trans (branches.trans (congrArg FramePath.branchQueues ?_))
      exact offerInjected_path (s := b) (t := b.inSlumber c) rfl ..

/-- R112, R117: an idle unit's carrier that enters DOZE with nothing behind its directive. -/
theorem slept_light (old : b.lifeState c = .rampdown ∨ b.lifeState c = .deepening) :
    let t := b.moveAndTell c .doze .asleepLight
    Alike (b.tells c (b.lifeState c) .doze .asleepLight .external) t ∧ Alone c b t ∧
      (t.carrier c).life = { (b.carrier c).life with state := .doze, doze := 0, hold := false } := by
  intro t
  have awake : (b.lifeState c).isResting = true ∧ b.lifeState c ≠ .queued ∧ b.lifeState c ≠ .slumber := by
    obtain old | old := old <;> simp [old, LifeState.isResting, LifeState.isDrain, LifeState.isSleeper]
  obtain ⟨sleeper, unqueued, slumber⟩ := awake
  have kept : Keeps b (b.moveTo c .doze) := keeps_moveTo (moveAllowed_sleeper sleeper rfl)
  have quiet := quiet_moveTo b c (new := .doze) (by decide)
  refine ⟨((Alike.refl b).silent kept quiet.toldAs).notifyState c (b.lifeState c) .doze .asleepLight .external,
    (alone_moveTo unqueued slumber (by decide) (moveAllowed_sleeper sleeper rfl)).trans (alone_notifyState ..), ?_⟩
  rw [moveAndTell_life]
  rfl

/-- R125, R126: a carrier that goes on to QUEUED with the cause it has kept. -/
theorem slept_queued (awake : b.lifeState c = .doze ∨ b.lifeState c = .deepening) (depth : Depth)
    (full : b.settings.slots ≤ b.warmups) :
    let t := b.enterQueued c k.cls depth k.cause
    Alike (b.tells c (b.lifeState c) .queued k.cause k.cause.origin) t ∧ Single c b t ∧ t.lifeState c = .queued ∧
      t.wakeQueue = b.wakeQueue.join k.cls { carrier := c, depth := depth } ∧ (t.carrier c).life.wakePending = none ∧
      t.settings.slots ≤ t.warmups := by
  intro t
  have states : b.lifeState c ≠ .queued ∧ b.lifeState c ≠ .slumber ∧ b.lifeState c ≠ .warmup ∧ b.isManaged c = true := by
    obtain old | old := awake <;> exact ⟨by simp [old], by simp [old], by simp [old], managed_of old (by decide)⟩
  obtain ⟨unqueued, slumber, unheld, managed⟩ := states
  obtain ⟨told, single⟩ := told_enterQueued unqueued slumber managed k.cls depth k.cause
  refine ⟨told, single, by rw [enterQueued_lifeState, if_pos rfl], enterQueued_wakeQueue unqueued, ?_, ?_⟩
  · rw [enterQueued_life]
    rfl
  · rw [single.keeps.settings, enterQueued_warmups unheld]
    exact full

theorem keptCauses_origin : ∀ p ∈ keptCauses, p.1.origin = p.2 := by decide

/-- R117, R125: a carrier in DEEPENING with a mark. -/
theorem deepening_queued {o : Host.Outcome State Fault Refusal} {result : State}
    (meaning : o = .next result)
    (made : result = (s'.dropHead v).work [.ended c d.kind (.report r), .sendHead v]) (head : (s'.unit v).queue = [d])
    (kind : d.kind = .carrierDeepen) (old : s'.lifeState c = .deepening) (mark : (s'.carrier c).life.wakePending = some k)
    (full : s'.settings.slots ≤ s'.warmups) (report : r = .asleepLight ∧ depth = .light ∨ r = .asleepDeep ∧ depth = .deep) :
    ∃ t, o = .next t ∧ Keeps s' t ∧ (∀ p ∈ keptCauses, k.cause = p.1 → ToldAs (s'.tells c .deepening .queued p.1 p.2) t) ∧
      t.lifeState c = .queued ∧ t.wakeQueue = s'.wakeQueue.join k.cls { carrier := c, depth := depth } ∧
      (t.carrier c).life.wakePending = none ∧ (∀ e, e ≠ c → t.lifeState e = s'.lifeState e) ∧
      t.unit v = { s'.unit v with queue := [], sent := none, attempts := 0, replyTimer := none } := by
  have unit := dropHead_unit head
  obtain ⟨told, single, state, queue, cleared, stays⟩ := slept_queued (b := s'.dropHead v) (k := k) (c := c) (.inr old) depth full
  have result := work_ended_queued (v := v) (endedEffect_deepen_marked (s := s'.dropHead v) kind old mark report) stays
    (by rw [single.unit, unit])
  rw [result] at made
  refine ⟨_, made ▸ meaning, (keeps_dropHead_of head).trans single.keeps, fun p mem cause => ?_, state, queue, cleared,
    fun e other => single.lifeState other, (single.unit v).trans unit⟩
  rw [← keptCauses_origin p mem, ← cause]
  rw [show (s'.dropHead v).lifeState c = .deepening from old] at told
  exact (((alike_dropHead head).tells ..).trans told).toToldAs

/-- Settles O22: by the report, the state and the wake-pending mark. -/
theorem replyPutsToSleep : Obligations.ReplyPutsToSleep := by
  unfold Obligations.ReplyPutsToSleep
  have light : ∀ {b : Byte}, b = 2#8 → Report.ofCode b = some .asleepLight := by rintro b rfl; rfl
  have deep : ∀ {b : Byte}, b = 3#8 → Report.ofCode b = some .asleepDeep := by rintro b rfl; rfl
  refine ⟨fun u c d w a s s' done kind side up sent head carrier some_token clear => ?_,
    fun u c d k w a s s' done kind side up sent head carrier some_token mark full => ?_⟩
  · intro body long token
    have alike := alike_dropHead head
    have kept := keeps_dropHead_of head
    have unit := dropHead_unit head
    have others (v : UnitIx) (other : v ≠ u) : (s'.dropHead u).unit v = s'.unit v := by
      rw [dropHead_eq head, State.setUnit_unit, if_neg other]
    have branches : (s'.dropHead u).path.branchQueues = s'.path.branchQueues := rfl
    refine ⟨fun report waits => ?_, fun report kind_deepen old own => ?_⟩
    · have other : d.kind ≠ .unitDeep := by obtain ⟨kind, -⟩ | ⟨kind, -⟩ := waits <;> simp [kind]
      have meaning := exec_awaited done kind side up (by decide) sent head some_token long token (light report)
      rw [endDirective_of_carrier head carrier other] at meaning
      have old : (s'.dropHead u).lifeState c = .rampdown ∨ (s'.dropHead u).lifeState c = .deepening := waits.imp And.right And.right
      obtain ⟨told, alone, life⟩ := slept_light old
      have sleeper : ((s'.dropHead u).lifeState c).isSleeper = true := by obtain old | old := old <;> rw [old] <;> rfl
      obtain ⟨carriers, cover, queue⟩ := moveAndTell_sleeper (new := .doze) sleeper rfl .asleepLight
      have own (v : UnitIx) : ((s'.dropHead u).moveAndTell c .doze .asleepLight).unit v = (s'.dropHead u).unit v := by
        rw [State.unit, alone.units, State.unit]
      have result := work_ended (v := u) (endedEffect_light (s := s'.dropHead u) waits clear)
        (sendHead_of_empty (by rw [own, unit]))
      refine ⟨_, meaning, ?_⟩
      rw [Effect.finish, result]
      exact ⟨kept.trans alone.keeps, life, ((alike.tells ..).toToldAs).trans told.toToldAs, alone.branches.trans branches, carriers,
        cover, queue, fun v other => (own v).trans (others v other), (own u).trans unit⟩
    · have other : d.kind ≠ .unitDeep := by simp [kind_deepen]
      have meaning := exec_awaited done kind side up (by decide) sent head some_token long token (deep report)
      rw [endDirective_of_carrier head carrier other] at meaning
      obtain ⟨still, keeps, slumber, life, told, rest, stay, timed, goes⟩ := slept_deep (b := s'.dropHead u) (c := c) (v := u) old own
        (by rw [unit]; exact up) (by rw [unit]) (by rw [unit])
      obtain ⟨carriers, cover, queue⟩ := moveAndTell_sleeper (s := s'.dropHead u) (c := c) (new := .slumber)
        (by rw [show (s'.dropHead u).lifeState c = .deepening from old]; rfl) rfl .asleepDeep
      have result := work_ended (endedEffect_deep (s := s'.dropHead u) kind_deepen old clear) still
      refine ⟨_, meaning, ?_⟩
      rw [Effect.finish, result]
      rw [unit] at stay timed
      refine ⟨kept.trans keeps, slumber, life, ((alike.tells ..).toToldAs).trans told, carriers, cover, queue,
        fun v other => (rest v other).trans (others v other), stay, timed, fun go zero may => ?_⟩
      rw [unit] at goes
      obtain ⟨directives, pending, stopped, next, headSent⟩ := goes go zero may
      obtain ⟨isSent, attempts, timer, frames⟩ := headSent.before kept branches
      exact ⟨_, directives, rfl, rfl, rfl, pending, isSent, attempts, stopped, timer, next, frames⟩
  · intro body long token queued
    have alike := alike_dropHead head
    have kept := keeps_dropHead_of head
    have unit := dropHead_unit head
    have full' : (s'.dropHead u).settings.slots ≤ (s'.dropHead u).warmups := full
    refine ⟨fun report kind_sleep old => ?_, fun report kind_deepen old => ?_, fun report kind_deepen old => ?_⟩
    · have meaning := exec_awaited done kind side up (by decide) sent head some_token long token (light report)
      rw [endDirective_of_carrier head carrier (by simp [kind_sleep])] at meaning
      obtain ⟨told, alone, life⟩ := slept_light (b := s'.dropHead u) (c := c) (.inl old)
      have doze : ((s'.dropHead u).moveAndTell c .doze .asleepLight).lifeState c = .doze := by
        rw [moveAndTell_lifeState, if_pos rfl]
      have held : ((s'.dropHead u).moveAndTell c .doze .asleepLight).warmups =
          (s'.dropHead u).warmups := by
        have moved := warmups_of_move (s := s'.dropHead u) (c := c) (new := .doze)
          fun d => moveAndTell_lifeState (s'.dropHead u) c d .doze .asleepLight
        simpa [show (s'.dropHead u).lifeState c = .rampdown from old] using moved
      obtain ⟨told', single, state, queue, cleared, stays⟩ := slept_queued (k := k) (.inl doze) .light
        (by rw [alone.keeps.settings, held]; exact full')
      have own : (((s'.dropHead u).moveAndTell c .doze .asleepLight).enterQueued c k.cls .light k.cause).unit u =
          (s'.dropHead u).unit u := by rw [single.unit, State.unit, alone.units, State.unit]
      have result := work_ended_queued (v := u) (endedEffect_light_marked (s := s'.dropHead u) kind_sleep old mark) stays
        (by rw [own, unit])
      refine ⟨_, meaning, ?_⟩
      rw [Effect.finish, result]
      refine ⟨kept.trans (alone.keeps.trans single.keeps), fun p mem cause => ?_, state, ?_, cleared, fun e other => ?_, own.trans unit⟩
      · rw [← keptCauses_origin p mem, ← cause]
        rw [doze] at told'
        rw [show (s'.dropHead u).lifeState c = .rampdown from old] at told
        have before := (alike.tells c .rampdown .doze .asleepLight .external).trans told
        exact (before.tells ..).toToldAs.trans told'.toToldAs
      · rw [queue, alone.wakeQueue]
        rfl
      · rw [single.lifeState other, alone.single.lifeState other]
        rfl
    · have meaning := exec_awaited done kind side up (by decide) sent head some_token long token (light report)
      rw [endDirective_of_carrier head carrier (by simp [kind_deepen])] at meaning
      exact deepening_queued meaning rfl head kind_deepen old mark full (.inl ⟨rfl, rfl⟩)
    · have meaning := exec_awaited done kind side up (by decide) sent head some_token long token (deep report)
      rw [endDirective_of_carrier head carrier (by simp [kind_deepen])] at meaning
      exact deepening_queued meaning rfl head kind_deepen old mark full (.inr ⟨rfl, rfl⟩)

end Sys2Proof.Machine
end

section
/-! PROOFS. The outcome of UNIT-DEEP (R154), and the recovery of a unit (R148, R157). -/

namespace Sys2Proof.Machine

variable {s t b n : State} {c e : CarrierIx} {v : UnitIx} {r : Report} {w : Walk} {a : ActionEntry} {s' : State}
  {d : Directive} {rest : List Directive} {l : List Task} {k : Task} {token link : Nat}

/-! ## The state of a unit through an event -/

theorem settled_task (calling : k.isCalling = true) (s : State) (v : UnitIx) : (s.unit v).settled ((k.effect s).1.unit v) := by
  obtain ⟨c, other⟩ : ∃ c : CarrierIx, ∀ cause, k ≠ .lose c cause := by
    cases k with
    | lose d cause =>
      obtain ⟨c, other⟩ := exists_ne d
      exact ⟨c, fun cause same => other (by cases same; rfl)⟩
    | _ => exact ⟨0, by simp⟩
  exact (serving_task calling other s).settled v

/-- R145, R155: an event of which no task recovers, tests or ends anything leaves a unit's state, unless it releases it. -/
theorem Done.settled (h : Done l s t) (calling : ∀ k ∈ l, k.isCalling = true) (v : UnitIx) : (s.unit v).settled (t.unit v) := by
  refine h.stays (fun t => (s.unit v).settled (t.unit v)) (fun k => k.isCalling = true) (fun k t calling holds => ⟨?_, ?_⟩) calling
    (.inl rfl)
  · exact RadioUnit.settled_trans holds (settled_task calling t v)
  · exact fun j mem => isCalling_of_spawned (effect_spawns k t j mem)

theorem RadioUnit.settled_state {x y : RadioUnit} (h : x.settled y) (awake : x.state ≠ some .deep) : y.state = x.state :=
  h.resolve_right fun released => awake released.1

/-- R153: the test leaves an UP unit UP, or sends UNIT-DEEP where its delay is 0. -/
theorem deepTest_state (up : (s.unit v).state = some .up) :
    (((s.deepTest v).unit v).state = some .up ∨ ((s.deepTest v).unit v).state = some .deepPending) ∧
      ((s.unitSettings v).deepDelay.toNat ≠ 0 → ((s.deepTest v).unit v).state = some .up) := by
  by_cases starts : s.deepReady v = true ∧ (s.unit v).deepTimer = none
  · obtain ⟨ready, stopped⟩ := starts
    by_cases held : (s.unitSettings v).deepDelay.toNat ≠ 0 ∨ ¬s.mayGoDeep v
    · rw [deepTest_of_starts ready stopped held, State.setUnit_unit, if_pos rfl]
      exact ⟨.inl up, fun _ => up⟩
    · rw [not_or, not_not, not_not] at held
      obtain ⟨zero, goes⟩ := held
      rw [deepTest_of_goes ready stopped zero goes]
      obtain ⟨-, -, -, -, -, -, -, unit⟩ := deepSent s v
      refine ⟨.inr ?_, fun delay => absurd zero delay⟩
      exact congrArg RadioUnit.state unit
  · rw [deepTest_of_not starts]
    exact ⟨.inl up, fun _ => up⟩

/-- R146, R153: an UP unit whose head is considered and whose timer is tested. -/
theorem considered_state (up : (s.unit v).state = some .up) :
    let t := s.work [.sendHead v, .deepTest v]
    ((t.unit v).state = some .up ∨ (t.unit v).state = some .deepPending) ∧
      ((s.unitSettings v).deepDelay.toNat ≠ 0 → (t.unit v).state = some .up) := by
  intro t
  have done : Done _ s t := done_work [.sendHead v, .deepTest v] s (by simp [costs, Task.cost])
  obtain ⟨m, first, last⟩ := done_cons_iff.mp done
  have sent : Done [.sendHead v] s m := done_singleton_iff.mpr first
  have same : t = m.deepTest v := last.unique (done_of_alone rfl)
  have up' : (m.unit v).state = some .up :=
    (RadioUnit.settled_state (sent.settled (by simp [Task.isCalling]) v) (by simp [up])).trans up
  have settings : m.unitSettings v = s.unitSettings v := by rw [State.unitSettings, sent.keeps.unitConfig, State.unitSettings]
  rw [same, ← settings]
  exact deepTest_state up'

/-! ## The recovery of a unit -/

/-- R136, R157: a LOST carrier that is handed the branch link up event, its unit in use and reachable, is LOST no more. -/
theorem linkUps_found {l : List CarrierIx} (mem : c ∈ l) (taken : ¬n.untaken c) (h : Done (l.map .linkUp) n t) :
    t.lifeState c ≠ .lost := by
  have spares (l : List CarrierIx) : ∀ k ∈ l.map Task.linkUp, k.spares c := by
    intro k mem
    obtain ⟨d, -, rfl⟩ := List.mem_map.mp mem
    exact ⟨rfl, fun cause => by simp⟩
  obtain ⟨before, after, rfl⟩ := List.append_of_mem mem
  rw [List.map_append, List.map_cons] at h
  obtain ⟨m, first, others⟩ := done_append_iff.mp h
  obtain ⟨p, own, last⟩ := done_cons_iff.mp others
  have taken' : ¬m.untaken c := by
    have kept := first.stays (fun s => ¬s.untaken c) (Task.spares c) (fun k s spares taken =>
      ⟨mt ((serving_task spares.1 spares.2 s).untaken (keeps_task k s)) taken,
        fun j mem => spares_of_spawned spares taken (effect_spawns k s j mem)⟩) (spares before) taken
    exact kept
  have spared : (Task.linkUp c).spares c := ⟨rfl, fun cause => by simp⟩
  have taken'' : ¬((Task.linkUp c).effect m).1.untaken c :=
    mt ((serving_task spared.1 spared.2 m).untaken (keeps_task _ m)) taken'
  have found : ((Task.linkUp c).effect m).1.lifeState c ≠ .lost := by
    change (linkUpEffect c m).1.lifeState c ≠ .lost
    unfold linkUpEffect
    split
    · simp
    · assumption
  have tail : Done (((Task.linkUp c).effect m).2 ++ after.map .linkUp) ((Task.linkUp c).effect m).1 t :=
    done_append_iff.mpr ⟨p, own, last⟩
  refine (tail.spared (fun k mem => ?_) taken'' found).2
  rcases List.mem_append.mp mem with mem | mem
  · exact spares_of_spawned spared taken' (effect_spawns _ m k mem)
  · exact spares after k mem

/-- R157: what the recovery of an UNREACHABLE unit leaves. -/
theorem recovered_unit (unreachable : (s.unit v).state = some .unreachable) (h : Done [.recover v] s t) :
    (t.unit v).state = some .releasing ∧ ∀ c, s.isManaged c = true → s.unitOf c = v → t.lifeState c ≠ .lost := by
  have effect : (Task.recover v).effect s = (s.releaseUnit v, (s.unitCarriers v).map .linkUp) := if_pos unreachable
  have done := done_singleton_iff.mp h
  rw [effect] at done
  have released : ((s.releaseUnit v).unit v).state = some .releasing := by rw [releaseUnit_unit]
  have used : (s.unit v).state.isSome = true := by rw [unreachable]; rfl
  refine ⟨(RadioUnit.settled_state (done.settled (fun k mem => ?_) v) (by simp [released])).trans released,
    fun c managed own => linkUps_found (mem_unitCarriers.mpr ⟨managed, own⟩) ?_ done⟩
  · obtain ⟨d, -, rfl⟩ := List.mem_map.mp mem
    rfl
  · rw [State.untaken, (keeps_releaseUnit s v used).unitOf_eq, own]
    simp [released]

/-- R151: all that an unsolicited reply does. -/
theorem unsolicitedReply_cases (v : UnitIx) (link : Nat) (r : Report) (s : State) :
    unsolicitedReply v link r s = (s.countDiscarded v, []) ∨ (∃ c, unsolicitedReply v link r s = (s, [.lose c .fault])) ∨
      (∃ c, s.lifeState c = .lost ∧ unsolicitedReply v link r s = (s.enterRestoring c .ready, [])) ∨
      unsolicitedReply v link r s = (s, []) := by
  cases holder : (s.unit v).carrierAt link with
  | none => exact .inl (unsolicitedReply_counted (.inl holder))
  | some c =>
    by_cases idle : r ≠ .ready ∧ r ≠ .fault
    · exact .inl (unsolicitedReply_counted (.inr idle))
    · unfold unsolicitedReply
      rw [holder]
      cases r with
      | fault => exact .inr (.inl ⟨c, rfl⟩)
      | ready =>
        by_cases lost : s.lifeState c = .lost
        · exact .inr (.inr (.inl ⟨c, lost, by simp [lost]⟩))
        · exact .inr (.inr (.inr (by simp [lost])))
      | asleepLight | asleepDeep | unitDown | unitBusy => exact absurd ⟨by decide, by decide⟩ idle

/-- R148, R151: what is done with a reply from a unit that awaits none, before the unit's recovery. -/
theorem takeReply_idle (idle : (s.unit v).sent = none) :
    (∀ k ∈ (takeReply v token link r s).2, k.isCalling = true) ∧
      ((takeReply v token link r s).1.unit v).state = (s.unit v).state ∧ Keeps s (takeReply v token link r s).1 ∧
      (token ≠ 0 → (takeReply v token link r s).1.flagRaised .lateReply = true) ∧ costs (takeReply v token link r s).2 = 0 := by
  by_cases zero : token = 0
  · rw [zero, takeReply_unsolicited]
    obtain same | ⟨c, same⟩ | ⟨c, lost, same⟩ | same := unsolicitedReply_cases v link r s <;> rw [same]
    · exact ⟨nofun, by rw [State.countDiscarded, State.setUnit_unit, if_pos rfl], keeps_setUnit s v _ rfl rfl, fun h => absurd rfl h,
        rfl⟩
    · exact ⟨by simp [Task.isCalling], rfl, .refl s, fun h => absurd rfl h, rfl⟩
    · have managed : s.isManaged c = true := managed_of lost (by decide)
      obtain ⟨-, alone⟩ := told_enterRestoring (by simp [lost]) (by simp [lost]) managed .ready
      exact ⟨nofun, by rw [State.unit, alone.units, State.unit], alone.keeps, fun h => absurd rfl h, rfl⟩
    · exact ⟨nofun, rfl, .refl s, fun h => absurd rfl h, rfl⟩
  · rw [takeReply_late zero (awaits_eq_false (.inl idle))]
    have tells := tells_raiseFlag s .lateReply (by decide)
    exact ⟨nofun, by rw [tells.unit], tells.keeps, fun _ => raiseFlag_raised .., rfl⟩

/-! ## The outcome of UNIT-DEEP -/

/-- R154: any report but UNIT-DOWN. -/
theorem unitDeepEnded_busy (other : r ≠ .unitDown) (s : State) :
    unitDeepEnded v (.report r) s = (s.setUnit v { s.unit v with state := some .up }, [.sendHead v, .deepTest v]) := by
  cases r with
  | unitDown => exact absurd rfl other
  | ready | asleepLight | asleepDeep | fault | unitBusy => rfl

/-- R154: whether a unit that has gone down may stay so. -/
theorem unitDeepEnded_down (s : State) (v : UnitIx) : unitDeepEnded v (.report .unitDown) s =
    (if (s.unit v).queue = [] ∧ ∀ c, s.isManaged c = true → s.unitOf c = v → s.lifeState c = .slumber then
      s.setUnit v { s.unit v with state := some .deep }
    else (s.setUnit v { s.unit v with state := some .deep }).releaseUnit v, []) := by
  have asleep : (!(s.unit v).queue.isEmpty || (s.unitCarriers v).any fun c => s.lifeState c != .slumber) = false ↔
      ((s.unit v).queue = [] ∧ ∀ c, s.isManaged c = true → s.unitOf c = v → s.lifeState c = .slumber) := by
    simp [mem_unitCarriers]
  unfold unitDeepEnded
  dsimp only
  by_cases all : (s.unit v).queue = [] ∧ ∀ c, s.isManaged c = true → s.unitOf c = v → s.lifeState c = .slumber
  · rw [asleep.mpr all, if_pos all]
    rfl
  · rw [if_neg all, if_pos (Bool.not_eq_false _ ▸ mt asleep.mp all)]

/-- R155: a unit that is released as soon as it has changed. -/
theorem releaseUnit_of_setUnit (s : State) (v : UnitIx) (x : RadioUnit) :
    let t := (s.setUnit v x).releaseUnit v
    Tells (({ s with token := t.token } : State).setUnit v { x with
        state := some .releasing, releaseTimer := some (s.unitSettings v).releaseTime.toNat, deepTimer := none }) t ∧
      t.path = (s.sends (.branch v) (s.unitSettings v).address (directiveLayout 5 s.token 0 0)).path ∧
      t.token = (if s.token < 255 then s.token + 1 else 1) := by
  intro t
  have made : t = _ := releaseUnit_eq (s.setUnit v x) v
  rw [pathWith_setUnit, State.setUnit_unit, if_pos rfl] at made
  have token : t.token = if s.token < 255 then s.token + 1 else 1 := by rw [made]; rfl
  refine ⟨?_, by rw [made]; rfl, token⟩
  have base : ({ s with token := t.token } : State).setUnit v { x with
      state := some .releasing, releaseTimer := some (s.unitSettings v).releaseTime.toNat, deepTimer := none } =
      ((s.setUnit v x).advanceToken).setUnit v { (s.setUnit v x).unit v with
        state := some .releasing, releaseTimer := some ((s.setUnit v x).unitSettings v).releaseTime.toNat, deepTimer := none } := by
    rw [token, State.setUnit_unit, if_pos rfl]
    exact (setUnit_setUnit (s.advanceToken) v x _).symm
  rw [base]
  exact tells_inject ..

/-- Settles O23: the three outcomes of UNIT-DEEP, and the recovery of an UNREACHABLE unit. -/
theorem radioUnitReplies : Obligations.RadioUnitReplies := by
  unfold Obligations.RadioUnitReplies
  refine ⟨fun u d rest w a s s' done kind side pending sent head deep some_token => ?_,
    fun u w a s s' done kind side unreachable up idle => ?_⟩
  · intro body report long token low high asleep ended
    obtain ⟨r, code⟩ := exists_report ⟨low, high⟩
    have byte : report = r.wire := Report.ofCode_eq_some_iff.mp code
    have meaning := exec_awaited done kind side pending (by decide) sent head some_token long token code
    rw [endDirective_of_unitDeep head deep] at meaning
    have unit := dropHead_unit head
    have kept := keeps_dropHead_of head
    have down (five : report = 5) : r = .unitDown := by rw [byte] at five; cases r <;> simp_all [Report.wire]
    refine ⟨fun five all => ?_, fun five awake => ?_, fun other => ?_⟩
    · rw [meaning, down five, unitDeepEnded_down, unit, if_pos ⟨all.1, all.2⟩, dropHead_eq head, setUnit_setUnit]
      rfl
    · rw [down five, unitDeepEnded_down, unit, if_neg fun all => awake ⟨all.1, all.2⟩] at meaning
      rw [dropHead_eq head, setUnit_setUnit] at meaning
      obtain ⟨tells, path, token⟩ := releaseUnit_of_setUnit s' u { ended with state := some .deep }
      exact ⟨_, meaning, tells, path, token⟩
    · have busy : r ≠ .unitDown := by rintro rfl; exact other byte
      rw [unitDeepEnded_busy busy, unit, dropHead_eq head, setUnit_setUnit] at meaning
      generalize begun : s'.setUnit u { ended with state := some .up } = b
      have atUnit : b.unit u = { ended with state := some .up } := by rw [← begun, State.setUnit_unit, if_pos rfl]
      have keeps : Keeps s' b := by
        rw [← begun]
        exact keeps_setUnit s' u _ (by rw [pending]; rfl) rfl
      have up : (b.unit u).state = some .up := by rw [atUnit]
      have considered := headConsidered (s := b) up (by rw [atUnit])
      obtain ⟨either, stays⟩ := considered_state (s := b) up
      have settings : b.unitSettings u = s'.unitSettings u := by rw [State.unitSettings, keeps.unitConfig, State.unitSettings]
      rw [settings] at stays
      have meaning' : exec (.walkEnds w.port) s = .next (b.work [.sendHead u, .deepTest u]) := by
        rw [meaning, ← begun]
        rfl
      exact ⟨_, meaning', keeps.trans considered.keeps, either, stays, considered⟩
  · intro body long low high
    obtain ⟨r, code⟩ := exists_report ⟨low, high⟩
    obtain ⟨calling, state, kept, late, cheap⟩ := takeReply_idle (s := s') (v := u) (r := r)
      (token := (byteAt body 0).toNat) (link := (byteAt body 1).toNat) idle
    have meaning := exec_radioReply done kind side
    rw [radioReply_recovers unreachable up (readRadioReply_of_code long code)] at meaning
    generalize takeReply u (byteAt body 0).toNat (byteAt body 1).toNat r s' = e at meaning calling state kept late cheap
    have work : Done (e.2 ++ [.recover u]) e.1 _ := done_work _ e.1 (by
      rw [costs_append, cheap]
      simp [costs, Task.cost])
    obtain ⟨m, first, last⟩ := done_append_iff.mp work
    have unreachable' : (m.unit u).state = some .unreachable := by
      have before : (e.1.unit u).state = some .unreachable := state.trans unreachable
      exact (RadioUnit.settled_state (first.settled calling u) (by simp [before])).trans before
    obtain ⟨releasing, found⟩ := recovered_unit unreachable' last
    refine ⟨_, meaning, releasing, fun carries => ?_, fun c managed own => ?_⟩
    · refine work.keeps.flags _ (late fun zero => carries ?_)
      exact BitVec.eq_of_toNat_eq zero
    · refine found c ?_ ?_
      · rw [(kept.trans first.keeps).managed, managed]
      · rw [(kept.trans first.keeps).unitOf_eq, own]

end Sys2Proof.Machine
end

section
/-! PROOFS. The reports of a branch port's link (R9, R82, R156, R157). -/

namespace Sys2Proof.Machine

variable {s t b n : State} {c d e : CarrierIx} {v : UnitIx} {l : List Task} {k : Task} {w : Waiting} {cls : WakeClass}

/-! ## Link bits -/

theorem memberOf_setLink_down (bits : BitVec 8) (n m : UnitIx) :
    memberOf (setLink bits n false) m.val = (memberOf bits m.val && m != n) := by
  have one : (1#8 <<< n.val).getLsbD m.val = (m == n) := by
    revert n m
    decide
  simp only [setLink, memberOf, Bool.false_eq_true, if_false, BitVec.getLsbD_and, BitVec.getLsbD_not, m.isLt, one, bne]
  simp

theorem memberOf_setLink_up (bits : BitVec 8) (n m : UnitIx) :
    memberOf (setLink bits n true) m.val = (memberOf bits m.val || m == n) := by
  have one : (1#8 <<< n.val).getLsbD m.val = (m == n) := by
    revert n m
    decide
  simp only [setLink, memberOf, if_true, BitVec.getLsbD_or, one]

/-! ## The loss of an anchor within an event -/

theorem calm_of_calling (calling : k.isCalling = true) : k.mayLull = false := by
  cases k <;> simp [Task.isCalling, Task.mayLull] at calling ⊢

/-- R82: when an anchor has become LOST, by whatever task, each of its dependents is woken. -/
theorem Done.anchor_lost (h : Done l s t) (calling : ∀ k ∈ l, k.isCalling = true) (dependent : s.lostWith c d = true)
    (holds : s.lifeState c ≠ .lost ∨ Woken .coverage d s) : t.lifeState c ≠ .lost ∨ Woken .coverage d t := by
  induction h with
  | nil => exact holds
  | @cons k l s t u first rest ihFirst ihRest =>
    have here := calling k List.mem_cons_self
    have later : ∀ j ∈ (k.effect s).2, j.isCalling = true := fun j mem => isCalling_of_spawned (effect_spawns k s j mem)
    have stays {a b : State} (kept : Keeps a b) (dependent : a.lostWith c d = true) : b.lostWith c d = true := by
      rw [lostWith_iff, kept.anchorOf_eq, kept.anchorOf_eq, kept.managed]
      exact lostWith_iff.mp dependent
    have one : Keeps s t := (done_singleton_iff.mpr first : Done [k] s t).keeps
    refine ihRest (fun j mem => calling j (List.mem_cons_of_mem _ mem)) (stays one dependent) ?_
    by_cases own : ∃ cause, k = .lose c cause
    · obtain ⟨cause, rfl⟩ := own
      by_cases gone : s.lifeState c = .unmanaged ∨ s.lifeState c = .lost
      · have effect : (Task.lose c cause).effect s = (s, []) := if_pos gone
        rw [effect] at first
        rw [done_nil_iff.mp first]
        exact holds
      · rw [not_or] at gone
        exact .inr (woken_lose (done_singleton_iff.mpr first) gone.1 gone.2 dependent)
    · refine ihFirst later (stays (keeps_task k s) dependent) ?_
      exact holds.imp (effect_stays_found ⟨here, fun cause same => own ⟨cause, same⟩⟩) (Woken.task · (calm_of_calling here))

/-! ## The link comes up -/

theorem linkUp_effect_of_found (found : s.lifeState c ≠ .lost) : (Task.linkUp c).effect s = (s, []) := if_neg found

theorem linkUp_effect_of_lost (lost : s.lifeState c = .lost) :
    (Task.linkUp c).effect s = (s.enterQueued c .coverage .unknown .linkUp, [.grants]) := if_pos lost

theorem done_linkUps_of_found {l : List CarrierIx} (found : ∀ d ∈ l, s.lifeState d ≠ .lost) : Done (l.map .linkUp) s s := by
  induction l with
  | nil => exact .nil s
  | cons d l ih =>
    refine done_cons_iff.mpr ⟨s, ?_, ih fun e mem => found e (List.mem_cons_of_mem _ mem)⟩
    rw [linkUp_effect_of_found (found d List.mem_cons_self)]
    exact .nil s

/-- R136: of carriers of which one alone is LOST, that one alone takes the event. -/
theorem done_linkUps_single {l : List CarrierIx} (mem : c ∈ l) (others : ∀ d ∈ l, d ≠ c → s.lifeState d ≠ .lost)
    (one : Done [.linkUp c] s t) (found : t.lifeState c ≠ .lost) (states : ∀ d, d ≠ c → t.lifeState d = s.lifeState d) :
    Done (l.map .linkUp) s t := by
  induction l with
  | nil => cases mem
  | cons d l ih =>
    by_cases same : d = c
    · subst same
      refine done_cons_iff.mpr ⟨t, done_singleton_iff.mp one, done_linkUps_of_found fun e mem => ?_⟩
      by_cases self : e = d
      · rwa [self]
      · rw [states e self]
        exact others e (List.mem_cons_of_mem _ mem) self
    · refine done_cons_iff.mpr ⟨s, ?_, ih ?_ fun e mem => others e (List.mem_cons_of_mem _ mem)⟩
      · rw [linkUp_effect_of_found (others d List.mem_cons_self same)]
        exact .nil s
      · exact (List.mem_cons.mp mem).resolve_left (Ne.symm same)

/-- R136, R157: one LOST carrier that is queued, its unit in RELEASING: it waits, or is granted the slot that is free. -/
theorem linkUp_alone (lost : n.lifeState c = .lost) (releasing : (n.unit (n.unitOf c)).state = some .releasing)
    (h : Done [.linkUp c] n t) :
    (n.settings.slots ≤ n.warmups → ToldAs (n.tells c .lost .queued .linkUp .external) t ∧ t.lifeState c = .queued ∧
      (∀ d, d ≠ c → t.lifeState d = n.lifeState d) ∧ t.wakeQueue = n.wakeQueue.join .coverage { carrier := c, depth := .unknown }) ∧
    (n.warmups < n.settings.slots → n.wakeQueue.entries = [] → t.lifeState c = .warmup ∧
      (∀ d, d ≠ c → t.lifeState d = n.lifeState d) ∧
      ToldAs ((n.tells c .lost .queued .linkUp .external).tells c .queued .warmup .granted .timed) t) := by
  have managed : n.isManaged c = true := managed_of lost (by decide)
  have done := done_singleton_iff.mp h
  rw [linkUp_effect_of_lost lost] at done
  obtain ⟨told, single⟩ := told_enterQueued (by simp [lost]) (by simp [lost]) managed .coverage .unknown .linkUp
  rw [lost] at told
  have queued : (n.enterQueued c .coverage .unknown .linkUp).lifeState c = .queued := by rw [enterQueued_lifeState, if_pos rfl]
  have queue : (n.enterQueued c .coverage .unknown .linkUp).wakeQueue = _ := enterQueued_wakeQueue (by simp [lost])
  have warmups : (n.enterQueued c .coverage .unknown .linkUp).warmups = n.warmups := enterQueued_warmups (by simp [lost])
  have settings := single.keeps.settings
  refine ⟨fun full => ?_, fun free empty => ?_⟩
  · rw [done.unique (done_grants_of_full (by rw [settings, warmups]; exact full))]
    exact ⟨told.toToldAs, queued, fun d => single.lifeState, queue⟩
  · obtain ⟨m, warmed, granted⟩ := done_grants_releasing (s := n.enterQueued c .coverage .unknown .linkUp)
      (w := { carrier := c, depth := .unknown }) (cls := .coverage) (by rw [settings, warmups]; exact free)
      (by rw [queue]; exact join_of_empty empty ..) queued (by rw [single.keeps.unitOf_eq, single.unit]; exact releasing)
    rw [done.unique granted]
    refine ⟨warmed.state, fun d other => ?_, ((told.tells ..).trans warmed.told).toToldAs.trans (queued_toldAs ..)⟩
    have same : m.lifeState d = (n.enterQueued c .coverage .unknown .linkUp).lifeState d := by
      rw [State.lifeState, warmed.others d other, State.lifeState]
    exact same.trans (single.lifeState other)

/-- R157: what a link that comes up makes of its UNREACHABLE unit. -/
theorem recover_unit (unreachable : (b.unit v).state = some .unreachable) :
    let t := (recoverEffect v b).finish
    Keeps b t ∧ (t.unit v).state = some .releasing ∧
      (∀ c, b.unitOf c = v → b.lifeState c = .lost → t.lifeState c = .queued ∨ t.lifeState c = .warmup) ∧
      ∀ c, b.unitOf c = v → b.lifeState c = .lost → (∀ d, d ≠ c → b.unitOf d = v → b.lifeState d ≠ .lost) →
        let told := b.tells c .lost .queued .linkUp .external
        (b.settings.slots ≤ b.warmups → ToldAs told t ∧ t.lifeState c = .queued ∧
          t.wakeQueue = b.wakeQueue.join .coverage { carrier := c, depth := .unknown }) ∧
        (b.warmups < b.settings.slots → b.wakeQueue.entries = [] →
          ToldAs (told.tells c .queued .warmup .granted .timed) t ∧ t.lifeState c = .warmup) := by
  intro t
  have effect : recoverEffect v b = (b.releaseUnit v, (b.unitCarriers v).map .linkUp) := if_pos unreachable
  have used : (b.unit v).state.isSome = true := by rw [unreachable]; rfl
  have kept := keeps_releaseUnit b v used
  have cheap : costs ((b.unitCarriers v).map .linkUp) ≤ 500 := by
    have := costs_map_le Task.linkUp 6 (fun _ => Nat.le_refl _) (b.unitCarriers v)
    have := unitCarriers_length b v
    omega
  have done : Done ((b.unitCarriers v).map .linkUp) (b.releaseUnit v) t := by
    change Done _ _ ((recoverEffect v b).finish)
    rw [effect]
    exact done_work _ _ cheap
  have releasing : ((b.releaseUnit v).unit v).state = some .releasing := by rw [releaseUnit_unit]
  have states (c : CarrierIx) : (b.releaseUnit v).lifeState c = b.lifeState c := lifeState_of_carriers (releaseUnit_carriers ..) c
  have calling : ∀ k ∈ (b.unitCarriers v).map Task.linkUp, k.isCalling = true := by
    intro k mem
    obtain ⟨d, -, rfl⟩ := List.mem_map.mp mem
    rfl
  have place {c : CarrierIx} (own : b.unitOf c = v) : (b.releaseUnit v).unitOf c = v := (kept.unitOf_eq c).trans own
  have mem {c : CarrierIx} (own : b.unitOf c = v) (lost : b.lifeState c = .lost) : c ∈ b.unitCarriers v :=
    mem_unitCarriers.mpr ⟨managed_of lost (by decide), own⟩
  refine ⟨kept.trans done.keeps,
    (RadioUnit.settled_state (done.settled calling v) (by simp [releasing])).trans releasing, fun c own lost => ?_,
    fun c own lost others => ?_⟩
  · have found := linkUps_found (mem own lost) (by rw [State.untaken, place own]; simp [releasing]) done
    have waking := done.isWaking (c := c) (fun k mem => calm_of_calling (calling k mem)) (by rw [states, lost]; rfl)
    revert waking found
    cases t.lifeState c <;> simp [LifeState.isWaking]
  · intro told
    obtain ⟨u, one⟩ : ∃ u, Done [.linkUp c] (b.releaseUnit v) u := ⟨_, done_work [.linkUp c] _ (by simp [costs, Task.cost])⟩
    obtain ⟨full, free⟩ := linkUp_alone ((states c).trans lost) (by rw [place own]; exact releasing) one
    have alike : Alike b (b.releaseUnit v) := (Alike.refl b).silent kept (releaseUnit_toldAs ..)
    have single (found : u.lifeState c ≠ .lost) (same : ∀ d, d ≠ c → u.lifeState d = (b.releaseUnit v).lifeState d) : t = u :=
      done.unique (done_linkUps_single (mem own lost) (fun d held other => by
        rw [states]
        exact others d other (mem_unitCarriers.mp held).2) one found same)
    have warmups : (b.releaseUnit v).warmups = b.warmups := warmups_of_state states
    have queue : (b.releaseUnit v).wakeQueue = b.wakeQueue := by rw [releaseUnit_eq]; rfl
    rw [kept.settings, warmups, queue] at full free
    refine ⟨fun held => ?_, fun room empty => ?_⟩
    · obtain ⟨tells, state, same, place⟩ := full held
      rw [single (by simp [state]) same]
      exact ⟨(alike.tells ..).toToldAs.trans tells, state, place⟩
    · obtain ⟨state, same, tells⟩ := free room empty
      rw [single (by simp [state]) same]
      exact ⟨((alike.tells ..).tells ..).toToldAs.trans tells, state⟩

/-! ## The link goes down -/

/-- R156: what a link that goes down makes of its unit. -/
theorem silence_unit (used : (b.unit v).state ≠ none) (reachable : (b.unit v).state ≠ some .unreachable) :
    let t := (unitLinkDown v b).finish
    Keeps b t ∧ t.unit v = (b.unit v).gone ∧ (∀ c, b.isManaged c = true → b.unitOf c = v → t.lifeState c = .lost) ∧
      (∀ c d, b.isManaged c = true → b.unitOf c = v → b.lifeState c ≠ .lost → b.anchorOf c = c → b.isManaged d = true →
        b.anchorOf d = c → d ≠ c → Woken .coverage d t) ∧
      ∀ c, b.isManaged c = true → b.unitOf c = v → b.lifeState c ≠ .lost → Solitary b c →
        (∀ d, d ≠ c → b.isManaged d = true → b.unitOf d = v → b.lifeState d = .lost) →
        ToldAs (b.tellsLoss c .linkDown .external) t ∧ t.path.branchQueues = b.path.branchQueues := by
  intro t
  have effect : unitLinkDown v b = (b.setUnit v (b.unit v).gone, (b.unitCarriers v).map (.lose · .linkDown)) :=
    if_neg (not_or.mpr ⟨used, reachable⟩)
  have some_state : (b.unit v).gone.state.isSome = (b.unit v).state.isSome := by
    obtain ⟨st, state⟩ := Option.ne_none_iff_exists'.mp used
    rw [state]
    rfl
  have kept := keeps_setUnit b v (b.unit v).gone some_state rfl
  have unit : (b.setUnit v (b.unit v).gone).unit v = (b.unit v).gone := by rw [State.setUnit_unit, if_pos rfl]
  obtain ⟨keeps, same, lost, single⟩ :=
    loses_of_unit v .linkDown (b := b.setUnit v (b.unit v).gone) (by rw [unit]; exact ⟨rfl, rfl, rfl, rfl⟩)
  have made : t = (b.setUnit v (b.unit v).gone).work
      (((b.setUnit v (b.unit v).gone).unitCarriers v).map (.lose · .linkDown)) := by
    change (unitLinkDown v b).finish = _
    rw [effect]
    rfl
  have done : Done _ (b.setUnit v (b.unit v).gone) t := made ▸ done_work _ _ (by rw [costs_loses]; decide)
  rw [← made] at keeps same lost single
  refine ⟨kept.trans keeps, same.trans unit, lost, fun c d managed own found self managed_d anchor other => ?_,
    fun c managed own found alone others => ?_⟩
  · have calling : ∀ k ∈ ((b.setUnit v (b.unit v).gone).unitCarriers v).map (Task.lose · .linkDown), k.isCalling = true := by
      intro k mem
      obtain ⟨e, -, rfl⟩ := List.mem_map.mp mem
      rfl
    refine (done.anchor_lost (c := c) calling ?_ (.inl found)).resolve_left (not_not.mpr (lost c managed own))
    exact lostWith_iff.mpr ⟨self, anchor, managed_d, other⟩
  · have loss := single c managed own found alone others
    exact ⟨((alike_setUnit b v some_state rfl).tellsLoss rfl _ _).toToldAs.trans loss.told, loss.branches⟩

/-! ## The reports -/

theorem dropBranch_queue (p : FramePath) (n m : UnitIx) :
    (p.dropBranch n).queue (.branch m) = if m = n then EgressQueue.empty else p.queue (.branch m) := by
  have flip : (n.val = m.val) = (m = n) := propext ⟨fun same => (Fin.ext same).symm, fun same => by rw [same]⟩
  simp only [FramePath.dropBranch, FramePath.queue, FramePath.setQueue, Fin.getElem_fin, Vector.getElem_set, flip]

theorem dropBranch_linkUp (p : FramePath) (n m : UnitIx) :
    (p.dropBranch n).linkUp (.branch m) = (p.linkUp (.branch m) && m != n) := memberOf_setLink_down _ n m

/-- Settles O25. -/
theorem branchLinkReports : Obligations.BranchLinkReports := by
  unfold Obligations.BranchLinkReports
  refine ⟨fun n s => ⟨fun repeated => ?_, fun running up => ?_⟩, fun n s => ⟨fun repeated => ?_, fun running down => ?_⟩⟩
  · refine ⟨_, congrArg Host.Outcome.next (if_neg ?_), rfl, fun m => memberOf_setLink_down _ n m⟩
    rintro ⟨running, up⟩
    simp [running, up] at repeated
  · let t := s.setPath { s.path with branchReport := setLink s.path.branchReport n false }
    let b := t.setPath (t.path.dropBranch n)
    have exec_eq : exec (.branchLinkDown n) s = .next (unitLinkDown n b).finish :=
      congrArg Host.Outcome.next (if_pos ⟨running, up⟩)
    have clear : (b.unit n).state = none ∨ (b.unit n).state = some .unreachable → (unitLinkDown n b).finish = b := by
      intro gone
      rw [unitLinkDown, if_pos gone]
      rfl
    have base : Keeps b (unitLinkDown n b).finish := by
      by_cases gone : (b.unit n).state = none ∨ (b.unit n).state = some .unreachable
      · rw [clear gone]
        exact Keeps.refl b
      · obtain ⟨used, reachable⟩ := not_or.mp gone
        exact (silence_unit (b := b) used reachable).1
    refine ⟨_, b, exec_eq, base, rfl, rfl, dropBranch_linkUp _ n, fun m => memberOf_setLink_down _ n m,
      dropBranch_queue t.path n, clear, fun used reachable => (silence_unit (b := b) used reachable).2⟩
  · refine ⟨_, congrArg Host.Outcome.next (if_neg ?_), rfl, fun m => memberOf_setLink_up _ n m⟩
    rintro ⟨running, down⟩
    simp only [Bool.not_eq_true'] at down
    simp [running, down] at repeated
  · let t := s.setPath { s.path with branchReport := setLink s.path.branchReport n true }
    let b := t.setPath { t.path with branchUp := setLink t.path.branchUp n true }
    have exec_eq : exec (.branchLinkUp n) s = .next (recoverEffect n b).finish :=
      congrArg Host.Outcome.next (if_pos ⟨running, by simp [down]⟩)
    have clear : (b.unit n).state ≠ some .unreachable → (recoverEffect n b).finish = b := by
      intro reachable
      rw [recoverEffect, if_neg reachable]
      rfl
    have base : Keeps b (recoverEffect n b).finish := by
      by_cases gone : (b.unit n).state = some .unreachable
      · exact (recover_unit (b := b) gone).1
      · rw [clear gone]
        exact Keeps.refl b
    exact ⟨_, b, exec_eq, base, rfl, rfl, fun m => memberOf_setLink_up _ n m, fun m => memberOf_setLink_up _ n m,
      clear, fun gone => (recover_unit (b := b) gone).2⟩

end Sys2Proof.Machine
end

section
/-! PROOFS. A drain that completes (R105, R111), and the advisory replies (R163 to R166). -/

namespace Sys2Proof.Machine

variable {s t n m : State} {c d : CarrierIx} {k : Task} {l : List Task} {cause : Cause} {origin : Origin} {new : LifeState}

/-! ## Pledges -/

theorem leaveDrain_no_pledge (none : (s.cover c).pledge = 0) : ((s.leaveDrain d).cover c).pledge = 0 := by
  by_cases same : c = d
  · rw [same]
    exact leaveDrain_pledge s d
  · have first := setCover_pledge s (s.anchorOf d) c { s.cover (s.anchorOf d) with
      pledgeTotal := (s.cover (s.anchorOf d)).pledgeTotal - (s.cover d).pledge,
      drainList := (s.cover (s.anchorOf d)).drainList.filter (· != d) } rfl
    refine Eq.trans ?_ (first.trans none)
    simp [State.leaveDrain, State.setCover, State.cover, same]

theorem moveTo_no_pledge (none : (s.cover c).pledge = 0) : ((s.moveTo d new).cover c).pledge = 0 := by
  have queue (s : State) (q : WakeQueue) : ((s.setWakeQueue q).cover c).pledge = (s.cover c).pledge := rfl
  rw [moveTo_cover]
  unfold State.movePlaces
  dsimp only
  have left : ((if ((s.lifeState d).isDrain && !new.isDrain) = true then s.leaveDrain d else s).cover c).pledge = 0 := by
    split
    · exact leaveDrain_no_pledge none
    · exact none
  generalize (if ((s.lifeState d).isDrain && !new.isDrain) = true then s.leaveDrain d else s) = a at left ⊢
  split_ifs <;> simp only [queue, joinSleepers_pledge, leaveSleepers_pledge, left]

/-- R74: only a drain that begins gives a carrier a pledge. -/
theorem Stride.no_pledge {m : Kind} (h : Stride m s t) (other : m ≠ .drain) (none : (s.cover c).pledge = 0) :
    (t.cover c).pledge = 0 := by
  cases h with
  | inner h => rw [h.cover]; exact none
  | move | lull => exact moveTo_no_pledge none
  | enqueue => exact moveTo_no_pledge none
  | promote => exact none
  | keep d mark =>
    have same := setCarrier_cover s d c { s.carrier d with life := { (s.carrier d).life with wakePending := some mark } } rfl
    exact (congrArg Cover.pledge same).trans none
  | drain => exact absurd rfl other
  | received d => exact (congrArg Cover.pledge (setCarrier_cover s d c { s.carrier d with drainedReceived := true } rfl)).trans none

theorem not_allows_drain (calling : k.isCalling = true) : ¬k.allows .drain := by
  cases k <;> simp [Task.allows, Task.isCalling, Kind.returns] at calling ⊢

theorem Done.no_pledge (h : Done l s t) (calling : ∀ k ∈ l, k.isCalling = true) (none : (s.cover c).pledge = 0) :
    (t.cover c).pledge = 0 := by
  refine h.stays (fun s => (s.cover c).pledge = 0) (fun k => k.isCalling = true) (fun k s calling none => ⟨?_, fun j mem => ?_⟩)
    calling none
  · exact (chain_task k s).induction (fun s t => (s.cover c).pledge = 0 → (t.cover c).pledge = 0) (fun _ h => h)
      (fun h k none => k (h none))
      (fun allowed stride => stride.no_pledge fun same => not_allows_drain calling (same ▸ allowed.1)) none
  · exact isCalling_of_spawned (effect_spawns k s j mem)

/-! ## A drain that completes -/

theorem completeDrain_untaken (draining : s.lifeState c = .draining) (untaken : s.untaken c) :
    completeDrain c cause origin s =
      ((s.moveTo c .rampdown).notifyState c .draining .rampdown cause origin, [.lose c .radioSilent]) := by
  have unit : (s.moveTo c .rampdown).unit (s.unitOf c) = s.unit (s.unitOf c) := by
    rw [moveTo_units s c (by decide), if_neg (by simp [draining])]
  have place : (s.moveTo c .rampdown).unitOf c = s.unitOf c := by rw [State.unitOf, moveTo_config]; rfl
  have refused : (s.moveTo c .rampdown).handDirective .carrierSleep c = none :=
    handDirective_of_untaken (by rw [place, unit]; exact untaken)
  rw [completeDrain, if_pos draining]
  simp only [refused]

/-- R105, R111: what a drain that completes has done before the head of its unit's queue is considered. -/
structure Retired (c : CarrierIx) (cause : Cause) (origin : Origin) (s t : State) : Prop where
  keeps : Keeps s t
  serving : Serving c s t
  state : t.lifeState c = .rampdown
  states : ∀ d, d ≠ c → t.lifeState d = s.lifeState d
  pledge : (t.cover c).pledge = 0
  told : ToldAs (s.tells c .draining .rampdown cause origin) t
  queued : s.directiveFor .carrierSleep c ∈ (t.unit (s.unitOf c)).queue
  unit : (s.unit (s.unitOf c)).state ≠ some .deep → t.path.branchQueues = s.path.branchQueues ∧
    t.unit (s.unitOf c) = { s.unit (s.unitOf c) with queue := (s.unit (s.unitOf c)).queue ++ [s.directiveFor .carrierSleep c] }

theorem retired_completeDrain (draining : s.lifeState c = .draining) (taken : ¬s.untaken c) (cause : Cause) (origin : Origin) :
    Retired c cause origin s (completeDrain c cause origin s).1 ∧
      (completeDrain c cause origin s).2 = [.sendHead (s.unitOf c)] := by
  have managed : s.isManaged c = true := managed_of draining (by decide)
  have drain : (s.lifeState c).isDrain = true := by rw [draining]; rfl
  obtain ⟨used, reachable⟩ := not_or.mp taken
  have moved : Keeps s (s.moveTo c .rampdown) := keeps_moveTo (moveAllowed_sleeper (by rw [LifeState.isResting, drain]; rfl) rfl)
  have quiet : Quiet s (s.moveTo c .rampdown) := quiet_moveTo s c (by decide)
  have unit : (s.moveTo c .rampdown).unit (s.unitOf c) = s.unit (s.unitOf c) := by
    rw [moveTo_units s c (by decide), if_neg (by simp [draining])]
  have place : (s.moveTo c .rampdown).unitOf c = s.unitOf c := moved.unitOf_eq c
  have directive : (s.moveTo c .rampdown).directiveFor .carrierSleep c = s.directiveFor .carrierSleep c := by
    rw [State.directiveFor, State.directiveFor, place, unit, quiet.token, moved.config]
  have handed := handDirective_eq (s := s.moveTo c .rampdown) (c := c) (kind := .carrierSleep) (by rw [place, unit]; exact used)
    (by rw [place, unit]; exact reachable)
  rw [place, unit] at handed
  obtain ⟨r, h⟩ : ∃ r, (s.moveTo c .rampdown).handDirective .carrierSleep c = some r := ⟨_, handed⟩
  have effect : completeDrain c cause origin s =
      (r.notifyState c .draining .rampdown cause origin, [.sendHead (s.unitOf c)]) := by
    rw [completeDrain, if_pos draining]
    simp only [h]
  have tells := tells_notifyState r c .draining .rampdown cause origin
  have states (d : CarrierIx) : r.lifeState d = if d = c then .rampdown else s.lifeState d :=
    (lifeState_of_carriers (handDirective_carriers h) d).trans (moveTo_lifeState ..)
  have alike : Alike s r :=
    ((Alike.refl s).silent moved quiet.toldAs).silent (keeps_handDirective h) (handed_toldAs h).1
  have directives : (r.unit (s.unitOf c)).queue = (s.unit (s.unitOf c)).queue ++ [s.directiveFor .carrierSleep c] := by
    have joined := queued_unit_same (s.moveTo c .rampdown) .carrierSleep c
    rw [place, unit, directive] at joined
    obtain rfl := Option.some.inj (handed.symm.trans h)
    split
    · rw [releaseUnit_unit, joined]
    · rw [joined]
  rw [effect]
  refine ⟨{
    keeps := moved.trans ((keeps_handDirective h).trans tells.keeps)
    serving := ((serving_moveTo s c (by decide)).trans (serving_handDirective h)).trans (serving_of_units tells.units)
    state := (tells.lifeState c).trans ((states c).trans (if_pos rfl))
    states := fun d other => (tells.lifeState d).trans ((states d).trans (if_neg other))
    pledge := ?_
    told := (alike.notifyState ..).toToldAs
    queued := by rw [tells.unit, directives]; simp
    unit := fun shallow => ?_ }, rfl⟩
  · have same : r.cover c = (s.moveTo c .rampdown).cover c := by
      rw [State.cover, State.carrier, handDirective_carriers h]
      rfl
    rw [State.cover, tells.carrier, ← State.cover, same]
    exact moveTo_pledge drain rfl
  · rw [if_neg shallow] at handed
    obtain rfl := Option.some.inj (handed.symm.trans h)
    have joined := queued_unit_same (s.moveTo c .rampdown) .carrierSleep c
    rw [place, unit, directive] at joined
    exact ⟨(notify_branchQueues ..).trans (congrArg FramePath.branchQueues quiet.path), (tells.unit _).trans joined⟩

theorem done_completeDrain (c : CarrierIx) (cause : Cause) (origin : Origin) (n : State) :
    Done (completeDrain c cause origin n).2 (completeDrain c cause origin n).1 (completeDrain c cause origin n).finish := by
  refine done_work _ _ ?_
  unfold completeDrain
  dsimp only
  repeat' split
  all_goals simp [costs, Task.cost]

theorem sendHead_spares (c : CarrierIx) (v : UnitIx) : (Task.sendHead v).spares c := ⟨rfl, by simp⟩

/-- R105, R111: where a drain that completes ends. -/
theorem completed (draining : n.lifeState c = .draining)
    (h : Done (completeDrain c cause origin n).2 (completeDrain c cause origin n).1 t) :
    Keeps n t ∧ (t.cover c).pledge = 0 ∧ (n.untaken c → t.lifeState c = .lost) ∧
      (¬n.untaken c → t.lifeState c = .rampdown ∧ n.directiveFor .carrierSleep c ∈ (t.unit (n.unitOf c)).queue) := by
  have drain : (n.lifeState c).isDrain = true := by rw [draining]; rfl
  have kept := (keeps_completeDrain c cause origin n).trans h.keeps
  by_cases taken : n.untaken c
  · rw [completeDrain_untaken draining taken] at h
    have tells := tells_notifyState (n.moveTo c .rampdown) c .draining .rampdown cause origin
    have state : ((n.moveTo c .rampdown).notifyState c .draining .rampdown cause origin).lifeState c = .rampdown := by
      rw [tells.lifeState, moveTo_lifeState, if_pos rfl]
    refine ⟨kept, h.no_pledge (by simp [Task.isCalling]) ?_, fun _ => (done_lose (by simp [state]) (by simp [state]) h).1,
      absurd taken⟩
    rw [State.cover, tells.carrier]
    exact moveTo_pledge drain rfl
  · obtain ⟨retired, tasks⟩ := retired_completeDrain draining taken cause origin
    rw [tasks] at h
    refine ⟨kept, h.no_pledge (by simp [Task.isCalling]) retired.pledge, fun untaken => absurd untaken taken, fun _ => ?_⟩
    have still : ¬(completeDrain c cause origin n).1.untaken c := mt (retired.serving.untaken retired.keeps) taken
    exact h.stays_awaiting (by simpa using sendHead_spares c _) still (.inl rfl) retired.state retired.queued
      (by simp [State.directiveFor]) rfl

/-- R105, R111, R146: a drain that completes with its unit UP and idle. -/
theorem completed_idle (draining : n.lifeState c = .draining) (up : (n.unit (n.unitOf c)).state = some .up)
    (empty : (n.unit (n.unitOf c)).queue = []) (idle : (n.unit (n.unitOf c)).sent = none)
    (h : Done (completeDrain c cause origin n).2 (completeDrain c cause origin n).1 t) :
    (t.unit (n.unitOf c)).queue = [n.directiveFor .carrierSleep c] ∧
      HeadSent (n.unitOf c) (n.directiveFor .carrierSleep c) n t ∧ ToldAs (n.tells c .draining .rampdown cause origin) t ∧
      ∀ d, d ≠ c → t.lifeState d = n.lifeState d := by
  have taken : ¬n.untaken c := by simp [State.untaken, up]
  obtain ⟨retired, tasks⟩ := retired_completeDrain draining taken cause origin
  obtain ⟨branches, unit⟩ := retired.unit (by simp [up])
  rw [empty, List.nil_append] at unit
  obtain ⟨t', done, kept, told, carriers, -, -, same, -, sent⟩ := done_sendHead_plain (s := (completeDrain c cause origin n).1)
    (v := n.unitOf c) (by rw [unit]; exact up) (by rw [unit]; exact idle) (by rw [unit]; rintro e ⟨⟩; simp [State.directiveFor])
  rw [tasks] at h
  rw [h.unique done]
  refine ⟨by rw [same, unit], (sent _ (by rw [unit]; rfl)).before retired.keeps branches, retired.told.trans told,
    fun d other => (lifeState_of_carriers carriers d).trans (retired.states d other)⟩

/-! ## The carrier of an advisory reply -/

/-- R163: the managed carriers whose whole key the reply carries. -/
def State.holdsKey (s : State) (key : BitVec 16) (c : CarrierIx) : Bool := s.isManaged c && (s.config c).key == key

theorem holdsKey_iff {key : BitVec 16} : s.holdsKey key c = true ↔ s.isManaged c = true ∧ (s.config c).key = key := by
  simp [State.holdsKey]

theorem advisoryCarrier_eq (key : BitVec 16) : s.advisoryCarrier key =
    ((List.finRange 32).find? fun c => s.holdsKey key c && (s.lifeState c).isDrain).or ((List.finRange 32).find? (s.holdsKey key)) := by
  have matching : (s.managedCarriers.filter fun c => (s.config c).key == key) = (List.finRange 32).filter (s.holdsKey key) := by
    rw [State.managedCarriers, List.filter_filter]
    exact List.filter_congr fun c _ => Bool.and_comm _ _
  simp only [State.advisoryCarrier, matching, List.find?_filter, List.head?_filter, Bool.decide_and, Bool.decide_eq_true]
  cases (List.finRange 32).find? fun c => s.holdsKey key c && (s.lifeState c).isDrain <;> rfl

theorem find?_finRange_eq_none_iff {p : CarrierIx → Bool} : (List.finRange 32).find? p = none ↔ ∀ d, p d = false := by
  simp

theorem advisoryCarrier_eq_none_iff {key : BitVec 16} : s.advisoryCarrier key = none ↔ ∀ c, s.holdsKey key c = false := by
  rw [advisoryCarrier_eq, Option.or_eq_none_iff, find?_finRange_eq_none_iff, find?_finRange_eq_none_iff]
  exact ⟨fun h => h.2, fun h => ⟨fun c => by rw [h c]; rfl, h⟩⟩

theorem advisoryCarrier_eq_some_iff {key : BitVec 16} : s.advisoryCarrier key = some c ↔ s.holdsKey key c = true ∧
    (((s.lifeState c).isDrain = true ∧ ∀ d, d < c → s.holdsKey key d = true → (s.lifeState d).isDrain = false) ∨
      ((∀ d, s.holdsKey key d = true → (s.lifeState d).isDrain = false) ∧ ∀ d, d < c → ¬s.holdsKey key d = true)) := by
  rw [advisoryCarrier_eq, Option.or_eq_some_iff, find?_finRange_eq_some_iff, find?_finRange_eq_some_iff,
    find?_finRange_eq_none_iff]
  simp only [Bool.and_eq_true, Bool.and_eq_false_imp, Bool.not_eq_true]
  tauto

/-! ## What an advisory reply does -/

variable {body : List Byte} {w : Walk} {a : ActionEntry} {s' : State}

theorem exec_advisoryReply (done : WalkDone s w a s') (kind : a.kind = .advisoryReply) (side : w.port = .trunk) :
    exec (.walkEnds w.port) s = .next (advisoryReply (w.bytes.drop a.bodyOffset) s').finish := by
  obtain ⟨n, good, meaning⟩ := exec_walkEnds_done done
  rw [meaning, disposeFrame, good]
  simp only [kind, side]
  rfl

/-- The key that an advisory reply carries (12.3). -/
def replyKey (body : List Byte) : BitVec 16 := BitVec.ofNat 16 ((byteAt body 1).toNat * 256 + (byteAt body 2).toNat)

theorem AdvisoryReply.ofCode_eq_none {b : Byte} (unknown : ¬(b = 1#8 ∨ b = 2#8)) : AdvisoryReply.ofCode b = none := by
  rw [not_or, ← BitVec.toNat_inj, ← BitVec.toNat_inj] at unknown
  unfold AdvisoryReply.ofCode
  split <;> simp_all

/-- R182: two bytes, the high one first. -/
theorem natAt_two {bytes : List Byte} {offset : Nat} (within : offset + 2 ≤ bytes.length) :
    natAt bytes offset 2 = (byteAt bytes offset).toNat * 256 + (byteAt bytes (offset + 1)).toNat := by
  rw [natAt_eq_sum within]
  simp [List.range_succ]

theorem readAdvisoryReply_of_code {kind : AdvisoryReply} (long : 3 ≤ body.length)
    (code : AdvisoryReply.ofCode (byteAt body 0) = some kind) : readAdvisoryReply body = some (kind, replyKey body) := by
  rw [readAdvisoryReply, if_neg (by omega), code, natAt_two (by omega)]
  rfl

theorem readAdvisoryReply_eq_none (unread : ¬(3 ≤ body.length ∧ (byteAt body 0 = 1#8 ∨ byteAt body 0 = 2#8))) :
    readAdvisoryReply body = none := by
  unfold readAdvisoryReply
  split
  · rfl
  · rename_i long
    rw [AdvisoryReply.ofCode_eq_none fun known => unread ⟨by omega, known⟩]
    rfl

/-- R163: a stray reply. -/
theorem advisoryReply_stray (stray : ¬(3 ≤ body.length ∧ (byteAt body 0 = 1#8 ∨ byteAt body 0 = 2#8)) ∨
    s.advisoryCarrier (replyKey body) = none) : advisoryReply body s = (s.raiseFlag .strayAdvisory, []) := by
  by_cases read : 3 ≤ body.length ∧ (byteAt body 0 = 1#8 ∨ byteAt body 0 = 2#8)
  · have stray := stray.resolve_left (not_not.mpr read)
    obtain ⟨kind, code⟩ : ∃ kind, AdvisoryReply.ofCode (byteAt body 0) = some kind := by
      obtain ⟨-, h | h⟩ := read <;> rw [h] <;> exact ⟨_, rfl⟩
    simp only [advisoryReply, readAdvisoryReply_of_code read.1 code, stray]
  · simp only [advisoryReply, readAdvisoryReply_eq_none read]

theorem advisoryReply_drained (long : 3 ≤ body.length) (code : byteAt body 0 = 1#8)
    (found : s.advisoryCarrier (replyKey body) = some c) : advisoryReply body s = drainedReply c s := by
  simp only [advisoryReply, readAdvisoryReply_of_code (kind := .drained) long (by rw [code]; rfl), found]

theorem advisoryReply_decline (long : 3 ≤ body.length) (code : byteAt body 0 = 2#8)
    (found : s.advisoryCarrier (replyKey body) = some c) : advisoryReply body s = declineReply c s := by
  simp only [advisoryReply, readAdvisoryReply_of_code (kind := .decline) long (by rw [code]; rfl), found]

/-- R164, R165: a carrier in no drain state. -/
theorem advisoryReply_no_drain (read : 3 ≤ body.length ∧ (byteAt body 0 = 1#8 ∨ byteAt body 0 = 2#8))
    (found : s.advisoryCarrier (replyKey body) = some c) (awake : (s.lifeState c).isDrain = false) :
    advisoryReply body s = (s.raiseFlag .strayAdvisory, []) := by
  obtain ⟨long, code | code⟩ := read
  · rw [advisoryReply_drained long code found, drainedReply]
    split <;> simp_all [LifeState.isDrain]
  · rw [advisoryReply_decline long code found, declineReply, if_neg (by simp [awake])]

theorem alike_newMoment (s : State) : Alike s s.newMoment := ⟨⟨rfl, rfl, rfl⟩, rfl, rfl, rfl, rfl, rfl, rfl⟩

/-- Settles O24. -/
theorem advisoryReplies : Obligations.AdvisoryReplies := by
  unfold Obligations.AdvisoryReplies
  refine ⟨fun key s => ⟨?_, fun c => ?_⟩, fun w a s s' done kind side => ⟨fun stray => ?_, fun c read found => ⟨fun awake => ?_,
    fun code held => ?_, fun code draining => ?_, fun code drain => ?_⟩⟩⟩
  · simp only [advisoryCarrier_eq_none_iff, ← holdsKey_iff, Bool.not_eq_true]
  · simp only [advisoryCarrier_eq_some_iff, ← holdsKey_iff]
  · rw [exec_advisoryReply done kind side, advisoryReply_stray stray]
    rfl
  · rw [exec_advisoryReply done kind side, advisoryReply_no_drain read found awake]
    rfl
  · rw [exec_advisoryReply done kind side, advisoryReply_drained read.1 code found]
    simp only [drainedReply, held]
    rfl
  · have effect : advisoryReply (w.bytes.drop a.bodyOffset) s' = completeDrain c .drained .external s'.newMoment := by
      rw [advisoryReply_drained read.1 code found]
      simp only [drainedReply, draining]
    have end_done := done_completeDrain c .drained .external s'.newMoment
    obtain ⟨kept, pledge, lost, rampdown⟩ := completed (n := s'.newMoment) draining end_done
    refine ⟨_, (exec_advisoryReply done kind side).trans (by rw [effect]), kept, pledge, lost, fun taken => ?_,
      fun up empty idle => ?_⟩
    · obtain ⟨state, mem⟩ := rampdown taken
      exact ⟨state, _, mem, rfl, rfl, rfl⟩
    · obtain ⟨queue, sent, told, -⟩ := completed_idle (n := s'.newMoment) draining up empty idle end_done
      exact ⟨congrArg (List.map Directive.kind) queue, sent.1, ((alike_newMoment s').tells ..).toToldAs.trans told⟩
  · have awake : s'.lifeState c ≠ .queued ∧ s'.lifeState c ≠ .slumber := by
      constructor <;> intro h <;> simp [h, LifeState.isDrain] at drain
    have effect : advisoryReply (w.bytes.drop a.bodyOffset) s' = (s'.enterRestoring c .declined, []) := by
      rw [advisoryReply_decline read.1 code found, declineReply, if_pos drain, abandonEffect, if_pos drain]
    obtain ⟨told, alone⟩ := told_enterRestoring awake.1 awake.2 (isDrain_managed drain) .declined
    refine ⟨_, (exec_advisoryReply done kind side).trans (by rw [effect]; rfl), alone, enterRestoring_pledge drain _,
      told.toToldAs, ?_⟩
    rw [enterRestoring_lifeState, if_pos rfl]

end Sys2Proof.Machine
end

section
/-! PROOFS. CLEAR-FLAGS and RESTART (R175, R177). -/

namespace Sys2Proof.Machine

variable {s t : State} {r : Request} {rest : List Request}

/-! ## CLEAR-FLAGS -/

theorem exec_clearFlags (h : Takes .clearFlags s r rest) (permitted : r.cls ≤ s.permissions[10]) :
    exec .clearFlags s = .next ((s.taken rest).answer r (firstOf (r.holds 2) (failIf (4096 ≤ r.flagMask) .badValue)) fun s =>
      (s.setEngine { s.engine with flags := s.flagsCleared (BitVec.ofNat 12 r.flagMask) }).respond r .done 0
        (beBytes 2 (s.flagsCleared (BitVec.ofNat 12 r.flagMask)).toNat)) := by
  have ok : (s.taken rest).permission r .clearFlags = none := permission_ok .clearFlags permitted
  refine (onRequest_takes _ h).trans ?_
  rw [State.clearChecks, ok, firstOf_none]

/-- R177: a flag stays raised that the mask does not name, and TIME-UNSET while the time-set mark is clear. -/
theorem flagsCleared_getLsbD (s : State) (mask : Nat) (f : Flag) :
    (s.flagsCleared (BitVec.ofNat 12 mask)).getLsbD f.position.val =
      (s.flagRaised f && !(mask.testBit f.position.val && (f != .timeUnset || s.calendar.timeSet))) := by
  have unset : (Flag.timeUnset.mask).getLsbD f.position.val = decide (f = .timeUnset) := by
    cases f <;> rfl
  have apart : (f != .timeUnset) = !decide (f = .timeUnset) := by
    rw [bne, beq_eq_decide]
  have named : (BitVec.ofNat 12 mask).getLsbD f.position.val = mask.testBit f.position.val := by
    rw [BitVec.getLsbD_ofNat, decide_eq_true f.position.isLt, Bool.true_and]
  simp only [State.flagsCleared, State.flagRaised, memberOf, apart]
  cases s.calendar.timeSet <;>
    simp only [Bool.false_eq_true, if_false, if_true, BitVec.getLsbD_and, BitVec.getLsbD_not, f.position.isLt, unset, named,
      decide_true, Bool.true_and, Bool.or_true, Bool.or_false, Bool.and_true]

/-! ## RESTART -/

theorem exec_restart (h : Takes .restart s r rest) (permitted : r.cls ≤ s.permissions[11]) :
    exec .restart s = .next ((s.taken rest).startRestart r) := by
  have ok : (s.taken rest).permission r .restart = none := permission_ok .restart permitted
  refine (onRequest_takes _ h).trans ?_
  rw [ok, answer_none]

/-- Settles O50. -/
theorem clearFlagsAndRestart : Obligations.ClearFlagsAndRestart := by
  unfold Obligations.ClearFlagsAndRestart
  refine ⟨fun r rest s h permitted => ?_, fun r rest s h permitted => ?_⟩
  · have taken := exec_clearFlags h permitted
    intro mask
    have mask_eq (long : 2 ≤ r.values.length) : r.flagMask = mask := natAt_two long
    refine ⟨fun short => ?_, fun long beyond => ?_, fun long inside => ?_⟩
    · rw [taken, holds_short 2 short, firstOf_some, answer_some]
    · rw [taken, holds_ok 2 long, firstOf_none, mask_eq long, decide_eq_true beyond, failIf_true, answer_some]
    · rw [taken, holds_ok 2 long, firstOf_none, mask_eq long, decide_eq_false (by omega), failIf_false, answer_none]
      exact ⟨_, rfl, rfl, fun f => flagsCleared_getLsbD (s.taken rest) mask f⟩
  · exact ⟨_, _, rfl, rfl, exec_restart h permitted⟩

end Sys2Proof.Machine
end

section
/-! PROOFS. HOLD-DRAIN and RELEASE-HOLD (R108, R110). -/

namespace Sys2Proof.Machine

variable {s t u : State} {c d : CarrierIx} {r : Request} {rest : List Request} {new : LifeState} {row : Instr}
  {kind : RequestKind}

/-! ## A carrier within the drain states -/

/-- R108, R110: a move between the drain states changes the lifecycle part alone. -/
theorem moveTo_between_drains (old : (s.lifeState c).isDrain = true) (drain : new.isDrain = true) :
    s.moveTo c new = s.setCarrier c { s.carrier c with
      life := { (s.carrier c).life with state := new, wakePending := none, hold := new == .drainHeld } } := by
  have from_ : (s.carrier c).life.state = .draining ∨ (s.carrier c).life.state = .drainHeld := by
    change s.lifeState c = _ ∨ s.lifeState c = _
    cases h : s.lifeState c <;> simp [h, LifeState.isDrain] at old ⊢
  have entered : (s.carrier c).onMove new (s.profileOf c) = { s.carrier c with
      life := { (s.carrier c).life with state := new, wakePending := none, hold := new == .drainHeld } } := by
    obtain from_ | from_ := from_ <;> cases new <;> cases drain <;>
      simp [Carrier.onMove, Life.enter, Meter.onMove, from_, LifeState.isDrain, LifeState.isSleeper]
  have others : (s.lifeState c).isSleeper = false ∧ s.lifeState c ≠ .queued ∧ s.lifeState c ≠ .slumber := by
    cases h : s.lifeState c <;> simp [h, LifeState.isDrain, LifeState.isSleeper] at old ⊢
  obtain ⟨awake, unqueued, up⟩ := others
  have rises : new.isSleeper = false ∧ new ≠ .slumber := by
    cases new <;> simp [LifeState.isDrain, LifeState.isSleeper] at drain ⊢
  simp only [State.moveTo, State.movePlaces, State.moveSlumber, old, drain, awake, rises.1]
  simp [entered, unqueued, up, rises.2]

theorem keeps_between_drains (old : (s.lifeState c).isDrain = true) (drain : new.isDrain = true) : Keeps s (s.moveTo c new) := by
  refine keeps_moveTo ⟨?_, fun _ => .inl old, fun _ => .inl (by rw [LifeState.isResting, old]; rfl)⟩
  rw [isDrain_managed old]
  cases new <;> cases drain <;> rfl

theorem Keeps.newMoment (h : Keeps s t) : Keeps s.newMoment t.newMoment :=
  { h with moment := congrArg (· + 1) h.moment }

/-! ## The checks of a request that names a carrier -/

theorem carrier_eq (index : r.indexByte.toNat = c.val) : r.carrier = c := by
  rw [Request.carrier, index]
  exact Fin.ext (Nat.mod_eq_of_lt c.isLt)

/-- R119: the checks on the index and the class mask. -/
theorem carrierChecks_of_permitted (permitted : r.cls ≤ s.permissions[kind.code]) : s.carrierChecks r kind =
    firstOf (failIf (32 ≤ r.indexByte.toNat) .badIndex) (failIf (!(s.config r.carrier).admitsClass r.cls) .denied) := by
  rw [State.carrierChecks, permission_ok kind permitted, firstOf_none]

theorem carrierChecks_outside (permitted : r.cls ≤ s.permissions[kind.code]) (outside : 32 ≤ r.indexByte.toNat) :
    s.carrierChecks r kind = some .badIndex := by
  rw [carrierChecks_of_permitted permitted, decide_eq_true outside, failIf_true, firstOf_some]

theorem carrierChecks_barred (permitted : r.cls ≤ s.permissions[kind.code]) (index : r.indexByte.toNat = c.val)
    (barred : (s.config c).classMask.getLsbD r.cls = false) : s.carrierChecks r kind = some .denied := by
  have mask : (s.config r.carrier).admitsClass r.cls = false := by rw [carrier_eq index]; exact barred
  rw [carrierChecks_of_permitted permitted, decide_eq_false (by omega), failIf_false, firstOf_none, mask]
  rfl

theorem carrierChecks_passed (permitted : r.cls ≤ s.permissions[kind.code]) (index : r.indexByte.toNat = c.val)
    (admitted : (s.config c).classMask.getLsbD r.cls = true) : s.carrierChecks r kind = none := by
  have mask : (s.config r.carrier).admitsClass r.cls = true := by rw [carrier_eq index]; exact admitted
  rw [carrierChecks_of_permitted permitted, decide_eq_false (by omega), failIf_false, firstOf_none, mask]
  rfl

/-! ## HOLD-DRAIN -/

theorem exec_holdDrain (h : Takes .holdDrain s r rest) : exec .holdDrain s = .next ((s.taken rest).answer r
    (firstOf ((s.taken rest).carrierChecks r .holdDrain) ((s.taken rest).holdChecks r.carrier))
    fun s => (s.moveAndTell r.carrier .drainHeld .held).answerDone r) := onRequest_takes _ h

theorem exec_holdDrain_of_named (h : Takes .holdDrain s r rest) (permitted : r.cls ≤ s.permissions[8])
    (index : r.indexByte.toNat = c.val) (admitted : (s.config c).classMask.getLsbD r.cls = true) :
    exec .holdDrain s = .next ((s.taken rest).answer r ((s.taken rest).holdChecks c)
      fun s => (s.moveAndTell c .drainHeld .held).answerDone r) := by
  rw [exec_holdDrain h, carrierChecks_passed (s := s.taken rest) (kind := .holdDrain) permitted index admitted, firstOf_none,
    carrier_eq index]

/-- R108: the hold guard. -/
def State.tooSoon (s : State) (c : CarrierIx) : Prop :=
  ∃ ms, (s.carrier c).life.sinceRelease = some ms ∧ ms / 1000 < s.settings.holdGuard

theorem holdChecks_draining (draining : s.lifeState c = .draining) :
    (s.tooSoon c → s.holdChecks c = some .tooSoon) ∧ (¬s.tooSoon c → s.holdChecks c = none) := by
  rw [State.holdChecks, if_neg (not_not.mpr draining), State.tooSoon]
  cases (s.carrier c).life.sinceRelease with
  | none => simp
  | some ms =>
    refine ⟨?_, fun late => ?_⟩
    · rintro ⟨ms, ⟨⟩, soon⟩
      exact congrArg (failIf · Status.tooSoon) (decide_eq_true soon)
    · exact congrArg (failIf · Status.tooSoon) (decide_eq_false fun soon => late ⟨ms, rfl, soon⟩)

/-! ## RELEASE-HOLD -/

theorem exec_releaseHold (h : Takes .releaseHold s r rest) : exec .releaseHold s = .next ((s.taken rest).answer r
    (firstOf ((s.taken rest).carrierChecks r .releaseHold) (failIf ((s.taken rest).lifeState r.carrier != .drainHeld) .notHeld))
    fun s => (s.endHold r.carrier).answerDone r) := onRequest_takes _ h

theorem exec_releaseHold_of_named (h : Takes .releaseHold s r rest) (permitted : r.cls ≤ s.permissions[9])
    (index : r.indexByte.toNat = c.val) (admitted : (s.config c).classMask.getLsbD r.cls = true) :
    exec .releaseHold s = .next ((s.taken rest).answer r (failIf (s.lifeState c != .drainHeld) .notHeld)
      fun s => (s.endHold c).answerDone r) := by
  rw [exec_releaseHold h, carrierChecks_passed (s := s.taken rest) (kind := .releaseHold) permitted index admitted,
    firstOf_none, carrier_eq index]
  rfl

/-- R110: the carrier that is DRAINING again. -/
def State.released (s : State) (c : CarrierIx) : State :=
  s.setCarrier c { s.carrier c with
    life := { (s.carrier c).life with state := .draining, sinceRelease := some 0, wakePending := none, hold := false } }

theorem backToDraining_eq (held : s.lifeState c = .drainHeld) :
    s.backToDraining c = (s.released c).notifyState c .drainHeld .draining .released .requested ∧
      Keeps s (s.backToDraining c) := by
  obtain ⟨m, made⟩ : ∃ m, m = s.setLife c { (s.carrier c).life with sinceRelease := some 0 } := ⟨_, rfl⟩
  have old : m.lifeState c = .drainHeld := by rw [made, setLife_lifeState s c c (x := { (s.carrier c).life with sinceRelease := some 0 }) rfl, held]
  have drain : (m.lifeState c).isDrain = true := by rw [old]; rfl
  have moved : m.moveTo c .draining = s.released c := by
    rw [moveTo_between_drains drain rfl, made, State.setLife, setCarrier_setCarrier, State.setCarrier_carrier, if_pos rfl]
    rfl
  have back : s.backToDraining c = (s.released c).notifyState c .drainHeld .draining .released .requested := by
    rw [State.backToDraining, ← made, State.moveAndTell, moved, old]
    rfl
  refine ⟨back, ?_⟩
  rw [back]
  have kept : Keeps s m := made ▸ keeps_setLife s c { (s.carrier c).life with sinceRelease := some 0 } rfl
  have moves : Keeps m (s.released c) := moved ▸ keeps_between_drains drain rfl
  exact (kept.trans moves).trans (tells_notifyState ..).keeps

theorem released_lifeState (s : State) (c : CarrierIx) : (s.released c).lifeState c = .draining := by
  simp [State.released, State.lifeState]

/-- R105, R110: the drain of a released carrier completes at once when it has been drained. -/
theorem endHold_drained (held : s.lifeState c = .drainHeld) (drained : (s.carrier c).drainedReceived = true) :
    Keeps s.newMoment (s.endHold c) ∧ ((s.endHold c).cover c).pledge = 0 ∧ (s.untaken c → (s.endHold c).lifeState c = .lost) ∧
      (¬s.untaken c → (s.endHold c).lifeState c = .rampdown ∧ ∃ d ∈ ((s.endHold c).unit (s.unitOf c)).queue,
        d.kind = .carrierSleep ∧ d.carrier = some c ∧ d.key = (s.config c).key) ∧
      ((s.unit (s.unitOf c)).state = some .up → (s.unit (s.unitOf c)).queue = [] → (s.unit (s.unitOf c)).sent = none →
        ((s.endHold c).unit (s.unitOf c)).sent ≠ none ∧
          ToldAs (((s.released c).tells c .drainHeld .draining .released .requested).notify
            (.carrierState c .draining .rampdown .drained .requested s.calendar.minute s.calendar.second)) (s.endHold c)) := by
  obtain ⟨back, kept⟩ := backToDraining_eq held
  have tells := tells_notifyState (s.released c) c .drainHeld .draining .released .requested
  generalize made : s.backToDraining c = n at back kept
  have ended : s.endHold c = (completeDrain c .drained .requested n.newMoment).finish := by
    rw [State.endHold, made]
    exact if_pos drained
  have unit (v : UnitIx) : n.newMoment.unit v = s.unit v := by
    rw [back]
    exact tells.unit v
  have place : n.newMoment.unitOf c = s.unitOf c := kept.unitOf_eq c
  have draining : n.newMoment.lifeState c = .draining := by
    rw [back]
    exact (tells.lifeState c).trans (released_lifeState s c)
  have untaken : n.newMoment.untaken c ↔ s.untaken c := by rw [State.untaken, place, unit, State.untaken]
  obtain ⟨keeps, pledge, lost, rampdown⟩ := completed draining (done_completeDrain c .drained .requested n.newMoment)
  rw [ended, ← untaken]
  refine ⟨kept.newMoment.trans keeps, pledge, lost, fun taken => ?_, fun up empty idle => ?_⟩
  · obtain ⟨state, mem⟩ := rampdown taken
    rw [place] at mem
    exact ⟨state, _, mem, rfl, rfl, by rw [← kept.config]; rfl⟩
  · obtain ⟨-, sent, told, -⟩ := completed_idle draining (by rw [place, unit]; exact up) (by rw [place, unit]; exact empty)
      (by rw [place, unit]; exact idle) (done_completeDrain c .drained .requested n.newMoment)
    rw [place] at sent
    have calendar : n.newMoment.calendar = s.calendar := kept.calendar
    rw [State.tells, calendar] at told
    refine ⟨sent.1, ToldAs.trans ?_ told⟩
    rw [back]
    exact ((alike_newMoment _).notify _).toToldAs

/-- Settles O49. -/
theorem holdAndRelease : Obligations.HoldAndRelease := by
  unfold Obligations.HoldAndRelease
  intro row kind r rest s known taken permitted
  refine ⟨fun outside => ?_, fun c index => ?_⟩
  · obtain ⟨rfl, rfl⟩ | ⟨rfl, rfl⟩ := known
    · rw [exec_holdDrain taken, carrierChecks_outside (s := s.taken rest) (kind := .holdDrain) permitted outside]
      rfl
    · rw [exec_releaseHold taken, carrierChecks_outside (s := s.taken rest) (kind := .releaseHold) permitted outside]
      rfl
  · intro u l tooSoon released
    refine ⟨fun barred => ?_, fun admitted => ⟨?_, ?_, ?_, ?_, ?_, ?_⟩⟩
    · obtain ⟨rfl, rfl⟩ | ⟨rfl, rfl⟩ := known
      · rw [exec_holdDrain taken, carrierChecks_barred (s := s.taken rest) (kind := .holdDrain) permitted index barred]
        rfl
      · rw [exec_releaseHold taken, carrierChecks_barred (s := s.taken rest) (kind := .releaseHold) permitted index barred]
        rfl
    · rintro rfl other
      obtain rfl : kind = 8 := by simpa using known
      rw [exec_holdDrain_of_named taken permitted index admitted, State.holdChecks, taken_lifeState, if_pos other]
      rfl
    · rintro rfl draining soon
      obtain rfl : kind = 8 := by simpa using known
      rw [exec_holdDrain_of_named taken permitted index admitted, (holdChecks_draining (s := s.taken rest) draining).1 soon]
      rfl
    · rintro rfl draining late clear
      obtain rfl : kind = 8 := by simpa using known
      rw [exec_holdDrain_of_named taken permitted index admitted, (holdChecks_draining (s := s.taken rest) draining).2 late,
        answer_none, State.moveAndTell, moveTo_between_drains (s := s.taken rest) (by rw [taken_lifeState, draining]; rfl) rfl]
      simp only [taken_carrier, taken_lifeState, draining, ← clear]
      rfl
    · rintro rfl other
      obtain rfl : kind = 9 := by simpa using known
      rw [exec_releaseHold_of_named taken permitted index admitted, bne_iff_ne.mpr other]
      rfl
    · rintro rfl held undrained clear
      obtain rfl : kind = 9 := by simpa using known
      have ended : u.endHold c = released := by
        have still : ¬((u.carrier c).drainedReceived = true) := by rw [taken_carrier, undrained]; exact Bool.false_ne_true
        rw [State.endHold]
        refine (if_neg still).trans ((backToDraining_eq (s := u) held).1.trans ?_)
        rw [State.released, ← clear]
        rfl
      rw [exec_releaseHold_of_named taken permitted index admitted, held, ← ended]
      rfl
    · rintro rfl held drained
      obtain rfl : kind = 9 := by simpa using known
      obtain ⟨keeps, pledge, lost, rampdown, sends⟩ := endHold_drained (s := u) held drained
      refine ⟨u.endHold c, ?_, keeps, pledge, ⟨lost, rampdown⟩, fun up empty idle => ?_⟩
      · rw [exec_releaseHold_of_named taken permitted index admitted, held]
        rfl
      · obtain ⟨sent, told⟩ := sends up empty idle
        refine ⟨sent, fun clear => ?_⟩
        rw [State.released, ← clear] at told
        exact ⟨told.engine, told.trunk⟩

end Sys2Proof.Machine
end

section
/-! PROOFS. The beginning of a drain (R74, R79, R101), and SLEEP-NOW (R119, R120). -/

namespace Sys2Proof.Machine

variable {s t b : State} {c d : CarrierIx} {r : Request} {rest : List Request} {cause : Cause} {kind : Advisory} {pledge : Nat}

/-! ## An advisory that is sent -/

theorem advise_sent (up : s.trunkLost = false) (destination : s.settings.advisoryDestination ≠ 0#48) (kind : Advisory)
    (c : CarrierIx) (reason : Cause) : s.advise kind c reason =
      ({ s with advisories := { s.advisories with sent := min 4294967295 (s.advisories.sent + 1) } } : State).sends .trunk
        s.settings.advisoryDestination (s.advisoryLayout kind.code c reason.code) := by
  have body : laid (s.advisoryLayout kind.code c reason.code) = [0x31#8, BitVec.ofNat 8 kind.code] ++
      beBytes 2 (s.config c).key.toNat ++ [BitVec.ofNat 8 c.val, BitVec.ofNat 8 reason.code] := by
    simp [State.advisoryLayout]
  have sent : ¬((s.trunkLost || decide (s.settings.advisoryDestination = 0#48)) = true) := by simp [up, destination]
  rw [State.advise, if_neg sent, ← inject_sends, body]
  rfl

/-! ## Entry to DRAINING -/

/-- R57, R101: a carrier that has entered DRAINING from ACTIVE. -/
def Carrier.draining (p : Profile) (x : Carrier) : Carrier :=
  { x with
    life := { x.life with state := .draining, drain := 0, drainLength := p.drainTimeout, wakePending := none, hold := false },
    meter := { x.meter with quietRun := 0 }, drainedReceived := false }

theorem moveTo_draining (active : s.lifeState c = .active) :
    s.moveTo c .draining = s.setCarrier c ((s.carrier c).draining (s.profileOf c)) := by
  have from_ : (s.carrier c).life.state = .active := active
  have entered : (s.carrier c).onMove .draining (s.profileOf c) = (s.carrier c).draining (s.profileOf c) := by
    simp [Carrier.draining, Carrier.onMove, Life.enter, Meter.onMove, from_, LifeState.isDrain, LifeState.isSleeper]
  simp only [State.moveTo, State.movePlaces, State.moveSlumber, active, LifeState.isDrain, LifeState.isSleeper]
  simp [entered]

/-- R74, R101: the carriers once a drain has its pledge and its place. -/
theorem joined_carrier (active : s.lifeState c = .active) (pledge : Nat) (d : CarrierIx) :
    ((s.joinDrain c pledge).moveTo c .draining).carrier d =
      { if d = c then (s.carrier c).draining (s.profileOf c) else s.carrier d with cover := (s.joinDrain c pledge).cover d } := by
  rw [moveTo_draining ((joinDrain_lifeState ..).trans active), State.setCarrier_carrier, joinDrain_carrier s c d]
  split
  · rename_i same
    rw [same, joinDrain_carrier]
    rfl
  · rfl

theorem joined_only (active : s.lifeState c = .active) (pledge : Nat) :
    CarriersOnly s ((s.joinDrain c pledge).moveTo c .draining) := by
  rw [moveTo_draining ((joinDrain_lifeState ..).trans active)]
  rfl

/-- R79: a carrier that nothing in a list comes after stands at its tail. -/
theorem insertBefore_last {before : CarrierIx → CarrierIx → Bool} {l : List CarrierIx} (last : ∀ d ∈ l, before c d = false) :
    insertBefore before c l = l ++ [c] := by
  induction l with
  | nil => rfl
  | cons d l ih =>
    rw [insertBefore, last d List.mem_cons_self, if_neg Bool.false_ne_true, ih fun e mem => last e (List.mem_cons_of_mem _ mem)]
    rfl

theorem insertBefore_split (before : CarrierIx → CarrierIx → Bool) (c : CarrierIx) (l : List CarrierIx) :
    ∃ front back, l = front ++ back ∧ insertBefore before c l = front ++ c :: back := by
  induction l with
  | nil => exact ⟨[], [], rfl, rfl⟩
  | cons d l ih =>
    rw [insertBefore]
    split
    · exact ⟨[], d :: l, rfl, rfl⟩
    · obtain ⟨front, back, rfl, same⟩ := ih
      exact ⟨d :: front, back, rfl, by rw [same]; rfl⟩

/-- R74, R101: a drain that has begun, before its notice. -/
def State.barSent (s : State) (c : CarrierIx) (pledge : Nat) (cause : Cause) : State :=
  ((s.joinDrain c pledge).moveTo c .draining).advise .bar c cause

/-- R74, R101: all that the beginning of a drain does before its notice. -/
structure Begun (c : CarrierIx) (pledge : Nat) (cause : Cause) (s t : State) : Prop where
  alone : Alone c s t
  carrier : ∀ d, t.carrier d =
    { if d = c then (s.carrier c).draining (s.profileOf c) else s.carrier d with cover := (s.joinDrain c pledge).cover d }
  engine : t.engine = s.engine
  path : t.path = (s.sends .trunk s.settings.advisoryDestination (s.advisoryLayout 1 c cause.code)).path
  advisories : t.advisories = { s.advisories with sent := min 4294967295 (s.advisories.sent + 1) }

theorem begun (active : s.lifeState c = .active) (may : s.mayBeginDrain c = true) (pledge : Nat) (cause : Cause) :
    Begun c pledge cause s (s.barSent c pledge cause) ∧
      s.beginDrain c pledge cause = (s.barSent c pledge cause).notifyState c .active .draining cause cause.origin := by
  have needs := may
  simp only [State.mayBeginDrain, Bool.and_eq_true, Bool.not_eq_true', bne_iff_ne, beq_iff_eq] at needs
  obtain ⟨⟨⟨⟨dependent, -⟩, -⟩, up⟩, destination⟩ := needs
  obtain ⟨managed, other⟩ : s.isManaged c = true ∧ s.anchorOf c ≠ c := by simpa [State.isDependent] using dependent
  have carrier := joined_carrier active pledge
  have only := joined_only active pledge
  have joins := keeps_joinDrain s c pledge
  have kept : Keeps s ((s.joinDrain c pledge).moveTo c .draining) :=
    joins.trans (keeps_moveTo ⟨by rw [joins.managed, managed]; rfl, fun _ => .inr (by rw [joins.mayBeginDrain, may]),
      fun _ => .inr (by rw [joins.mayBeginDrain, may])⟩)
  have began : s.beginDrain c pledge cause =
      (s.barSent c pledge cause).notifyState c .active .draining cause cause.origin := by
    rw [State.beginDrain, active]
    rfl
  refine ⟨?_, began⟩
  rw [State.barSent]
  generalize (s.joinDrain c pledge).moveTo c .draining = m at carrier only kept
  have tells := tells_advise (s := m) .bar c cause
  have sent : m.advise .bar c cause = _ := advise_sent (by rw [only]; exact up) (by rw [only]; exact destination) .bar c cause
  have carriers (d : CarrierIx) := (tells.carrier d).trans (carrier d)
  refine ⟨⟨fun d apart => ?_, fun d apart away => ?_, ?_, ?_, ?_, ?_, kept.trans tells.keeps⟩, carriers, ?_, ?_, ?_⟩
  · rw [carriers, if_neg apart]
  · rw [carriers]
    exact (joinDrain_cover s c d pledge other).trans (by rw [if_neg apart, if_neg away]; rfl)
  · rw [tells.units, only]
  · rw [tells.wakeQueue, only]
  · rw [tells.token, only]
  · rw [advise_branchQueues, only]
  · rw [sent, only]
    exact offerInjected_engine ..
  · rw [sent, only]
    simp only [State.sends, State.offerInjected]
    split <;> rfl
  · rw [sent, only]
    simp only [State.sends]
    rw [pathAndEngine_offerInjected]

/-- R74, R97, R101: a drain that has begun, with its notice. -/
theorem told_drain (active : s.lifeState c = .active) (may : s.mayBeginDrain c = true) (pledge : Nat) (cause : Cause)
    (origin : Origin) :
    let t := (s.barSent c pledge cause).notifyState c .active .draining cause origin
    Alone c s t ∧ t.lifeState c = .draining ∧ (t.carrier c).life.drain = 0 ∧
      (t.carrier c).life.drainLength = (s.profileOf c).drainTimeout ∧ (t.carrier c).meter.quietRun = 0 ∧
      (t.cover c).pledge = pledge ∧ (t.cover (s.anchorOf c)).pledgeTotal = (s.cover (s.anchorOf c)).pledgeTotal + pledge ∧
      (t.cover (s.anchorOf c)).drainList =
        insertBefore (s.setCover c { s.cover c with pledge := pledge, drainMoment := s.moment }).drainsBefore c
          (s.cover (s.anchorOf c)).drainList ∧
      t.advisories = { s.advisories with sent := min 4294967295 (s.advisories.sent + 1) } := by
  intro t
  have dependent : s.isDependent c = true := by
    simp only [State.mayBeginDrain, Bool.and_eq_true] at may
    exact may.1.1.1.1
  have other : s.anchorOf c ≠ c := by
    simp only [State.isDependent, Bool.and_eq_true, bne_iff_ne] at dependent
    exact dependent.2
  obtain ⟨begins, -⟩ := begun active may pledge cause
  have told : Tells (s.barSent c pledge cause) t := tells_notifyState ..
  have carrier (d : CarrierIx) := (told.carrier d).trans (begins.carrier d)
  have cover (d : CarrierIx) : t.cover d = (s.joinDrain c pledge).cover d := by
    rw [State.cover, carrier]
  have own := carrier c
  rw [if_pos rfl] at own
  refine ⟨begins.alone.trans (told.alone (notify_branchQueues ..)), ?_, ?_, ?_, ?_, ?_, ?_, ?_,
    (notify_advisories ..).trans begins.advisories⟩
  · rw [State.lifeState, own]
    rfl
  · rw [own]
    rfl
  · rw [own]
    rfl
  · rw [own]
    rfl
  · rw [cover, joinDrain_cover s c c pledge other, if_pos rfl]
  · rw [cover, joinDrain_cover s c _ pledge other, if_neg other, if_pos rfl]
  · rw [cover, joinDrain_cover s c _ pledge other, if_neg other, if_pos rfl]

/-! ## SLEEP-NOW -/

theorem exec_sleepNow (h : Takes .sleepNow s r rest) : exec .sleepNow s = .next ((s.taken rest).answer r
    (firstOf ((s.taken rest).carrierChecks r .sleepNow) ((s.taken rest).sleepChecks r.carrier))
    fun s => (s.newMoment.beginDrain r.carrier (s.pledgeNow r.carrier) .sleepNow).answerDone r) := onRequest_takes _ h

theorem exec_sleepNow_of_named (h : Takes .sleepNow s r rest) (permitted : r.cls ≤ s.permissions[6])
    (index : r.indexByte.toNat = c.val) (admitted : (s.config c).classMask.getLsbD r.cls = true) :
    exec .sleepNow s = .next ((s.taken rest).answer r ((s.taken rest).sleepChecks c)
      fun s => (s.newMoment.beginDrain c (s.pledgeNow c) .sleepNow).answerDone r) := by
  rw [exec_sleepNow h, carrierChecks_passed (s := s.taken rest) (kind := .sleepNow) permitted index admitted, firstOf_none,
    carrier_eq index]

/-- R119: the checks in the words of the manual. -/
theorem sleepChecks_eq (s : State) (c : CarrierIx) : s.sleepChecks c =
    if (s.config c).protect = 1#8 then some .isProtected
    else if s.lifeState c = .unmanaged ∨ s.anchorOf c = c then some .notDependent
    else if s.engine.mode ≠ .acting then some .mode
    else if s.lifeState c ≠ .active then some .stateConflict
    else if s.lifeState (s.anchorOf c) ≠ .active then some .noAnchor
    else if s.settings.advisoryDestination = 0#48 then some .noAdvisory
    else if s.path.trunkState = .lost ∨ s.path.trunkState = .returning then some .trunkLost
    else if s.lockOuts[(s.config c).sectorIx] ≠ none then some .lockedOut
    else if 65536 < s.pledgeNow c ∨ (s.profileOf (s.anchorOf c)).ceiling <
        (s.carrier (s.anchorOf c)).meter.figure + (s.cover (s.anchorOf c)).pledgeTotal + s.pledgeNow c then
      some .anchorFull
    else none := by
  have guarded : (s.config c).isProtected = true ↔ (s.config c).protect = 1#8 := by simp [CarrierConfig.isProtected]
  have independent : (!s.isDependent c) = true ↔ s.lifeState c = .unmanaged ∨ s.anchorOf c = c := by
    simp only [State.isDependent, State.isManaged, Bool.not_and, Bool.or_eq_true, Bool.not_eq_true', bne_eq_false_iff_eq]
  have trunk : s.trunkLost = true ↔ s.path.trunkState = .lost ∨ s.path.trunkState = .returning := by
    cases h : s.path.trunkState <;> simp [State.trunkLost, h]
  have locked : s.lockedOut (s.config c).sectorIx = true ↔ s.lockOuts[(s.config c).sectorIx] ≠ none := by
    rw [State.lockedOut, Option.isSome_iff_ne_none]
  have room : (!s.anchorHasRoom c (s.pledgeNow c)) = true ↔ 65536 < s.pledgeNow c ∨ (s.profileOf (s.anchorOf c)).ceiling <
      (s.carrier (s.anchorOf c)).meter.figure + (s.cover (s.anchorOf c)).pledgeTotal + s.pledgeNow c := by
    rw [Bool.not_eq_true', State.anchorHasRoom, Bool.and_eq_false_iff, decide_eq_false_iff_not, decide_eq_false_iff_not, not_le,
      not_le]
    rfl
  simp only [State.sleepChecks, guarded, independent, trunk, locked, room]

/-- R79: nothing that drains began after the moment that comes. -/
theorem drainsBefore_fresh {x : Cover} (latest : (s.cover d).drainMoment ≤ s.moment) (moment : x.drainMoment = s.moment + 1) :
    (s.setCover c x).drainsBefore c d = false := by
  have own : (s.setCover c x).cover c = x := by simp [State.cover, State.setCover]
  by_cases same : d = c
  · subst same
    simp [State.drainsBefore]
  · have apart : (s.setCover c x).cover d = s.cover d := by simp [State.cover, State.setCover, same]
    simp only [State.drainsBefore, own, apart, moment]
    simp
    omega

/-- Settles O47. -/
theorem sleepNow : Obligations.SleepNow := by
  unfold Obligations.SleepNow
  intro r rest s taken
  refine ⟨fun above => ?_, fun permitted outside => ?_, fun c permitted index => ?_⟩
  · have denied : (s.taken rest).carrierChecks r .sleepNow = some .denied := by
      rw [State.carrierChecks, permission_denied (s := s.taken rest) .sleepNow above, firstOf_some]
    rw [exec_sleepNow taken, denied]
    rfl
  · rw [exec_sleepNow taken, carrierChecks_outside (s := s.taken rest) (kind := .sleepNow) permitted outside]
    rfl
  · intro a figure pledge failed
    cases admitted : (s.config c).classMask.getLsbD r.cls with
    | false =>
      have denied : failed = some .denied := if_pos admitted
      refine ⟨fun status same => ?_, fun passed => by rw [denied] at passed; cases passed⟩
      obtain rfl := Option.some.inj (denied.symm.trans same)
      rw [exec_sleepNow taken, carrierChecks_barred (s := s.taken rest) (kind := .sleepNow) permitted index admitted]
      rfl
    | true =>
      have checks : failed = (s.taken rest).sleepChecks c :=
        (if_neg (by simp [admitted])).trans (sleepChecks_eq (s.taken rest) c).symm
      have meaning := exec_sleepNow_of_named taken permitted index admitted
      rw [← checks] at meaning
      refine ⟨fun status same => by rw [meaning, same]; rfl, fun passed => ?_⟩
      obtain ⟨unprotected, dependent, mode, active, -, destination, trunk, -⟩ := sleepChecks_none (checks.symm.trans passed)
      have may : (s.taken rest).newMoment.mayBeginDrain c = true := by
        simp only [State.mayBeginDrain, Bool.and_eq_true, Bool.not_eq_true', bne_iff_ne, beq_iff_eq]
        exact ⟨⟨⟨⟨dependent, unprotected⟩, mode⟩, trunk⟩, destination⟩
      obtain ⟨begins, -⟩ := begun (s := (s.taken rest).newMoment) active may pledge .sleepNow
      obtain ⟨alone, state, drain, length, quiet, own, total, list, sent⟩ :=
        told_drain (s := (s.taken rest).newMoment) active may pledge .sleepNow .requested
      refine ⟨(s.taken rest).newMoment.barSent c pledge .sleepNow, _, ?_, begins.alone, begins.engine, ?_, ?_, alone, state, drain,
        length, quiet, own, total, ?_, fun latest => ?_, sent⟩
      · rw [meaning, passed, answer_none, (begun (s := (s.taken rest).newMoment) active may _ .sleepNow).2]
        rfl
      · exact begins.path.trans (offerInjected_path (s := s) (t := (s.taken rest).newMoment) rfl ..)
      · have calendar := begins.alone.keeps.calendar
        rw [State.notifyState, calendar]
        rfl
      · obtain ⟨front, back, split, joined⟩ := insertBefore_split _ c (s.cover a).drainList
        exact ⟨front, back, split, list.trans joined⟩
      · exact list.trans <| insertBefore_last fun d mem => drainsBefore_fresh (s := s.taken rest) (latest d mem) rfl

end Sys2Proof.Machine
end

section
/-! PROOFS. Which command takes a request, what every response is, and the requests refused at once (R168 to R173). -/

namespace Sys2Proof.Machine

variable {s t : State} {r : Request} {rest : List Request} {row : Instr} {i : Nat}

/-! ## The command of a request -/

theorem RequestKind.ofCode_eq_some_iff {b : Byte} {k : RequestKind} : RequestKind.ofCode b = some k ↔ b.toNat = k.code.val := by
  unfold RequestKind.ofCode
  cases k <;> split <;> simp_all [RequestKind.code]

theorem RequestKind.ofCode_eq_none_iff {b : Byte} : RequestKind.ofCode b = none ↔ 11 < b.toNat := by
  unfold RequestKind.ofCode
  split <;> simp_all
  omega

theorem Table.ofCode_eq_some_iff {b : Byte} {t : Table} : Table.ofCode b = some t ↔ b.toNat = t.code := by
  unfold Table.ofCode
  cases t <;> split <;> simp_all [Table.code]

/-- The request kind of a command; none for the commands that take a request of no known kind, or no request. -/
def requestKindOf : Instr → Option RequestKind
  | .identify => some .identify
  | .readRecords => some .readRecords
  | .activateBank => some .activateBank
  | .setTime => some .setTime
  | .setMode => some .setMode
  | .sleepNow => some .sleepNow
  | .wake => some .wake
  | .holdDrain => some .holdDrain
  | .releaseHold => some .releaseHold
  | .clearFlags => some .clearFlags
  | .restart => some .restart
  | .unknownRequestKind => none
  | _ => some .writeRecords

theorem requestKindOf_settingCommand (i : Nat) : requestKindOf (settingCommand i) = some .writeRecords := by
  unfold settingCommand
  split <;> rfl

theorem requestKindOf_writeCommand (r : Request) : requestKindOf r.writeCommand = some .writeRecords := by
  unfold Request.writeCommand
  split
  case h_8 => exact requestKindOf_settingCommand _
  all_goals rfl

/-- R168: the command tells the request kind. -/
theorem requestKindOf_command (r : Request) : requestKindOf r.command = r.kind := by
  unfold Request.command
  split <;> rename_i kind <;> rw [kind]
  case h_3 => exact requestKindOf_writeCommand r
  all_goals rfl

theorem command_of_plain {k : Nat} (mem : (row, k) ∈ plainRequests) : r.command = row ↔ (byteAt r.body 1).toNat = k := by
  have known : ∃ kind : RequestKind, requestKindOf row = some kind ∧ kind.code.val = k ∧ (r.kind = some kind → r.command = row) := by
    simp only [plainRequests, List.mem_cons, Prod.mk.injEq, List.not_mem_nil, or_false] at mem
    rcases mem with ⟨rfl, rfl⟩ | ⟨rfl, rfl⟩ | ⟨rfl, rfl⟩ | ⟨rfl, rfl⟩ | ⟨rfl, rfl⟩ | ⟨rfl, rfl⟩ | ⟨rfl, rfl⟩ | ⟨rfl, rfl⟩ |
      ⟨rfl, rfl⟩ | ⟨rfl, rfl⟩ | ⟨rfl, rfl⟩
    all_goals exact ⟨_, rfl, rfl, fun kind => by rw [Request.command, kind]⟩
  obtain ⟨kind, asks, rfl, taken⟩ := known
  have code : r.kind = some kind ↔ (byteAt r.body 1).toNat = kind.code.val := RequestKind.ofCode_eq_some_iff
  rw [← code]
  refine ⟨fun same => ?_, taken⟩
  rw [← requestKindOf_command, same, asks]

theorem kind_write : r.kind = some .writeRecords ↔ (byteAt r.body 1).toNat = 2 := RequestKind.ofCode_eq_some_iff

theorem command_of_write (writes : requestKindOf row = some .writeRecords) :
    r.command = row ↔ (byteAt r.body 1).toNat = 2 ∧ r.writeCommand = row := by
  rw [← kind_write]
  have write (kind : r.kind = some .writeRecords) : r.command = r.writeCommand := by rw [Request.command, kind]
  refine ⟨fun same => ?_, fun ⟨kind, same⟩ => (write kind).trans same⟩
  have kind : r.kind = some .writeRecords := by rw [← requestKindOf_command, same, writes]
  exact ⟨kind, (write kind).symm.trans same⟩

/-- 12.4: the entry that a SETTINGS write begins at tells its command. -/
theorem settingCommand_eq_iff {lo hi : Nat} (mem : (row, i, lo, hi) ∈ settingWrites) (j : Nat) :
    settingCommand j = row ↔ j = i := by
  simp only [settingWrites, List.mem_cons, Prod.mk.injEq, List.not_mem_nil, or_false] at mem
  rcases mem with ⟨rfl, rfl, -⟩ | ⟨rfl, rfl, -⟩ | ⟨rfl, rfl, -⟩ | ⟨rfl, rfl, -⟩ | ⟨rfl, rfl, -⟩ | ⟨rfl, rfl, -⟩ | ⟨rfl, rfl, -⟩ |
    ⟨rfl, rfl, -⟩ | ⟨rfl, rfl, -⟩ | ⟨rfl, rfl, -⟩ | ⟨rfl, rfl, -⟩
  all_goals unfold settingCommand; split <;> simp_all

theorem settingCommand_ne_table {t size n : Nat} (mem : (row, t, size, n) ∈ tableWrites) (j : Nat) : settingCommand j ≠ row := by
  simp only [tableWrites, List.mem_cons, Prod.mk.injEq, List.not_mem_nil, or_false] at mem
  unfold settingCommand
  rcases mem with ⟨rfl, -⟩ | ⟨rfl, -⟩ | ⟨rfl, -⟩ | ⟨rfl, -⟩ | ⟨rfl, -⟩ | ⟨rfl, -⟩ | ⟨rfl, -⟩ <;> split <;> simp

theorem writeCommand_of_settings {lo hi : Nat} (mem : (row, i, lo, hi) ∈ settingWrites) :
    r.writeCommand = row ↔ r.table = some .settings ∧ (byteAt r.body 5).toNat = i := by
  rw [← settingCommand_eq_iff mem]
  constructor
  · intro same
    unfold Request.writeCommand at same
    split at same
    case h_8 settings => exact ⟨settings, same⟩
    all_goals simp [settingWrites, ← same] at mem
  · rintro ⟨settings, same⟩
    rw [Request.writeCommand, settings]
    exact same

/-- 12.5: the table that a write names tells its command. -/
theorem writeCommand_of_table {t size n : Nat} (mem : (row, t, size, n) ∈ tableWrites) :
    r.writeCommand = row ↔ (byteAt r.body 4).toNat = t := by
  have known : ∃ table : Table, table.code = t ∧ (r.writeCommand = row ↔ r.table = some table) := by
    have apart (j : Nat) := settingCommand_ne_table mem j
    simp only [tableWrites, List.mem_cons, Prod.mk.injEq, List.not_mem_nil, or_false] at mem
    rcases mem with ⟨rfl, rfl, -⟩ | ⟨rfl, rfl, -⟩ | ⟨rfl, rfl, -⟩ | ⟨rfl, rfl, -⟩ | ⟨rfl, rfl, -⟩ | ⟨rfl, rfl, -⟩ | ⟨rfl, rfl, -⟩
    · exact ⟨.carrier, rfl, by unfold Request.writeCommand; split <;> simp_all⟩
    · exact ⟨.profile, rfl, by unfold Request.writeCommand; split <;> simp_all⟩
    · exact ⟨.radioUnit, rfl, by unfold Request.writeCommand; split <;> simp_all⟩
    · exact ⟨.action, rfl, by unfold Request.writeCommand; split <;> simp_all⟩
    · exact ⟨.classifierStandby, rfl, by unfold Request.writeCommand; split <;> simp_all⟩
    · exact ⟨.window, rfl, by unfold Request.writeCommand; split <;> simp_all⟩
    · exact ⟨.permission, rfl, by unfold Request.writeCommand; split <;> simp_all⟩
  obtain ⟨table, rfl, same⟩ := known
  rw [same]
  exact Table.ofCode_eq_some_iff

/-! ## The answer of each command -/

/-- R169, R170: the command takes its request and hands it to `answer`, which answers DENIED above the ceiling of kind `k`. -/
def Answers (row : Instr) (k : Fin 12) (answer : Request → State → State) : Prop :=
  (∀ s, exec row s = onRequest row answer s) ∧
    ∀ (r : Request) (s : State), s.permissions[k] < r.cls → answer r s = s.respond r .denied 0 []

theorem answer_denied (kind : RequestKind) (above : s.permissions[kind.code] < r.cls) (checks : Option Status)
    (carryOut : State → State) :
    s.answer r (firstOf (s.permission r kind) checks) carryOut = s.respond r .denied 0 [] := by
  rw [permission_denied kind above, firstOf_some, answer_some]

theorem answerWrite_denied (above : s.permissions[2] < r.cls) (t : Table) (owner : OwnerWrite) (after : Nat → State → State) :
    s.answerWrite r t owner after = s.respond r .denied 0 [] := answer_denied .writeRecords above _ _

theorem answers_plain {k : Fin 12} (mem : (row, k.val) ∈ plainRequests) : ∃ answer, Answers row k answer := by
  have known (j : Fin 12) (same : k.val = j.val) : k = j := Fin.ext same
  simp only [plainRequests, List.mem_cons, Prod.mk.injEq, List.not_mem_nil, or_false] at mem
  rcases mem with ⟨rfl, k⟩ | ⟨rfl, k⟩ | ⟨rfl, k⟩ | ⟨rfl, k⟩ | ⟨rfl, k⟩ | ⟨rfl, k⟩ | ⟨rfl, k⟩ | ⟨rfl, k⟩ | ⟨rfl, k⟩ | ⟨rfl, k⟩ |
    ⟨rfl, k⟩
  · obtain rfl := known 0 k
    refine ⟨_, fun _ => rfl, fun r s above => ?_⟩
    rw [permission_denied .identify above, answer_some]
  · obtain rfl := known 1 k
    refine ⟨_, fun _ => rfl, fun r s above => ?_⟩
    split
    · have denied : s.permits r .readRecords = false := decide_eq_false (Nat.not_le.mpr above)
      rw [denied]
      rfl
    · exact answer_denied .readRecords above _ _
  · obtain rfl := known 3 k
    refine ⟨_, fun _ => rfl, fun r s above => ?_⟩
    rw [permission_denied .activateBank above, firstOf_some]
    rfl
  · obtain rfl := known 4 k
    exact ⟨_, fun _ => rfl, fun r s above => answer_denied .setTime above _ _⟩
  · obtain rfl := known 5 k
    refine ⟨_, fun _ => rfl, fun r s above => ?_⟩
    rw [permission_denied .setMode above, firstOf_some]
    rfl
  · obtain rfl := known 6 k
    refine ⟨_, fun _ => rfl, fun r s above => ?_⟩
    rw [State.carrierChecks, permission_denied .sleepNow above, firstOf_some, firstOf_some, answer_some]
  · obtain rfl := known 7 k
    exact ⟨_, fun _ => rfl, fun r s above => answer_denied .wake above _ _⟩
  · obtain rfl := known 8 k
    refine ⟨_, fun _ => rfl, fun r s above => ?_⟩
    rw [State.carrierChecks, permission_denied .holdDrain above, firstOf_some, firstOf_some, answer_some]
  · obtain rfl := known 9 k
    refine ⟨_, fun _ => rfl, fun r s above => ?_⟩
    rw [State.carrierChecks, permission_denied .releaseHold above, firstOf_some, firstOf_some, answer_some]
  · obtain rfl := known 10 k
    exact ⟨_, fun _ => rfl, fun r s above => answer_denied .clearFlags above _ _⟩
  · obtain rfl := known 11 k
    refine ⟨_, fun _ => rfl, fun r s above => ?_⟩
    rw [permission_denied .restart above, answer_some]

theorem answers_table {t size n : Nat} (mem : (row, t, size, n) ∈ tableWrites) :
    ∃ (table : Table) (owner : OwnerWrite) (after : Nat → State → State), table.recordBytes = size ∧ table.size = n ∧
      (∀ s, after 0 s = s) ∧ ∀ s, exec row s = onRequest row (fun r s => s.answerWrite r table owner after) s := by
  simp only [tableWrites, List.mem_cons, Prod.mk.injEq, List.not_mem_nil, or_false] at mem
  rcases mem with ⟨rfl, -, rfl, rfl⟩ | ⟨rfl, -, rfl, rfl⟩ | ⟨rfl, -, rfl, rfl⟩ | ⟨rfl, -, rfl, rfl⟩ | ⟨rfl, -, rfl, rfl⟩ |
    ⟨rfl, -, rfl, rfl⟩ | ⟨rfl, -, rfl, rfl⟩
  · exact ⟨.carrier, _, _, rfl, rfl, fun _ => rfl, fun _ => rfl⟩
  · exact ⟨.profile, _, _, rfl, rfl, fun _ => rfl, fun _ => rfl⟩
  · exact ⟨.radioUnit, _, _, rfl, rfl, fun _ => rfl, fun _ => rfl⟩
  · exact ⟨.action, _, _, rfl, rfl, fun _ => rfl, fun _ => rfl⟩
  · exact ⟨.classifierStandby, _, _, rfl, rfl, fun _ => rfl, fun _ => rfl⟩
  · exact ⟨.window, _, _, rfl, rfl, fun _ => rfl, fun _ => rfl⟩
  · exact ⟨.permission, _, _, rfl, rfl, fun _ => rfl, fun _ => rfl⟩

theorem answers_setting {lo hi : Nat} (mem : (row, i, lo, hi) ∈ settingWrites) (s : State) :
    exec row s = onRequest row State.answerSettings s := by
  simp only [settingWrites, List.mem_cons, Prod.mk.injEq, List.not_mem_nil, or_false] at mem
  rcases mem with ⟨rfl, -⟩ | ⟨rfl, -⟩ | ⟨rfl, -⟩ | ⟨rfl, -⟩ | ⟨rfl, -⟩ | ⟨rfl, -⟩ | ⟨rfl, -⟩ | ⟨rfl, -⟩ | ⟨rfl, -⟩ | ⟨rfl, -⟩ |
    ⟨rfl, -⟩ <;> rfl

theorem answers_writeRecords : Answers .writeRecords 2 fun r s =>
    if r.table = some .settings then s.answerSettings r else s.refuseTable r := by
  refine ⟨fun _ => rfl, fun r s above => ?_⟩
  dsimp only
  split
  · exact answerWrite_denied above ..
  · have denied : s.permits r .writeRecords = false := decide_eq_false (Nat.not_le.mpr above)
    rw [State.refuseTable, denied]
    rfl

/-- R168, R170: every command of a known request kind. -/
theorem answers_of_kind {k : Fin 12} (mem : (row, k.val) ∈ requestKinds) : ∃ answer, Answers row k answer := by
  have writes (same : k.val = 2) : k = 2 := Fin.ext same
  simp only [requestKinds, List.mem_append, List.mem_map, List.mem_singleton, Prod.mk.injEq] at mem
  rcases mem with ((plain | ⟨rfl, same⟩) | ⟨⟨row', t, size, n⟩, held, rfl, same⟩) | ⟨⟨row', i, lo, hi⟩, held, rfl, same⟩
  · exact answers_plain plain
  · obtain rfl := writes same
    exact ⟨_, answers_writeRecords⟩
  · obtain rfl := writes same.symm
    obtain ⟨table, owner, after, -, -, -, answers⟩ := answers_table held
    exact ⟨_, answers, fun r s above => answerWrite_denied above ..⟩
  · obtain rfl := writes same.symm
    exact ⟨_, answers_setting held, fun r s above => answerWrite_denied above ..⟩

theorem kind_lt_of_mem {k : Nat} (mem : (row, k) ∈ requestKinds) : k < 12 := by
  have all : ∀ p ∈ requestKinds, p.2 < 12 := by decide
  exact all _ mem

/-! ## Responses -/

/-- R169, 12.2: every response, byte for byte. -/
theorem respond_eq (r : Request) (status : Status) (n : Nat) (results : List Byte) (s : State) :
    let whole := beBytes 6 r.source.toNat ++ beBytes 6 s.stationAddress.toNat ++ beBytes 2 s.settings.typeValue.toNat ++
      [0x11#8, byteAt r.body 1] ++ beBytes 2 (natAt r.body 2 2) ++
      [BitVec.ofNat 8 status.code, byteAt r.body 4, byteAt r.body 5, BitVec.ofNat 8 n] ++ results
    s.respond r status n results = s.offerInjected .trunk
      { bytes := whole ++ List.replicate (60 - whole.length) 0#8, restartAnswer := false } := by
  have body : beBytes 6 r.source.toNat ++ beBytes 6 s.stationAddress.toNat ++ beBytes 2 s.settings.typeValue.toNat ++
      [0x11#8, byteAt r.body 1] ++ beBytes 2 (natAt r.body 2 2) ++
      [BitVec.ofNat 8 status.code, byteAt r.body 4, byteAt r.body 5, BitVec.ofNat 8 n] ++ results =
      beBytes 6 r.source.toNat ++ beBytes 6 s.stationAddress.toNat ++ beBytes 2 s.settings.typeValue.toNat ++
        r.responseBody status n results := by
    simp only [Request.responseBody, Request.kindByte, Request.tag, Request.tableByte, Request.indexByte, oneByte,
      List.append_assoc]
  rw [body]
  rfl

/-! ## SETTINGS writes that begin at no writable entry -/

theorem settingCommand_eq_writeRecords_iff : settingCommand i = .writeRecords ↔ i = 0 ∨ 12 ≤ i := by
  unfold settingCommand
  split <;> simp_all
  omega

theorem putSetting_eq_none (outside : i = 0 ∨ 12 ≤ i) (v : Nat) (s : State) : putSetting i v s = none := by
  unfold putSetting
  split <;> simp_all

/-- R172, R173: the first entry of such a write is refused. -/
theorem answerSettings_refused (permitted : r.cls ≤ s.permissions[2]) (counted : r.countOrDirectionBad = false)
    (long : r.count * 8 ≤ r.values.length) (outside : settingCommand r.indexByte.toNat = .writeRecords) :
    s.answerSettings r = s.respond r (if r.indexByte.toNat < 35 then .badValue else .badIndex) 0 [] := by
  have some_records : r.count ≠ 0 := by
    have := (countOrDirectionBad_iff.mp counted).1
    omega
  obtain ⟨n, count⟩ := Nat.exists_eq_succ_of_ne_zero some_records
  have none_written := putSetting_eq_none (settingCommand_eq_writeRecords_iff.mp outside)
  have written : s.writeRecordsOf r .settings writeSetting =
      { state := s, count := 0, status := if r.indexByte.toNat < 35 then .badValue else .badIndex } := by
    rw [State.writeRecordsOf, count, chunks, writeEach]
    change (if r.indexByte.toNat < 35 then _ else _) = _
    split
    · simp only [writeSetting, none_written]
    · rfl
  rw [State.answerSettings, answerWrite_ok .settings writeSetting nothingAfter permitted counted long, written]
  rfl

/-- R172: the checks of a whole write that fails one. -/
theorem answerWrite_uncounted (t : Table) (owner : OwnerWrite) (after : Nat → State → State) (permitted : r.cls ≤ s.permissions[2])
    (bad : r.countOrDirectionBad = true) : s.answerWrite r t owner after = s.respond r .badValue 0 [] := by
  rw [State.answerWrite, State.writeChecks, permission_ok .writeRecords permitted, bad, firstOf_none, failIf_true, firstOf_some,
    answer_some]

theorem answerWrite_short (t : Table) (owner : OwnerWrite) (after : Nat → State → State) (permitted : r.cls ≤ s.permissions[2])
    (counted : r.countOrDirectionBad = false) (short : r.values.length < r.count * t.recordBytes) :
    s.answerWrite r t owner after = s.respond r .badLength 0 [] := by
  rw [State.answerWrite, State.writeChecks, permission_ok .writeRecords permitted, counted, firstOf_none, failIf_false,
    firstOf_none, holds_short _ short, answer_some]

theorem uncounted_iff : r.countOrDirectionBad = true ↔
    ¬(1 ≤ r.count ∧ r.count ≤ 16 ∧ (byteAt r.body 7 = 0#8 ∨ byteAt r.body 7 = 1#8)) := by
  rw [← countOrDirectionBad_iff, Bool.not_eq_false]

/-- Settles O37. -/
theorem requestsAndResponses : Obligations.RequestsAndResponses := by
  unfold Obligations.RequestsAndResponses
  refine ⟨⟨fun r row k mem => command_of_plain mem, fun r row t size n mem => ?_, fun r row i lo hi mem => ?_, fun r => ?_,
    fun row s known idle => ?_⟩, respond_eq, fun r rest s h => onRequest_takes _ h, fun row k r rest s mem h above => ?_,
    fun r rest s h permitted unknown => ?_, fun r rest s h permitted => ?_⟩
  · have writes : requestKindOf row = some .writeRecords := by
      have all : ∀ p ∈ tableWrites, requestKindOf p.1 = some .writeRecords := by decide
      exact all _ mem
    rw [command_of_write writes, writeCommand_of_table mem]
  · have writes : requestKindOf row = some .writeRecords := by
      have all : ∀ p ∈ settingWrites, requestKindOf p.1 = some .writeRecords := by decide
      exact all _ mem
    have settings : r.table = some .settings ↔ (byteAt r.body 4).toNat = 11 := Table.ofCode_eq_some_iff
    rw [command_of_write writes, writeCommand_of_settings mem, settings]
  · have unknown : r.kind = none ↔ 11 < (byteAt r.body 1).toNat := RequestKind.ofCode_eq_none_iff
    rw [← unknown]
    exact ⟨fun same => by rw [← requestKindOf_command, same]; rfl, fun kind => by rw [Request.command, kind]⟩
  · rcases known with rfl | ⟨k, mem⟩
    · exact onRequest_idle _ idle
    · obtain ⟨answer, taken, -⟩ := answers_of_kind (k := ⟨k, kind_lt_of_mem mem⟩) mem
      rw [taken, onRequest_idle answer idle]
  · obtain ⟨answer, taken, denied⟩ := answers_of_kind mem
    rw [taken, onRequest_takes answer h, denied r (s.taken rest) above]
  · have permits : (s.taken rest).permits r .readRecords = true := decide_eq_true permitted
    refine (onRequest_takes _ h).trans ?_
    simp only [unknown, permits, if_true]
    rfl
  · intro counted
    have taken : exec .writeRecords s = .next (if r.table = some .settings then (s.taken rest).answerSettings r
        else (s.taken rest).refuseTable r) := onRequest_takes _ h
    refine ⟨fun other => ?_, fun settings bad => ?_, fun settings good short => ?_, fun settings good long => ?_⟩
    · have permits : (s.taken rest).permits r .writeRecords = true := decide_eq_true permitted
      rw [taken, if_neg other, State.refuseTable, permits]
      rfl
    · rw [taken, if_pos settings, State.answerSettings,
        answerWrite_uncounted (s := s.taken rest) _ _ _ permitted (uncounted_iff.mpr bad)]
    · rw [taken, if_pos settings, State.answerSettings, answerWrite_short (s := s.taken rest) _ _ _ permitted
        (countOrDirectionBad_iff.mpr good) (by rw [Nat.mul_comm]; exact short)]
    · have command : settingCommand r.indexByte.toNat = .writeRecords := by
        have whole := (command_of_write (row := .writeRecords) rfl).mp h.2.2.2
        rw [Request.writeCommand, settings] at whole
        exact whole.2
      rw [taken, if_pos settings, answerSettings_refused (s := s.taken rest) permitted (countOrDirectionBad_iff.mpr good)
        (by omega) command]

end Sys2Proof.Machine
end

section
/-! PROOFS. The checks of a write as a whole, and the records taken in order (R170, R172). -/

namespace Sys2Proof.Machine

variable {s t : State} {r : Request} {rest : List Request} {row : Instr} {i j m start : Nat} {down : Bool}
  {owner : OwnerWrite} {size : Nat} {bs : List (List Byte)}

/-! ## The indices of the records -/

/-- R172: the index of the `j`th record of a write; none below 0. -/
def recordIndex (down : Bool) (start j : Nat) : Option Nat :=
  if down = true ∧ start < j then none else some (if down then start - j else start + j)

theorem stepIndex_recordIndex (held : recordIndex down start j = some i) : stepIndex down i = recordIndex down start (j + 1) := by
  unfold recordIndex at held ⊢
  split at held
  · cases held
  · rename_i inside
    obtain rfl := Option.some.inj held
    cases down with
    | false => rfl
    | true =>
      simp only [true_and, not_lt] at inside
      simp only [stepIndex, if_true, true_and]
      by_cases last : start = j
      · subst last
        simp
      · rw [if_neg (by omega), if_neg (by omega)]
        congr 1

/-! ## Records one after another -/

theorem chunks_getElem? (size n : Nat) (bytes : List Byte) (j : Nat) :
    (chunks size n bytes)[j]? = if j < n then some ((bytes.drop (j * size)).take size) else none := by
  induction n generalizing bytes j with
  | zero => simp [chunks]
  | succ n ih =>
    cases j with
    | zero => simp [chunks]
    | succ j =>
      rw [chunks, List.getElem?_cons_succ, ih, List.drop_drop]
      simp only [Nat.add_lt_add_iff_right, Nat.succ_mul, Nat.add_comm]

/-- R172: the first records, each taken by the owner. -/
theorem writeEach_written (σ : Nat → State) (written : ∀ k, k < m → ∃ i b, recordIndex down start k = some i ∧ i < size ∧
      bs[k]? = some b ∧ owner i b (σ k) = .ok (σ (k + 1))) :
    writeEach owner size down (recordIndex down start 0) bs 0 (σ 0) =
      writeEach owner size down (recordIndex down start m) (bs.drop m) m (σ m) := by
  induction m with
  | zero => rfl
  | succ m ih =>
    rw [ih fun k lt => written k (Nat.lt_succ_of_lt lt)]
    obtain ⟨i, b, index, inside, record, taken⟩ := written m (Nat.lt_succ_self m)
    obtain ⟨h, rfl⟩ := List.getElem?_eq_some_iff.mp record
    rw [List.drop_eq_getElem_cons h, index, writeEach, if_pos inside, taken, ← stepIndex_recordIndex index]

/-! ## Ceilings -/

/-- R170: the state once the first `m` ceilings of a write stand. -/
def State.ceilings (down : Bool) (start : Nat) (values : List Byte) : Nat → State → State
  | 0, s => s
  | m + 1, s =>
    let t := s.ceilings down start values m
    { t with permissions :=
        t.permissions.set (Fin.ofNat 12 (if down then start - m else start + m)) (byteAt values m).toNat (Fin.isLt _) }

theorem ceilings_eq (down : Bool) (start : Nat) (values : List Byte) (m : Nat) (s : State) :
    s.ceilings down start values m = { s with permissions := (s.ceilings down start values m).permissions } := by
  induction m with
  | zero => rfl
  | succ m ih =>
    rw [State.ceilings, ih]

/-- The `j`th index of a PERMISSION write lies in the table. -/
def ceilingInside (down : Bool) (start j : Nat) : Prop :=
  (if down then start - j else start + j) < 12 ∧ (down = true → j ≤ start)

theorem recordIndex_of_inside (inside : ceilingInside down start j) :
    recordIndex down start j = some (if down then start - j else start + j) := by
  rw [recordIndex, if_neg]
  rintro ⟨held, beyond⟩
  have := inside.2 held
  omega

theorem index_injective (inside : ceilingInside down start j) (inside' : ceilingInside down start i)
    (same : (if down then start - j else start + j) = if down then start - i else start + i) : j = i := by
  obtain ⟨-, within⟩ := inside
  obtain ⟨-, within'⟩ := inside'
  cases down <;> simp at same within within' <;> omega

/-- R170: what stands in the Permission Table after the first `m`. -/
theorem ceilings_permissions {values : List Byte} (inside : ∀ j, j < m → ceilingInside down start j) (s : State) (k : Fin 12) :
    (∀ j, j < m → k.val = (if down then start - j else start + j) →
      (s.ceilings down start values m).permissions[k] = (byteAt values j).toNat) ∧
    ((∀ j, j < m → k.val ≠ if down then start - j else start + j) →
      (s.ceilings down start values m).permissions[k] = s.permissions[k]) := by
  induction m with
  | zero => exact ⟨fun j lt => absurd lt (Nat.not_lt_zero j), fun _ => rfl⟩
  | succ m ih =>
    obtain ⟨written, kept⟩ := ih fun j lt => inside j (Nat.lt_succ_of_lt lt)
    have last := inside m (Nat.lt_succ_self m)
    have place : (Fin.ofNat 12 (if down then start - m else start + m)).val = if down then start - m else start + m :=
      Nat.mod_eq_of_lt last.1
    have step : (s.ceilings down start values (m + 1)).permissions[k] =
        if k.val = (if down then start - m else start + m) then (byteAt values m).toNat
        else (s.ceilings down start values m).permissions[k] := by
      simp only [State.ceilings, Fin.getElem_fin, Vector.getElem_set, place, eq_comm]
    rw [step]
    refine ⟨fun j lt same => ?_, fun apart => ?_⟩
    · by_cases own : j = m
      · rw [if_pos (by rw [same, own]), own]
      · have before : j < m := by omega
        rw [if_neg fun hit => own (index_injective (inside j lt) last (same.symm.trans hit))]
        exact written j before same
    · rw [if_neg (apart m (Nat.lt_succ_self m))]
      exact kept fun j lt => apart j (Nat.lt_succ_of_lt lt)

/-- R170: a ceiling is taken up to 3. -/
theorem writeCeiling_eq {values : List Byte} (within : j < values.length) (i : Nat) (s : State) :
    writeCeiling i ((values.drop (j * 1)).take 1) s = if (byteAt values j).toNat ≤ 3 then
      .ok { s with permissions := s.permissions.set (Fin.ofNat 12 i) (byteAt values j).toNat (Fin.isLt _) }
    else .error .badValue := by
  have value : natAt ((values.drop (j * 1)).take 1) 0 1 = (byteAt values j).toNat := by
    rw [natAt_eq_sum (by simp; omega)]
    simp [byteAt_take_drop]
  simp only [writeCeiling, value]

/-- R170, R172: the records of a PERMISSION write, up to the first that is refused. -/
theorem writeCeilings (index : r.indexByte.toNat = start) (direction : (r.direction == some true) = down)
    (long : r.count ≤ r.values.length) (upTo : m ≤ r.count)
    (good : ∀ j, j < m → ceilingInside down start j ∧ (byteAt r.values j).toNat ≤ 3)
    (stops : m < r.count → ¬(ceilingInside down start m ∧ (byteAt r.values m).toNat ≤ 3)) (s : State) :
    s.writeRecordsOf r .permission writeCeiling = {
      state := s.ceilings down start r.values m, count := m,
      status := if m = r.count then .done
        else if (if down then start - m else start + m) < 12 ∧ (down = true → m ≤ start) then .badValue else .badIndex } := by
  have first : recordIndex down start 0 = some start := by
    simp [recordIndex]
  have records (j : Nat) : (chunks 1 r.count r.values)[j]? =
      if j < r.count then some ((r.values.drop (j * 1)).take 1) else none := chunks_getElem? ..
  have advance := writeEach_written (m := m) (owner := writeCeiling) (size := 12) (bs := chunks 1 r.count r.values) (down := down)
    (start := start) (fun k => s.ceilings down start r.values k) fun k lt => by
      obtain ⟨inside, value⟩ := good k lt
      refine ⟨_, _, recordIndex_of_inside inside, inside.1, (records k).trans (if_pos (by omega)), ?_⟩
      rw [writeCeiling_eq (by omega), if_pos value]
      rfl
  rw [first] at advance
  change writeEach writeCeiling 12 (r.direction == some true) (some r.indexByte.toNat) (chunks 1 r.count r.values) 0 s = _
  rw [direction, index]
  refine advance.trans ?_
  by_cases all : m = r.count
  · have none_left : (chunks 1 r.count r.values).drop m = [] := by
      rw [List.drop_eq_nil_iff]
      have := records m
      rw [if_neg (by omega), List.getElem?_eq_none_iff] at this
      exact this
    rw [none_left, if_pos all]
    cases recordIndex down start m <;> rfl
  · have more : m < r.count := by omega
    have record := records m
    rw [if_pos more] at record
    obtain ⟨h, record⟩ := List.getElem?_eq_some_iff.mp record
    rw [List.drop_eq_getElem_cons h, record, if_neg all]
    by_cases inside : ceilingInside down start m
    · have high : ¬(byteAt r.values m).toNat ≤ 3 := fun low => stops more ⟨inside, low⟩
      rw [recordIndex_of_inside inside, writeEach, if_pos inside.1, writeCeiling_eq (by omega), if_neg high]
      unfold ceilingInside at inside
      rw [if_pos inside]
    · have outside := inside
      unfold ceilingInside at outside
      rw [if_neg outside, recordIndex]
      split
      · rfl
      · rename_i held
        rw [writeEach, if_neg]
        exact fun below => inside ⟨below, fun down => Nat.not_lt.mp fun beyond => held ⟨down, beyond⟩⟩

/-! ## The whole write -/

/-- R172: the first record's index. -/
theorem answerWrite_outside (t : Table) (owner : OwnerWrite) (after : Nat → State → State) (permitted : r.cls ≤ s.permissions[2])
    (counted : r.countOrDirectionBad = false) (long : r.count * t.recordBytes ≤ r.values.length)
    (outside : t.size ≤ r.indexByte.toNat) (idle : ∀ s, after 0 s = s) :
    s.answerWrite r t owner after = s.respond r .badIndex 0 [] := by
  have some_records : r.count ≠ 0 := by
    have := (countOrDirectionBad_iff.mp counted).1
    omega
  obtain ⟨n, count⟩ := Nat.exists_eq_succ_of_ne_zero some_records
  have written : s.writeRecordsOf r t owner = { state := s, count := 0, status := .badIndex } := by
    rw [State.writeRecordsOf, count, chunks, writeEach, if_neg (by omega)]
  rw [answerWrite_ok t owner after permitted counted long, written, idle]

theorem direction_eq (known : byteAt r.body 7 = 0#8 ∨ byteAt r.body 7 = 1#8) :
    (r.direction == some true) = decide (byteAt r.body 7 = 1#8) := by
  obtain h | h := known <;> simp [Request.direction, readMark, h]

/-- Settles O39. -/
theorem writeRequestChecks : Obligations.WriteRequestChecks := by
  unfold Obligations.WriteRequestChecks
  refine ⟨⟨fun row t size n r rest s mem h permitted => ?_, fun row i lo hi r rest s mem h permitted => ?_⟩,
    fun m r rest s h permitted low high direction long => ?_⟩
  · obtain ⟨table, owner, after, rfl, rfl, idle, answers⟩ := answers_table mem
    have taken := (answers s).trans (onRequest_takes _ h)
    refine ⟨fun bad => ?_, fun good short => ?_, fun good long outside => ?_⟩
    · rw [taken, answerWrite_uncounted (s := s.taken rest) _ _ _ permitted (uncounted_iff.mpr bad)]
    · rw [taken, answerWrite_short (s := s.taken rest) _ _ _ permitted (countOrDirectionBad_iff.mpr good) short]
    · rw [taken, answerWrite_outside (s := s.taken rest) _ _ _ permitted (countOrDirectionBad_iff.mpr good) long outside idle]
  · have taken := (answers_setting mem s).trans (onRequest_takes _ h)
    refine ⟨fun bad => ?_, fun good short => ?_⟩
    · rw [taken, State.answerSettings, answerWrite_uncounted (s := s.taken rest) _ _ _ permitted (uncounted_iff.mpr bad)]
    · rw [taken, State.answerSettings, answerWrite_short (s := s.taken rest) .settings _ _ permitted
        (countOrDirectionBad_iff.mpr good) short]
  · intro index inside good upTo accepted stops
    have counted : r.countOrDirectionBad = false := countOrDirectionBad_iff.mpr ⟨low, high, direction⟩
    have inside_iff (j : Nat) : inside j ↔ ceilingInside (decide (byteAt r.body 7 = 1#8)) r.indexByte.toNat j := by
      simp only [ceilingInside, decide_eq_true_eq]
      rfl
    have written := writeCeilings (m := m) rfl (direction_eq direction) long upTo
      (fun j lt => ⟨(inside_iff j).mp (accepted j lt).1, (accepted j lt).2⟩)
      (fun lt held => stops lt ⟨(inside_iff m).mpr held.1, held.2⟩) (s.taken rest)
    have places := ceilings_permissions (values := r.values) (fun j lt => (inside_iff j).mp (accepted j lt).1) (s.taken rest)
    simp only [decide_eq_true_eq] at written places
    refine ⟨(s.taken rest).ceilings (decide (byteAt r.body 7 = 1#8)) r.indexByte.toNat r.values m, ?_, ceilings_eq .., places⟩
    refine (onRequest_takes _ h).trans ?_
    rw [answerWrite_ok (s := s.taken rest) .permission writeCeiling nothingAfter permitted counted
      (by rw [show Table.permission.recordBytes = 1 from rfl, Nat.mul_one]; exact long), written]
    rfl

end Sys2Proof.Machine
end

section
/-! PROOFS. The records of 12.4 read back from their bytes (R181, R182). -/

namespace Sys2Proof.Machine

variable {l m : List Byte} {o w v : Nat} {b : Byte}

/-! ## Fields -/

theorem byteAt_zero (b : Byte) (l : List Byte) : byteAt (b :: l) 0 = b := rfl

theorem byteAt_succ (b : Byte) (l : List Byte) (o : Nat) : byteAt (b :: l) (o + 1) = byteAt l o := rfl

theorem byteAt_skip (within : l.length ≤ o) : byteAt (l ++ m) o = byteAt m (o - l.length) := by
  simp only [byteAt, List.getD_eq_getElem?_getD, List.getElem?_append_right within]

theorem natAt_succ (b : Byte) (l : List Byte) (o w : Nat) : natAt (b :: l) (o + 1) w = natAt l o w := rfl

theorem natAt_skip (within : l.length ≤ o) (w : Nat) : natAt (l ++ m) o w = natAt m (o - l.length) w := by
  rw [natAt, List.drop_append, List.drop_eq_nil_of_le within, List.nil_append, natAt]

theorem natAt_front (fits : v < 256 ^ w) (l : List Byte) : natAt (beBytes w v ++ l) 0 w = v := by
  have first : (beBytes w v ++ l).take w = beBytes w v := by
    rw [List.take_append_of_le_length (by simp), List.take_of_length_le (by simp)]
  rw [natAt, List.drop_zero, first, beNat_beBytes w v fits]

theorem natAt_last (fits : v < 256 ^ w) : natAt (beBytes w v) 0 w = v := by
  have := natAt_front fits []
  rwa [List.append_nil] at this

theorem natAt_byte (b : Byte) (l : List Byte) : natAt (b :: l) 0 1 = b.toNat := by simp [natAt]

theorem natAt_one (fits : v < 256) (l : List Byte) : natAt (oneByte v :: l) 0 1 = v := by
  rw [natAt_byte, oneByte, BitVec.toNat_ofNat, Nat.mod_eq_of_lt fits]

theorem readMark_markByte (mark : Bool) : readMark (markByte mark) = some mark := by cases mark <;> rfl

theorem readMark_eq_none_iff : readMark b = none ↔ 1 < b.toNat := by
  simp only [readMark, ← BitVec.toNat_inj]
  split
  · simp_all
  · split
    · simp_all
    · simp_all
      omega

theorem natAt_word16 (x : BitVec 16) (l : List Byte) : natAt (beBytes 2 x.toNat ++ l) 0 2 = x.toNat := natAt_front x.isLt l

theorem natAt_word32 (x : BitVec 32) (l : List Byte) : natAt (beBytes 4 x.toNat ++ l) 0 4 = x.toNat := natAt_front x.isLt l

theorem natAt_word32_last (x : BitVec 32) : natAt (beBytes 4 x.toNat) 0 4 = x.toNat := natAt_last x.isLt

theorem natAt_word16_last (x : BitVec 16) : natAt (beBytes 2 x.toNat) 0 2 = x.toNat := natAt_last x.isLt

theorem natAt_address (x : BitVec 48) (l : List Byte) : natAt (beBytes 6 x.toNat ++ l) 0 6 = x.toNat := natAt_front x.isLt l

/-! ## Records -/

theorem readCarrierRecord_bytes (k : CarrierConfig) : readCarrierRecord k.bytes = some k := by
  simp [readCarrierRecord, CarrierConfig.bytes, byteAt_zero, byteAt_succ, byteAt_skip, natAt_succ, natAt_skip, natAt_word16,
    readMark_markByte]

theorem readUnitRecord_bytes (k : UnitConfig) : readUnitRecord k.bytes = some k := by
  simp [readUnitRecord, UnitConfig.bytes, byteAt_zero, byteAt_succ, natAt_succ, natAt_skip, natAt_word16, natAt_word16_last,
    natAt_address, readMark_markByte]

theorem ActionKind.ofCode_code (k : ActionKind) : ActionKind.ofCode (oneByte k.code) = some k := by cases k <;> rfl

theorem readActionRecord_bytes (a : ActionEntry) (keyOffset : a.keyOffset < 256) (keyWidth : a.keyWidth < 256)
    (unitOffset : a.unitOffset < 256) (unitWidth : a.unitWidth < 256) (unitShift : a.unitShift < 256) (cls : a.cls < 256)
    (bodyOffset : a.bodyOffset < 256) : readActionRecord a.bytes = some a := by
  simp [readActionRecord, ActionEntry.bytes, byteAt_zero, byteAt_succ, natAt_succ, natAt_skip, natAt_word16, natAt_one, *,
    readMark_markByte, ActionKind.ofCode_code]

theorem PortFilter.ofCode_code (f : PortFilter) : PortFilter.ofCode (oneByte f.code) = some f := by cases f <;> rfl

theorem FieldTest.ofCode_code (f : FieldTest) : FieldTest.ofCode (oneByte f.code) = some f := by cases f <;> rfl

theorem readOutcome_result {a : Nat} (fits : a < 256) : readOutcome 0#8 (oneByte a) = if a ≤ 31 then some (.result a) else none := by
  have small : (oneByte a).toNat = a := by rw [oneByte, BitVec.toNat_ofNat, Nat.mod_eq_of_lt fits]
  simp [readOutcome, readMark, small]

theorem readOutcome_skip {k : Nat} (fits : k < 256) :
    readOutcome 1#8 (oneByte k) = if 1 ≤ k ∧ k ≤ 15 then some (.skip k) else none := by
  have small : (oneByte k).toNat = k := by rw [oneByte, BitVec.toNat_ofNat, Nat.mod_eq_of_lt fits]
  simp [readOutcome, readMark, small]

theorem readEntryRecord_fields (e : Entry) (offset : e.offset < 256) (width : e.width < 256) (x y : Byte)
    (bytes : e.outcome.bytes = [x, y]) : readEntryRecord e.bytes = (readOutcome x y).bind fun outcome =>
      if e.offset ≤ 127 ∧ (e.width = 1 ∨ e.width = 2 ∨ e.width = 4) then some { e with outcome := outcome } else none := by
  simp [readEntryRecord, Entry.bytes, bytes, byteAt_zero, byteAt_succ, natAt_succ, natAt_skip, natAt_one, offset, width,
    natAt_word32, natAt_word32_last, readMark_markByte, PortFilter.ofCode_code, FieldTest.ofCode_code]
  cases readOutcome x y <;> rfl

theorem readEntryRecord_of_outcome {e : Entry} {x y : Byte} {o : EntryOutcome} (own : e.outcome = o) (bytes : o.bytes = [x, y])
    {p : Prop} [Decidable p] (read : readOutcome x y = if p then some o else none)
    (fits : e.fits ↔ (e.offset ≤ 127 ∧ (e.width = 1 ∨ e.width = 2 ∨ e.width = 4)) ∧ p) (offset : e.offset < 256)
    (width : e.width < 256) : (e.fits → readEntryRecord e.bytes = some e) ∧ (¬e.fits → readEntryRecord e.bytes = none) := by
  have same : { e with outcome := o } = e := by rw [← own]
  rw [readEntryRecord_fields e offset width x y (by rw [own, bytes]), read, fits]
  by_cases ranged : p
  · rw [if_pos ranged, Option.bind_some, same]
    exact ⟨fun inside => if_pos inside.1, fun outside => if_neg fun inside => outside ⟨inside, ranged⟩⟩
  · rw [if_neg ranged, Option.bind_none]
    exact ⟨fun inside => absurd inside.2 ranged, fun _ => rfl⟩

/-- R24: an entry is taken when it lies in its ranges. -/
theorem readEntryRecord_bytes (e : Entry) (offset : e.offset < 256) (width : e.width < 256)
    (result : ∀ a, e.outcome = .result a → a < 256) (skip : ∀ k, e.outcome = .skip k → k < 256) :
    (e.fits → readEntryRecord e.bytes = some e) ∧ (¬e.fits → readEntryRecord e.bytes = none) := by
  cases outcome : e.outcome with
  | result a =>
    exact readEntryRecord_of_outcome outcome rfl (readOutcome_result (result a outcome)) (by simp [Entry.fits, outcome, and_assoc]) offset width
  | skip k =>
    exact readEntryRecord_of_outcome outcome rfl (readOutcome_skip (skip k outcome)) (by simp [Entry.fits, outcome, and_assoc]) offset width

theorem readProfileRecord_bytes (p : Profile) (mark : Bool) (sleep : p.sleepThreshold < 2 ^ 32) (cancel : p.cancelThreshold < 2 ^ 32)
    (ceiling : p.ceiling < 2 ^ 32) (relief : p.reliefThreshold < 2 ^ 32) (idle : p.idleRunLength < 256) (shift : p.shift < 256)
    (quiet : p.quietWindows < 256) (drain : p.drainTimeout < 65536) (settle : p.settleTime < 256) (dwell : p.dwellMinimum < 65536)
    (deepen : p.deepenDelay < 65536) : readProfileRecord (p.bytes mark) = p := by
  have four {v : Nat} (fits : v < 2 ^ 32) (l : List Byte) : natAt (beBytes 4 v ++ l) 0 4 = v := natAt_front fits l
  have two {v : Nat} (fits : v < 65536) (l : List Byte) : natAt (beBytes 2 v ++ l) 0 2 = v := natAt_front fits l
  have last {v : Nat} (fits : v < 65536) : natAt (beBytes 2 v) 0 2 = v := natAt_last fits
  simp [readProfileRecord, Profile.bytes, natAt_succ, natAt_skip, natAt_one, four sleep, four cancel, four ceiling, four relief,
    two drain, two dwell, last deepen, idle, shift, quiet, settle]

theorem readWindowRecord_bytes (w : QuietWindow) (mark : Bool) (start : w.start < 65536) (stop : w.stop < 65536) :
    readWindowRecord (w.bytes mark) = if w.start ≤ 1439 ∧ w.stop ≤ 1439 then some w else none := by
  have two {v : Nat} (fits : v < 65536) (l : List Byte) : natAt (beBytes 2 v ++ l) 0 2 = v := natAt_front fits l
  simp [readWindowRecord, QuietWindow.bytes, byteAt_zero, byteAt_succ, natAt_succ, natAt_skip, two start, two stop,
    natAt_word32_last, readMark_markByte]

end Sys2Proof.Machine
end

section
/-! PROOFS. Writes of one record: ACTION, CLASSIFIER-STANDBY, PROFILE, WINDOW, RADIO-UNIT (R24, R33, R61, R88, R142). -/

namespace Sys2Proof.Machine

variable {s t : State} {r : Request} {rest : List Request} {row : Instr} {i : Nat} {b record : List Byte} {owner : OwnerWrite}
  {table : Table} {after : Nat → State → State}

/-! ## One record -/

/-- R172: the owner of the table decides on the one record. -/
theorem one_record (answers : ∀ s, exec row s = onRequest row (fun r s => s.answerWrite r table owner after) s)
    (h : Takes row s r rest) (permitted : r.cls ≤ s.permissions[2]) (one : OneRecord r i record)
    (length : record.length = table.recordBytes) (bound : i < table.size) :
    exec row s = match owner i record (s.taken rest) with
      | .error status => .next ((after 0 (s.taken rest)).respond r status 0 [])
      | .ok u => .next ((after 1 u).respond r .done 1 []) := by
  rw [answers, onRequest_takes _ h, answerWrite_one (s := s.taken rest) table owner after i record permitted one length bound]
  cases owner i record (s.taken rest) <;> rfl

theorem ofNat_val {n : Nat} [NeZero n] (k : Fin n) : Fin.ofNat n k.val = k := Fin.ext (Nat.mod_eq_of_lt k.isLt)

/-! ## ACTION -/

theorem writeActionRecord_eq (n : Fin 32) {a : ActionEntry} (read : readActionRecord b = some a) (s : State) :
    writeActionRecord n b s = if a.valuesOk then .ok { s with actions := s.actions.set n a } else .error .badValue := by
  simp only [writeActionRecord, read, ofNat_val]

theorem ActionKind.ofCode_unknown {x : Byte} (above : 7 < x.toNat) : ActionKind.ofCode x = none := by
  unfold ActionKind.ofCode
  split <;> simp_all

theorem readActionRecord_unknown (bad : 1 < (byteAt b 0).toNat ∨ 7 < (byteAt b 1).toNat) : readActionRecord b = none := by
  unfold readActionRecord
  split
  · rcases bad with mark | kind
    · simp_all [readMark_eq_none_iff.mpr mark]
    · simp_all [ActionKind.ofCode_unknown kind]
  · rfl

/-! ## CLASSIFIER-STANDBY -/

theorem writeStandbyRecord_eq (n : Fin 64) {e : Entry} (read : readEntryRecord b = some e) (s : State) :
    writeStandbyRecord n b s = if s.classifier.swap = none then .ok (s.setClassifier (s.classifier.setBank
        (!s.classifier.selector) ((s.classifier.bank (!s.classifier.selector)).set n e)))
      else .error .swapPending := by
  simp only [writeStandbyRecord, read, ofNat_val]
  cases s.classifier.swap <;> rfl

theorem writeStandbyRecord_unread (read : readEntryRecord b = none) (s : State) :
    writeStandbyRecord i b s = .error .badValue := by
  simp only [writeStandbyRecord, read]

theorem PortFilter.ofCode_unknown {x : Byte} (above : 2 < x.toNat) : PortFilter.ofCode x = none := by
  unfold PortFilter.ofCode
  split <;> simp_all

theorem FieldTest.ofCode_unknown {x : Byte} (above : 3 < x.toNat) : FieldTest.ofCode x = none := by
  unfold FieldTest.ofCode
  split <;> simp_all

theorem readEntryRecord_unknown (bad : 1 < (byteAt b 0).toNat ∨ 2 < (byteAt b 1).toNat ∨ 3 < (byteAt b 4).toNat ∨
    1 < (byteAt b 5).toNat) : readEntryRecord b = none := by
  unfold readEntryRecord
  split
  · rcases bad with mark | filter | test | outcome
    · simp_all [readMark_eq_none_iff.mpr mark]
    · simp_all [PortFilter.ofCode_unknown filter]
    · simp_all [FieldTest.ofCode_unknown test]
    · simp_all [readOutcome, readMark_eq_none_iff.mpr outcome]
  · rfl

theorem setBank_eq (k : Classifier) (b : Bool) (v : Vector Entry 64) :
    k.setBank b v = { k with bank0 := (k.setBank b v).bank0, bank1 := (k.setBank b v).bank1 } := by
  cases b <;> rfl

/-- Settles O40. -/
theorem writeActionAndClassifier : Obligations.WriteActionAndClassifier := by
  refine ⟨fun n a r rest s h permitted one keyOffset keyWidth unitOffset unitWidth unitShift cls bodyOffset => ?action,
    fun n e r rest s h permitted one offset width result skip => ?entry,
    fun n b r rest s h permitted one length bad => ?badAction, fun n b r rest s h permitted one length bad => ?badEntry⟩
  case action =>
    have taken := one_record (fun _ => rfl) h permitted one (table := .action) (owner := writeActionRecord)
      (after := nothingAfter) (by simp [ActionEntry.bytes, Table.recordBytes]) n.isLt
    rw [writeActionRecord_eq n (readActionRecord_bytes a keyOffset keyWidth unitOffset unitWidth unitShift cls bodyOffset)]
      at taken
    refine ⟨fun inside => ?_, fun outside => ?_⟩
    · rw [taken, if_pos ((ActionEntry.valuesOk_iff a).mpr inside)]
      rfl
    · rw [taken, if_neg fun ok => outside ((ActionEntry.valuesOk_iff a).mp ok)]
      rfl
  case entry =>
    have taken := one_record (fun _ => rfl) h permitted one (table := .classifierStandby) (owner := writeStandbyRecord)
      (after := nothingAfter) (by cases shape : e.outcome <;> simp [Entry.bytes, EntryOutcome.bytes, Table.recordBytes, shape]) n.isLt
    obtain ⟨read, unread⟩ := readEntryRecord_bytes e offset width result skip
    refine ⟨fun inside idle => ?_, fun inside pending => ?_, fun outside => ?_⟩
    · rw [writeStandbyRecord_eq n (read inside), if_pos (show (s.taken rest).classifier.swap = none from idle)] at taken
      refine ⟨_, taken, rfl, setBank_eq .., ?_, ?_⟩
      · exact (bank_setBank ..).trans (if_neg (by simp))
      · exact (bank_setBank ..).trans (if_pos rfl)
    · rw [writeStandbyRecord_eq n (read inside), if_neg (show ¬(s.taken rest).classifier.swap = none from pending)] at taken
      exact taken
    · rw [writeStandbyRecord_unread (unread outside)] at taken
      exact taken
  case badAction =>
    have taken := one_record (fun _ => rfl) h permitted one (table := .action) (owner := writeActionRecord)
      (after := nothingAfter) length n.isLt
    simp only [writeActionRecord, readActionRecord_unknown bad] at taken
    exact taken
  case badEntry =>
    have taken := one_record (fun _ => rfl) h permitted one (table := .classifierStandby) (owner := writeStandbyRecord)
      (after := nothingAfter) length n.isLt
    rw [writeStandbyRecord_unread (readEntryRecord_unknown bad)] at taken
    exact taken

/-! ## PROFILE -/

theorem writeProfileRecord_eq (n : ProfileIx) {p : Profile} (read : readProfileRecord b = p) (s : State) :
    writeProfileRecord n b s = if p.valuesOk then
      .ok { s with profiles := s.profiles.set n { inForce := (s.profiles[n]).inForce, written := p, pending := true } }
    else .error .badValue := by
  simp only [writeProfileRecord, read, ofNat_val]

/-! ## WINDOW -/

theorem writeWindowRecord_eq (n : Fin 4) {w : QuietWindow} (read : readWindowRecord b = some w) (s : State) :
    writeWindowRecord n b s = .ok { s with windows := s.windows.set n w } := by
  simp only [writeWindowRecord, read, ofNat_val]

theorem writeWindowRecord_unread (read : readWindowRecord b = none) (s : State) :
    writeWindowRecord i b s = .error .badValue := by
  simp only [writeWindowRecord, read]

theorem readWindowRecord_unknown (bad : 1 < (byteAt b 0).toNat ∨ 1 < (byteAt b 1).toNat) : readWindowRecord b = none := by
  unfold readWindowRecord
  split
  · rcases bad with mark | depth
    · simp_all [readMark_eq_none_iff.mpr mark]
    · simp_all [readMark_eq_none_iff.mpr depth]
  · rfl

/-- Settles O41. -/
theorem writeProfileAndWindow : Obligations.WriteProfileAndWindow := by
  refine ⟨fun n p mark r rest s h permitted one sleep cancel ceiling relief idle shift quiet drain settle dwell deepen => ?profile,
    fun n w mark r rest s h permitted one start stop => ?window, fun n b r rest s h permitted one length bad => ?bad⟩
  case profile =>
    have taken := one_record (fun _ => rfl) h permitted one (table := .profile) (owner := writeProfileRecord)
      (after := nothingAfter) (by simp [Profile.bytes, Table.recordBytes]) n.isLt
    rw [writeProfileRecord_eq n
      (readProfileRecord_bytes p mark sleep cancel ceiling relief idle shift quiet drain settle dwell deepen)] at taken
    intro inRange record
    have ranged : p.inRange ↔ inRange := by
      simp only [Profile.inRange, inRange]
      omega
    refine ⟨fun inside => ?_, fun outside => ?_⟩
    · rw [taken, if_pos ((Profile.valuesOk_iff p).mpr (ranged.mpr inside))]
      rfl
    · rw [taken, if_neg fun ok => outside (ranged.mp ((Profile.valuesOk_iff p).mp ok))]
      rfl
  case window =>
    have taken := one_record (fun _ => rfl) h permitted one (table := .window) (owner := writeWindowRecord)
      (after := recomputeAfter) (by simp [QuietWindow.bytes, Table.recordBytes]) n.isLt
    have read := readWindowRecord_bytes w mark start stop
    refine ⟨fun startIn stopIn => ?_, fun outside => ?_⟩
    · rw [if_pos ⟨startIn, stopIn⟩] at read
      rw [writeWindowRecord_eq n read] at taken
      obtain ⟨written, made⟩ : ∃ u : State, u = { s.taken rest with windows := s.windows.set n w } := ⟨_, rfl⟩
      refine ⟨(recomputeEffect written).finish, ?_⟩
      dsimp only
      rw [← made]
      have managed (c : CarrierIx) : written.isManaged c = s.isManaged c := by rw [made]; rfl
      have calendar : written.calendar = s.calendar := by rw [made]; rfl
      refine ⟨taken.trans ?_, keeps_recompute written, fun c there was now => ?_, windowClose_recompute written,
        deepPermission_recompute written, fun quiet deep => ?_⟩
      · rw [made]
        rfl
      · exact recompute_leaves (b := written) ((managed c).trans there) (by rw [calendar]; exact was) now
      · exact recompute_of_same_sets (b := written) (by rw [calendar]; exact quiet) (by rw [calendar]; exact deep)
    · rw [if_neg (by omega)] at read
      rw [writeWindowRecord_unread read] at taken
      exact taken
  case bad =>
    have taken := one_record (fun _ => rfl) h permitted one (table := .window) (owner := writeWindowRecord)
      (after := recomputeAfter) length n.isLt
    rw [writeWindowRecord_unread (readWindowRecord_unknown bad)] at taken
    exact taken

/-! ## RADIO-UNIT -/

theorem UnitConfig.valuesOk_iff (k : UnitConfig) : k.valuesOk = true ↔ (k.inUse = true → k.fits) := by
  rw [← UnitConfig.inRange_iff, UnitConfig.valuesOk]
  cases k.inUse <;> simp

theorem UnitConfig.identityDiffers_iff (k l : UnitConfig) :
    k.identityDiffers l = true ↔ k.inUse ≠ l.inUse ∨ k.address ≠ l.address := by
  simp [UnitConfig.identityDiffers]

theorem unitSettled_iff {u : UnitIx} : s.unitSettled u = true ↔
    (∀ c, s.isManaged c = true → s.unitOf c = u → s.lifeState c = .active ∨ s.lifeState c = .lost) ∧
      ((s.unit u).state = none ∨ ((s.unit u).state = some .up ∨ (s.unit u).state = some .unreachable) ∧
        (s.unit u).queue = [] ∧ (s.unit u).sent = none) := by
  have carriers : (s.unitCarriers u).all (fun c => (s.lifeState c).isSettled) = true ↔
      ∀ c, s.isManaged c = true → s.unitOf c = u → s.lifeState c = .active ∨ s.lifeState c = .lost := by
    simp only [List.all_eq_true, mem_unitCarriers, and_imp, State.isManaged]
    refine forall_congr' fun c => forall_congr' fun managed => forall_congr' fun _ => ?_
    cases state : s.lifeState c <;> simp_all [LifeState.isSettled]
  rw [State.unitSettled, Bool.and_eq_true, carriers]
  refine and_congr_right fun _ => ?_
  split
  · simp [*]
  · simp [*, and_assoc]

theorem writeUnitRecord_eq (u : UnitIx) {k : UnitConfig} (read : readUnitRecord b = some k) (s : State) :
    writeUnitRecord u b s = if k.valuesOk = false then .error .badValue
      else if (s.unitSettings u).identityDiffers k = true ∧ s.unitSettled u = false then .error .stateConflict
      else .ok (s.putUnitRecord u k) := by
  simp only [writeUnitRecord, read, ofNat_val, Bool.and_eq_true, Bool.not_eq_true']

/-- R143: the runtime part of a unit that comes into use, or goes out of it. -/
theorem placeUnit_eq (u : UnitIx) (inUse : Bool) (s : State) : s.placeUnit u inUse = s.setUnit u
    { state := if inUse = false then none else if s.path.linkUp (.branch u) = true then some .up else some .unreachable,
      queue := [], sent := none, attempts := 0, replyTimer := none, releaseTimer := none, deepTimer := none,
      map := (s.unit u).map, resends := 0, discarded := 0 } := by
  cases inUse <;> rfl

/-- Settles O43. -/
theorem writeRadioUnitRecord : Obligations.WriteRadioUnitRecord := by
  refine ⟨fun u b r rest s h permitted one length bad => ?bad, fun u k r rest s h permitted one => ?record⟩
  case bad =>
    have taken := one_record (fun _ => rfl) h permitted one (table := .radioUnit) (owner := writeUnitRecord)
      (after := nothingAfter) length u.isLt
    simp only [writeUnitRecord, readUnitRecord, readMark_eq_none_iff.mpr bad, Option.map_none] at taken
    exact taken
  case record =>
    have taken := one_record (fun _ => rfl) h permitted one (table := .radioUnit) (owner := writeUnitRecord)
      (after := nothingAfter) (by simp [UnitConfig.bytes, Table.recordBytes]) u.isLt
    rw [writeUnitRecord_eq u (readUnitRecord_bytes k)] at taken
    intro badValue x settled conflict written
    have ranged : badValue ↔ k.valuesOk = false := by
      rw [← Bool.not_eq_true, UnitConfig.valuesOk_iff, Classical.not_imp]
      rfl
    have conflicting : conflict ↔ ((s.taken rest).unitSettings u).identityDiffers k = true ∧
        (s.taken rest).unitSettled u = false := by
      rw [UnitConfig.identityDiffers_iff, ← Bool.not_eq_true, unitSettled_iff]
      rfl
    refine ⟨fun bad => ?_, fun good clash => ?_, fun good clear => ?_⟩
    · rw [taken, if_pos (ranged.mp bad)]
      rfl
    · rw [taken, if_neg fun bad => good (ranged.mpr bad), if_pos (conflicting.mp clash)]
      rfl
    · rw [if_neg fun bad => good (ranged.mpr bad), if_neg fun clash => clear (conflicting.mpr clash)] at taken
      refine ⟨fun same => ?_, fun differs => ?_⟩
      · rw [taken, State.putUnitRecord, if_pos (show ((s.taken rest).unitSettings u).inUse = k.inUse from same)]
        rfl
      · rw [taken, State.putUnitRecord, if_neg (show ¬((s.taken rest).unitSettings u).inUse = k.inUse from differs), placeUnit_eq]
        rfl

end Sys2Proof.Machine
end

section
/-! PROOFS. A write of one SETTINGS entry (R173, R129). -/

namespace Sys2Proof.Machine

variable {s t : State} {r : Request} {rest : List Request} {row : Instr} {i lo hi v : Nat} {k : Settings}

/-! ## The writable entries -/

/-- The values of the entries 1 to 11. -/
def Settings.values (k : Settings) : List Nat :=
  [k.typeValue.toNat, k.stationClass, k.trunkGrace, k.actionLimit, k.windowLength, k.lockOutTime, k.holdGuard, k.slots,
   k.advisoryDestination.toNat, k.noticeDestination.toNat, k.noticeEnables.toNat]

theorem settingValue_setSettings (s : State) (k : Settings) (j : Nat) :
    (s.setSettings k).settingValue j = if 1 ≤ j ∧ j ≤ 11 then k.values.getD (j - 1) 0 else s.settingValue j := by
  by_cases writable : 1 ≤ j ∧ j ≤ 11
  · rw [if_pos writable]
    obtain ⟨low, high⟩ := writable
    interval_cases j <;> rfl
  · rw [if_neg writable]
    unfold State.settingValue
    split <;> simp_all
    rfl

theorem settingValue_eq (s : State) (j : Nat) (writable : 1 ≤ j ∧ j ≤ 11) :
    s.settingValue j = s.settings.values.getD (j - 1) 0 :=
  (settingValue_setSettings s s.settings j).trans (if_pos writable)

/-- The settings `k` hold `v` at entry `i`, and at every other what `s` holds there. -/
structure HoldsSetting (i v : Nat) (s : State) (k : Settings) : Prop where
  own : (s.setSettings k).settingValue i = v
  others : ∀ j, j ≠ i → (s.setSettings k).settingValue j = s.settingValue j

theorem holdsSetting_of_values (writable : 1 ≤ i ∧ i ≤ 11) (values : k.values = s.settings.values.set (i - 1) v) :
    HoldsSetting i v s k where
  own := by
    have long : i - 1 < s.settings.values.length := by simp only [Settings.values, List.length_cons, List.length_nil]; omega
    rw [settingValue_setSettings, if_pos writable, values, List.getD_eq_getElem?_getD, List.getElem?_set_self long]
    rfl
  others j apart := by
    rw [settingValue_setSettings]
    split
    · rename_i inside
      rw [settingValue_eq s j inside, values, List.getD_eq_getElem?_getD, List.getElem?_set_ne (by omega),
        ← List.getD_eq_getElem?_getD]
    · rfl

/-- What entry `i` makes of `v`: within `lo` to `hi` it is taken, and raising the warm-up slot count makes grants. -/
structure TakesSetting (i lo hi v : Nat) (s : State) : Prop where
  outside : ¬(lo ≤ v ∧ v ≤ hi) → putSetting i v s = none
  inside : lo ≤ v ∧ v ≤ hi → ∃ k, HoldsSetting i v s k ∧
    putSetting i v s = some (if i = 8 ∧ s.settings.slots < v then (s.setSettings k).work [.grants] else s.setSettings k)

theorem takesSetting_of_plain {p : Prop} [Decidable p] (k : Settings) (range : (lo ≤ v ∧ v ≤ hi) ↔ p)
    (writable : 1 ≤ i ∧ i ≤ 11) (apart : i ≠ 8) (put : putSetting i v s = if p then some (s.setSettings k) else none)
    (values : p → k.values = s.settings.values.set (i - 1) v) : TakesSetting i lo hi v s where
  outside out := by rw [put, if_neg fun held => out (range.mpr held)]
  inside held := ⟨k, holdsSetting_of_values writable (values (range.mp held)), by
    rw [put, if_pos (range.mp held), if_neg fun both => apart both.1]⟩

/-- R129: the warm-up slot count. -/
theorem takesSetting_slots (v : Nat) (s : State) : TakesSetting 8 1 8 v s where
  outside out := if_neg out
  inside held := ⟨{ s.settings with slots := v }, holdsSetting_of_values (by decide) rfl, (if_pos held).trans (by simp)⟩

/-- R173: every writable entry. -/
theorem takesSetting (mem : (row, i, lo, hi) ∈ settingWrites) (v : Nat) (s : State) : TakesSetting i lo hi v s := by
  have small {n : Nat} (fits : v < 2 ^ n) : (BitVec.ofNat n v).toNat = v := by
    rw [BitVec.toNat_ofNat, Nat.mod_eq_of_lt fits]
  simp only [settingWrites, List.mem_cons, Prod.mk.injEq, List.not_mem_nil, or_false] at mem
  rcases mem with ⟨-, rfl, rfl, rfl⟩ | ⟨-, rfl, rfl, rfl⟩ | ⟨-, rfl, rfl, rfl⟩ | ⟨-, rfl, rfl, rfl⟩ | ⟨-, rfl, rfl, rfl⟩ |
    ⟨-, rfl, rfl, rfl⟩ | ⟨-, rfl, rfl, rfl⟩ | ⟨-, rfl, rfl, rfl⟩ | ⟨-, rfl, rfl, rfl⟩ | ⟨-, rfl, rfl, rfl⟩ | ⟨-, rfl, rfl, rfl⟩
  · exact takesSetting_of_plain { s.settings with typeValue := BitVec.ofNat 16 v } Iff.rfl (by decide) (by decide) rfl
      fun held => by simp [Settings.values, small (n := 16) (by omega)]
  · exact takesSetting_of_plain { s.settings with stationClass := v } (by omega) (by decide) (by decide) rfl fun _ => rfl
  · exact takesSetting_of_plain { s.settings with trunkGrace := v } Iff.rfl (by decide) (by decide) rfl fun _ => rfl
  · exact takesSetting_of_plain { s.settings with actionLimit := v } (by omega) (by decide) (by decide) rfl fun _ => rfl
  · exact takesSetting_of_plain { s.settings with windowLength := v } Iff.rfl (by decide) (by decide) rfl fun _ => rfl
  · exact takesSetting_of_plain { s.settings with lockOutTime := v } (by omega) (by decide) (by decide) rfl fun _ => rfl
  · exact takesSetting_of_plain { s.settings with holdGuard := v } (by omega) (by decide) (by decide) rfl fun _ => rfl
  · exact takesSetting_slots v s
  · exact takesSetting_of_plain { s.settings with advisoryDestination := BitVec.ofNat 48 v } (by omega) (by decide) (by decide)
      rfl fun held => by simp [Settings.values, small (n := 48) held]
  · exact takesSetting_of_plain { s.settings with noticeDestination := BitVec.ofNat 48 v } (by omega) (by decide) (by decide)
      rfl fun held => by simp [Settings.values, small (n := 48) held]
  · exact takesSetting_of_plain { s.settings with noticeEnables := BitVec.ofNat 3 v } (by omega) (by decide) (by decide)
      rfl fun held => by simp [Settings.values, small (n := 3) (by omega)]

theorem writeSetting_refused (fits : v < 2 ^ 64) (put : putSetting i v s = none) :
    writeSetting i (beBytes 8 v) s = .error .badValue := by
  simp only [writeSetting, natAt_last (w := 8) fits, put]

theorem writeSetting_taken (fits : v < 2 ^ 64) (put : putSetting i v s = some t) : writeSetting i (beBytes 8 v) s = .ok t := by
  simp only [writeSetting, natAt_last (w := 8) fits, put]

theorem setting_index_lt (mem : (row, i, lo, hi) ∈ settingWrites) : i < 35 := by
  have all : ∀ p ∈ settingWrites, p.2.1 < 35 := by decide
  exact all _ mem

/-! ## The grants of a raised warm-up slot count -/

/-- Settles O44. -/
theorem writeSettings : Obligations.WriteSettings := by
  intro row i lo hi v r rest s mem h permitted one fits
  have taken := one_record (fun s => answers_setting mem s) h permitted one (table := .settings) (owner := writeSetting)
    (after := nothingAfter) (by simp [Table.recordBytes]) (setting_index_lt mem)
  obtain ⟨outside, inside⟩ := takesSetting mem v (s.taken rest)
  refine ⟨fun out => ?_, fun held => ?_⟩
  · rw [writeSetting_refused fits (outside out)] at taken
    exact taken
  · obtain ⟨k, holds, put⟩ := inside held
    rw [writeSetting_taken fits put] at taken
    refine ⟨(s.taken rest).setSettings k, _, taken, ?_, rfl, holds.own, holds.others, fun none_granted => ?_, ?_⟩
    · split
      · exact keeps_work ..
      · exact Keeps.refl _
    · split
      · rename_i raised
        have empty : s.wakeQueue.entries = [] := by
          rcases none_granted with other | low | empty
          · exact absurd raised.1 other
          · exact absurd raised.2 (Nat.not_lt.mpr low)
          · exact empty
        exact work_eq (by decide) (done_grants_of_empty (s := (s.taken rest).setSettings k) empty)
      · rfl
    · intro w cls slots raised room waits queued up directives idle
      subst slots
      have count : k.slots = v := holds.own
      rw [if_pos ⟨rfl, raised⟩]
      obtain ⟨t, done, warmup, left, told, others, -, -⟩ := granted_idle (s := (s.taken rest).setSettings k) (by
        rw [show ((s.taken rest).setSettings k).settings.slots = v from count]; exact room) waits queued up directives idle
      rw [work_eq (by decide) done]
      exact ⟨warmup, left, told, others⟩

end Sys2Proof.Machine
end

section
/-! PROOFS. ACTIVATE-BANK, and what completes a swap (R26, R27). -/

namespace Sys2Proof.Machine

variable {s : State} {mirror : Bool}

theorem outgoingFree_iff {k : Classifier} : k.outgoingFree = true ↔ ∀ w ∈ k.walks, w.bank = k.selector := by
  simp [Classifier.outgoingFree]

/-- R27: a pending swap completes where no walk is bound to the outgoing bank. -/
theorem settleSwap_free (pending : s.classifier.swap = some mirror) (free : ∀ w ∈ s.classifier.walks, w.bank = s.classifier.selector) :
    SwapCompleted mirror s s.settleSwap := by
  rw [State.settleSwap, pending]
  dsimp only
  rw [if_pos (outgoingFree_iff.mpr free)]
  exact swapCompleted_answerSwap mirror s

/-- R27: it waits for a walk bound to the outgoing bank. -/
theorem settleSwap_bound (pending : s.classifier.swap = some mirror)
    (bound : ∃ w ∈ s.classifier.walks, w.bank ≠ s.classifier.selector) : s.settleSwap = s := by
  rw [State.settleSwap, pending]
  obtain ⟨w, mem, other⟩ := bound
  exact if_neg fun free => other (outgoingFree_iff.mp free w mem)

theorem settleSwap_none (idle : s.classifier.swap = none) : s.settleSwap = s := by rw [State.settleSwap, idle]

theorem settleSwap_begun (r : Request) (s : State) (mirror : Bool) :
    ((∃ w ∈ s.classifier.walks, w.bank = s.classifier.selector) → (s.startSwap r mirror).settleSwap = s.startSwap r mirror) ∧
    ((∀ w ∈ s.classifier.walks, w.bank ≠ s.classifier.selector) →
      SwapCompleted mirror (s.startSwap r mirror) (s.startSwap r mirror).settleSwap) := by
  refine ⟨fun ⟨w, mem, own⟩ => settleSwap_bound rfl ⟨w, mem, ?_⟩, fun free => settleSwap_free rfl fun w mem => ?_⟩
  · rw [own]
    exact fun same => Bool.not_ne_self _ same.symm
  · exact Bool.eq_not.mpr (free w mem)

/-- R26: the mirror option is byte 0 of the values. -/
theorem readMark_cases {b : Byte} : readMark b = if b = 0#8 ∨ b = 1#8 then some (b == 1#8) else none := by
  unfold readMark
  split
  · simp [*]
  · split
    · simp [*]
    · simp [*]

/-- R18, R27: a walk that is done, with the swap settled first. -/
theorem settled_of_walkDone {w : Walk} {a : ActionEntry} {s' : State} (done : WalkDone s w a s') :
    ∃ ws, takeWalk w.port s.classifier.walks = some (w, ws) ∧
      let u := (s.setClassifier { s.classifier with walks := ws }).settleSwap
      (s' = u ∨ s' = u.raiseFlag .classifyFault) ∧ (a.kind = .discard → exec (.walkEnds w.port) s = .next s') := by
  obtain ⟨n, good, meaning⟩ := exec_walkEnds_done done
  obtain ⟨_, ⟨ws, oldest, ends⟩, _⟩ := done
  refine ⟨ws, oldest, ?_, fun discard => ?_⟩
  · rcases ends with ⟨-, same⟩ | ⟨-, -, same⟩
    · exact .inl same
    · exact .inr same
  · rw [meaning, disposeFrame, good]
    simp only [discard, finish_of_done]

/-- Settles O45. -/
theorem bankSwap : Obligations.BankSwap := by
  refine ⟨fun r rest s h permitted => ?request, fun w a mirror s s' done pending => ?walk, fun mirror s running pending => ?completes,
    fun s idle => ?idle⟩
  case request =>
    have permission := permission_ok (s := s.taken rest) .activateBank permitted
    have held (values : r.values ≠ []) : r.holds 1 = none := holds_ok 1 (List.length_pos_iff.mpr values)
    intro option begun
    have read (known : option = 0#8 ∨ option = 1#8) : readMark (byteAt r.values 0) = some (option == 1#8) :=
      readMark_cases.trans (if_pos known)
    refine ⟨fun empty => ?_, fun values zero one => ?_, fun values known swap => ?_, fun values known swap => ?_⟩
    · refine (onRequest_takes _ h).trans ?_
      simp only [permission, firstOf_none, holds_short 1 (by rw [empty]; exact Nat.one_pos)]
      rfl
    · have unknown : ¬(byteAt r.values 0 = 0#8 ∨ byteAt r.values 0 = 1#8) := by rintro (h | h); exacts [zero h, one h]
      refine (onRequest_takes _ h).trans ?_
      simp only [permission, firstOf_none, held values, readMark_cases, if_neg unknown]
      rfl
    · obtain ⟨mirror, pending⟩ := Option.ne_none_iff_exists'.mp swap
      refine (onRequest_takes _ h).trans ?_
      simp only [permission, firstOf_none, held values, read known, taken_classifier, pending,
        Option.isSome_some, failIf_true, answer_some]
    · have settles : exec .activateBank s = .next ((s.taken rest).startSwap r (option == 1#8)).settleSwap := by
        refine (onRequest_takes _ h).trans ?_
        simp only [permission, firstOf_none, held values, read known, taken_classifier, swap,
          Option.isSome_none, failIf_false, answer_none]
      obtain ⟨bound, free⟩ := settleSwap_begun r (s.taken rest) (option == 1#8)
      refine ⟨fun walk => ?_, fun clear => ⟨_, free clear, settles⟩⟩
      exact settles.trans (congrArg _ (bound walk))
  case walk =>
    obtain ⟨ws, oldest, next⟩ := settled_of_walkDone done
    refine ⟨ws, oldest, ?_⟩
    intro ended following
    refine ⟨fun bound => ?_, fun free => ⟨_, settleSwap_free (s := ended) pending free, next⟩⟩
    have same : ended.settleSwap = ended := settleSwap_bound (s := ended) pending bound
    exact same ▸ next
  case completes =>
    have settles : exec .swapCompletes s = .next s.settleSwap := congrArg _ (if_pos running)
    refine ⟨fun bound => ?_, fun free => ⟨_, settleSwap_free pending free, settles⟩⟩
    rw [settles, settleSwap_bound pending bound]
  case idle =>
    change Host.Outcome.next (if s.phase = .running then s.settleSwap else s) = _
    rw [settleSwap_none idle, ite_self]

end Sys2Proof.Machine
end

section
/-! PROOFS. IDENTIFY and READ-RECORDS, with the bytes of every record (R171, R173, R182). -/

namespace Sys2Proof.Machine

variable {s : State} {r : Request} {rest : List Request} {t : Table}

/-! ## The layouts of the records -/

theorem oneByte_toNat (b : Byte) : BitVec.ofNat 8 b.toNat = b := BitVec.ofNat_toNat 8 b

theorem ofNat_markOf (b : Bool) : BitVec.ofNat 8 (markOf b) = markByte b := by cases b <;> rfl

theorem beBytes_zero (w : Nat) : beBytes 0 w = [] := rfl

theorem writtenLayouts : WrittenLayouts := by
  refine ⟨fun k => ?_, fun p pending => ?_, fun k => ?_, fun a => ?_, fun e => ?_, fun w mark => ?_⟩
  · simp [CarrierConfig.bytes, ofNat_markOf]
  · simp [Profile.bytes, ofNat_markOf, oneByte]
  · simp [UnitConfig.bytes, ofNat_markOf]
  · simp [ActionEntry.bytes, ofNat_markOf, oneByte]
    rfl
  · cases outcome : e.outcome <;> simp [Entry.bytes, EntryOutcome.bytes, outcome, ofNat_markOf, oneByte]
  · simp [QuietWindow.bytes, ofNat_markOf]

theorem codesOfNames : CodesOfNames := by
  unfold CodesOfNames
  decide

theorem carrierStatusBytes_eq (s : State) (c : CarrierIx) :
    let x := s.carrier c
    let m := x.meter
    let l := x.life
    s.carrierStatusBytes c = laid
      [(4, m.tally), (2, m.sample), (3, m.figure), (1, m.idleRun), (1, m.quietRun), (1, markOf m.primed),
       (3, x.cover.pledge), (3, x.cover.pledgeTotal), (1, l.state.code), (2, l.dwell / 1000), (2, l.drain / 1000),
       (2, l.doze / 60000), (1, l.settle / 1000), (1, l.wakePending.elim 0 fun k => k.cls.code), (1, markOf l.hold),
       (2, l.sinceRelease.elim 0xFFFF fun ms => ms / 1000), (1, markOf x.drainedReceived),
       (1, l.wakePending.elim 0 fun k => k.cause.code), (4, x.counters.metered), (4, x.counters.heldOff),
       (4, x.counters.missed)] := by
  intro x m l
  have release : (l.sinceRelease.elim [0xFF#8, 0xFF#8] fun ms => beBytes 2 (ms / msPerSecond)) =
      beBytes 2 (l.sinceRelease.elim 0xFFFF fun ms => ms / 1000) := by
    cases l.sinceRelease <;> rfl
  unfold State.carrierStatusBytes
  simp only [laid_cons, laid_nil, beBytes_one, ofNat_markOf, oneByte, List.append_assoc, List.cons_append, List.nil_append,
    List.append_nil, ← release]
  rfl

theorem laid_flatMap {α : Type} (l : List α) (f : α → List (Nat × Nat)) : laid (l.flatMap f) = l.flatMap fun x => laid (f x) :=
  List.flatMap_assoc

theorem ofNat_carrierOrNone (c : Option CarrierIx) : BitVec.ofNat 8 (c.elim 0xFF Fin.val) = carrierOrNone c := by cases c <;> rfl

theorem statusBytes_eq (d : Directive) (outstanding : Bool) : d.statusBytes outstanding =
    laid [(1, d.kind.code), (1, d.carrier.elim 0xFF Fin.val), (1, d.token), (1, markOf outstanding)] := by
  simp [Directive.statusBytes, ofNat_markOf, ofNat_carrierOrNone, oneByte]

/-- R159: only the head of a queue can be outstanding. -/
theorem flatMap_behind (l : List Directive) (k : Nat) (outstanding : Bool) :
    ((l.zipIdx (k + 1)).flatMap fun e => e.1.statusBytes (e.2 == 0 && outstanding)) = l.flatMap fun d => d.statusBytes false := by
  induction l generalizing k with
  | nil => rfl
  | cons d ds ih =>
    rw [List.zipIdx_cons, List.flatMap_cons, List.flatMap_cons, ih]
    rfl

theorem queueBytes_eq (x : RadioUnit) : x.queueBytes = laid ((1, x.queue.length) ::
    x.queue.zipIdx.flatMap fun e => [(1, e.1.kind.code), (1, e.1.carrier.elim 0xFF Fin.val), (1, e.1.token),
      (1, markOf (e.2 == 0 && x.sent.isSome))]) := by
  rw [laid_cons, laid_flatMap, beBytes_one]
  simp only [← statusBytes_eq]
  unfold RadioUnit.queueBytes
  split
  · next empty => rw [empty]; rfl
  · next d ds queue =>
    rw [queue, List.zipIdx_cons, List.flatMap_cons, flatMap_behind]
    rfl

theorem radioStatusBytes_eq (s : State) (u : UnitIx) :
    let x := s.unit u
    s.radioStatusBytes u = laid
      ([(1, markOf x.state.isSome), (1, unitStateCode x.state), (1, x.queue.length)] ++
       (x.queue.zipIdx.flatMap fun e => [(1, e.1.kind.code), (1, e.1.carrier.elim 0xFF Fin.val), (1, e.1.token),
         (1, markOf (e.2 == 0 && x.sent.isSome))]) ++
       [(1, x.attempts), (2, x.replyTimer.getD 0), (2, x.releaseTimer.getD 0), (2, x.deepTimer.getD 0 / 1000)] ++
       (x.map.toList.map fun c => (1, c.elim 0xFF Fin.val)) ++
       [(4, x.resends), (4, x.discarded), (1, s.token)]) := by
  intro x
  have map : (laid (x.map.toList.map fun c => (1, c.elim 0xFF Fin.val))) = x.map.toList.map carrierOrNone := by
    induction x.map.toList with
    | nil => rfl
    | cons c cs ih => simp [ih, ofNat_carrierOrNone]
  have queue : x.queueBytes = [BitVec.ofNat 8 x.queue.length] ++ _ := (queueBytes_eq x).trans (by rw [laid_cons, beBytes_one])
  unfold State.radioStatusBytes
  simp only [laid_append, laid_cons, laid_nil, beBytes_one, ofNat_markOf, oneByte, List.append_assoc, List.cons_append,
    List.nil_append, List.append_nil, map]
  change _ :: _ :: (x.queueBytes ++ _) = _
  rw [queue]
  rfl

theorem sleepersBytes_eq (s : State) (a : CarrierIx) :
    let list := if s.isManaged a = true ∧ s.anchorOf a = a then (s.cover a).sleeperList else []
    s.sleepersBytes a = laid ((1, list.length) ::
      list.flatMap fun c => [(1, c.val), (1, (s.lifeState c).code), (1, (s.config c).rank.toNat)]) := by
  intro list
  have same : (if s.isAnchor a then (s.cover a).sleeperList else []) = list := by
    simp only [list, State.isAnchor, Bool.and_eq_true, beq_iff_eq]
  rw [laid_cons, laid_flatMap, beBytes_one, State.sleepersBytes, same]
  simp only [laid_cons, laid_nil, beBytes_one, oneByte_toNat]
  rfl

/-! ## The SETTINGS table and the wake queue -/

theorem toList_eight {α : Type} (v : Vector α 8) : v.toList = [v[0], v[1], v[2], v[3], v[4], v[5], v[6], v[7]] := by
  refine List.ext_getElem (by simp) fun i h _ => ?_
  have small : i < 8 := by simpa using h
  interval_cases i <;> simp

theorem settings_read (s : State) (i : Nat) :
    s.recordAt .settings i = (s.settingsInOrder[i]?).map fun v => laid [(8, v)] := by
  have order : s.settingsInOrder.length = 35 := by simp [State.settingsInOrder]
  by_cases inside : i < 35
  · have value : s.settingsInOrder[i]? = some (s.settingValue i) := by
      rw [State.settingsInOrder, toList_eight]
      interval_cases i <;> rfl
    rw [value, State.recordAt, if_pos inside]
    simp
  · rw [List.getElem?_eq_none (by omega), State.recordAt, if_neg inside]
    rfl

theorem wakeQueue_read (s : State) (i : Nat) :
    s.recordAt .wakeQueue i = ((s.wakeQueue.priority.map (fun w => (w, 3)) ++
      s.wakeQueue.coverage.map (fun w => (w, 2)) ++ s.wakeQueue.ordinary.map (fun w => (w, 1)))[i]?).map
        fun e => laid [(1, e.1.carrier.val), (1, e.2), (1, e.1.depth.code)] := by
  have entries : s.wakeQueue.priority.map (fun w => (w, 3)) ++ s.wakeQueue.coverage.map (fun w => (w, 2)) ++
      s.wakeQueue.ordinary.map (fun w => (w, 1)) = s.wakeQueue.entries.map fun e => (e.1, e.2.code) := by
    simp [WakeQueue.entries, WakeClass.code, Function.comp_def]
  rw [entries, List.getElem?_map, Option.map_map]
  change (s.wakeQueue.entries[i]?).map waitingBytes = _
  congr 1
  funext e
  simp [waitingBytes, oneByte]

theorem recordsRead (s : State) : s.RecordsRead := by
  refine ⟨fun c => dif_pos c.isLt, fun c => (dif_pos c.isLt).trans (congrArg some (carrierStatusBytes_eq s c)),
    fun p => dif_pos p.isLt, fun u => dif_pos u.isLt,
    fun u => (dif_pos u.isLt).trans (congrArg some (radioStatusBytes_eq s u)), fun n => dif_pos n.isLt,
    fun i => ⟨dif_pos i.isLt, dif_pos i.isLt⟩, fun w => dif_pos w.isLt,
    fun k => (dif_pos k.isLt).trans (congrArg some (by simp [oneByte])), settings_read s, by simp [State.recordAt],
    wakeQueue_read s, fun a => (dif_pos a.isLt).trans (congrArg some (sleepersBytes_eq s a))⟩

/-! ## A read -/

/-- R171: the records come in the order of the indices, up to the first that there is not. -/
theorem readFrom_records (s : State) (t : Table) (indices : List Nat) :
    (s.readFrom t indices).length ≤ indices.length ∧
    (∀ j i, j < (s.readFrom t indices).length → indices[j]? = some i →
      ∃ b, s.recordAt t i = some b ∧ (s.readFrom t indices)[j]? = some (BitVec.ofNat 8 i :: b)) ∧
    ∀ i, indices[(s.readFrom t indices).length]? = some i → s.recordAt t i = none := by
  induction indices with
  | nil => simp [State.readFrom]
  | cons i is ih =>
    obtain ⟨length, records, stops⟩ := ih
    cases record : s.recordAt t i with
    | none =>
      have empty : s.readFrom t (i :: is) = [] := by simp [State.readFrom, record]
      rw [empty]
      refine ⟨Nat.zero_le _, fun j i' lt => absurd lt (Nat.not_lt_zero j), fun i' first => ?_⟩
      obtain rfl := Option.some.inj first
      exact record
    | some b =>
      have next : s.readFrom t (i :: is) = (BitVec.ofNat 8 i :: b) :: s.readFrom t is := by
        simp [State.readFrom, record, oneByte]
      rw [next]
      refine ⟨Nat.succ_le_succ length, fun j i' lt held => ?_, fun i' held => stops i' held⟩
      cases j with
      | zero =>
        obtain rfl := Option.some.inj held
        exact ⟨b, record, rfl⟩
      | succ j => exact records j i' (Nat.lt_of_succ_lt_succ lt) held

theorem readIndices_length (first count : Nat) (down : Bool) :
    (readIndices first count down).length = if down then min count (first + 1) else count := by
  cases down <;> simp [readIndices]

theorem readIndices_getElem? {first count j : Nat} {down : Bool} (within : j < (readIndices first count down).length) :
    (readIndices first count down)[j]? = some (if down then first - j else first + j) := by
  cases down <;> simp_all [readIndices]

/-- Settles O38. -/
theorem identifyAndRead : Obligations.IdentifyAndRead := by
  refine ⟨fun r rest s h permitted => ?identify, fun r rest t s h permitted table => ?read, codesOfNames, writtenLayouts,
    recordsRead⟩
  case identify =>
    refine (onRequest_takes _ h).trans ?_
    rw [permission_ok (s := s.taken rest) .identify permitted, answer_none]
    cases mode : s.engine.mode <;> simp [State.identity, mode, Mode.code, beBytes, oneByte, Config.partCode] <;> rfl
  case read =>
    have permission := permission_ok (s := s.taken rest) .readRecords permitted
    intro u counted index
    have taken : exec .readRecords s = .next (u.answer r (r.readChecks t) fun s => s.answerRead r t) := by
      refine (onRequest_takes _ h).trans ?_
      simp only [table, permission, firstOf_none]
      rfl
    refine ⟨fun outside => ?_, fun inside uncounted => ?_, fun inside good => ?_⟩
    · rw [taken, Request.readChecks, decide_eq_true outside]
      rfl
    · rw [taken, Request.readChecks, decide_eq_false (Nat.not_le.mpr inside), uncounted_iff.mpr uncounted]
      rfl
    · rw [Request.readChecks, decide_eq_false (Nat.not_le.mpr inside), countOrDirectionBad_iff.mpr good] at taken
      have down := direction_eq good.2.2
      obtain ⟨indices, visited⟩ : ∃ l, l = readIndices r.indexByte.toNat r.count (r.direction == some true) := ⟨_, rfl⟩
      have standby : markByte (!s.classifier.selector) = if s.classifier.selector then 0#8 else 1#8 := by
        cases s.classifier.selector <;> rfl
      have answered : exec .readRecords s =
          .next (u.respond r .done (u.readFrom t indices).length (u.readPrefix t ++ (u.readFrom t indices).flatten)) := by
        rw [taken, visited]
        rfl
      obtain ⟨length, records, stops⟩ := readFrom_records u t indices
      have count : indices.length = if byteAt r.body 7 = 1#8 then min r.count (r.indexByte.toNat + 1) else r.count := by
        rw [visited, readIndices_length, down]
        simp only [decide_eq_true_eq]
      have place {j : Nat} (within : j < indices.length) : indices[j]? = some (index j) := by
        rw [visited] at within ⊢
        rw [readIndices_getElem? within, down]
        simp only [decide_eq_true_eq, index]
      refine ⟨u.readFrom t indices, ?_, ?_, fun downward => ?_, fun j h => ?_, ?_⟩
      · rw [answered]
        cases t with
        | classifierStandby => rw [← standby]; rfl
        | _ => rfl
      · refine length.trans ?_
        rw [count]
        split <;> omega
      · rw [count, if_pos downward] at length
        omega
      · obtain ⟨b, record, own⟩ := records j (index j) h (place (by omega))
        exact ⟨b, record, (List.getElem?_eq_some_iff.mp own).2⟩
      · by_cases all : (u.readFrom t indices).length = indices.length
        · rw [count] at all
          split at all
          · rename_i downward
            rcases Nat.le_total r.count (r.indexByte.toNat + 1) with fewer | more
            · exact .inl (by omega)
            · exact .inr (.inl ⟨downward, by omega⟩)
          · exact .inl all
        · exact .inr (.inr (stops _ (place (by omega))))

end Sys2Proof.Machine
end

section
/-! PROOFS. A write of a CARRIER record: its checks in order, and what an accepted record does (R67 to R71, R144). -/

namespace Sys2Proof.Machine

variable {s t u : State} {r : Request} {rest : List Request} {b : List Byte} {c d : CarrierIx} {v w : UnitIx} {k : CarrierConfig}

/-! ## The checks -/

theorem CarrierConfig.valuesOk_iff (k : CarrierConfig) : k.valuesOk = true ↔ (k.managed = true → k.fits) := by
  cases managed : k.managed with
  | false => simp [CarrierConfig.valuesOk, managed]
  | true =>
    refine ⟨fun ok _ => CarrierConfig.fits_of_valuesOk ok managed, fun fits => ?_⟩
    obtain ⟨unit, sector, anchor, protect, slotRate, range⟩ := fits rfl
    have rate : k.slotRate == 1#8 || k.slotRate == 2#8 || k.slotRate == 4#8 || k.slotRate == 8#8 := by
      simpa [or_assoc] using slotRate
    simp only [CarrierConfig.valuesOk, managed, Bool.not_true, Bool.false_or, CarrierConfig.inRange, rate, Bool.and_eq_true,
      decide_eq_true_eq, and_true]
    omega

theorem anchorUnfit_iff : s.anchorUnfit c k = true ↔ k.managed = true ∧ k.anchorIx ≠ c ∧
    ¬(s.isManaged k.anchorIx = true ∧ s.anchorOf k.anchorIx = k.anchorIx ∧ (s.config k.anchorIx).sectorIx = k.sectorIx) := by
  simp only [State.anchorUnfit, State.isAnchor, Bool.and_eq_true, bne_iff_ne, Bool.not_eq_true', ← Bool.not_eq_true, beq_iff_eq,
    and_assoc]

theorem endsRole_iff : s.endsRole c k = true ↔ (∃ d, s.isManaged d = true ∧ s.anchorOf d = c ∧ d ≠ c) ∧
    (k.managed = false ∨ k.anchorIx ≠ c ∨
      ∃ d, s.isManaged d = true ∧ s.anchorOf d = c ∧ d ≠ c ∧ (s.config d).sectorIx ≠ k.sectorIx) := by
  simp only [State.endsRole, Bool.and_eq_true, Bool.or_eq_true, Bool.not_eq_true', bne_iff_ne, List.any_eq_true,
    List.isEmpty_eq_false_iff_exists_mem, mem_dependents, and_assoc, or_assoc]

theorem unitFull_iff : s.unitFull c k = true ↔
    k.managed = true ∧ 4 ≤ ((s.unitCarriers k.unitIx).filter (· != c)).length := by
  rw [State.unitFull, Bool.and_eq_true]
  exact and_congr_right fun _ => decide_eq_true_iff

theorem keyTaken_iff : s.keyTaken c k = true ↔ k.managed = true ∧ ∃ d, d ≠ c ∧ s.isManaged d = true ∧
    s.unitOf d = k.unitIx ∧ (s.config d).key = k.key := by
  simp only [State.keyTaken, State.othersOn, Bool.and_eq_true, List.any_eq_true, List.mem_filter, mem_unitCarriers, bne_iff_ne,
    beq_iff_eq]
  refine and_congr_right fun _ => exists_congr fun d => ?_
  tauto

theorem structuralDiffer_iff {l : CarrierConfig} : l.structuralDiffer k = true ↔ k.managed ≠ l.managed ∨ k.key ≠ l.key ∨
    k.unit ≠ l.unit ∨ k.sector ≠ l.sector ∨ k.anchor ≠ l.anchor ∨ k.protect ≠ l.protect ∨ k.ratio ≠ l.ratio := by
  simp only [CarrierConfig.structuralDiffer, Bool.or_eq_true, bne_iff_ne, or_assoc, ne_comm]

theorem isSettled_iff {x : LifeState} : x.isSettled = true ↔ x = .unmanaged ∨ x = .active ∨ x = .lost := by
  cases x <;> simp [LifeState.isSettled]

theorem groupSettled_iff : s.groupSettled c = true ↔
    (s.lifeState c = .unmanaged ∨ s.lifeState c = .active ∨ s.lifeState c = .lost) ∧
      ∀ d, s.isManaged d = true → s.anchorOf d = c → d ≠ c →
        s.lifeState d = .unmanaged ∨ s.lifeState d = .active ∨ s.lifeState d = .lost := by
  simp only [State.groupSettled, Bool.and_eq_true, List.all_eq_true, mem_dependents, isSettled_iff, and_imp]

theorem writeCarrierRecord_refused {status : Status} (read : readCarrierRecord b = some k)
    (check : s.carrierRecordCheck c k = some status) : writeCarrierRecord c b s = .error status := by
  simp only [writeCarrierRecord, read, ofNat_val, check]

theorem writeCarrierRecord_taken (read : readCarrierRecord b = some k) (check : s.carrierRecordCheck c k = none) :
    writeCarrierRecord c b s = .ok (s.putCarrierRecord c k) := by
  simp only [writeCarrierRecord, read, ofNat_val, check]

/-! ## What is done on a radio unit -/

/-- From `s` to `t` nothing has changed but the radio unit `v`, the token counter and what is sent to branches. -/
structure OnUnit (v : UnitIx) (s t : State) : Prop where
  carriers : t.carriers = s.carriers
  carrierConfig : t.carrierConfig = s.carrierConfig
  unitConfig : t.unitConfig = s.unitConfig
  wakeQueue : t.wakeQueue = s.wakeQueue
  told : ToldAs s t
  others : ∀ w, w ≠ v → t.unit w = s.unit w

theorem OnUnit.refl (v : UnitIx) (s : State) : OnUnit v s s := ⟨rfl, rfl, rfl, rfl, .refl s, fun _ _ => rfl⟩

theorem OnUnit.trans (h : OnUnit v s t) (k : OnUnit v t u) : OnUnit v s u where
  carriers := k.carriers.trans h.carriers
  carrierConfig := k.carrierConfig.trans h.carrierConfig
  unitConfig := k.unitConfig.trans h.unitConfig
  wakeQueue := k.wakeQueue.trans h.wakeQueue
  told := h.told.trans k.told
  others w other := (k.others w other).trans (h.others w other)

theorem onUnit_setUnit (s : State) (v : UnitIx) (x : RadioUnit) : OnUnit v s (s.setUnit v x) :=
  ⟨rfl, rfl, rfl, rfl, ⟨rfl, rfl, rfl⟩, fun w other => by rw [State.setUnit_unit, if_neg other]⟩

theorem onUnit_advanceToken (s : State) (v : UnitIx) : OnUnit v s s.advanceToken :=
  ⟨rfl, rfl, rfl, rfl, ⟨rfl, rfl, rfl⟩, fun _ _ => rfl⟩

theorem onUnit_transmit (s : State) (v : UnitIx) (d : Directive) : OnUnit v s (s.transmit v d) := by
  refine ⟨?_, ?_, ?_, ?_, transmit_toldAs s v d, fun w other => transmit_unit_other s d other⟩ <;> rw [transmit_eq] <;> rfl

theorem onUnit_releaseUnit (s : State) (v : UnitIx) : OnUnit v s (s.releaseUnit v) := by
  refine ⟨?_, ?_, ?_, ?_, releaseUnit_toldAs s v, fun w other => releaseUnit_unit_other s other⟩ <;> rw [releaseUnit_eq] <;> rfl

/-- R153: the test of the unit deep timer keeps the carrier map. -/
theorem onUnit_deepTest (s : State) (v : UnitIx) :
    OnUnit v s (s.deepTest v) ∧ ((s.deepTest v).unit v).map = (s.unit v).map := by
  by_cases starts : s.deepReady v = true ∧ (s.unit v).deepTimer = none
  · obtain ⟨ready, stopped⟩ := starts
    by_cases held : (s.unitSettings v).deepDelay.toNat ≠ 0 ∨ ¬s.mayGoDeep v
    · rw [deepTest_of_starts ready stopped held]
      exact ⟨onUnit_setUnit .., by rw [State.setUnit_unit, if_pos rfl]⟩
    · rw [not_or, not_not, not_not] at held
      obtain ⟨zero, goes⟩ := held
      rw [deepTest_of_goes ready stopped zero goes]
      refine ⟨((onUnit_advanceToken s v).trans (onUnit_setUnit ..)).trans (onUnit_transmit ..), ?_⟩
      rw [transmit_unit_same, State.setUnit_unit, if_pos rfl]
  · rw [deepTest_of_not starts]
    exact ⟨.refl v s, rfl⟩

theorem freeLink_eq (v : UnitIx) (c : CarrierIx) (s : State) : s.freeLink v c =
    s.setUnit v { s.unit v with map := (s.unit v).map.map fun l => if l == some c then none else l } := rfl

/-- R144, R153: a carrier leaves a unit. -/
structure LeavesUnit (v : UnitIx) (c : CarrierIx) (s t : State) : Prop extends OnUnit v s t where
  map : ∀ l : Fin 4, (t.unit v).map[l] = if (s.unit v).map[l] = some c then none else (s.unit v).map[l]
  timer : (s.unitSettings v).deepDelay.toNat ≠ 0 → (t.unit v).deepTimer =
    if s.deepReady v = true ∧ (s.unit v).deepTimer = none then some ((s.unitSettings v).deepDelay.toNat * 1000)
    else (s.unit v).deepTimer

theorem leaveUnit_leaves (v : UnitIx) (c : CarrierIx) (s : State) : LeavesUnit v c s (s.leaveUnit v c) := by
  obtain ⟨tested, map⟩ := onUnit_deepTest (s.freeLink v c) v
  have freed : (s.freeLink v c).unit v =
      { s.unit v with map := (s.unit v).map.map fun l => if l == some c then none else l } := by
    rw [freeLink_eq, State.setUnit_unit, if_pos rfl]
  have ready : (s.freeLink v c).deepReady v = s.deepReady v := by
    have carriers : (s.freeLink v c).unitCarriers v = s.unitCarriers v := rfl
    have states : (s.freeLink v c).lifeState = s.lifeState := rfl
    rw [State.deepReady, State.deepReady, carriers, states, freed]
  refine ⟨(onUnit_setUnit s v _).trans tested, fun l => ?_, fun delay => ?_⟩
  · have entry : ((s.leaveUnit v c).unit v).map = (s.unit v).map.map fun l => if l == some c then none else l := by
      rw [State.leaveUnit, map, freed]
    simp [entry]
  · rw [State.leaveUnit]
    split
    · rename_i starts
      have timer := deepTest_of_starts (s := s.freeLink v c) (by rw [ready]; exact starts.1) (by rw [freed]; exact starts.2) (.inl delay)
      rw [timer, State.setUnit_unit, if_pos rfl]
      rfl
    · rename_i not
      rw [deepTest_of_not (by rw [ready, freed]; exact not), freed]

/-- R144: a carrier comes to a unit. -/
structure ArrivesOnUnit (v : UnitIx) (c : CarrierIx) (s t : State) : Prop extends OnUnit v s t where
  timer : (t.unit v).deepTimer = none
  queue : (t.unit v).queue = (s.unit v).queue
  state : (t.unit v).state = if (s.unit v).state = some .deep then some .releasing else (s.unit v).state
  token : (s.unit v).state ≠ some .deep → t.token = s.token
  map : ∀ l : Fin 4, (s.unit v).map[l] = none → (∀ m : Fin 4, m < l → (s.unit v).map[m] ≠ none) →
    (t.unit v).map = (s.unit v).map.set l (some c)

theorem giveLink_eq (v : UnitIx) (c : CarrierIx) (s : State) : ∃ map, s.giveLink v c = s.setUnit v { s.unit v with map := map } ∧
    ∀ l : Fin 4, (s.unit v).map[l] = none → (∀ m : Fin 4, m < l → (s.unit v).map[m] ≠ none) →
      map = (s.unit v).map.set l (some c) := by
  unfold State.giveLink
  split
  · rename_i l found
    refine ⟨_, rfl, fun l' free lowest => ?_⟩
    rw [← List.ofFn_id, List.find?_ofFn_eq_some] at found
    obtain ⟨own, m, rfl, below⟩ := found
    have same : l' = m := by
      rcases lt_trichotomy l' m with lt | same | lt
      · have := below l' lt
        simp [free] at this
      · exact same
      · exact absurd (by simpa using own) (lowest m lt)
    rw [same]
    rfl
  · rename_i full
    refine ⟨(s.unit v).map, (State.setUnit_self s v).symm, fun l free _ => ?_⟩
    have := List.find?_eq_none.mp full l (List.mem_finRange l)
    simp [free] at this

theorem arriveOnUnit_arrives (v : UnitIx) (c : CarrierIx) (s : State) : ArrivesOnUnit v c s (s.arriveOnUnit v c) := by
  obtain ⟨map, linked, lowest⟩ := giveLink_eq v c s
  obtain ⟨p, placed⟩ : ∃ p, p = (s.giveLink v c).stopDeepTimer v := ⟨_, rfl⟩
  have unit : p.unit v = { s.unit v with map := map, deepTimer := none } := by
    rw [placed, State.stopDeepTimer, State.setUnit_unit, if_pos rfl, linked, State.setUnit_unit, if_pos rfl]
  have on : OnUnit v s p := by
    rw [placed, linked]
    exact (onUnit_setUnit ..).trans (onUnit_setUnit ..)
  have token : p.token = s.token := by
    rw [placed, linked]
    rfl
  have arrives : s.arriveOnUnit v c = if (p.unit v).state = some .deep then p.releaseUnit v else p := by rw [placed]; rfl
  rw [arrives, unit]
  by_cases deep : (s.unit v).state = some .deep
  · have released : (p.releaseUnit v).unit v = { p.unit v with
        state := some .releasing, releaseTimer := some (p.unitSettings v).releaseTime.toNat, deepTimer := none } := by
      rw [releaseUnit_eq]
      exact (State.setUnit_unit ..).trans (if_pos rfl)
    rw [if_pos deep]
    refine ⟨on.trans (onUnit_releaseUnit ..), ?_, ?_, ?_, fun other => absurd deep other, fun l free low => ?_⟩
    · rw [released]
    · rw [released, unit]
    · rw [released, if_pos deep]
    · rw [released, unit]
      exact lowest l free low
  · rw [if_neg deep]
    refine ⟨on, ?_, ?_, ?_, fun _ => token, fun l free low => ?_⟩
    · rw [unit]
    · rw [unit]
    · rw [unit, if_neg deep]
    · rw [unit]
      exact lowest l free low

end Sys2Proof.Machine
end

section
/-! PROOFS. What an accepted CARRIER record does (R66, R67, R70, R71, R78, R144, R153). -/

namespace Sys2Proof.Machine

variable {s t w : State} {r : Request} {rest : List Request} {b : List Byte} {c d : CarrierIx} {u v : UnitIx} {k : CarrierConfig}
  {new : LifeState}

/-! ## Sleepers -/

/-- R78: the carrier that is put back stands behind all those it does not come before. -/
theorem insertBefore_place (before : CarrierIx → CarrierIx → Bool) (c : CarrierIx) (l : List CarrierIx) :
    ∃ front back, l = front ++ back ∧ insertBefore before c l = front ++ c :: back ∧ (∀ d ∈ front, before c d = false) ∧
      ∀ d, back.head? = some d → before c d = true := by
  induction l with
  | nil => exact ⟨[], [], rfl, rfl, by simp, by simp⟩
  | cons e l ih =>
    rw [insertBefore]
    split
    · rename_i first
      refine ⟨[], e :: l, rfl, rfl, by simp, fun d head => ?_⟩
      obtain rfl := Option.some.inj head
      exact first
    · rename_i later
      obtain ⟨front, back, rfl, same, behind, ahead⟩ := ih
      refine ⟨e :: front, back, rfl, by rw [same]; rfl, fun d mem => ?_, ahead⟩
      rcases List.mem_cons.mp mem with rfl | mem
      · simpa using later
      · exact behind d mem

theorem setCover_setCover (s : State) (a : CarrierIx) (x y : Cover) : (s.setCover a x).setCover a y = s.setCover a y := by
  simp only [State.setCover, setCarrier_setCarrier, State.setCarrier_carrier, if_true]

/-- R78: a sleeper taken out of its list and put back. -/
theorem reRank_eq (sleeper : (s.lifeState c).isSleeper = true) : s.reRank c = s.setCover (s.anchorOf c)
    { s.cover (s.anchorOf c) with
      sleeperList := insertBefore s.sleepsBefore c ((s.cover (s.anchorOf c)).sleeperList.filter (· != c)) } := by
  have moments (d : CarrierIx) : ((s.leaveSleepers c).cover d).rampMoment = (s.cover d).rampMoment := by
    rw [leaveSleepers_cover]
    split <;> rfl
  have order : (s.leaveSleepers c).sleepsBefore = s.sleepsBefore := by
    funext d e
    simp only [State.sleepsBefore, moments]
    rfl
  have anchor : (s.leaveSleepers c).anchorOf c = s.anchorOf c := rfl
  rw [State.reRank, if_pos sleeper, State.placeSleeper, order, anchor, leaveSleepers_cover, if_pos rfl]
  exact setCover_setCover ..

/-! ## The unit that a carrier leaves -/

/-- R153: a unit that a carrier has left is ready where those that stay are all in SLUMBER. -/
theorem deepReady_of_left (others : ∀ d, d ≠ c → t.isManaged d = s.isManaged d ∧ t.unitOf d = s.unitOf d ∧
      t.lifeState d = s.lifeState d) (gone : ¬(t.isManaged c = true ∧ t.unitOf c = u)) :
    t.deepReady u = true ↔ (t.unit u).state = some .up ∧
      ((List.finRange 32).filter fun d => s.isManaged d && s.unitOf d == u && d != c) ≠ [] ∧
      ∀ d ∈ (List.finRange 32).filter fun d => s.isManaged d && s.unitOf d == u && d != c, s.lifeState d = .slumber := by
  have mem (d : CarrierIx) : (t.isManaged d = true ∧ t.unitOf d = u) ↔
      d ∈ (List.finRange 32).filter fun d => s.isManaged d && s.unitOf d == u && d != c := by
    by_cases own : d = c
    · subst own
      simp [gone]
    · obtain ⟨managed, unit, -⟩ := others d own
      simp [managed, unit, own]
  rw [deepReady_iff]
  simp only [← and_imp, mem]
  refine and_congr_right fun _ => and_congr ⟨fun ⟨d, held⟩ => List.ne_nil_of_mem held, List.exists_mem_of_ne_nil _⟩ <| forall_congr' fun d => imp_congr_right fun there => ?_
  have own : d ≠ c := by
    have := (List.mem_filter.mp there).2
    simp at this
    exact this.2
  rw [(others d own).2.2]

/-- R144: a change of state that does not enter SLUMBER is told by nothing but its notice. -/
theorem alike_moveTo (s : State) (c : CarrierIx) (h : new ≠ .slumber) : Alike s (s.moveTo c new) := by
  have places : Alike s (s.movePlaces c (s.lifeState c) new) := by
    have quiet := quiet_movePlaces s c (s.lifeState c) new
    exact (Alike.refl s).silent (keeps_movePlaces ..) ⟨quiet.engine, by rw [quiet.path], quiet.advisories⟩
  have set (t : State) (x : Carrier) : Alike t (t.setCarrier c x) := ⟨⟨rfl, rfl, rfl⟩, rfl, rfl, rfl, rfl, rfl, rfl⟩
  have slumber (t : State) (old : LifeState) : Alike t (t.moveSlumber c old new) := by
    unfold State.moveSlumber
    rw [if_neg (c := new = .slumber ∧ old ≠ .slumber) fun all => h all.1]
    split
    · exact ⟨⟨rfl, rfl, rfl⟩, rfl, rfl, rfl, rfl, rfl, rfl⟩
    · exact .refl t
  unfold State.moveTo
  exact (places.trans (set ..)).trans (slumber ..)

theorem moveTo_unitConfig (s : State) (c : CarrierIx) (h : new ≠ .slumber) : (s.moveTo c new).unitConfig = s.unitConfig := by
  have places := (keeps_movePlaces s c (s.lifeState c) new).unitConfig
  unfold State.moveTo State.moveSlumber
  dsimp only
  rw [if_neg (c := new = .slumber ∧ s.lifeState c ≠ .slumber) fun all => h all.1]
  split
  · exact places
  · exact places

/-! ## A carrier that becomes managed, or is no longer managed -/

theorem onUnit_carrier (h : OnUnit v s t) (d : CarrierIx) : t.carrier d = s.carrier d := by rw [State.carrier, h.carriers, State.carrier]

/-- R71, R144: a carrier made managed. -/
theorem becomeManaged_arrives (s : State) (c : CarrierIx) : ∃ p, ArrivesOnUnit (s.unitOf c) c p (s.becomeManaged c) ∧
    ToldAs (s.tells c .unmanaged .active .configured .requested) p ∧
    (∀ d, p.carrier d = if d = c then { Carrier.cold with life := Life.clear .active } else s.carrier d) ∧
    p.units = s.units ∧ p.token = s.token ∧ p.wakeQueue = s.wakeQueue ∧ p.carrierConfig = s.carrierConfig := by
  have set : Alike s (s.setCarrier c { Carrier.cold with life := Life.clear .active }) :=
    ⟨⟨rfl, rfl, rfl⟩, rfl, rfl, rfl, rfl, rfl, rfl⟩
  have told := tells_notifyState (s := s.setCarrier c { Carrier.cold with life := Life.clear .active }) c .unmanaged .active
    .configured Cause.configured.origin
  refine ⟨_, arriveOnUnit_arrives .., (set.notifyState ..).toToldAs, fun d => ?_, told.units, told.token, told.wakeQueue,
    told.keeps.carrierConfig⟩
  rw [told.carrier, State.setCarrier_carrier]

/-- R71, R144: a carrier that is no longer managed. -/
theorem becomeUnmanaged_leaves (s : State) (c : CarrierIx) (u : UnitIx) : ∃ p, LeavesUnit u c p (s.becomeUnmanaged c u) ∧
    ToldAs (s.tells c (s.lifeState c) .unmanaged .configured .requested) p ∧
    (∀ d, p.lifeState d = if d = c then .unmanaged else s.lifeState d) ∧ (p.carrier c).meter = Meter.clear ∧
    (p.carrier c).counters = (s.carrier c).counters ∧
    (∀ v, p.unit v = if s.lifeState c = .slumber ∧ v = s.unitOf c then { s.unit v with deepTimer := none } else s.unit v) ∧
    p.carrierConfig = s.carrierConfig ∧ p.unitConfig = s.unitConfig := by
  have moved : Alike s ((s.moveTo c .unmanaged).setMeter c Meter.clear) :=
    (alike_moveTo s c (by decide)).trans ⟨⟨rfl, rfl, rfl⟩, rfl, rfl, rfl, rfl, rfl, rfl⟩
  have told := tells_notifyState (s := (s.moveTo c .unmanaged).setMeter c Meter.clear) c (s.lifeState c) .unmanaged
    .configured Cause.configured.origin
  obtain ⟨-, -, counters, -⟩ := moveTo_carrier s c .unmanaged
  have carrier : ((s.moveTo c .unmanaged).setMeter c Meter.clear).carrier c =
      { (s.moveTo c .unmanaged).carrier c with meter := Meter.clear } := by
    rw [State.setMeter, State.setCarrier_carrier, if_pos rfl]
  refine ⟨_, leaveUnit_leaves .., (moved.notifyState ..).toToldAs, fun d => ?_, ?_, ?_, fun v => ?_, ?_, ?_⟩
  · rw [told.lifeState, State.setMeter, setCarrier_lifeState _ _ _ _ (by rfl), moveTo_lifeState]
  · rw [told.carrier, carrier]
  · rw [told.carrier, carrier, ← counters]
  · rw [State.unit, told.units]
    exact moveTo_units s c (by decide) v
  · exact told.keeps.carrierConfig.trans (moveTo_carrierConfig ..)
  · exact told.keeps.unitConfig.trans (moveTo_unitConfig s c (by decide))

/-! ## What an accepted record does -/

/-- R153: the deep timer of the unit that a carrier has left. -/
theorem LeavesUnit.deepTimer {p : State} (h : LeavesUnit u c p t) (others : ∀ d, d ≠ c → p.isManaged d = s.isManaged d ∧
      p.unitOf d = s.unitOf d ∧ p.lifeState d = s.lifeState d) (gone : ¬(p.isManaged c = true ∧ p.unitOf c = u))
    (unit : p.unit u = s.unit u) (settings : p.unitSettings u = s.unitSettings u)
    (delay : (s.unitSettings u).deepDelay.toNat ≠ 0) :
    let stay := (List.finRange 32).filter fun d => s.isManaged d && s.unitOf d == u && d != c
    (t.unit u).deepTimer = if (s.unit u).state = some .up ∧ stay ≠ [] ∧ (∀ d ∈ stay, s.lifeState d = .slumber) ∧
      (s.unit u).deepTimer = none then some ((s.unitSettings u).deepDelay.toNat * 1000) else (s.unit u).deepTimer := by
  intro stay
  rw [h.timer (by rw [settings]; exact delay), unit, settings]
  refine if_congr ?_ rfl rfl
  rw [deepReady_of_left others gone, unit, and_assoc, and_assoc]

theorem setConfig_unitOf_other (s : State) (k : CarrierConfig) (other : d ≠ c) : (s.setConfig c k).unitOf d = s.unitOf d := by
  rw [State.unitOf, setConfig_config, if_neg other, State.unitOf]

theorem setConfig_unitOf_same (s : State) (c : CarrierIx) (k : CarrierConfig) : (s.setConfig c k).unitOf c = k.unitIx := by
  rw [State.unitOf, setConfig_config, if_pos rfl, CarrierConfig.unitIx]

theorem reRank_of_awake (awake : (s.lifeState c).isSleeper = false) : s.reRank c = s := if_neg (by simp [awake])

/-- R70: a record that leaves all but ranks as they were. -/
theorem put_in_place (managed : s.isManaged c = k.managed) (unit : k.managed = true → s.unitOf c = k.unitIx) :
    s.putCarrierRecord c k = if k.managed = true then (s.setConfig c k).reRank c else s.setConfig c k := by
  unfold State.putCarrierRecord
  rw [managed]
  cases now : k.managed with
  | false => rfl
  | true =>
    dsimp only
    rw [State.changeUnit, if_pos (unit now)]
    rfl

/-- R78: with the record `k` the sleeper `c` comes before `d`, by wake rank, kept moment and index. -/
def State.sleepsBeforeWith (s : State) (c : CarrierIx) (k : CarrierConfig) (d : CarrierIx) : Prop :=
  k.rank.toNat < (s.config d).rank.toNat ∨
    (k.rank = (s.config d).rank ∧ ((s.cover c).rampMoment < (s.cover d).rampMoment ∨
      ((s.cover c).rampMoment = (s.cover d).rampMoment ∧ c < d)))

theorem sleepsBefore_setConfig (other : d ≠ c) :
    (s.setConfig c k).sleepsBefore c d = true ↔ s.sleepsBeforeWith c k d := by
  simp only [State.sleepsBefore, setConfig_config, if_pos, if_neg other, Bool.or_eq_true, Bool.and_eq_true, decide_eq_true_eq,
    beq_iff_eq, BitVec.toNat_inj]
  exact Iff.rfl

/-- R78: a sleeper whose record is written. -/
theorem put_sleeper (managed : s.isManaged c = true) (now : k.managed = true) (unit : s.unitOf c = k.unitIx)
    (sleeper : (s.lifeState c).isSleeper = true) (anchor : k.anchorIx = s.anchorOf c) :
    let t := s.putCarrierRecord c k
    t = (s.setConfig c k).setCover (s.anchorOf c)
      { s.cover (s.anchorOf c) with sleeperList := (t.cover (s.anchorOf c)).sleeperList } ∧
    ((s.cover (s.anchorOf c)).sleeperList.Nodup → c ∈ (s.cover (s.anchorOf c)).sleeperList →
      (t.cover (s.anchorOf c)).sleeperList.Perm (s.cover (s.anchorOf c)).sleeperList) ∧
    ∃ front back, (s.cover (s.anchorOf c)).sleeperList.filter (· != c) = front ++ back ∧
      (t.cover (s.anchorOf c)).sleeperList = front ++ c :: back ∧ (∀ d ∈ front, ¬s.sleepsBeforeWith c k d) ∧
      ∀ d, back.head? = some d → s.sleepsBeforeWith c k d := by
  have moved : s.putCarrierRecord c k = (s.setConfig c k).reRank c :=
    (put_in_place (managed.trans now.symm) fun _ => unit).trans (if_pos now)
  have named : (s.setConfig c k).anchorOf c = s.anchorOf c := by rw [setConfig_anchorOf, if_pos rfl, anchor]
  have placed := reRank_eq (s := s.setConfig c k) (c := c) sleeper
  rw [named] at placed
  intro t
  have list : (t.cover (s.anchorOf c)).sleeperList = insertBefore (s.setConfig c k).sleepsBefore c
      ((s.cover (s.anchorOf c)).sleeperList.filter (· != c)) := by
    rw [show t = _ from moved.trans placed, setCover_cover, if_pos rfl]
    rfl
  have apart {d : CarrierIx} (mem : d ∈ (s.cover (s.anchorOf c)).sleeperList.filter (· != c)) : d ≠ c := by
    simpa using (List.mem_filter.mp mem).2
  refine ⟨?_, fun nodup mem => ?_, ?_⟩
  · rw [list]
    exact moved.trans placed
  · rw [list, ← List.Nodup.erase_eq_filter nodup]
    exact (insertBefore_perm ..).trans (List.perm_cons_erase mem).symm
  · obtain ⟨front, back, split, same, behind, ahead⟩ := insertBefore_place (s.setConfig c k).sleepsBefore c
      ((s.cover (s.anchorOf c)).sleeperList.filter (· != c))
    refine ⟨front, back, split, list.trans same, fun d mem first => ?_, fun d head => ?_⟩
    · have := (sleepsBefore_setConfig (apart (split ▸ List.mem_append_left _ mem))).mpr first
      rw [behind d mem] at this
      cases this
    · have mem : d ∈ back := List.mem_of_mem_head? head
      exact (sleepsBefore_setConfig (apart (split ▸ List.mem_append_right _ mem))).mp (ahead d head)

/-- R71, R144: a record that makes its carrier managed. -/
theorem put_managed (old : s.isManaged c = false) (now : k.managed = true) :
    let t := s.putCarrierRecord c k
    t.carrierConfig = (s.setConfig c k).carrierConfig ∧ t.lifeState c = .active ∧ (t.carrier c).life = Life.clear .active ∧
      (t.carrier c).meter = Meter.clear ∧ (t.carrier c).counters = FrameCounters.clear ∧ (t.carrier c).cover = Cover.clear ∧
      (∀ d, d ≠ c → t.carrier d = s.carrier d) ∧ t.wakeQueue = s.wakeQueue ∧
      ToldAs ((s.setConfig c k).tells c .unmanaged .active .configured .requested) t ∧ (t.unit k.unitIx).deepTimer = none ∧
      ((s.unit k.unitIx).state ≠ some .deep → (t.unit k.unitIx).state = (s.unit k.unitIx).state ∧ t.token = s.token) ∧
      ((s.unit k.unitIx).state = some .deep → (t.unit k.unitIx).state = some .releasing) ∧
      (∀ l : Fin 4, (s.unit k.unitIx).map[l] = none → (∀ m : Fin 4, m < l → (s.unit k.unitIx).map[m] ≠ none) →
        (t.unit k.unitIx).map = (s.unit k.unitIx).map.set l (some c)) := by
  have put : s.putCarrierRecord c k = (s.setConfig c k).becomeManaged c := by
    unfold State.putCarrierRecord
    rw [old, now]
  intro t
  rw [show t = _ from put]
  obtain ⟨p, arrives, told, carrier, units, token, queue, config⟩ := becomeManaged_arrives (s.setConfig c k) c
  rw [setConfig_unitOf_same] at arrives
  have unit : p.unit k.unitIx = s.unit k.unitIx := by
    rw [State.unit, units]
    rfl
  have own := (onUnit_carrier arrives.toOnUnit c).trans ((carrier c).trans (if_pos rfl))
  refine ⟨arrives.carrierConfig.trans config, ?_, ?_, ?_, ?_, ?_, fun d other => ?_, arrives.wakeQueue.trans queue,
    told.trans arrives.told, arrives.timer, fun awake => ⟨?_, ?_⟩, fun deep => ?_, fun l free lowest => ?_⟩
  · rw [State.lifeState, own]
    rfl
  · rw [own]
  · rw [own]
    rfl
  · rw [own]
    rfl
  · rw [own]
    rfl
  · exact (onUnit_carrier arrives.toOnUnit d).trans ((carrier d).trans (if_neg other))
  · rw [arrives.state, unit, if_neg awake]
  · exact (arrives.token (by rw [unit]; exact awake)).trans token
  · rw [arrives.state, unit, if_pos deep]
  · rw [arrives.map l (by rw [unit]; exact free) (by rw [unit]; exact lowest), unit]

/-- R144: a record that moves its carrier to another unit. -/
theorem put_moved (managed : s.isManaged c = true) (now : k.managed = true) (apart : s.unitOf c ≠ k.unitIx)
    (awake : (s.lifeState c).isSleeper = false) : ∃ m, LeavesUnit (s.unitOf c) c (s.setConfig c k) m ∧
      ArrivesOnUnit k.unitIx c m (s.putCarrierRecord c k) := by
  refine ⟨(s.setConfig c k).leaveUnit (s.unitOf c) c, leaveUnit_leaves .., ?_⟩
  have arrives := arriveOnUnit_arrives k.unitIx c ((s.setConfig c k).leaveUnit (s.unitOf c) c)
  have put : s.putCarrierRecord c k =
      (((s.setConfig c k).leaveUnit (s.unitOf c) c).arriveOnUnit k.unitIx c).reRank c := by
    unfold State.putCarrierRecord
    rw [managed, now]
    dsimp only
    rw [State.changeUnit, if_neg apart]
  rw [put, reRank_of_awake]
  · exact arrives
  · have leaves := leaveUnit_leaves (s.unitOf c) c (s.setConfig c k)
    rw [State.lifeState, onUnit_carrier arrives.toOnUnit, onUnit_carrier leaves.toOnUnit]
    exact awake

/-- R71, R144: a record of a carrier that is no longer managed. -/
theorem put_unmanaged (managed : s.isManaged c = true) (now : k.managed = false) :
    s.putCarrierRecord c k = (s.setConfig c k).becomeUnmanaged c (s.unitOf c) := by
  unfold State.putCarrierRecord
  rw [managed, now]

end Sys2Proof.Machine
end

section
/-! PROOFS. A write of a CARRIER record, as a whole (R67 to R71, R144). -/

namespace Sys2Proof.Machine

variable {s : State} {r : Request} {rest : List Request} {b : List Byte} {c : CarrierIx} {k : CarrierConfig}

/-- R67: the checks of a record, in order. -/
theorem carrierRecordCheck_eq (s : State) (c : CarrierIx) (k : CarrierConfig) : s.carrierRecordCheck c k =
    firstOf (failIf (!k.valuesOk) .badValue) (firstOf (failIf (s.anchorUnfit c k || s.endsRole c k) .badAnchor)
      (firstOf (failIf (s.unitFull c k) .unitFull) (firstOf (failIf (s.keyTaken c k) .dupKey)
        (failIf ((s.config c).structuralDiffer k && !s.groupSettled c) .stateConflict)))) := by
  unfold State.carrierRecordCheck
  cases k.valuesOk <;> simp only [Bool.not_true, Bool.not_false, failIf_true, failIf_false, firstOf_some, firstOf_none, if_true,
    Bool.false_eq_true, if_false]
  cases (s.anchorUnfit c k || s.endsRole c k) <;> simp only [failIf_true, failIf_false, firstOf_some, firstOf_none, if_true,
    Bool.false_eq_true, if_false]
  cases s.unitFull c k <;> simp only [failIf_true, failIf_false, firstOf_some, firstOf_none, if_true, Bool.false_eq_true, if_false]
  cases s.keyTaken c k <;> rfl

/-- R70, R144: a carrier whose record names another unit rests nowhere. -/
theorem awake_of_settled (settled : (s.config c).structuralDiffer k = true → s.groupSettled c = true)
    (apart : s.unitOf c ≠ k.unitIx) : (s.lifeState c).isSleeper = false := by
  by_contra sleeper
  have unsettled : (s.lifeState c).isSettled = false := by
    cases state : s.lifeState c <;> simp_all [LifeState.isSleeper, LifeState.isSettled]
  exact apart (kept_of_unsettled settled unsettled).2.1.symm

/-- Settles O42. -/
theorem writeOfCarrierRecord : Obligations.WriteCarrierRecord := by
  refine ⟨fun c b r rest s h permitted one length bad => ?bad, fun c k r rest s h permitted one => ?record⟩
  case bad =>
    have taken := one_record (fun _ => rfl) h permitted one (table := .carrier) (owner := writeCarrierRecord)
      (after := nothingAfter) length c.isLt
    simp only [writeCarrierRecord, readCarrierRecord, readMark_eq_none_iff.mpr bad, Option.map_none] at taken
    exact taken
  case record =>
    have taken := one_record (fun _ => rfl) h permitted one (table := .carrier) (owner := writeCarrierRecord)
      (after := nothingAfter) (by simp [CarrierConfig.bytes, Table.recordBytes]) c.isLt
    intro inRange badValue badAnchor unitFull dupKey old structural settled conflict refusedWith written toldOf leftUnit
    have refused {x : Status} (check : s.carrierRecordCheck c k = some x) : refusedWith x := by
      rw [writeCarrierRecord_refused (s := s.taken rest) (readCarrierRecord_bytes k) check] at taken
      exact taken
    have value_iff : badValue ↔ k.valuesOk = false := by
      rw [← Bool.not_eq_true, CarrierConfig.valuesOk_iff, Classical.not_imp]
      simp only [badValue, inRange, CarrierConfig.fits, ← BitVec.toNat_inj]
      rfl
    have anchor_iff : badAnchor ↔ (s.anchorUnfit c k || s.endsRole c k) = true := by
      rw [Bool.or_eq_true, anchorUnfit_iff, endsRole_iff]
    have full_iff : unitFull ↔ s.unitFull c k = true := unitFull_iff.symm
    have key_iff : dupKey ↔ s.keyTaken c k = true := keyTaken_iff.symm
    have conflict_iff : conflict ↔ ((s.config c).structuralDiffer k && !s.groupSettled c) = true := by
      rw [Bool.and_eq_true, structuralDiffer_iff, Bool.not_eq_true', ← Bool.not_eq_true, groupSettled_iff]
    have order := carrierRecordCheck_eq s c k
    rw [value_iff, anchor_iff, full_iff, key_iff, conflict_iff]
    simp only [Bool.not_eq_true, Bool.not_eq_false]
    refine ⟨fun bad => refused ?_, fun good bad => refused ?_, fun good fit bad => refused ?_,
      fun good fit room bad => refused ?_, fun good fit room fresh bad => refused ?_, fun good fit room fresh calm => ?_⟩
    · rw [order, bad]; rfl
    · rw [order, good, bad]; rfl
    · rw [order, good, fit, bad]; rfl
    · rw [order, good, fit, room, bad]; rfl
    · rw [order, good, fit, room, fresh, bad]; rfl
    rw [good, fit, room, fresh, calm] at order
    rw [writeCarrierRecord_taken (s := s.taken rest) (readCarrierRecord_bytes k) order] at taken
    obtain ⟨-, -, -, -, -, still⟩ := carrierRecordCheck_none (s := s) (c := c) (k := k) order
    have answered : exec .writeCarrier s = .next (((s.taken rest).putCarrierRecord c k).respond r .done 1 []) := taken
    have sleeps (sleeper : (s.lifeState c).isSleeper = true) : (s.lifeState c).isSettled = false := by
      cases state : s.lifeState c <;> simp_all [LifeState.isSleeper, LifeState.isSettled]
    refine ⟨fun same unit awake => ?_, fun managed now unit sleeper => ?_, fun managed now => ?_, fun managed now apart => ?_,
      fun managed now => ?_⟩
    · rw [answered, put_in_place (s := s.taken rest) same unit]
      rw [show ((s.taken rest).setConfig c k).reRank c = (s.taken rest).setConfig c k from
        reRank_of_awake (s := (s.taken rest).setConfig c k) awake, ite_self]
      rfl
    · exact ⟨_, answered, put_sleeper (s := s.taken rest) managed now unit sleeper (kept_of_unsettled still (sleeps sleeper)).1⟩
    · obtain ⟨config, state, life, meter, counters, cover, others, queue, told, rest⟩ :=
        put_managed (s := s.taken rest) managed now
      exact ⟨_, answered, config, state, life, meter, counters, cover, others, queue, ⟨told.engine, told.trunk⟩, rest⟩
    · obtain ⟨m, leaves, arrives⟩ := put_moved (s := s.taken rest) managed now apart (awake_of_settled still apart)
      have old_unit : ((s.taken rest).putCarrierRecord c k).unit (s.unitOf c) = m.unit (s.unitOf c) := arrives.others _ apart
      have new_unit : m.unit k.unitIx = s.unit k.unitIx := leaves.others _ (Ne.symm apart)
      refine ⟨_, answered, arrives.carrierConfig.trans leaves.carrierConfig, arrives.carriers.trans leaves.carriers,
        arrives.wakeQueue.trans leaves.wakeQueue, fun l => ?_, fun _ delay => ?_, fun l free lowest => ?_, arrives.timer, ?_, ?_,
        fun v other there => ?_⟩
      · rw [old_unit]
        exact leaves.map l
      · rw [old_unit]
        refine leaves.deepTimer (s := s) (fun d other => ⟨rfl, setConfig_unitOf_other _ _ other, rfl⟩) (fun here => ?_) rfl rfl delay
        exact apart (here.2.symm.trans (setConfig_unitOf_same ..))
      · rw [arrives.map l (by rw [new_unit]; exact free) (by rw [new_unit]; exact lowest), new_unit]
      · rw [arrives.queue, new_unit]
      · rw [arrives.state, new_unit]
      · exact (arrives.others v there).trans (leaves.others v other)
    · have gone : exec .writeCarrier s =
          .next ((((s.taken rest).setConfig c k).becomeUnmanaged c (s.unitOf c)).respond r .done 1 []) := by
        rw [answered, put_unmanaged (s := s.taken rest) managed now]
        rfl
      obtain ⟨p, leaves, told, states, meter, counters, units, config, settings⟩ :=
        becomeUnmanaged_leaves ((s.taken rest).setConfig c k) c (s.unitOf c)
      have kept (d : CarrierIx) : (((s.taken rest).setConfig c k).becomeUnmanaged c (s.unitOf c)).lifeState d = p.lifeState d := by
        rw [State.lifeState, onUnit_carrier leaves.toOnUnit, State.lifeState]
      have own := onUnit_carrier leaves.toOnUnit c
      have map : (p.unit (s.unitOf c)).map = (s.unit (s.unitOf c)).map := by
        rw [units]
        split <;> rfl
      refine ⟨_, gone, leaves.carrierConfig.trans config, ?_, ?_, ?_, fun d other => ?_, ⟨?_, ?_⟩, fun rests delay => ?_,
        fun l => ?_⟩
      · rw [kept, states, if_pos rfl]
      · rw [own, meter]
      · rw [own, counters]
        rfl
      · rw [kept, states, if_neg other]
        rfl
      · exact (told.trans leaves.told).engine
      · exact (told.trans leaves.told).trunk
      · have unit : p.unit (s.unitOf c) = s.unit (s.unitOf c) := by
          rw [units, if_neg]
          · rfl
          · rintro ⟨slumber, -⟩
            have state : s.lifeState c = .slumber := slumber
            simp [settled, state] at rests
        refine leaves.deepTimer (s := s) (fun d other => ?_) (fun here => ?_) unit ?_ delay
        · have state := (states d).trans (if_neg other)
          exact ⟨by rw [State.isManaged, state]; rfl, by
            rw [State.unitOf, config_of_carrierConfig config]
            exact setConfig_unitOf_other _ _ other, state⟩
        · have gone := here.1
          rw [State.isManaged, states, if_pos rfl] at gone
          cases gone
        · rw [State.unitSettings, settings]
          rfl
      · rw [leaves.map l, map]

end Sys2Proof.Machine
end

section
/-! PROOFS. What the recovery after a warm reset tells, and the state it leaves before the grants (R140, R158, R175). -/

namespace Sys2Proof.Machine

variable {s t a b : State} {c d : CarrierIx} {v : UnitIx} {source : ResetSource}

/-! ## States that tell alike -/

/-- What `a` and `b` tell at T differs in nothing: flags, notices and their numbers, the trunk egress queue and state, and all
that a notice is made of. -/
structure SoundsAs (a b : State) : Prop where
  engine : b.engine = { a.engine with mode := b.engine.mode }
  trunk : b.path.trunkQueue = a.path.trunkQueue
  trunkState : b.path.trunkState = a.path.trunkState
  stationAddress : b.stationAddress = a.stationAddress
  settings : b.settings = a.settings

theorem SoundsAs.flagRaised (h : SoundsAs a b) (f : Flag) : b.flagRaised f = a.flagRaised f := by
  rw [State.flagRaised, State.flagRaised, h.engine]

theorem SoundsAs.setEngine (h : SoundsAs a b) {e k : Engine} (same : k = { e with mode := k.mode }) :
    SoundsAs (a.setEngine e) (b.setEngine k) := ⟨same, h.trunk, h.trunkState, h.stationAddress, h.settings⟩

theorem SoundsAs.inject (h : SoundsAs a b) (destination : Addr) (body : List Byte) :
    SoundsAs (a.inject .trunk destination body) (b.inject .trunk destination body) := by
  have up : b.path.linkUp .trunk = a.path.linkUp .trunk := by simp [FramePath.linkUp, FramePath.trunkLinkUp, h.trunkState]
  have ka := keeps_inject a .trunk destination body
  have kb := keeps_inject b .trunk destination body
  refine ⟨by rw [inject_engine, inject_engine]; exact h.engine, ?_, by rw [kb.trunkState, ka.trunkState, h.trunkState],
    by rw [kb.stationAddress, ka.stationAddress, h.stationAddress], by rw [kb.settings, ka.settings, h.settings]⟩
  simp only [State.inject, State.ownFrame, h.stationAddress, h.settings, State.offerInjected, up]
  split
  · simp [FramePath.setQueue, FramePath.queue, h.trunk]
  · exact h.trunk

theorem SoundsAs.passNotices (h : SoundsAs a b) : SoundsAs a.passNotices b.passNotices := by
  have queued (l : List Notice) : ∀ {a b : State}, SoundsAs a b →
      SoundsAs (l.foldl (fun s n => s.inject .trunk n.destination n.body) a)
        (l.foldl (fun s n => s.inject .trunk n.destination n.body) b) := by
    induction l with
    | nil => exact id
    | cons n l ih => exact fun h => ih (h.inject n.destination n.body)
  have notices : b.engine.notices = a.engine.notices := by rw [h.engine]
  rw [State.passNotices, State.passNotices, notices]
  exact (queued _ h).setEngine (by rw [h.engine])

theorem SoundsAs.offerNotice (h : SoundsAs a b) (n : NoticeContent) :
    SoundsAs (a.offerNotice n).1 (b.offerNotice n).1 ∧ (b.offerNotice n).2 = (a.offerNotice n).2 := by
  have passed {a b : State} (h : SoundsAs a b) : SoundsAs a.passIfUp b.passIfUp := by
    rw [State.passIfUp, State.passIfUp, h.trunkState]
    split
    · exact h.passNotices
    · exact h
  have wanted : b.noticeWanted n = a.noticeWanted n := by simp only [State.noticeWanted, h.settings]
  have notices : b.engine.notices = a.engine.notices := by rw [h.engine]
  simp only [State.offerNotice, wanted, h.settings, State.setEngine_engine, notices]
  cases a.noticeWanted n with
  | false => exact ⟨h, rfl⟩
  | true =>
    by_cases room : a.engine.notices.length < Config.noticeRoom
    · simp only [room, if_true]
      exact ⟨passed ((h.setEngine (by rw [h.engine])).setEngine (by rw [h.engine])), trivial⟩
    · simp only [room, if_true, if_false]
      exact ⟨h.setEngine (by rw [h.engine]), trivial⟩

theorem SoundsAs.setFlag (h : SoundsAs a b) (f : Flag) : SoundsAs (a.setFlag f) (b.setFlag f) :=
  h.setEngine (by rw [h.engine])

theorem SoundsAs.notify (h : SoundsAs a b) (n : NoticeContent) : SoundsAs (a.notify n) (b.notify n) := by
  obtain ⟨offered, dropped⟩ := h.offerNotice n
  simp only [State.notify, dropped, offered.flagRaised]
  cases (a.offerNotice n).2 && !(a.offerNotice n).1.flagRaised .noticeDropped with
  | false => exact offered
  | true => exact ((offered.setFlag _).offerNotice _).1

theorem SoundsAs.raiseFlag (h : SoundsAs a b) (f : Flag) : SoundsAs (a.raiseFlag f) (b.raiseFlag f) := by
  simp only [State.raiseFlag, h.flagRaised]
  split
  · exact h
  · exact (h.setFlag f).notify _

/-! ## The recovery of carriers -/

/-- R140: a managed carrier that is put in QUEUED. -/
theorem keeps_recoverCarrier (managed : s.isManaged c = true) (origin : Origin) : Keeps s (s.recoverCarrier origin c) := by
  have life : Keeps s (s.setLife c { (s.carrier c).life with state := .queued }) :=
    keeps_setCarrier ⟨rfl, rfl, rfl, rfl, rfl, rfl, Nat.le_refl _, managed.symm, fun drain => absurd drain (by simp [LifeState.isDrain]),
      fun rests => absurd rests (by simp [LifeState.isResting, LifeState.isDrain, LifeState.isSleeper])⟩
  exact (life.trans (keeps_setWakeQueue ..)).trans (keeps_notifyState ..)

theorem keeps_recoverCarriers (l : List CarrierIx) (managed : ∀ c ∈ l, s.isManaged c = true) (origin : Origin) :
    Keeps s (l.foldl (State.recoverCarrier origin) s) := by
  induction l generalizing s with
  | nil => exact .refl s
  | cons c l ih =>
    have one := keeps_recoverCarrier (managed c List.mem_cons_self) origin
    exact one.trans (ih fun d mem => by rw [one.managed]; exact managed d (List.mem_cons_of_mem _ mem))

theorem recoverCarrier_advisories (s : State) (c : CarrierIx) (origin : Origin) :
    (s.recoverCarrier origin c).advisories = s.advisories := notify_advisories ..

/-- R140: the notices of the recovery, in index order. -/
theorem SoundsAs.recoverCarriers {states : CarrierIx → LifeState} {minute second : Nat} (origin : Origin) (l : List CarrierIx)
    (nodup : l.Nodup) (same : ∀ c ∈ l, b.lifeState c = states c) (time : b.calendar.minute = minute ∧ b.calendar.second = second)
    (h : SoundsAs a b) : SoundsAs
      (l.foldl (fun u c => u.notify (.carrierState c (states c) .queued .restart origin minute second)) a)
      (l.foldl (State.recoverCarrier origin) b) := by
  induction l generalizing a b with
  | nil => exact h
  | cons c l ih =>
    obtain ⟨fresh, nodup⟩ := List.nodup_cons.mp nodup
    obtain ⟨rfl, rfl⟩ := time
    have recovered := recovered_one origin b c
    refine ih (a := a.notify (.carrierState c (states c) .queued .restart origin b.calendar.minute b.calendar.second)) nodup
      (fun d mem => ?_) ?_ ?_
    · have other : d ∉ [c] := fun own => fresh (List.mem_singleton.mp own ▸ mem)
      rw [State.lifeState, recovered.carrier, if_neg other]
      exact same d (List.mem_cons_of_mem _ mem)
    · have calendar : (b.recoverCarrier origin c).calendar = b.calendar := (tells_notifyState ..).keeps.calendar
      rw [calendar]
      exact ⟨rfl, rfl⟩
    · have placed : SoundsAs a ((b.setLife c { (b.carrier c).life with state := .queued }).setWakeQueue
          ((b.setLife c { (b.carrier c).life with state := .queued }).wakeQueue.join .coverage { carrier := c, depth := .unknown })) :=
        ⟨h.engine, h.trunk, h.trunkState, h.stationAddress, h.settings⟩
      have told := placed.notify (.carrierState c (b.lifeState c) .queued .restart origin b.calendar.minute b.calendar.second)
      rw [← same c List.mem_cons_self]
      exact told

/-! ## The units -/

theorem keeps_placeAfterReset (s : State) (v : UnitIx) : Keeps s (s.placeAfterReset v) := by
  unfold State.placeAfterReset
  split
  · rename_i used
    split
    · exact keeps_releaseUnit s v used
    · exact keeps_setUnit s v _ used.symm rfl
  · exact .refl s

theorem placeAfterReset_advisories (s : State) (v : UnitIx) : (s.placeAfterReset v).advisories = s.advisories := by
  unfold State.placeAfterReset
  split
  · split
    · exact (releaseUnit_toldAs s v).advisories
    · rfl
  · rfl

/-- R158: the state of a unit once it has been placed. -/
def State.placedState (s : State) (v : UnitIx) : Option UnitState :=
  if (s.unit v).state = none then none else if s.path.linkUp (.branch v) = true then some .releasing else some .unreachable

theorem placeAfterReset_state (s : State) (w v : UnitIx) :
    ((s.placeAfterReset w).unit v).state = if v = w then s.placedState v else (s.unit v).state := by
  unfold State.placeAfterReset State.placedState
  by_cases own : v = w
  · subst own
    rw [if_pos rfl]
    cases state : (s.unit v).state with
    | none => simp [state]
    | some x =>
      simp only [Option.isSome_some, if_true, reduceCtorEq, if_false]
      split
      · rw [releaseUnit_eq]
        exact congrArg RadioUnit.state ((State.setUnit_unit ..).trans (if_pos rfl))
      · rw [State.setUnit_unit, if_pos rfl]
  · rw [if_neg own]
    split
    · split
      · rw [releaseUnit_unit_other s own]
      · rw [State.setUnit_unit, if_neg own]
    · rfl

theorem placed_state (l : List UnitIx) (nodup : l.Nodup) (s : State) (v : UnitIx) :
    ((l.foldl State.placeAfterReset s).unit v).state = if v ∈ l then s.placedState v else (s.unit v).state := by
  induction l generalizing s with
  | nil => simp
  | cons w l ih =>
    obtain ⟨fresh, nodup⟩ := List.nodup_cons.mp nodup
    have links : (s.placeAfterReset w).path.linkUp (.branch v) = s.path.linkUp (.branch v) := by
      simp only [FramePath.linkUp, (keeps_placeAfterReset s w).branchUp]
    rw [List.foldl_cons, ih nodup]
    unfold State.placedState
    rw [placeAfterReset_state, links]
    by_cases own : v = w
    · subst own
      rw [if_neg fresh, if_pos rfl, if_pos List.mem_cons_self, State.placedState]
    · simp [own]

end Sys2Proof.Machine
end

section
/-! PROOFS. The grants of the recovery after a warm reset (R130, R131, R140), one carrier after another. -/

namespace Sys2Proof.Machine

variable {s t r m u : State} {c d : CarrierIx} {granted waiting : List CarrierIx}

/-! ## The carriers on their way from QUEUED to LOST -/

/-- A carrier without a mark that moves between QUEUED, WARMUP and LOST. -/
theorem moveTo_clear {new : LifeState} (life : (s.carrier c).life = Life.clear (s.lifeState c))
    (received : (s.carrier c).drainedReceived = false) (old : s.lifeState c = .queued ∨ s.lifeState c = .warmup)
    (next : new = .warmup ∨ new = .lost) (d : CarrierIx) :
    (s.moveTo c new).carrier d = { s.carrier d with life := if d = c then Life.clear new else (s.carrier d).life } := by
  have place : (s.moveTo c new).cover d = s.cover d := by
    rw [moveTo_cover]
    rcases old with old | old <;> rcases next with rfl | rfl <;>
      simp [old, State.movePlaces, LifeState.isDrain, LifeState.isSleeper, State.cover, State.carrier, State.setWakeQueue]
  by_cases own : d = c
  · subst own
    obtain ⟨lived, metered, counted, marked⟩ := moveTo_carrier (s := s) d new
    have lived : ((s.moveTo d new).carrier d).life = Life.clear new := by
      rw [lived, life]
      rcases next with rfl | rfl <;> rfl
    have metered : ((s.moveTo d new).carrier d).meter = (s.carrier d).meter := by
      rw [metered]
      rcases old with old | old <;> rcases next with rfl | rfl <;> rw [old] <;> rfl
    have marked : ((s.moveTo d new).carrier d).drainedReceived = (s.carrier d).drainedReceived := by
      rw [marked, received]
      rfl
    obtain ⟨a, made⟩ : ∃ a, a = (s.moveTo d new).carrier d := ⟨_, rfl⟩
    obtain ⟨b, given⟩ : ∃ b, b = s.carrier d := ⟨_, rfl⟩
    rw [State.cover, State.cover] at place
    rw [← made] at lived metered counted marked place ⊢
    rw [← given] at metered counted marked place ⊢
    rw [if_pos rfl]
    cases a
    cases b
    simp_all
  · rw [moveTo_other s c d new own, if_neg own]
    exact congrArg (fun x => { s.carrier d with cover := x }) place

/-- R127: a carrier that waits at class COVERAGE, or at a higher one, stays where it is when the same class reaches it. -/
theorem WakeQueue.promote_coverage {q : WakeQueue} (ordinary : q.ordinary = []) (c : CarrierIx) : q.promote c .coverage = q := by
  unfold WakeQueue.promote
  split
  · rename_i w k place
    have mem := List.mem_of_find?_eq_some place
    rw [WakeQueue.entries, ordinary] at mem
    refine if_neg fun above => ?_
    cases k <;> simp [WakeClass.above, WakeClass.code] at mem above
  · rfl

/-! ## The recovery -/

/-- R158: whether the unit of a carrier takes its CARRIER-WAKE. -/
def State.reaches (r : State) (c : CarrierIx) : Bool := (r.unit (r.unitOf c)).state == some .releasing

/-- R131: where a grant leaves a carrier. -/
def State.grantedState (r : State) (c : CarrierIx) : LifeState := if r.reaches c then .warmup else .lost

/-- The state `r` in which the recovery has queued every managed carrier at class COVERAGE, in the order of a list (R140). -/
structure AllQueued (all : List CarrierIx) (r : State) : Prop where
  nodup : all.Nodup
  managed : ∀ c, r.isManaged c = true → c ∈ all
  queued : ∀ c ∈ all, r.lifeState c = .queued
  life : ∀ c, (r.carrier c).life = Life.clear (r.lifeState c)
  received : ∀ c, (r.carrier c).drainedReceived = false
  units : ∀ v, (r.unit v).state = none ∨ (r.unit v).state = some .releasing ∨ (r.unit v).state = some .unreachable

/-- R130, R131: what the grants have done since `r` when those to the carriers of one list have been made and those of the
other still wait. -/
structure Granting (r : State) (granted waiting : List CarrierIx) (s : State) : Prop where
  keeps : Keeps r s
  carrier : ∀ c, s.carrier c =
    { r.carrier c with life := Life.clear (if c ∈ granted then r.grantedState c else r.lifeState c) }
  wakeQueue : s.wakeQueue = { WakeQueue.empty with coverage := waiting.map fun c => { carrier := c, depth := .unknown } }
  units : ∀ v, (s.unit v).state = (r.unit v).state
  called : ∀ c ∈ granted, r.reaches c = true →
    ∃ d ∈ (s.unit (r.unitOf c)).queue, d.kind = .carrierWake ∧ d.carrier = some c
  raised : ∀ c ∈ granted, r.reaches c = false → s.flagRaised .carrierLost = true
  advisories : s.advisories = r.advisories
  warmups : s.warmups = (granted.filter r.reaches).length
  free : ∀ c earlier later, granted = earlier ++ c :: later → (earlier.filter r.reaches).length < r.settings.slots

theorem Granting.lifeState (h : Granting r granted waiting s) (c : CarrierIx) :
    s.lifeState c = if c ∈ granted then r.grantedState c else r.lifeState c := by
  rw [State.lifeState, h.carrier]
  rfl

/-- R139: with every managed carrier QUEUED at class COVERAGE, in WARMUP or LOST the anchor-lost cause does nothing. -/
theorem Granting.done_anchorLost (all : AllQueued (granted ++ waiting) r) (h : Granting r granted waiting s) :
    Done [.anchorLost c] s s := by
  have calm (d : CarrierIx) (managed : s.isManaged d = true) : (Task.wake d .anchorLost).effect s = (s, []) := by
    have own := all.managed d (by rw [← h.keeps.managed]; exact managed)
    have state : s.lifeState d = .warmup ∨ s.lifeState d = .lost ∨ s.lifeState d = .queued := by
      rw [h.lifeState, all.queued d own, State.grantedState]
      split_ifs <;> simp
    have stays : s.setWakeQueue (s.wakeQueue.promote d .coverage) = s := by
      rw [WakeQueue.promote_coverage (by rw [h.wakeQueue]; rfl)]
      rfl
    change wakeEffect d .anchorLost s = _
    unfold wakeEffect
    rcases state with state | state | state
    · rw [state]
    · rw [state]
      rfl
    · rw [state]
      exact congrArg (·, []) stays
  have nobody (l : List CarrierIx) (managed : ∀ d ∈ l, s.isManaged d = true) : Done (l.map (.wake · .anchorLost)) s s := by
    induction l with
    | nil => exact .nil s
    | cons d l ih =>
      refine done_cons_iff.mpr ⟨s, ?_, ih fun e mem => managed e (List.mem_cons_of_mem _ mem)⟩
      rw [calm d (managed d List.mem_cons_self)]
      exact .nil s
  exact Machine.done_anchorLost.mpr (nobody _ fun d mem => (mem_dependents.mp mem).1)

/-! ## One grant -/

/-- What a grant made to the first that waits, which has then gone to WARMUP or LOST, leaves of the carriers and the queue. -/
theorem Granting.first (h : Granting r granted (c :: waiting) s) (all : AllQueued (granted ++ c :: waiting) r) :
    c ∉ granted ∧ c ∉ waiting ∧ s.lifeState c = .queued ∧ (s.carrier c).life = Life.clear .queued ∧
      (s.carrier c).drainedReceived = false ∧ s.wakeQueue.leave c =
        { WakeQueue.empty with coverage := waiting.map fun c => { carrier := c, depth := .unknown } } := by
  have absent : c ∉ granted ∧ c ∉ waiting := by
    have := all.nodup
    simp only [List.nodup_append, List.nodup_cons, List.mem_cons] at this
    exact ⟨fun mem => this.2.2 c mem c (.inl rfl) rfl, this.2.1.1⟩
  have state : s.lifeState c = .queued := by
    rw [h.lifeState, if_neg absent.1, all.queued c (by simp)]
  have record := h.carrier c
  rw [if_neg absent.1, all.queued c (by simp)] at record
  refine ⟨absent.1, absent.2, state, by rw [record], by rw [record]; exact all.received c, ?_⟩
  have others : ∀ w ∈ waiting.map fun c => ({ carrier := c, depth := .unknown } : Waiting), w.carrier != c := by
    simp only [List.mem_map, forall_exists_index, and_imp, forall_apply_eq_imp_iff₂, bne_iff_ne]
    exact fun d mem same => absent.2 (same ▸ mem)
  rw [h.wakeQueue]
  simp only [WakeQueue.leave, WakeQueue.empty, List.map_cons, List.filter_nil]
  rw [List.filter_cons_of_neg (by simp), List.filter_eq_self.mpr others]

/-- A list of grants that goes on is free at its end too. -/
theorem Granting.free_snoc (h : Granting r granted waiting s) (slot : s.warmups < s.settings.slots) (c : CarrierIx) :
    ∀ d earlier later, granted ++ [c] = earlier ++ d :: later → (earlier.filter r.reaches).length < r.settings.slots := by
  intro d earlier later split
  rcases List.eq_nil_or_concat later with rfl | ⟨later, e, rfl⟩
  · obtain ⟨same, -⟩ := List.append_inj' split rfl
    rw [← same, ← h.warmups, ← h.keeps.settings]
    exact slot
  · have shorter : granted ++ [c] = (earlier ++ d :: later) ++ [e] := by simpa using split
    exact h.free d earlier later (List.append_inj' shorter rfl).1

end Sys2Proof.Machine
end

section
/-! PROOFS. All the grants of the recovery after a warm reset (R130, R131, R140). -/

namespace Sys2Proof.Machine

variable {s t r m u : State} {c d : CarrierIx} {granted waiting : List CarrierIx}

/-! ## One grant -/

/-- What a grant to carrier `c`, with all that it sets off in its unit, has done from `s` to `u`. -/
structure GrantMade (r : State) (c : CarrierIx) (s u : State) : Prop where
  keeps : Keeps s u
  carrier : ∀ d, u.carrier d =
    { s.carrier d with life := if d = c then Life.clear (r.grantedState c) else (s.carrier d).life }
  wakeQueue : u.wakeQueue = s.wakeQueue.leave c
  units : ∀ v, (u.unit v).state = (s.unit v).state
  queues : ∀ v, ∀ d ∈ (s.unit v).queue, d.carrier ≠ some c → d ∈ (u.unit v).queue
  called : r.reaches c = true → ∃ d ∈ (u.unit (r.unitOf c)).queue, d.kind = .carrierWake ∧ d.carrier = some c
  raised : r.reaches c = false → u.flagRaised .carrierLost = true
  advisories : u.advisories = s.advisories

theorem GrantMade.lifeState (h : GrantMade r c s u) (d : CarrierIx) :
    u.lifeState d = if d = c then r.grantedState c else s.lifeState d := by
  rw [State.lifeState, h.carrier]
  dsimp only
  split <;> rfl

/-- R130, R131: the grants go on with the next that waits. -/
theorem Granting.made (all : AllQueued (granted ++ c :: waiting) r) (h : Granting r granted (c :: waiting) s)
    (slot : s.warmups < s.settings.slots) (one : GrantMade r c s u) : Granting r (granted ++ [c]) waiting u := by
  obtain ⟨fresh, -, state, -, -, left⟩ := h.first all
  refine ⟨h.keeps.trans one.keeps, fun d => ?_, one.wakeQueue.trans left, fun v => (one.units v).trans (h.units v),
    fun d mem reached => ?_, fun d mem missed => ?_, one.advisories.trans h.advisories, ?_, h.free_snoc slot c⟩
  · rw [one.carrier, h.carrier]
    by_cases own : d = c
    · subst own
      simp
    · simp [own]
  · rcases List.mem_append.mp mem with before | last
    · obtain ⟨e, queued, kind, carrier⟩ := h.called d before reached
      exact ⟨e, one.queues _ e queued (by rw [carrier]; exact fun same => fresh (Option.some.inj same ▸ before)), kind, carrier⟩
    · exact List.mem_singleton.mp last ▸ one.called (List.mem_singleton.mp last ▸ reached)
  · rcases List.mem_append.mp mem with before | last
    · exact one.keeps.flags _ (h.raised d before missed)
    · exact one.raised (List.mem_singleton.mp last ▸ missed)
  · have moved := warmups_of_move one.lifeState
    rw [state, if_neg (by decide), h.warmups] at moved
    rw [List.filter_append, List.length_append]
    cases reached : r.reaches c <;> simp [State.grantedState, reached] at moved ⊢ <;> exact moved

/-- R131, R145: the first that waits is granted a slot, and its unit takes CARRIER-WAKE. -/
theorem Granting.taken (all : AllQueued (granted ++ c :: waiting) r) (h : Granting r granted (c :: waiting) s)
    (slot : s.warmups < s.settings.slots) (reached : r.reaches c = true) :
    ∃ u, GrantMade r c s u ∧ ∀ t, Done [.grants] u t → Done [.grants] s t := by
  obtain ⟨-, -, state, life, received, -⟩ := h.first all
  have releasing : (s.unit (s.unitOf c)).state = some .releasing := by
    rw [h.units, h.keeps.unitOf_eq]
    simpa [State.reaches] using reached
  obtain ⟨m, warmed, effect⟩ := grantTo_of_taken state (by simp [State.untaken, releasing])
  rw [if_neg (by simp [releasing])] at effect
  have unitOf : m.unitOf c = s.unitOf c := warmed.keeps.unitOf_eq c
  have same (v : UnitIx) : m.unit v = s.unit v := by rw [State.unit, warmed.units, State.unit]
  have own : (m.queued .carrierWake c).unit (s.unitOf c) =
      { s.unit (s.unitOf c) with queue := (s.unit (s.unitOf c)).queue ++ [m.directiveFor .carrierWake c] } := by
    rw [← unitOf, queued_unit_same, unitOf, same]
  have other {v : UnitIx} (other : v ≠ s.unitOf c) : (m.queued .carrierWake c).unit v = s.unit v := by
    rw [queued_unit_other m .carrierWake (by rwa [unitOf]), same]
  refine ⟨m.queued .carrierWake c, ⟨warmed.keeps.trans (keeps_queued ..), fun d => ?_, warmed.queue, fun v => ?_,
    fun v e mem _ => ?_, fun _ => ?_, fun missed => ?_, warmed.told.advisories.trans (notify_advisories ..)⟩, fun t done => ?_⟩
  · rw [State.grantedState, if_pos reached]
    exact (warmed.record d).trans (moveTo_clear (by rw [life, state]) received (.inl state) (.inl rfl) d)
  · by_cases mine : v = s.unitOf c
    · rw [mine, own]
    · rw [other mine]
  · by_cases mine : v = s.unitOf c
    · subst mine
      rw [own]
      exact List.mem_append_left _ mem
    · rwa [other mine]
  · rw [← h.keeps.unitOf_eq, own]
    exact ⟨_, List.mem_append_right _ (List.mem_singleton_self _), rfl, rfl⟩
  · rw [reached] at missed
    cases missed
  · have first : s.wakeQueue.first = some { carrier := c, depth := .unknown } := by
      rw [h.wakeQueue]
      rfl
    have busy : (Task.sendHead (s.unitOf c)).effect (m.queued .carrierWake c) = (m.queued .carrierWake c, []) :=
      sendHead_of_busy (.inl (by rw [own]; simp [releasing]))
    rw [done_singleton_iff, show Task.grants.effect s = grantsEffect s from rfl, grantsEffect_of_first slot first, effect]
    exact done_cons_iff.mpr ⟨_, by rw [busy]; exact .nil _, done⟩

/-- R130: with no slot free, or nobody waiting, no grant is made. -/
theorem Granting.still (h : Granting r granted waiting s) (ended : waiting = [] ∨ s.settings.slots ≤ s.warmups) :
    Done [.grants] s s :=
  ended.elim (fun none => done_grants_of_empty (by rw [h.wakeQueue, none]; rfl)) done_grants_of_full

/-- R131, R135: the first that waits is granted a slot, and its unit does not take CARRIER-WAKE: the carrier is LOST, and the
slot free again. -/
theorem Granting.untaken (all : AllQueued (granted ++ c :: waiting) r) (h : Granting r granted (c :: waiting) s)
    (slot : s.warmups < s.settings.slots) (missed : r.reaches c = false) :
    ∃ u, GrantMade r c s u ∧ ∀ t, Done [.grants] u t → Done [.grants] t t → (∀ d, Done [.anchorLost d] t t) →
      Done [.grants] s t := by
  obtain ⟨-, -, state, life, received, -⟩ := h.first all
  have closed : (s.unit (s.unitOf c)).state = none ∨ (s.unit (s.unitOf c)).state = some .unreachable := by
    rw [h.units, h.keeps.unitOf_eq]
    exact (all.units (r.unitOf c)).imp_right fun h => h.resolve_left (by simpa [State.reaches] using missed)
  obtain ⟨m, warmed, effect⟩ := grantTo_of_untaken state closed
  have same (v : UnitIx) : m.unit v = s.unit v := by rw [State.unit, warmed.units, State.unit]
  have unitOf : m.unitOf c = s.unitOf c := warmed.keeps.unitOf_eq c
  have warm (d : CarrierIx) := (warmed.record d).trans (moveTo_clear (by rw [life, state]) received (.inl state) (.inl rfl) d)
  have warmLife : (m.carrier c).life = Life.clear (m.lifeState c) := by rw [warmed.state, warm, if_pos rfl]
  obtain ⟨loss, tasks⟩ := loss_loseEffect (cause := .radioSilent) (s := m) (c := c) (by rw [warmed.state]; decide)
    (by rw [warmed.state]; decide)
  rw [warmed.state, if_pos rfl, unitOf] at tasks
  generalize made : (loseEffect c .radioSilent m).1 = u at loss
  refine ⟨u, ⟨warmed.keeps.trans loss.keeps, fun d => ?_, ?_, fun v => (loss.unitState v).trans (congrArg _ (same v)),
    fun v e mem alien => ?_, fun reached => ?_, fun _ => loss.raised, ?_⟩, fun t done still calm => ?_⟩
  · have lost : r.grantedState c = .lost := by simp [State.grantedState, missed]
    rw [loss.record, moveTo_clear warmLife (by rw [warm]; exact received) (.inr warmed.state) (.inr rfl), warm, lost]
    by_cases own : d = c <;> simp [own]
  · rw [loss.wakeQueue, warmed.state, if_neg (by decide), warmed.queue]
  · by_cases mine : v = m.unitOf c
    · subst mine
      rw [loss.queue, same]
      exact List.mem_filter.mpr ⟨mem, by simpa [Directive.isFor] using alien⟩
    · rwa [loss.unit v mine, same]
  · rw [reached] at missed
    cases missed
  · refine loss.told.advisories.trans ((notify_advisories ..).trans ?_)
    refine Eq.trans ?_ (warmed.told.advisories.trans (notify_advisories ..))
    rw [pathAndEngine_raiseFlag]
  · have first : s.wakeQueue.first = some { carrier := c, depth := .unknown } := by
      rw [h.wakeQueue]
      rfl
    have idle : (Task.sendHead (s.unitOf c)).effect u = (u, []) := by
      refine sendHead_of_busy (.inl ?_)
      rw [loss.unitState, same]
      rcases closed with closed | closed <;> simp [closed]
    rw [done_singleton_iff, show Task.grants.effect s = grantsEffect s from rfl, grantsEffect_of_first slot first, effect]
    refine done_cons_iff.mpr ⟨t, ?_, still⟩
    change Done (loseEffect c .radioSilent m).2 (loseEffect c .radioSilent m).1 t
    rw [tasks, made, List.append_assoc]
    refine done_cons_iff.mpr ⟨u, by rw [idle]; exact .nil u, done_cons_iff.mpr ⟨t, done_singleton_iff.mp done, ?_⟩⟩
    exact done_ite fun _ => calm c

/-! ## All of them -/

/-- R130, R131, R140: the grants go on until no slot is free or nobody waits. -/
theorem Granting.ends (all : AllQueued (granted ++ waiting) r) (h : Granting r granted waiting s) :
    ∃ t first rest, first ++ rest = granted ++ waiting ∧ Done [.grants] s t ∧ Granting r first rest t ∧
      (rest = [] ∨ t.settings.slots ≤ t.warmups) := by
  induction waiting generalizing granted s with
  | nil => exact ⟨s, granted, [], rfl, h.still (.inl rfl), h, .inl rfl⟩
  | cons c waiting ih =>
    rcases Nat.lt_or_ge s.warmups s.settings.slots with slot | full
    · have regroup : granted ++ c :: waiting = (granted ++ [c]) ++ waiting := by simp
      cases reached : r.reaches c with
      | true =>
        obtain ⟨u, one, goes⟩ := h.taken all slot reached
        obtain ⟨t, first, rest, split, done, granting, ended⟩ := ih (regroup ▸ all) (h.made all slot one)
        exact ⟨t, first, rest, split.trans regroup.symm, goes t done, granting, ended⟩
      | false =>
        obtain ⟨u, one, goes⟩ := h.untaken all slot reached
        obtain ⟨t, first, rest, split, done, granting, ended⟩ := ih (regroup ▸ all) (h.made all slot one)
        have calm (d : CarrierIx) : Done [.anchorLost d] t t := granting.done_anchorLost (by rw [split, ← regroup]; exact all)
        exact ⟨t, first, rest, split.trans regroup.symm, goes t done (granting.still ended) calm, granting, ended⟩
    · exact ⟨s, granted, c :: waiting, rfl, h.still (.inr full), h, .inr full⟩

/-- R140: before the first grant. -/
theorem granting_nobody (all : AllQueued waiting r) (none : r.warmups = 0) (queue : r.wakeQueue =
    { WakeQueue.empty with coverage := waiting.map fun c => { carrier := c, depth := .unknown } }) :
    Granting r [] waiting r :=
  ⟨.refl r, fun c => by simp [← all.life], queue, fun _ => rfl, by simp, by simp, rfl, none, by simp⟩

end Sys2Proof.Machine
end

section
/-! PROOFS. The end of a warm reset (O6). -/

namespace Sys2Proof.Machine

variable {s t r b : State} {c d : CarrierIx} {v : UnitIx} {source : ResetSource} {n : NoticeContent} {f : Flag}

/-! ## Notices in UP -/

/-- R179: in UP, with none waiting, none waits after another has been generated. -/
theorem notify_waits_of_up (up : s.path.trunkState = .up) (none : s.engine.notices = []) (n : NoticeContent) :
    (s.notify n).engine.notices = [] := by
  cases wanted : s.noticeWanted n with
  | false => rw [notify_of_unwanted wanted, none]
  | true =>
    rw [notify_of_up wanted up none, State.sends, State.offerInjected]
    split <;> exact none

theorem raiseFlag_waits_of_up (up : s.path.trunkState = .up) (none : s.engine.notices = []) (f : Flag) :
    (s.raiseFlag f).engine.notices = [] := by
  unfold State.raiseFlag
  split
  · exact none
  · exact notify_waits_of_up (s := s.setFlag f) up none _

theorem recoverCarriers_waits_of_up {origin : Origin} (l : List CarrierIx) (managed : ∀ c ∈ l, s.isManaged c = true)
    (up : s.path.trunkState = .up) (none : s.engine.notices = []) :
    (l.foldl (State.recoverCarrier origin) s).engine.notices = [] := by
  induction l generalizing s with
  | nil => exact none
  | cons c l ih =>
    have kept := keeps_recoverCarrier (managed c List.mem_cons_self) origin
    let placed := s.setLife c { (s.carrier c).life with state := .queued }
    refine ih (fun d mem => ?_) (by rw [kept.trunkState, up]) (notify_waits_of_up
      (s := placed.setWakeQueue (placed.wakeQueue.join .coverage { carrier := c, depth := .unknown })) up none _)
    rw [kept.managed]
    exact managed d (List.mem_cons_of_mem _ mem)

/-! ## The state before the grants -/

/-- R14, R65, R84, R96, R128, R174: a warm reset has ended what it ends, and WARM-RESTART is raised. -/
def State.begunAfresh (s : State) : State := s.clearRuntime.reformSets.raiseFlag .warmRestart

/-- R140: the carriers have been placed in QUEUED. -/
def State.requeued (source : ResetSource) (s : State) : State :=
  s.managedCarriers.foldl (State.recoverCarrier (originOfReset source)) s.begunAfresh

theorem recovered_eq (source : ResetSource) (s : State) :
    s.recovered source = (List.finRange 8).foldl State.placeAfterReset (s.requeued source) := by
  rw [State.recovered, managedCarriers_begun]
  rfl

theorem begunAfresh_managed (s : State) (c : CarrierIx) : s.begunAfresh.isManaged c = s.isManaged c := by
  rw [State.isManaged, State.begunAfresh, (tells_warmRestart _).lifeState]
  exact congrArg (· != LifeState.unmanaged) (clearRuntime_lifeState s c)

theorem keeps_requeued (source : ResetSource) (s : State) : Keeps s.begunAfresh (s.requeued source) :=
  keeps_recoverCarriers _ (fun c mem => (begunAfresh_managed s c).trans (mem_managedCarriers.mp mem)) _

theorem keeps_placedUnits (l : List UnitIx) (s : State) : Keeps s (l.foldl State.placeAfterReset s) := by
  induction l generalizing s with
  | nil => exact .refl s
  | cons v l ih => exact (keeps_placeAfterReset s v).trans (ih _)

theorem keeps_recovered (source : ResetSource) (s : State) : Keeps (s.requeued source) (s.recovered source) := by
  rw [recovered_eq]
  exact keeps_placedUnits ..

theorem placeAfterReset_toldAs (s : State) (v : UnitIx) :
    ToldAs s (s.placeAfterReset v) ∧ (s.placeAfterReset v).carriers = s.carriers := by
  unfold State.placeAfterReset
  split
  · split
    · exact ⟨releaseUnit_toldAs s v, by rw [releaseUnit_eq]; rfl⟩
    · exact ⟨⟨rfl, rfl, rfl⟩, rfl⟩
  · exact ⟨.refl s, rfl⟩

theorem placedUnits_toldAs (l : List UnitIx) (s : State) :
    ToldAs s (l.foldl State.placeAfterReset s) ∧ (l.foldl State.placeAfterReset s).carriers = s.carriers := by
  induction l generalizing s with
  | nil => exact ⟨.refl s, rfl⟩
  | cons v l ih =>
    obtain ⟨told, same⟩ := placeAfterReset_toldAs s v
    obtain ⟨others, rest⟩ := ih (s.placeAfterReset v)
    exact ⟨told.trans others, rest.trans same⟩

theorem recovered_toldAs (source : ResetSource) (s : State) : ToldAs (s.requeued source) (s.recovered source) := by
  rw [recovered_eq]
  exact (placedUnits_toldAs ..).1

/-- R45, R65, R96, R140, R166: a carrier's record before the grants. -/
theorem recovered_carrier (source : ResetSource) (s : State) (c : CarrierIx) : (s.recovered source).carrier c =
    { meter := Meter.clear, counters := (s.carrier c).counters, cover := Cover.clear,
      life := Life.clear ((s.recovered source).lifeState c), drainedReceived := false } := by
  have state : ((s.recovered source).carrier c).life.state = (s.recovered source).lifeState c := rfl
  have same : (s.recovered source).carrier c = (s.requeued source).carrier c := by
    rw [recovered_eq, State.carrier, (placedUnits_toldAs ..).2, State.carrier]
  have record := (recovered_foldl (originOfReset source) s.managedCarriers s.begunAfresh).carrier c
  rw [State.begunAfresh, begun_carrier] at record
  rw [same] at state ⊢
  rw [← state]
  rw [show (s.requeued source).carrier c = _ from record]
  rfl

theorem requeued_units (source : ResetSource) (s : State) : (s.requeued source).units = s.units := by
  have one (origin : Origin) (u : State) (c : CarrierIx) : (u.recoverCarrier origin c).units = u.units :=
    (tells_notifyState ..).units
  have fold (origin : Origin) (l : List CarrierIx) (u : State) : (l.foldl (State.recoverCarrier origin) u).units = u.units := by
    induction l generalizing u with
    | nil => rfl
    | cons c l ih => exact (ih _).trans (one ..)
  exact (fold ..).trans (tells_warmRestart _).units

theorem begunAfresh_advisories (s : State) : s.begunAfresh.advisories = s.advisories := by
  rw [State.begunAfresh, pathAndEngine_raiseFlag]
  rfl

theorem recovered_advisories (source : ResetSource) (s : State) : (s.recovered source).advisories = s.advisories := by
  have fold (origin : Origin) (l : List CarrierIx) (u : State) :
      (l.foldl (State.recoverCarrier origin) u).advisories = u.advisories := by
    induction l generalizing u with
    | nil => rfl
    | cons c l ih => exact (ih _).trans (recoverCarrier_advisories ..)
  exact (recovered_toldAs source s).advisories.trans ((fold ..).trans (begunAfresh_advisories s))

/-- R158: a unit in use releases where the port reports its link up, and is UNREACHABLE where it does not. -/
theorem recovered_unitState (source : ResetSource) (s : State) (v : UnitIx) : ((s.recovered source).unit v).state =
    if (s.unit v).state = none then none
    else if memberOf s.path.branchReport v.val = true then some .releasing else some .unreachable := by
  have links : (s.requeued source).path.linkUp (.branch v) = memberOf s.path.branchReport v.val := by
    rw [FramePath.linkUp, (keeps_requeued source s).branchUp, State.begunAfresh, (tells_warmRestart _).keeps.branchUp]
    rfl
  have own : (s.requeued source).unit v = s.unit v := by rw [State.unit, requeued_units, State.unit]
  rw [recovered_eq, placed_state _ (List.nodup_finRange 8), if_pos (List.mem_finRange v), State.placedState, own, links]

theorem recovered_unitOf (source : ResetSource) (s : State) (c : CarrierIx) : (s.recovered source).unitOf c = s.unitOf c := by
  rw [State.unitOf, State.config, recovered_carrierConfig, State.unitOf, State.config]

theorem recovered_reaches (source : ResetSource) (s : State) (c : CarrierIx) : (s.recovered source).reaches c =
    ((s.unit (s.unitOf c)).state.isSome && memberOf s.path.branchReport (s.unitOf c).val) := by
  rw [State.reaches, recovered_unitOf, recovered_unitState]
  cases (s.unit (s.unitOf c)).state with
  | none => rfl
  | some x => cases memberOf s.path.branchReport (s.unitOf c).val <;> rfl

/-- R140: every managed carrier waits, and no unit but one in RELEASING takes a directive. -/
theorem allQueued_recovered (source : ResetSource) (s : State) : AllQueued s.managedCarriers (s.recovered source) where
  nodup := (List.nodup_finRange 32).filter _
  managed c managed := mem_managedCarriers.mpr (by rwa [recovered_isManaged] at managed)
  queued c mem := by rw [recovered_lifeState, if_pos (mem_managedCarriers.mp mem)]
  life c := by rw [recovered_carrier]
  received c := by rw [recovered_carrier]
  units v := by
    rw [recovered_unitState]
    split_ifs <;> simp

/-! ## The notices of the recovery -/

theorem keeps_begunAfresh (s : State) : Keeps s.clearRuntime.reformSets s.begunAfresh := (tells_warmRestart _).keeps

theorem keeps_base (source : ResetSource) (s : State) : Keeps s.clearRuntime.reformSets (s.recovered source) :=
  ((keeps_begunAfresh s).trans (keeps_requeued source s)).trans (keeps_recovered source s)

/-- R140: the notices of the recovery are told behind that of WARM-RESTART alone. -/
theorem soundsAs_requeued {origin : Origin} (same : origin = originOfReset source) (s : State) : SoundsAs
    (s.managedCarriers.foldl (fun u c => u.notify (.carrierState c (s.lifeState c) .queued .restart origin
      s.calendar.minute s.calendar.second))
      (State.raiseFlag .warmRestart
        { s with path := { s.path with trunkState := s.clearRuntime.reformSets.path.trunkState } }))
    (s.requeued source) := by
  subst same
  have base : SoundsAs { s with path := { s.path with trunkState := s.clearRuntime.reformSets.path.trunkState } }
      s.clearRuntime.reformSets := ⟨rfl, rfl, rfl, rfl, rfl⟩
  refine SoundsAs.recoverCarriers _ _ ((List.nodup_finRange 32).filter _) (fun c _ => ?_) ?_ (base.raiseFlag _)
  · exact ((tells_warmRestart _).lifeState c).trans (clearRuntime_lifeState s c)
  · rw [State.begunAfresh, (tells_warmRestart _).keeps.calendar]
    exact ⟨rfl, rfl⟩

/-- R140, R179: what is told after the recovery comes behind its notices. -/
theorem recovery_first (done : Done [.grants] (s.recovered source) t) (none : s.engine.notices = []) :
    (s.requeued source).engine.notices <+: t.engine.notices ∧
      (s.requeued source).path.trunkQueue.ahead <+: t.path.trunkQueue.ahead := by
  have told := recovered_toldAs source s
  refine ⟨?_, ((keeps_recovered source s).trans done.keeps).ahead .trunk⟩
  by_cases up : s.clearRuntime.reformSets.path.trunkState = .up
  · have waits := recoverCarriers_waits_of_up (origin := originOfReset source) (s := s.begunAfresh) s.managedCarriers
      (fun c mem => (begunAfresh_managed s c).trans (mem_managedCarriers.mp mem))
      ((keeps_begunAfresh s).trunkState.trans up) (raiseFlag_waits_of_up up none _)
    rw [show (s.requeued source).engine.notices = [] from waits]
    exact List.nil_prefix
  · rw [← told.engine]
    exact (done.steady (by simp [Task.isRecover])).notices (by rwa [(keeps_base source s).trunkState])

/-! ## The carriers -/

/-- R130, R140: where the grants have left a carrier, by those before it that took a slot. -/
theorem Granting.place {first rest earlier later : List CarrierIx} (h : Granting r first rest t)
    (all : AllQueued (first ++ rest) r) (ended : rest = [] ∨ t.settings.slots ≤ t.warmups)
    (split : first ++ rest = earlier ++ c :: later) : t.lifeState c =
      if r.settings.slots ≤ (earlier.filter r.reaches).length then .queued else r.grantedState c := by
  rw [h.lifeState]
  rcases List.append_eq_append_iff.mp split with ⟨before, cut, behind⟩ | ⟨before, cut, behind⟩
  · have waits : c ∉ first := by
      have := all.nodup
      rw [behind] at this
      simp only [List.nodup_append, List.mem_append, List.mem_cons] at this
      exact fun mem => this.2.2 c mem c (.inr (.inl rfl)) rfl
    have taken : r.settings.slots ≤ (earlier.filter r.reaches).length := by
      have full : t.settings.slots ≤ t.warmups := ended.resolve_left (by simp [behind])
      rw [h.keeps.settings, h.warmups] at full
      rw [cut, List.filter_append, List.length_append]
      omega
    rw [if_neg waits, if_pos taken]
    exact all.queued c (by rw [split]; simp)
  · cases before with
    | nil =>
      have waits : c ∉ first := by
        have := all.nodup
        rw [split] at this
        simp only [List.append_nil] at cut
        rw [cut]
        simp only [List.nodup_append, List.mem_cons] at this
        exact fun mem => this.2.2 c mem c (.inl rfl) rfl
      have taken : r.settings.slots ≤ (earlier.filter r.reaches).length := by
        have full : t.settings.slots ≤ t.warmups := ended.resolve_left (by
          intro nobody
          simp [nobody] at behind)
        rw [h.keeps.settings, h.warmups] at full
        simpa [cut] using full
      rw [if_neg waits, if_pos taken]
      exact all.queued c (by rw [split]; simp)
    | cons e before =>
      obtain ⟨rfl, -⟩ := List.cons.inj (by simpa using behind)
      rw [if_pos (by simp [cut]), if_neg (Nat.not_le.mpr (h.free c earlier before cut))]

end Sys2Proof.Machine
end

section
/-! PROOFS. The end of a warm reset, settled (O6). -/

namespace Sys2Proof.Machine

variable {s t r b : State} {c d : CarrierIx} {v : UnitIx} {source : ResetSource} {n : Nat}

/-- R14: what a reset's end reads of the trunk. -/
theorem trunk_afterReset (s : State) (same : t.path.trunkState = s.clearRuntime.reformSets.path.trunkState)
    (timer : t.path.grace = s.clearRuntime.reformSets.path.grace) :
    t.trunkLost = s.trunkLost ∧ t.path.trunkLinkUp = s.path.trunkReport ∧
      t.path.grace = (if t.path.trunkState = .failing ∨ t.path.trunkState = .returning then some s.settings.trunkGrace
        else none) := by
  have state : t.path.trunkState =
      (FramePath.trunkAfterReset s.trunkLost s.path.trunkReport s.settings.trunkGrace).1 := same
  have grace : t.path.grace =
      (FramePath.trunkAfterReset s.trunkLost s.path.trunkReport s.settings.trunkGrace).2 := timer
  rw [State.trunkLost, FramePath.trunkLinkUp, state, grace]
  cases s.trunkLost <;> cases s.path.trunkReport <;> exact ⟨rfl, rfl, rfl⟩

theorem mode_afterReset (m : Mode) : m.afterReset = if m = .transparent then .transparent else .monitor := by cases m <;> rfl

/-- R130, R140: the grants of the recovery. -/
theorem recovery_grants (source : ResetSource) (s : State) : ∃ t first rest, first ++ rest = s.managedCarriers ∧
    s.endReset source = t ∧ Done [.grants] (s.recovered source) t ∧ Granting (s.recovered source) first rest t ∧
    (rest = [] ∨ t.settings.slots ≤ t.warmups) := by
  have begins := granting_nobody (allQueued_recovered source s) (recovered_warmups source s) (recovered_wakeQueue source s)
  obtain ⟨t, first, rest, split, done, granting, ended⟩ := begins.ends (by exact allQueued_recovered source s)
  exact ⟨t, first, rest, split, (endReset_eq source s).trans (work_eq (by decide) done), done, granting, ended⟩

/-- R140: the carriers that still wait, in index order. -/
theorem Granting.waits {first rest : List CarrierIx} (h : Granting r first rest t) (all : AllQueued (first ++ rest) r) :
    ((first ++ rest).filter fun c => t.lifeState c == .queued) = rest := by
  have gone : (first.filter fun c => t.lifeState c == .queued) = [] := by
    rw [List.filter_eq_nil_iff]
    intro c mem
    rw [h.lifeState, if_pos mem, State.grantedState]
    split <;> simp
  have still : (rest.filter fun c => t.lifeState c == .queued) = rest := by
    rw [List.filter_eq_self]
    intro c mem
    have waits : c ∉ first := fun own => (List.nodup_append.mp all.nodup).2.2 c own c mem rfl
    rw [h.lifeState, if_neg waits, all.queued c (List.mem_append_right _ mem)]
    rfl
  rw [List.filter_append, gone, still, List.nil_append]

/-- R131: a carrier that the grants have left in WARMUP or LOST was granted a slot. -/
theorem Granting.granted_of {first rest : List CarrierIx} (h : Granting r first rest t)
    (idle : ∀ c, r.lifeState c ≠ .warmup ∧ r.lifeState c ≠ .lost) {reached : Bool}
    (state : t.lifeState c = if reached = true then .warmup else .lost) : c ∈ first ∧ r.reaches c = reached := by
  rw [h.lifeState] at state
  by_cases mem : c ∈ first
  · rw [if_pos mem, State.grantedState] at state
    refine ⟨mem, ?_⟩
    cases reached <;> cases own : r.reaches c <;> simp [own] at state ⊢
  · rw [if_neg mem] at state
    obtain ⟨warm, lost⟩ := idle c
    cases reached <;> simp_all

/-- Settles O6. -/
theorem warmResetEnds : Obligations.WarmResetEnds := by
  unfold Obligations.WarmResetEnds
  intro source n s phase
  obtain ⟨t, first, rest, split, ends, done, granting, ended⟩ := recovery_grants source s
  have all := allQueued_recovered source s
  rw [← split] at all
  have listed : ((List.finRange 32).filter fun c => s.isManaged c) = first ++ rest := split.symm
  have kept := (keeps_base source s).trans done.keeps
  have idle (c : CarrierIx) : (s.recovered source).lifeState c ≠ .warmup ∧ (s.recovered source).lifeState c ≠ .lost := by
    rw [recovered_lifeState]
    split <;> simp
  have unitState (v : UnitIx) := (granting.units v).trans (recovered_unitState source s v)
  obtain ⟨lost, link, grace⟩ := trunk_afterReset s kept.trunkState kept.grace
  refine ⟨t, ?_, kept.phase, ⟨fun c earlier later cut => ?_, ?_, fun c warm => ?_, fun ⟨c, found⟩ => ?_, fun none => ?_⟩,
    fun c unmanaged => ?_, fun c => ?_, fun g => ?_, kept.windowClock, kept.mode.trans (mode_afterReset _), ?_,
    fun f raised => ?_, kept.branchUp, lost, link, grace, fun v => ?_, fun v used up => ?_, fun v used down => ?_,
    kept.settings, kept.carrierConfig, kept.profiles, kept.unitConfig, kept.actions, kept.windows, kept.permissions,
    kept.classifier, kept.requests, granting.advisories.trans (recovered_advisories source s)⟩
  · rw [← ends]
    change execWarmResetEnd s = _
    rw [execWarmResetEnd, phase]
  · rw [granting.place all ended (listed ▸ cut), recovered_settings, State.grantedState]
    simp only [funext (recovered_reaches source s), recovered_reaches]
  · rw [granting.wakeQueue, listed, granting.waits all]
    rfl
  · obtain ⟨mem, reached⟩ := granting.granted_of (reached := true) idle warm
    rw [← recovered_unitOf source]
    exact granting.called c mem reached
  · obtain ⟨mem, missed⟩ := granting.granted_of (reached := false) idle found
    exact granting.raised c mem missed
  · have origin : (if source = .restart then Origin.requested else .external) = originOfReset source := by cases source <;> rfl
    have sounds := soundsAs_requeued origin s
    obtain ⟨notices, ahead⟩ := recovery_first done none
    have trunk := kept.trunkState
    dsimp only
    rw [trunk]
    rw [sounds.engine] at notices
    rw [sounds.trunk] at ahead
    exact ⟨notices, ahead⟩
  · have absent : c ∉ first := fun mem => by
      have := (mem_managedCarriers (s := s) (c := c)).mp (split ▸ List.mem_append_left _ mem)
      rw [unmanaged] at this
      cases this
    rw [granting.lifeState, if_neg absent, recovered_lifeState, unmanaged]
    rfl
  · have record := granting.carrier c
    rw [← granting.lifeState, recovered_carrier] at record
    rw [record]
    exact ⟨rfl, rfl, rfl, rfl, rfl⟩
  · rw [State.lockedOut, kept.lockOuts]
    fin_cases g <;> rfl
  · refine ((keeps_requeued source s).trans ((keeps_recovered source s).trans done.keeps)).flags _ ?_
    exact raiseFlag_raised ..
  · exact kept.flags f raised
  · rw [unitState]
    split_ifs <;> simp_all
  · rw [unitState, if_neg used, if_pos up]
  · rw [unitState, if_neg used, if_neg (by simp [down])]

end Sys2Proof.Machine
end

section
/-! PROOFS. What one carrier's change leaves of the others: their lifecycle parts, their pledges and their places in the lists
(R74, R78, R79, R97). -/

namespace Sys2Proof.Machine

variable {s t u : State} {c d e : CarrierIx} {l : List CarrierIx} {new : LifeState} {cause : Cause} {v : UnitIx}

/-! ## One carrier's change -/

/-- From `s` to `t` only the part of carrier `e` has changed: no other one's lifecycle part or pledge, no place of another in a
list, and no list but those of the anchor that `e` names. -/
structure Touch (e : CarrierIx) (s t : State) : Prop where
  carrierConfig : t.carrierConfig = s.carrierConfig
  life : ∀ d, d ≠ e → (t.carrier d).life = (s.carrier d).life
  pledge : ∀ d, d ≠ e → (t.cover d).pledge = (s.cover d).pledge
  drains : ∀ a, (t.cover a).drainList.filter (· != e) = (s.cover a).drainList.filter (· != e)
  sleepers : ∀ a, (t.cover a).sleeperList.filter (· != e) = (s.cover a).sleeperList.filter (· != e)
  apart : ∀ a, a ≠ s.anchorOf e → (t.cover a).drainList = (s.cover a).drainList ∧
    (t.cover a).sleeperList = (s.cover a).sleeperList

theorem Touch.refl (s : State) : Touch e s s :=
  ⟨rfl, fun _ _ => rfl, fun _ _ => rfl, fun _ => rfl, fun _ => rfl, fun _ _ => ⟨rfl, rfl⟩⟩

theorem Touch.anchorOf (h : Touch e s t) (d : CarrierIx) : t.anchorOf d = s.anchorOf d := by
  simp only [State.anchorOf, State.config, h.carrierConfig]

theorem Touch.trans (h : Touch e s t) (k : Touch e t u) : Touch e s u where
  carrierConfig := k.carrierConfig.trans h.carrierConfig
  life d other := (k.life d other).trans (h.life d other)
  pledge d other := (k.pledge d other).trans (h.pledge d other)
  drains a := (k.drains a).trans (h.drains a)
  sleepers a := (k.sleepers a).trans (h.sleepers a)
  apart a other := by
    obtain ⟨drains, sleepers⟩ := h.apart a other
    obtain ⟨drains', sleepers'⟩ := k.apart a (by rwa [h.anchorOf])
    exact ⟨drains'.trans drains, sleepers'.trans sleepers⟩

theorem Touch.lifeState (h : Touch e s t) (other : d ≠ e) : t.lifeState d = s.lifeState d :=
  congrArg Life.state (h.life d other)

theorem Touch.ite {p : Prop} [Decidable p] (h : Touch e s t) (k : Touch e s u) : Touch e s (if p then t else u) := by
  split
  · exact h
  · exact k

/-- What the relation reads of a carrier other than its own. -/
theorem touch_of_carriers (config : t.carrierConfig = s.carrierConfig) (carriers : t.carriers = s.carriers) : Touch e s t := by
  have same (d : CarrierIx) : t.carrier d = s.carrier d := by rw [State.carrier, carriers, State.carrier]
  exact ⟨config, fun d _ => by rw [same], fun d _ => by rw [State.cover, same, State.cover],
    fun a => by rw [State.cover, same, State.cover], fun a => by rw [State.cover, same, State.cover],
    fun a _ => by rw [State.cover, same, State.cover]; exact ⟨rfl, rfl⟩⟩

theorem Tells.touch (h : Tells s t) : Touch e s t := touch_of_carriers h.keeps.carrierConfig h.carriers

/-! ## The lists -/

theorem filter_insertBefore (before : CarrierIx → CarrierIx → Bool) (e : CarrierIx) (l : List CarrierIx) :
    (insertBefore before e l).filter (· != e) = l.filter (· != e) := by
  induction l with
  | nil => simp [insertBefore]
  | cons d l ih =>
    unfold insertBefore
    split
    · exact List.filter_cons_of_neg (by simp)
    · rw [List.filter_cons, List.filter_cons, ih]

theorem filter_filter_self (e : CarrierIx) (l : List CarrierIx) : (l.filter (· != e)).filter (· != e) = l.filter (· != e) := by
  rw [List.filter_filter]
  simp

/-- A coverage part that differs in what is of carrier `e`. -/
theorem touch_setCover {a : CarrierIx} {x : Cover} (pledge : a ≠ e → x.pledge = (s.cover a).pledge)
    (drains : x.drainList.filter (· != e) = (s.cover a).drainList.filter (· != e))
    (sleepers : x.sleeperList.filter (· != e) = (s.cover a).sleeperList.filter (· != e))
    (apart : a ≠ s.anchorOf e → x.drainList = (s.cover a).drainList ∧ x.sleeperList = (s.cover a).sleeperList) :
    Touch e s (s.setCover a x) := by
  have own : (s.setCover a x).cover a = x := (setCover_cover s a a x).trans (if_pos rfl)
  have rest {b : CarrierIx} (other : b ≠ a) : (s.setCover a x).cover b = s.cover b := (setCover_cover s a b x).trans (if_neg other)
  refine ⟨rfl, fun d _ => ?_, fun d other => ?_, fun b => ?_, fun b => ?_, fun b other => ?_⟩
  · rw [setCover_carrier]
  · by_cases same : d = a
    · subst same
      rw [own, pledge other]
    · rw [rest same]
  · by_cases same : b = a
    · subst same
      rw [own, drains]
    · rw [rest same]
  · by_cases same : b = a
    · subst same
      rw [own, sleepers]
    · rw [rest same]
  · by_cases same : b = a
    · subst same
      rw [own]
      exact apart other
    · rw [rest same]
      exact ⟨rfl, rfl⟩

theorem touch_joinDrain (s : State) (e : CarrierIx) (pledge : Nat) : Touch e s (s.joinDrain e pledge) := by
  have own : Touch e s (s.setCover e { s.cover e with pledge := pledge, drainMoment := s.moment }) :=
    touch_setCover (fun other => absurd rfl other) rfl rfl fun _ => ⟨rfl, rfl⟩
  unfold State.joinDrain
  exact own.trans (touch_setCover (fun _ => rfl) (filter_insertBefore ..) rfl fun other => absurd rfl other)

theorem touch_leaveDrain (s : State) (e : CarrierIx) : Touch e s (s.leaveDrain e) := by
  have listed : Touch e s (s.setCover (s.anchorOf e) { s.cover (s.anchorOf e) with
      pledgeTotal := (s.cover (s.anchorOf e)).pledgeTotal - (s.cover e).pledge,
      drainList := (s.cover (s.anchorOf e)).drainList.filter (· != e) }) :=
    touch_setCover (fun _ => rfl) (filter_filter_self ..) rfl fun other => absurd rfl other
  unfold State.leaveDrain
  exact listed.trans (touch_setCover (fun other => absurd rfl other) rfl rfl fun _ => ⟨rfl, rfl⟩)

theorem touch_joinSleepers (s : State) (e : CarrierIx) : Touch e s (s.joinSleepers e) := by
  have own : Touch e s (s.setCover e { s.cover e with rampMoment := s.moment }) :=
    touch_setCover (fun _ => rfl) rfl rfl fun _ => ⟨rfl, rfl⟩
  unfold State.joinSleepers State.placeSleeper
  exact own.trans (touch_setCover (fun _ => rfl) rfl (filter_insertBefore ..) fun other => absurd rfl other)

theorem touch_leaveSleepers (s : State) (e : CarrierIx) : Touch e s (s.leaveSleepers e) :=
  touch_setCover (fun _ => rfl) rfl (filter_filter_self ..) fun other => absurd rfl other

/-! ## A carrier's move, and what is told of it -/

theorem touch_setWakeQueue (s : State) (q : WakeQueue) : Touch e s (s.setWakeQueue q) := touch_of_carriers rfl rfl

theorem touch_movePlaces (s : State) (e : CarrierIx) (old new : LifeState) : Touch e s (s.movePlaces e old new) := by
  have drained : Touch e s (if old.isDrain && !new.isDrain then s.leaveDrain e else s) := .ite (touch_leaveDrain ..) (.refl s)
  exact ((drained.trans (.ite (touch_leaveSleepers ..) (.refl _))).trans (.ite (touch_joinSleepers ..) (.refl _))).trans
    (.ite (touch_setWakeQueue ..) (.refl _))

theorem touch_setCarrier (s : State) (e : CarrierIx) {x : Carrier} (same : x.cover = s.cover e) : Touch e s (s.setCarrier e x) := by
  have cover (a : CarrierIx) : (s.setCarrier e x).cover a = s.cover a := setCarrier_cover s e a x same
  refine ⟨rfl, fun d other => ?_, fun d _ => by rw [cover], fun a => by rw [cover], fun a => by rw [cover],
    fun a _ => by rw [cover]; exact ⟨rfl, rfl⟩⟩
  rw [State.setCarrier_carrier, if_neg other]

theorem touch_setLife (s : State) (e : CarrierIx) (x : Life) : Touch e s (s.setLife e x) := touch_setCarrier s e rfl

theorem touch_moveTo (s : State) (e : CarrierIx) (new : LifeState) : Touch e s (s.moveTo e new) := by
  have placed := touch_movePlaces s e (s.lifeState e) new
  have record : Touch e (s.movePlaces e (s.lifeState e) new) ((s.movePlaces e (s.lifeState e) new).setCarrier e
      (((s.movePlaces e (s.lifeState e) new).carrier e).onMove new ((s.movePlaces e (s.lifeState e) new).profileOf e))) :=
    touch_setCarrier _ e rfl
  unfold State.moveTo
  refine (placed.trans record).trans ?_
  exact touch_of_carriers (keeps_moveSlumber ..).carrierConfig (moveSlumber_carriers ..)

theorem touch_moveAndTell (s : State) (e : CarrierIx) (new : LifeState) (cause : Cause) : Touch e s (s.moveAndTell e new cause) :=
  (touch_moveTo ..).trans (tells_notifyState ..).touch

theorem touch_enterQueued (s : State) (e : CarrierIx) (cls : WakeClass) (depth : Depth) (cause : Cause) :
    Touch e s (s.enterQueued e cls depth cause) :=
  ((touch_moveTo ..).trans (touch_setWakeQueue ..)).trans (tells_notifyState ..).touch

theorem touch_enterRestoring (s : State) (e : CarrierIx) (cause : Cause) : Touch e s (s.enterRestoring e cause) := by
  have told : Touch e s (((s.moveTo e .restoring).advise .openUp e cause).notifyState e (s.lifeState e) .restoring cause
      cause.origin) :=
    (touch_moveTo ..).trans ((tells_advise ..).trans (tells_notifyState ..)).touch
  refine .ite (told.trans ?_) told
  exact .ite (touch_moveAndTell ..) (.refl _)

theorem touch_beginDrain (s : State) (e : CarrierIx) (pledge : Nat) (cause : Cause) : Touch e s (s.beginDrain e pledge cause) :=
  ((touch_joinDrain ..).trans (touch_moveTo ..)).trans ((tells_advise ..).trans (tells_notifyState ..)).touch

theorem touch_handDirective {kind : DirectiveKind} (h : s.handDirective kind c = some t) : Touch e s t :=
  touch_of_carriers (keeps_handDirective h).carrierConfig (handDirective_carriers h)

/-! ## The effects of the tasks of a window end -/

theorem touch_abandonEffect (s : State) (e : CarrierIx) (cause : Cause) : Touch e s (abandonEffect e cause s).1 := by
  unfold abandonEffect
  split
  · exact touch_enterRestoring ..
  · exact .refl s

theorem touch_completeDrain (s : State) (e : CarrierIx) (cause : Cause) (origin : Origin) :
    Touch e s (completeDrain e cause origin s).1 := by
  unfold completeDrain
  split
  · dsimp only
    split
    · exact ((touch_moveTo ..).trans (touch_handDirective ‹_›)).trans (tells_notifyState ..).touch
    · exact (touch_moveTo ..).trans (tells_notifyState ..).touch
  · exact .refl s

theorem touch_deepenEffect (s : State) (e : CarrierIx) : Touch e s (deepenEffect e s).1 := by
  unfold deepenEffect
  split
  · split
    · exact (touch_handDirective ‹_›).trans (touch_moveAndTell ..)
    · exact .refl s
  · exact .refl s

theorem touch_wakeEffect (s : State) (e : CarrierIx) (k : WakeKind) : Touch e s (wakeEffect e k s).1 := by
  have spared {f : Effect} (h : Touch e s f.1) : Touch e s (if k = .traffic then ((s, []) : Effect) else f).1 := by
    split
    · exact .refl s
    · exact h
  unfold wakeEffect
  split
  · exact touch_enterQueued ..
  · exact spared (touch_enterQueued ..)
  · exact spared (touch_setLife ..)
  · exact spared (touch_setLife ..)
  · exact spared (touch_abandonEffect ..)
  · exact spared (touch_abandonEffect ..)
  · exact touch_setWakeQueue ..
  · split
    · exact touch_enterQueued ..
    · exact .refl s
  all_goals exact .refl s

theorem touch_loseEffect (s : State) (e : CarrierIx) (cause : Cause) : Touch e s (loseEffect e cause s).1 := by
  unfold loseEffect
  dsimp only
  split
  · exact .refl s
  · refine ((touch_moveTo s e .lost).trans ?_).trans ((tells_raiseFlag _ .carrierLost (by decide)).trans (tells_notifyState ..)).touch
    exact touch_of_carriers rfl rfl

theorem touch_withdrawnEffect (s : State) (e : CarrierIx) : Touch e s (withdrawnEffect e s).1 := by
  unfold withdrawnEffect
  split
  · split
    · exact touch_moveAndTell ..
    · exact touch_enterQueued ..
  · exact .refl s

theorem touch_grantTo (s : State) (e : CarrierIx) : Touch e s (grantTo e s).1 := by
  unfold grantTo
  split
  · dsimp only
    split
    · exact (touch_moveAndTell ..).trans (touch_handDirective ‹_›)
    · exact touch_moveAndTell ..
  · exact .refl s

theorem touch_tryAdmit (report : Vector Meter 32) (s : State) (e : CarrierIx) : Touch e s (State.tryAdmit report s e) :=
  .ite (touch_beginDrain ..) (.refl s)

end Sys2Proof.Machine
end

section
/-! PROOFS. What every task of a window end keeps, and which tasks it may set off (R75, R103, R130). -/

namespace Sys2Proof.Machine

variable {b s t u : State} {a c d e : CarrierIx} {l : List Task} {k j : Task} {m : Meter} {report : Vector Meter 32}

/-! ## Effects case by case -/

/-- R103: what the report of a carrier comes to, and when. -/
theorem reportEffect_eq (s : State) (c : CarrierIx) (m : Meter) : reportEffect c m s =
    if (s.lifeState c).isDrain = true ∧ (s.profileOf c).cancelThreshold < m.figure then (s.enterRestoring c .loadRose, [])
    else if s.lifeState c = .draining ∧ (s.profileOf c).quietWindows ≤ m.quietRun then completeDrain c .drainQuiet .timed s
    else if s.lifeState c = .doze then deepenEffect c s else (s, []) := by
  unfold reportEffect abandonEffect
  cases state : s.lifeState c <;> simp [LifeState.isDrain]

theorem reportEffect_idle (drain : (s.lifeState c).isDrain = false) (awake : s.lifeState c ≠ .doze) :
    reportEffect c m s = (s, []) := by
  rw [reportEffect_eq, if_neg (by simp [drain]), if_neg (fun h => by simp [h.1, LifeState.isDrain] at drain), if_neg awake]

theorem abandonEffect_idle {cause : Cause} (awake : (s.lifeState c).isDrain = false) : abandonEffect c cause s = (s, []) :=
  if_neg (by simp [awake])

theorem withdrawnEffect_idle (other : s.lifeState c ≠ .deepening) : withdrawnEffect c s = (s, []) := if_neg other

/-- R75, R76, R77: what the group of an anchor comes to. -/
theorem groupEffect_cases (a : CarrierIx) (report : Vector Meter 32) (s : State) :
    groupEffect a report s = (s, []) ∨
    ((s.profileOf a).reliefThreshold ≤ report[a].figure ∧ s.isAnchor a = true ∧ groupEffect a report s = reliefEffect a s) ∨
    (report[a].figure < (s.profileOf a).reliefThreshold ∧ s.isAnchor a = true ∧
      groupEffect a report s = ((s.candidates a report).foldl (State.tryAdmit report) s, [])) := by
  unfold groupEffect
  by_cases anchor : s.isAnchor a = true
  · rw [if_pos anchor]
    by_cases relief : (s.profileOf a).reliefThreshold ≤ report[a].figure
    · exact .inr (.inl ⟨relief, anchor, if_pos relief⟩)
    · exact .inr (.inr ⟨Nat.lt_of_not_le relief, anchor, if_neg relief⟩)
  · exact .inl (if_neg anchor)

/-- R77: whom relief reaches. -/
theorem reliefEffect_cases (a : CarrierIx) (s : State) : reliefEffect a s = (s, []) ∨
    (∃ d, (s.cover a).drainList.getLast? = some d ∧ reliefEffect a s = abandonEffect d .relief s) ∨
    ∃ d ∈ (s.cover a).sleeperList, (s.cover a).drainList = [] ∧ (s.carrier d).life.wakePending = none ∧
      reliefEffect a s = (s, [.wake d .relief]) := by
  unfold reliefEffect
  cases last : (s.cover a).drainList.getLast? with
  | some d => exact .inr (.inl ⟨d, rfl, rfl⟩)
  | none =>
    cases found : (s.cover a).sleeperList.find? fun d => (s.carrier d).life.wakePending.isNone with
    | none => exact .inl rfl
    | some d =>
      refine .inr (.inr ⟨d, List.mem_of_find?_eq_some found, List.getLast?_eq_none_iff.mp last, ?_, rfl⟩)
      simpa using List.find?_some found

/-- R77: relief hands its cause to a sleeper of the group. -/
theorem sleeper_of_wake {kind : WakeKind} (mem : .wake d kind ∈ (groupEffect a report s).2) : d ∈ (s.cover a).sleeperList := by
  obtain idle | ⟨-, -, relief⟩ | ⟨-, -, admits⟩ := groupEffect_cases a report s
  · rw [idle] at mem
    cases mem
  · rw [relief] at mem
    obtain idle | ⟨c, -, drains⟩ | ⟨c, listed, -, -, wakes⟩ := reliefEffect_cases a s
    · rw [idle] at mem
      cases mem
    · rw [drains, abandonEffect_tasks] at mem
      cases mem
    · rw [wakes] at mem
      obtain ⟨rfl, -⟩ := Task.wake.inj (List.mem_singleton.mp mem)
      exact listed
  · rw [admits] at mem
    cases mem

/-! ## The tasks of a window end -/

/-- The tasks that a window end holds, and those that they set off when no anchor is handed to its loss and no holder of a slot
to its loss while all slots are taken. -/
def Task.ofWindow (b : State) : Task → Prop
  | .report .. | .group .. | .grants | .sendHead _ | .withdrawn _ => True
  | .wake _ kind => kind = .relief
  | .lose d _ => b.isAnchor d = false ∧ (b.settings.slots ≤ b.warmups → b.lifeState d ≠ .warmup)
  | _ => False

/-- The laws of the carriers that every task keeps. -/
structure Sound (s : State) : Prop where
  table : CarrierTableLaw s
  resting : RestingLaw s
  cover : CoverLaw s
  waiting : WakeQueueLaw s

theorem Sound.orders (h : Sound s) (k : Orders s t) : Sound t :=
  ⟨k.table h.table, k.resting h.resting, k.cover h.table h.resting h.cover, k.queue h.waiting⟩

/-- What stands after any part of the work of a window end that began in `b`: with all slots taken then, the same carriers hold
them; and otherwise no anchor waits. -/
structure Running (b s : State) : Prop where
  keeps : Keeps b s
  sound : Sound s
  full : b.settings.slots ≤ b.warmups → ∀ c, s.lifeState c = .warmup ↔ b.lifeState c = .warmup
  free : b.warmups < b.settings.slots → ∀ c, s.lifeState c = .queued → s.isAnchor c = false

theorem isAnchor_eq (s : State) (c : CarrierIx) : s.isAnchor c = (s.isManaged c && s.anchorOf c == c) := rfl

theorem Keeps.isAnchor (h : Keeps s t) (c : CarrierIx) : t.isAnchor c = s.isAnchor c := by
  simp only [isAnchor_eq, State.anchorOf, h.managed, h.config]

/-- R72: a carrier at rest is no anchor. -/
theorem not_anchor_of_resting (h : RestingLaw s) (rests : (s.lifeState c).isResting = true) : s.isAnchor c = false := by
  have dependent := (h c rests).1
  simp only [State.isDependent, Bool.and_eq_true, bne_iff_ne] at dependent
  simp [isAnchor_eq, dependent.2]

theorem Running.warmups_full (h : Running b s) (full : b.settings.slots ≤ b.warmups) : s.settings.slots ≤ s.warmups := by
  have same : s.warmups = b.warmups := by
    unfold State.warmups
    congr 1
    refine List.filter_congr fun c _ => ?_
    have := h.full full c
    cases own : s.lifeState c == .warmup <;> cases old : b.lifeState c == .warmup <;> simp_all
  rw [same, h.keeps.settings]
  exact full

theorem grantsEffect_of_full (full : s.settings.slots ≤ s.warmups) : grantsEffect s = (s, []) := if_neg (Nat.not_lt.mpr full)

/-- R131: only a grant brings a carrier to WARMUP. -/
theorem warmup_of_task (other : k ≠ .grants) (ended : k.isEnded = false) (warm : (k.effect s).1.lifeState c = .warmup) :
    s.lifeState c = .warmup := by
  refine (chain_task k s).induction (fun s t => t.lifeState c = .warmup → s.lifeState c = .warmup) (fun _ => id)
    (fun h k => h ∘ k) (fun {m s t} allowed stride warm => ?_) warm
  cases stride with
  | inner h => rwa [h.state] at warm
  | move d new may =>
    rw [moveTo_lifeState] at warm
    split at warm
    · subst warm
      cases k <;> simp_all [Task.allowsIn, Task.allows, Kind.returns, Task.isEnded]
    · exact warm
  | lull d =>
    rw [moveTo_lifeState] at warm
    split at warm
    · cases warm
    · exact warm
  | enqueue d =>
    change (s.moveTo d .queued).lifeState c = .warmup at warm
    rw [moveTo_lifeState] at warm
    split at warm
    · cases warm
    · exact warm
  | promote => exact warm
  | keep d mark => rwa [setLife_lifeState s d c (x := { (s.carrier d).life with wakePending := some mark }) rfl] at warm
  | drain d pledge =>
    rw [moveTo_lifeState, joinDrain_lifeState] at warm
    split at warm
    · cases warm
    · exact warm
  | received d => rwa [setCarrier_lifeState s d c { s.carrier d with drainedReceived := true } rfl] at warm

end Sys2Proof.Machine
end

section
/-! PROOFS. The work of a window end, task by task: what stands after each, and what no task touches (R75, R103). -/

namespace Sys2Proof.Machine

variable {b s t u : State} {a c d e : CarrierIx} {l : List Task} {k j : Task} {m : Meter} {report : Vector Meter 32}
  {cause : Cause}

/-! ## What stands after each task -/

theorem anchorLost_of_lose (mem : .anchorLost a ∈ (loseEffect d cause s).2) : s.isAnchor d = true := by
  unfold loseEffect at mem
  dsimp only at mem
  split at mem
  · cases mem
  · simp only [List.mem_append, List.mem_singleton, reduceCtorEq, List.mem_ite_nil_right, and_false, or_self, false_or] at mem
    exact mem.1

theorem draining_of_lose (mem : .lose d cause ∈ (reportEffect c m s).2) : s.lifeState c = .draining := by
  rw [reportEffect_eq] at mem
  split at mem
  · cases mem
  · split at mem
    · rename_i quiet
      exact quiet.1
    · split at mem
      · obtain ⟨v, other⟩ := deepenEffect_tasks c s _ mem
        cases other
      · cases mem

theorem Task.ofWindow.not_ended (h : k.ofWindow b) : k.isEnded = false := by
  cases k with
  | ended => exact h.elim
  | _ => rfl

/-- R130: a task of a window end queues a carrier at rest alone. -/
theorem rests_of_queued (window : k.ofWindow b) (now : (k.effect s).1.lifeState c = .queued) :
    s.lifeState c = .queued ∨ (s.lifeState c).isResting = true := by
  rcases effect_turns k c s with same | turned
  · exact .inl (same.symm.trans now)
  · rw [now] at turned
    refine .inr ?_
    cases k with
    | wake d kind =>
      obtain rfl : kind = .relief := window
      obtain ⟨-, ⟨-, old | old | ⟨-, other⟩⟩ | ⟨-, back⟩⟩ := turned
      · rw [old]; rfl
      · rw [old]; rfl
      · cases other
      · cases back
    | grants => cases turned.2
    | lose => cases turned.2
    | withdrawn => rw [turned.2]; rfl
    | report =>
      obtain ⟨-, drain | doze⟩ := turned
      · rw [LifeState.isResting, drain]; rfl
      · rw [doze]; rfl
    | group =>
      obtain ⟨-, back⟩ | ⟨-, drain⟩ := turned
      · cases back
      · cases drain
    | sendHead => exact turned.elim
    | anchorLost | ended | linkUp | deepen | abandon | deepTest | recover => exact window.elim

/-- R130: with all slots taken none is freed. -/
theorem holds_slot (window : k.ofWindow b) (full : b.settings.slots ≤ b.warmups) (was : b.lifeState c = .warmup)
    (warm : s.lifeState c = .warmup) : (k.effect s).1.lifeState c = .warmup := by
  rcases effect_turns k c s with same | turned
  · exact same.trans warm
  · rw [warm] at turned
    cases k with
    | lose d =>
      obtain ⟨rfl, -⟩ := turned
      exact absurd was (window.2 full)
    | grants => cases turned.1
    | wake | report | group | withdrawn => simp [Task.turns, LifeState.isDrain] at turned
    | sendHead => exact turned.elim
    | anchorLost | ended | linkUp | deepen | abandon | deepTest | recover => exact window.elim

/-- What stands before a task of a window end stands after it, and it sets off such tasks alone. -/
theorem Running.task (h : Running b s) (window : k.ofWindow b) :
    Running b (k.effect s).1 ∧ ∀ j ∈ (k.effect s).2, j.ofWindow b := by
  have kept := h.keeps.trans (keeps_task k s)
  refine ⟨⟨kept, h.sound.orders (orders_task k s), fun full c => ⟨fun warm => ?_, fun was => ?_⟩, fun slot c queued => ?_⟩,
    fun j mem => ?_⟩
  · refine (h.full full c).mp ?_
    by_cases grants : k = .grants
    · subst grants
      rwa [show (Task.grants.effect s) = (s, []) from grantsEffect_of_full (h.warmups_full full)] at warm
    · exact warmup_of_task grants window.not_ended warm
  · exact holds_slot window full was ((h.full full c).mpr was)
  · rw [(keeps_task k s).isAnchor]
    rcases rests_of_queued window queued with before | rests
    · exact h.free slot c before
    · exact not_anchor_of_resting h.sound.resting rests
  · have spawned := effect_spawns k s j mem
    cases j with
    | grants | sendHead | withdrawn => trivial
    | lose d cause =>
      obtain ⟨rfl, queued, -⟩ | ⟨kind, how, rfl⟩ | ⟨m, rfl⟩ := spawned
      · rcases Nat.lt_or_ge b.warmups b.settings.slots with slot | full
        · exact ⟨by rw [← h.keeps.isAnchor]; exact h.free slot d queued, fun full => absurd full (by omega)⟩
        · rw [show (Task.grants.effect s) = (s, []) from grantsEffect_of_full (h.warmups_full full)] at mem
          cases mem
      · exact window.elim
      · have draining := draining_of_lose mem
        refine ⟨by rw [← h.keeps.isAnchor]; exact not_anchor_of_resting h.sound.resting (by rw [draining]; rfl), fun full was => ?_⟩
        rw [(h.full full d).mpr was] at draining
        cases draining
    | wake d kind =>
      obtain ⟨-, a, rfl⟩ | ⟨rfl, -⟩ := spawned
      · exact window.elim
      · rfl
    | anchorLost a =>
      obtain ⟨cause, rfl⟩ := spawned
      have anchor := anchorLost_of_lose mem
      rw [h.keeps.isAnchor, window.1] at anchor
      cases anchor
    | linkUp d =>
      obtain ⟨v, rfl⟩ := spawned
      exact window.elim
    | ended | deepen | abandon | report | group | deepTest | recover => exact spawned.elim

/-- What safe tasks of a window end keep, and set off only safe tasks, is kept through an event of such tasks. -/
theorem Done.window_stays (Q : State → Prop) (safe : Task → Prop)
    (step : ∀ k s, k.ofWindow b → safe k → Running b s → Q s → Q (k.effect s).1 ∧ ∀ j ∈ (k.effect s).2, safe j)
    (h : Done l s t) (window : ∀ k ∈ l, k.ofWindow b) (all : ∀ k ∈ l, safe k) (running : Running b s) (holds : Q s) :
    Running b t ∧ Q t := by
  refine h.stays (fun s => Running b s ∧ Q s) (fun k => k.ofWindow b ∧ safe k) (fun k s both holds => ?_)
    (fun k mem => ⟨window k mem, all k mem⟩) ⟨running, holds⟩
  obtain ⟨after, spawned⟩ := holds.1.task both.1
  obtain ⟨kept, safes⟩ := step k s both.1 both.2 holds.1 holds.2
  exact ⟨⟨after, kept⟩, fun j mem => ⟨spawned j mem, safes j mem⟩⟩

theorem Done.window (h : Done l s t) (window : ∀ k ∈ l, k.ofWindow b) (running : Running b s) : Running b t :=
  (h.window_stays (fun _ => True) (fun _ => True) (fun _ _ _ _ _ _ => ⟨trivial, fun _ _ => trivial⟩) window
    (fun _ _ => trivial) running trivial).1

/-! ## Which carrier a task touches -/

/-- The lifecycle part and the pledge of a carrier are as they were. -/
def Same (c : CarrierIx) (s t : State) : Prop :=
  (t.carrier c).life = (s.carrier c).life ∧ (t.cover c).pledge = (s.cover c).pledge

theorem Same.refl (c : CarrierIx) (s : State) : Same c s s := ⟨rfl, rfl⟩

theorem Same.trans (h : Same c s t) (k : Same c t u) : Same c s u := ⟨k.1.trans h.1, k.2.trans h.2⟩

theorem Same.lifeState (h : Same c s t) : t.lifeState c = s.lifeState c := congrArg Life.state h.1

theorem Touch.same (h : Touch e s t) (other : c ≠ e) : Same c s t := ⟨h.life c other, h.pledge c other⟩

theorem same_of_carriers (h : t.carriers = s.carriers) : Same c s t := by
  have same : t.carrier c = s.carrier c := by rw [State.carrier, h, State.carrier]
  exact ⟨by rw [same], by rw [State.cover, same, State.cover]⟩

/-- ACTIVE, RESTORING or in a drain state. -/
def LifeState.isLively (st : LifeState) : Bool := st.isBack || st.isDrain

/-- The tasks that name a carrier. -/
def Task.names (c : CarrierIx) : Task → Prop
  | .report d _ | .wake d _ | .lose d _ => d = c
  | _ => False

theorem grantsEffect_cases (s : State) : grantsEffect s = (s, []) ∨ ∃ w, s.warmups < s.settings.slots ∧
    s.wakeQueue.first = some w ∧ grantsEffect s = grantTo w.carrier s := by
  unfold grantsEffect
  by_cases slot : s.warmups < s.settings.slots
  · rw [if_pos slot]
    cases first : s.wakeQueue.first with
    | none => exact .inl rfl
    | some w => exact .inr ⟨w, slot, rfl, rfl⟩
  · exact .inl (if_neg slot)

theorem grantTo_idle (other : s.lifeState c ≠ .queued) : grantTo c s = (s, []) := if_neg other

/-- The tasks that a window end holds and that they set off, but for those of groups. -/
def Task.isPlain : Task → Prop
  | .report .. | .wake .. | .lose .. | .anchorLost _ | .grants | .sendHead _ | .withdrawn _ => True
  | _ => False

theorem Task.ofWindow.isPlain (h : k.ofWindow b) (single : ∀ a r, k ≠ .group a r) : k.isPlain := by
  cases k with
  | group a r => exact absurd rfl (single a r)
  | report | wake | lose | grants | sendHead | withdrawn => trivial
  | anchorLost | ended | linkUp | deepen | abandon | deepTest | recover => exact h.elim

theorem touch_reportEffect (s : State) (c : CarrierIx) (m : Meter) : Touch c s (reportEffect c m s).1 := by
  rw [reportEffect_eq]
  split
  · exact touch_enterRestoring ..
  · split
    · exact touch_completeDrain ..
    · split
      · exact touch_deepenEffect ..
      · exact .refl s

/-- A task that is no group's leaves a carrier as it was that it does not name, unless that waits, or is withdrawn. -/
theorem same_of_unnamed (plain : k.isPlain) (other : ¬k.names c) (unqueued : s.lifeState c ≠ .queued)
    (awake : k = .withdrawn c → s.lifeState c ≠ .deepening) : Same c s (k.effect s).1 := by
  cases k with
  | report d m => exact (touch_reportEffect s d m).same (Ne.symm other)
  | wake d kind => exact (touch_wakeEffect s d kind).same (Ne.symm other)
  | lose d cause => exact (touch_loseEffect s d cause).same (Ne.symm other)
  | withdrawn d =>
    change Same c s (withdrawnEffect d s).1
    by_cases own : c = d
    · subst own
      rw [withdrawnEffect_idle (awake rfl)]
      exact .refl c s
    · exact (touch_withdrawnEffect s d).same own
  | grants =>
    change Same c s (grantsEffect s).1
    obtain idle | ⟨w, -, -, granted⟩ := grantsEffect_cases s
    · rw [idle]
      exact .refl c s
    · rw [granted]
      by_cases own : c = w.carrier
      · rw [grantTo_idle (own ▸ unqueued)]
        exact .refl c s
      · exact (touch_grantTo s w.carrier).same own
  | sendHead v => exact same_of_carriers (sendHeadEffect_carriers v s)
  | anchorLost a => exact .refl c s
  | group | ended | linkUp | deepen | abandon | deepTest | recover => exact plain.elim

/-- A task that is no group's leaves a carrier that is ACTIVE, RESTORING or drains as it was, unless it names it. -/
theorem same_task (plain : k.isPlain) (other : ¬k.names c) (lively : (s.lifeState c).isLively = true) :
    Same c s (k.effect s).1 :=
  same_of_unnamed plain other (fun state => by rw [state] at lively; cases lively) fun _ state => by rw [state] at lively; cases lively

/-- A spawned task names no such carrier, unless it is the loss of one whose report is being taken. -/
theorem names_of_spawned (window : k.ofWindow b) (running : Running b s) (other : ¬k.names c)
    (lively : (s.lifeState c).isLively = true) (mem : j ∈ (k.effect s).2) : ¬j.names c ∧ ∀ a r, j ≠ .group a r := by
  have spawned := effect_spawns k s j mem
  refine ⟨fun named => ?_, fun a r same => by rw [same] at spawned; exact spawned.elim⟩
  cases j with
  | lose d cause =>
    obtain rfl : d = c := named
    obtain ⟨-, queued, -⟩ | ⟨kind, how, rfl⟩ | ⟨m, rfl⟩ := spawned
    · rw [queued] at lively
      cases lively
    · exact window.elim
    · exact other rfl
  | wake d kind =>
    obtain rfl : d = c := named
    obtain ⟨-, a, rfl⟩ | ⟨-, a, r, rfl⟩ := spawned
    · exact window.elim
    · have sleeps := ((running.sound.cover.sleepers a).2 d).mp (sleeper_of_wake mem)
      have awake : (s.lifeState d).isSleeper = false := by
        revert lively
        cases s.lifeState d <;> decide
      rw [awake] at sleeps
      cases sleeps.1
  | report d m => exact spawned.elim
  | grants | anchorLost | sendHead | ended | withdrawn | linkUp | deepen | abandon | group | deepTest | recover => exact named

/-! ## Admissions -/

/-- R76: the admissions of a group leave what is of no candidate. -/
theorem admissions_touch (report : Vector Meter 32) (l : List CarrierIx) (group : ∀ e ∈ l, s.anchorOf e = a) :
    (∀ c ∉ l, Same c s (l.foldl (State.tryAdmit report) s)) ∧
      ∀ g, g ≠ a → ((l.foldl (State.tryAdmit report) s).cover g).drainList = (s.cover g).drainList ∧
        ((l.foldl (State.tryAdmit report) s).cover g).sleeperList = (s.cover g).sleeperList := by
  induction l generalizing s with
  | nil => exact ⟨fun c _ => .refl c s, fun _ _ => ⟨rfl, rfl⟩⟩
  | cons e l ih =>
    have one := touch_tryAdmit report s e
    obtain ⟨others, lists⟩ := ih (s := State.tryAdmit report s e) fun d mem => by
      rw [one.anchorOf]
      exact group d (List.mem_cons_of_mem _ mem)
    refine ⟨fun c absent => ?_, fun g other => ?_⟩
    · exact (one.same fun same => absent (same ▸ List.mem_cons_self)).trans (others c fun mem => absent (List.mem_cons_of_mem _ mem))
    · obtain ⟨drains, sleepers⟩ := lists g other
      obtain ⟨drains', sleepers'⟩ := one.apart g (by rw [group e List.mem_cons_self]; exact other)
      exact ⟨drains.trans drains', sleepers.trans sleepers'⟩

theorem mem_candidates : c ∈ s.candidates a report ↔
    (s.isManaged c = true ∧ s.anchorOf c = a ∧ c ≠ a) ∧ s.isCandidate c report[c] = true ∧ (s.config c).rank.toNat ≤ 7 := by
  have ranks (n : Nat) : n ∈ [7, 6, 5, 4, 3, 2, 1, 0] ↔ n ≤ 7 := by
    simp only [List.mem_cons, List.not_mem_nil, or_false]
    omega
  simp only [State.candidates, List.mem_flatMap, List.mem_filter, mem_dependents, beq_iff_eq, ranks]
  exact ⟨fun ⟨_, low, ⟨group, may⟩, rank⟩ => ⟨group, may, rank ▸ low⟩,
    fun ⟨group, may, low⟩ => ⟨_, low, ⟨group, may⟩, rfl⟩⟩

end Sys2Proof.Machine
end

section
/-! PROOFS. The drains of a group through the part of a window end in which the Coverage Unit does not take it (R74, R79). -/

namespace Sys2Proof.Machine

variable {b s t u : State} {a c d e : CarrierIx} {l : List Task} {k j : Task} {m : Meter} {report : Vector Meter 32}
  {cause : Cause}

/-- No carrier's record has changed, or that of one alone, which is in no drain state then. -/
def Dropped (s t : State) : Prop := t.carriers = s.carriers ∨ ∃ e, Touch e s t ∧ (t.lifeState e).isDrain = false

theorem dropped_refl (s : State) : Dropped s s := .inl rfl

theorem dropped_enterRestoring (s : State) (c : CarrierIx) (cause : Cause) : Dropped s (s.enterRestoring c cause) := by
  refine .inr ⟨c, touch_enterRestoring .., ?_⟩
  rw [enterRestoring_lifeState, if_pos rfl]
  split <;> rfl

theorem dropped_abandonEffect (s : State) (c : CarrierIx) (cause : Cause) : Dropped s (abandonEffect c cause s).1 := by
  unfold abandonEffect
  split
  · exact dropped_enterRestoring ..
  · exact dropped_refl s

theorem dropped_moveAndTell {new : LifeState} (awake : new.isDrain = false) (s : State) (c : CarrierIx) (cause : Cause) :
    Dropped s (s.moveAndTell c new cause) :=
  .inr ⟨c, touch_moveAndTell .., by rw [moveAndTell_lifeState, if_pos rfl]; exact awake⟩

theorem dropped_enterQueued (s : State) (c : CarrierIx) (cls : WakeClass) (depth : Depth) (cause : Cause) :
    Dropped s (s.enterQueued c cls depth cause) :=
  .inr ⟨c, touch_enterQueued .., by rw [enterQueued_lifeState, if_pos rfl]; rfl⟩

theorem completeDrain_lifeState {origin : Origin} (draining : s.lifeState c = .draining) :
    (completeDrain c cause origin s).1.lifeState c = .rampdown := by
  by_cases taken : s.untaken c
  · rw [completeDrain_untaken draining taken, (tells_notifyState ..).lifeState, moveTo_lifeState, if_pos rfl]
  · exact (retired_completeDrain draining taken cause origin).1.state

theorem grantTo_lifeState (queued : s.lifeState c = .queued) : (grantTo c s).1.lifeState c = .warmup := by
  have moved : (s.moveAndTell c .warmup .granted).lifeState c = .warmup := (moveAndTell_lifeState ..).trans (if_pos rfl)
  rw [grantTo, if_pos queued]
  dsimp only
  split
  · rename_i handed
    exact (lifeState_of_carriers (handDirective_carriers handed) c).trans moved
  · exact moved

theorem dropped_reportEffect (s : State) (c : CarrierIx) (m : Meter) : Dropped s (reportEffect c m s).1 := by
  rw [reportEffect_eq]
  split
  · exact dropped_enterRestoring ..
  · split
    · rename_i quiet
      refine .inr ⟨c, touch_completeDrain .., ?_⟩
      rw [completeDrain_lifeState quiet.1]
      rfl
    · split
      · rename_i doze
        refine .inr ⟨c, touch_deepenEffect .., ?_⟩
        rcases deepenEffect_turns c c s with same | ⟨-, -, now⟩
        · rw [same, doze]; rfl
        · rw [now]; rfl
      · exact dropped_refl s

theorem dropped_wakeEffect (s : State) (c : CarrierIx) (k : WakeKind) : Dropped s (wakeEffect c k s).1 := by
  have spared {f : Effect} (h : Dropped s f.1) : Dropped s (if k = .traffic then ((s, []) : Effect) else f).1 := by
    split
    · exact dropped_refl s
    · exact h
  have kept (rests : (s.lifeState c).isDrain = false) : Dropped s (s.keepWake c k.cls k.cause) := by
    refine .inr ⟨c, touch_setLife .., ?_⟩
    rw [State.keepWake, setLife_lifeState s c c (by rfl)]
    exact rests
  unfold wakeEffect
  split
  · exact dropped_enterQueued ..
  · exact spared (dropped_enterQueued ..)
  · rename_i state
    exact spared (kept (by rw [state]; rfl))
  · rename_i state
    exact spared (kept (by rw [state]; rfl))
  · exact spared (dropped_abandonEffect ..)
  · exact spared (dropped_abandonEffect ..)
  · exact .inl rfl
  · split
    · exact dropped_enterQueued ..
    · exact dropped_refl s
  all_goals exact dropped_refl s

theorem dropped_loseEffect (s : State) (c : CarrierIx) (cause : Cause) : Dropped s (loseEffect c cause s).1 := by
  by_cases out : s.lifeState c = .unmanaged ∨ s.lifeState c = .lost
  · rw [show loseEffect c cause s = (s, []) from if_pos out]
    exact dropped_refl s
  · obtain ⟨managed, found⟩ := not_or.mp out
    refine .inr ⟨c, touch_loseEffect .., ?_⟩
    rw [(loss_loseEffect managed found cause).1.state, if_pos rfl]
    rfl

theorem dropped_withdrawnEffect (s : State) (c : CarrierIx) : Dropped s (withdrawnEffect c s).1 := by
  unfold withdrawnEffect
  split
  · split
    · exact dropped_moveAndTell rfl ..
    · exact dropped_enterQueued ..
  · exact dropped_refl s

theorem dropped_grantsEffect (s : State) : Dropped s (grantsEffect s).1 := by
  obtain idle | ⟨w, -, -, granted⟩ := grantsEffect_cases s
  · rw [idle]
    exact dropped_refl s
  · rw [granted]
    by_cases queued : s.lifeState w.carrier = .queued
    · refine .inr ⟨w.carrier, touch_grantTo .., ?_⟩
      rw [grantTo_lifeState queued]
      rfl
    · rw [grantTo_idle queued]
      exact dropped_refl s

/-- What a task of a window end that is no group's does. -/
theorem dropped_task (window : k.ofWindow b) (single : ∀ a r, k ≠ .group a r) (s : State) : Dropped s (k.effect s).1 := by
  cases k with
  | report d m => exact dropped_reportEffect ..
  | wake d kind => exact dropped_wakeEffect ..
  | lose d cause => exact dropped_loseEffect ..
  | withdrawn d => exact dropped_withdrawnEffect ..
  | grants => exact dropped_grantsEffect s
  | sendHead v => exact .inl (sendHeadEffect_carriers v s)
  | group a r => exact absurd rfl (single a r)
  | anchorLost | ended | linkUp | deepen | abandon | deepTest | recover => exact window.elim

/-! ## The drains of a group -/

/-- From `s` to `t` no carrier of the group of `a` has begun to drain, and those that drain still are as they were, in their
order. -/
structure GroupKept (a : CarrierIx) (s t : State) : Prop where
  list : (t.cover a).drainList = (s.cover a).drainList.filter fun c => (t.lifeState c).isDrain
  drains : ∀ c, s.anchorOf c = a → (t.lifeState c).isDrain = true → (s.lifeState c).isDrain = true ∧ Same c s t

theorem groupKept_refl (h : Sound s) (a : CarrierIx) : GroupKept a s s := by
  refine ⟨(List.filter_eq_self.mpr fun c mem => ?_).symm, fun c _ drain => ⟨drain, .refl c s⟩⟩
  exact (((h.cover.drains a).2 c).mp mem).1

theorem GroupKept.of_carriers (h : GroupKept a s t) (same : u.carriers = t.carriers) : GroupKept a s u := by
  have states := lifeState_of_carriers same
  have cover : u.cover a = t.cover a := by rw [State.cover, State.carrier, same]; rfl
  refine ⟨by rw [cover, h.list, funext fun c => congrArg LifeState.isDrain (states c)], fun c group drain => ?_⟩
  obtain ⟨before, kept⟩ := h.drains c group ((states c) ▸ drain)
  exact ⟨before, kept.trans (same_of_carriers same)⟩

/-- One carrier drains no more. -/
theorem GroupKept.dropped (h : GroupKept a s t) (dropped : Dropped t u) (law : CoverLaw u) : GroupKept a s u := by
  obtain same | ⟨e, touch, out⟩ := dropped
  · exact h.of_carriers same
  · have absent : e ∉ (u.cover a).drainList := fun mem => by
      have := (((law.drains a).2 e).mp mem).1
      rw [out] at this
      cases this
    refine ⟨?_, fun c group drain => ?_⟩
    · have kept : (u.cover a).drainList.filter (· != e) = (u.cover a).drainList :=
        List.filter_eq_self.mpr fun c mem => bne_iff_ne.mpr fun same => absent (same ▸ mem)
      rw [← kept, touch.drains, h.list, List.filter_filter]
      refine List.filter_congr fun c _ => ?_
      by_cases own : c = e
      · subst own
        simp [out]
      · simp [own, touch.lifeState own]
    · have other : c ≠ e := fun same => by
        rw [same, out] at drain
        cases drain
      rw [touch.lifeState other] at drain
      obtain ⟨before, same⟩ := h.drains c group drain
      exact ⟨before, same.trans (touch.same other)⟩

/-- Other groups have changed. -/
theorem GroupKept.aside (h : GroupKept a s t) (config : t.carrierConfig = s.carrierConfig)
    (list : (u.cover a).drainList = (t.cover a).drainList) (same : ∀ c, t.anchorOf c = a → Same c t u) (law : CoverLaw s) :
    GroupKept a s u := by
  have anchor (c : CarrierIx) : t.anchorOf c = s.anchorOf c := by simp only [State.anchorOf, State.config, config]
  refine ⟨?_, fun c group drain => ?_⟩
  · rw [list, h.list]
    refine List.filter_congr fun c mem => ?_
    rw [(same c ((anchor c).trans (((law.drains a).2 c).mp mem).2)).lifeState]
  · have stays := same c ((anchor c).trans group)
    rw [stays.lifeState] at drain
    obtain ⟨before, kept⟩ := h.drains c group drain
    exact ⟨before, kept.trans stays⟩

/-- R75: the group of another anchor. -/
theorem GroupKept.group (h : GroupKept a s t) (config : t.carrierConfig = s.carrierConfig) (law : CoverLaw s) {g : CarrierIx}
    (other : a ≠ g) (after : CoverLaw (groupEffect g report t).1) : GroupKept a s (groupEffect g report t).1 := by
  obtain idle | ⟨-, -, relief⟩ | ⟨-, -, admits⟩ := groupEffect_cases g report t
  · rw [idle]
    exact h
  · rw [relief] at after ⊢
    obtain idle | ⟨d, -, drains⟩ | ⟨d, -, -, -, wakes⟩ := reliefEffect_cases g t
    · rw [idle]
      exact h
    · rw [drains] at after ⊢
      exact h.dropped (dropped_abandonEffect ..) after
    · rw [wakes]
      exact h
  · obtain ⟨others, lists⟩ := admissions_touch (s := t) (a := g) report (t.candidates g report)
      fun e mem => (mem_candidates.mp mem).1.2.1
    rw [admits]
    refine h.aside config (lists a other).1 (fun c group => others c fun mem => other ?_) law
    rw [← group, (mem_candidates.mp mem).1.2.1]

theorem Done.group_kept (h : Done l s t) (window : ∀ k ∈ l, k.ofWindow b) (running : Running b s)
    (aside : ∀ k ∈ l, ∀ r, k ≠ .group a r) : GroupKept a s t := by
  have start := running
  refine (h.window_stays (b := b) (fun t => Keeps s t ∧ GroupKept a s t) (fun k => ∀ r, k ≠ .group a r)
    (fun k t window safe running holds => ?_) window aside running ⟨.refl s, groupKept_refl running.sound a⟩).2.2
  obtain ⟨kept, group⟩ := holds
  have after := (running.task window).1.sound.cover
  refine ⟨⟨kept.trans (keeps_task k t), ?_⟩, fun j mem r same => ?_⟩
  · by_cases single : ∀ g r, k ≠ .group g r
    · exact group.dropped (dropped_task window single t) after
    · push Not at single
      obtain ⟨g, r, rfl⟩ := single
      exact group.group kept.carrierConfig start.sound.cover (fun same => safe r (by rw [same])) after
  · have spawned := effect_spawns k t j mem
    rw [same] at spawned
    exact spawned

end Sys2Proof.Machine
end

section
/-! PROOFS. The parts of a window end (R58, R75, R103): the group of one anchor, the report of one carrier, and the tasks on
either side, which leave that carrier alone. -/

namespace Sys2Proof.Machine

variable {b s t u n : State} {a c d e : CarrierIx} {l : List Task} {k j : Task} {m : Meter} {report : Vector Meter 32}
  {cause : Cause} {order : ReportOrder}

/-! ## A carrier that no task names -/

/-- R75: the group of another anchor leaves a carrier alone. -/
theorem same_group (law : CoverLaw s) (other : s.anchorOf c ≠ a) : Same c s (groupEffect a report s).1 := by
  obtain idle | ⟨-, -, relief⟩ | ⟨-, -, admits⟩ := groupEffect_cases a report s
  · rw [idle]
    exact .refl c s
  · rw [relief]
    obtain idle | ⟨d, last, drains⟩ | ⟨d, -, -, -, wakes⟩ := reliefEffect_cases a s
    · rw [idle]
      exact .refl c s
    · rw [drains]
      refine (touch_abandonEffect s d .relief).same fun same => other ?_
      rw [same]
      exact (((law.drains a).2 d).mp (List.mem_of_getLast? last)).2
    · rw [wakes]
      exact .refl c s
  · rw [admits]
    refine (admissions_touch (a := a) report _ fun e mem => (mem_candidates.mp mem).1.2.1).1 c fun mem => other ?_
    exact (mem_candidates.mp mem).1.2.1

/-- The tasks of a window end that neither name a carrier nor take its group. -/
def Task.avoids (c a : CarrierIx) (k : Task) : Prop := ¬k.names c ∧ ∀ r, k ≠ .group a r

theorem Done.same (h : Done l s t) (window : ∀ k ∈ l, k.ofWindow b) (running : Running b s)
    (lively : (s.lifeState c).isLively = true) (avoids : ∀ k ∈ l, k.avoids c (s.anchorOf c)) : Same c s t := by
  refine (h.window_stays (b := b) (fun t => Keeps s t ∧ Same c s t) (fun k => k.avoids c (s.anchorOf c))
    (fun k t window safe running holds => ?_) window avoids running ⟨.refl s, .refl c s⟩).2.2
  obtain ⟨kept, same⟩ := holds
  have alive : (t.lifeState c).isLively = true := by rwa [same.lifeState]
  refine ⟨⟨kept.trans (keeps_task k t), same.trans ?_⟩, fun j mem => ?_⟩
  · by_cases single : ∀ g r, k ≠ .group g r
    · exact same_task (window.isPlain single) safe.1 alive
    · push Not at single
      obtain ⟨g, r, rfl⟩ := single
      exact same_group running.sound.cover fun own => safe.2 r (by rw [← kept.anchorOf_eq, own])
  · obtain ⟨unnamed, single⟩ := names_of_spawned window running safe.1 alive mem
    exact ⟨unnamed, fun r => single _ r⟩

/-! ## The tasks of a window end -/

theorem lifecycle_split (managed : b.isManaged c = true) : ∃ before after,
    b.lifecycleTasks = before ++ .report c (b.carrier c).meter :: after ∧
      ∀ k ∈ before ++ after, ∃ d m, d ≠ c ∧ k = .report d m := by
  obtain ⟨before, after, split⟩ := List.append_of_mem (mem_managedCarriers.mpr managed)
  have once : b.managedCarriers.Nodup := (List.nodup_finRange 32).filter _
  rw [split] at once
  refine ⟨before.map fun c => .report c (b.carrier c).meter, after.map fun c => .report c (b.carrier c).meter,
    by rw [State.lifecycleTasks, split, List.map_append, List.map_cons], fun k mem => ?_⟩
  rw [← List.map_append] at mem
  obtain ⟨d, listed, rfl⟩ := List.mem_map.mp mem
  refine ⟨d, _, fun same => ?_, rfl⟩
  subst same
  exact (List.nodup_cons.mp (List.nodup_middle.mp once)).1 listed

theorem coverage_split (b : State) (a : CarrierIx) : ∃ before after,
    b.coverageTasks = before ++ .group a b.windowReport :: after ∧
      ∀ k ∈ before ++ after, ∃ g, g ≠ a ∧ k = .group g b.windowReport := by
  obtain ⟨before, after, split⟩ := List.append_of_mem (List.mem_finRange a)
  have once := List.nodup_finRange 32
  rw [split] at once
  refine ⟨before.map fun g => .group g b.windowReport, after.map fun g => .group g b.windowReport,
    by rw [State.coverageTasks, split, List.map_append, List.map_cons], fun k mem => ?_⟩
  rw [← List.map_append] at mem
  obtain ⟨g, listed, rfl⟩ := List.mem_map.mp mem
  refine ⟨g, fun same => ?_, rfl⟩
  subst same
  exact (List.nodup_cons.mp (List.nodup_middle.mp once)).1 listed

/-- A task list of other groups, or of the reports of some carriers. -/
def Reports (p : CarrierIx → Prop) (l : List Task) : Prop := ∀ k ∈ l, ∃ d m, p d ∧ k = .report d m

def Groups (a : CarrierIx) (l : List Task) : Prop := ∀ k ∈ l, ∃ g r, g ≠ a ∧ k = .group g r

theorem Reports.window {p : CarrierIx → Prop} (h : Reports p l) : ∀ k ∈ l, k.ofWindow b := fun k mem => by
  obtain ⟨d, m, -, rfl⟩ := h k mem
  trivial

theorem Groups.window (h : Groups a l) : ∀ k ∈ l, k.ofWindow b := fun k mem => by
  obtain ⟨g, r, -, rfl⟩ := h k mem
  trivial

theorem Reports.avoids (h : Reports (· ≠ c) l) : ∀ k ∈ l, k.avoids c a := fun k mem => by
  obtain ⟨d, m, other, rfl⟩ := h k mem
  exact ⟨other, by simp⟩

theorem Groups.avoids (h : Groups a l) : ∀ k ∈ l, k.avoids c a := fun k mem => by
  obtain ⟨g, r, other, rfl⟩ := h k mem
  exact ⟨id, fun r same => other (Task.group.inj same).1⟩

theorem Reports.aside {p : CarrierIx → Prop} (h : Reports p l) : ∀ k ∈ l, ∀ r, k ≠ .group a r := fun k mem r => by
  obtain ⟨d, m, -, rfl⟩ := h k mem
  simp

theorem Groups.aside (h : Groups a l) : ∀ k ∈ l, ∀ r, k ≠ .group a r := fun k mem r same => by
  obtain ⟨g, r', other, rfl⟩ := h k mem
  exact other (Task.group.inj same).1

/-- R58, R75: the work of a window end as the group of an anchor `a` sees it: all that comes before, from `b` to `m`; the group,
from `m` to `n`; and all that comes after. -/
structure GroupTaken (order : ReportOrder) (a : CarrierIx) (b m n t : State) : Prop where
  before : (order = .coverageFirst → ∃ l, Groups a l ∧ Done l b m) ∧
    (order = .lifecycleFirst → ∃ x l, Done b.lifecycleTasks b x ∧ Groups a l ∧ Done l x m)
  taken : Done [.group a b.windowReport] m n
  after : (order = .coverageFirst → ∃ x l, Groups a l ∧ Done l n x ∧ Done b.lifecycleTasks x t) ∧
    (order = .lifecycleFirst → ∃ l, Groups a l ∧ Done l n t)

theorem groupTaken (a : CarrierIx) (h : Done (b.reportTasks order) b t) : ∃ m n, GroupTaken order a b m n t := by
  obtain ⟨before, after, split, others⟩ := coverage_split b a
  have first : Groups a before := fun k mem => by
    obtain ⟨g, other, rfl⟩ := others k (List.mem_append_left _ mem)
    exact ⟨g, _, other, rfl⟩
  have last : Groups a after := fun k mem => by
    obtain ⟨g, other, rfl⟩ := others k (List.mem_append_right _ mem)
    exact ⟨g, _, other, rfl⟩
  cases order with
  | coverageFirst =>
    obtain ⟨x, groups, reports⟩ := done_append_iff.mp h
    rw [split] at groups
    obtain ⟨m, begins, rest⟩ := done_append_iff.mp groups
    obtain ⟨n, own, ends⟩ := done_cons_iff.mp rest
    exact ⟨m, n, ⟨fun _ => ⟨before, first, begins⟩, nofun⟩, done_singleton_iff.mpr own,
      ⟨fun _ => ⟨x, after, last, ends, reports⟩, nofun⟩⟩
  | lifecycleFirst =>
    obtain ⟨x, reports, groups⟩ := done_append_iff.mp h
    rw [split] at groups
    obtain ⟨m, begins, rest⟩ := done_append_iff.mp groups
    obtain ⟨n, own, ends⟩ := done_cons_iff.mp rest
    exact ⟨m, n, ⟨nofun, fun _ => ⟨x, before, reports, first, begins⟩⟩, done_singleton_iff.mpr own,
      ⟨nofun, fun _ => ⟨after, last, ends⟩⟩⟩

end Sys2Proof.Machine
end

section
/-! PROOFS. The state in which a window end is published (R52, R58, R62), and the tests that the report of a carrier holds. -/

namespace Sys2Proof.Machine

variable {b s t u n : State} {a c d e : CarrierIx} {l : List Task} {k j : Task} {m : Meter} {order : ReportOrder}

/-! ## What the meters' work leaves -/

theorem closeWindow_lifeState (s : State) (c : CarrierIx) : s.closeWindow.lifeState c = s.lifeState c := (inner_closeWindow s).state c

theorem closeWindow_life (s : State) (c : CarrierIx) : (s.closeWindow.carrier c).life = (s.carrier c).life := by
  rw [closeWindow_carrier]
  split <;> rfl

theorem closeWindow_cover (s : State) (c : CarrierIx) : s.closeWindow.cover c = s.cover c := (inner_closeWindow s).cover c

theorem closeWindow_isManaged (s : State) (c : CarrierIx) : s.closeWindow.isManaged c = s.isManaged c := by
  rw [State.isManaged, closeWindow_lifeState, State.isManaged]

theorem closeWindow_isAnchor (s : State) (c : CarrierIx) : s.closeWindow.isAnchor c = s.isAnchor c := by
  rw [isAnchor_eq, closeWindow_isManaged]
  rfl

theorem closeWindow_warmups (s : State) : s.closeWindow.warmups = s.warmups := warmups_of_state (closeWindow_lifeState s)

/-- R130: the work of a window end begins where every law holds. -/
theorem running_closeWindow (h : Lawful s) : Running s.closeWindow s.closeWindow := by
  have orders := (inner_closeWindow s).orders
  have sound : Sound s := ⟨h.table, h.resting, h.cover, h.waiting⟩
  refine ⟨.refl _, sound.orders orders, fun _ _ => .rfl, fun slot c queued => ?_⟩
  have waits : s.wakeQueue.entries ≠ [] := fun none => by
    rw [closeWindow_lifeState] at queued
    have listed := (h.waiting.2 c).mpr queued
    rw [none] at listed
    cases listed
  have full : s.settings.slots ≤ s.warmups := h.slots waits
  rw [closeWindow_warmups] at slot
  exact absurd full (Nat.not_le.mpr slot)

/-- R103: the tests of the report of a carrier, as they stand when it is published. -/
def State.rises (b : State) (c : CarrierIx) : Prop := (b.profileOf c).cancelThreshold < (b.carrier c).meter.figure

def State.quiets (b : State) (c : CarrierIx) : Prop :=
  b.lifeState c = .draining ∧ (b.profileOf c).quietWindows ≤ (b.carrier c).meter.quietRun

def State.presses (b : State) (a : CarrierIx) : Prop := (b.profileOf a).reliefThreshold ≤ (b.carrier a).meter.figure

theorem Keeps.profileOf_eq (h : Keeps s t) (c : CarrierIx) : t.profileOf c = s.profileOf c := by
  simp only [State.profileOf, h.profiles, h.config]

theorem loadRose_iff (h : Keeps b t) : LoadRose t c ↔ b.rises c := by
  rw [LoadRose, h.profileOf_eq, h.figure, State.rises]

theorem needsRelief_iff (h : Keeps b t) : NeedsRelief t a ↔ b.presses a := by
  rw [NeedsRelief, h.profileOf_eq, h.figure, State.presses]

/-- R57: the drain-quiet run that the report carries. -/
theorem closeWindow_quietRun (draining : s.lifeState c = .draining) (range : MetersInRange s) :
    (s.closeWindow.carrier c).meter.quietRun =
      if (s.carrier c).meter.primed = true ∧ (s.closeWindow.carrier c).meter.sample = 0 then
        min 255 ((s.carrier c).meter.quietRun + 1) else 0 := by
  obtain ⟨fresh, primed⟩ := windowEnd_eq (s.config c) (s.promoteProfiles.profileOf c) (s.lifeState c) s.windowClock.length
    (s.carrier c).meter
  rw [closeWindow_carrier, if_neg (by simp [draining])]
  cases mark : (s.carrier c).meter.primed with
  | false =>
    have clear := (range c).2.2.2.2.2 mark
    dsimp only
    rw [fresh mark, clear]
    simp [Meter.clear]
  | true =>
    dsimp only
    rw [primed mark]
    simp [draining]

theorem wentQuiet_iff (h : Keeps s.closeWindow t) (range : MetersInRange s) : WentQuiet s t c ↔ s.closeWindow.quiets c := by
  rw [WentQuiet, State.quiets, closeWindow_lifeState, h.profileOf_eq, h.sample]
  refine and_congr_right fun draining => ?_
  rw [closeWindow_quietRun draining range]

theorem closeWindow_profileOf (s : State) (c : CarrierIx) : s.closeWindow.profileOf c = s.promoteProfiles.profileOf c := by
  simp only [State.closeWindow, State.newMoment, State.beginWindow, State.meterAll, State.profileOf, State.config]

/-- R60, R61: the values in force then were in force before, or had been written. -/
theorem closeWindow_inRange (law : InRange s) (c : CarrierIx) : (s.closeWindow.profileOf c).inRange := by
  rw [closeWindow_profileOf, State.profileOf, State.promoteProfiles]
  simp only [Fin.getElem_fin, Vector.getElem_map, ProfileRecord.promote]
  split
  · exact (law.profiles _).2
  · exact (law.profiles _).1

/-- R56: no carrier whose new load figure is above its sleep threshold has an idle run. -/
theorem not_rises_of_idle (managed : s.isManaged c = true) (law : InRange s) (range : MetersInRange s)
    (idle : (s.closeWindow.profileOf c).idleRunLength ≤ (s.closeWindow.carrier c).meter.idleRun) : ¬s.closeWindow.rises c := by
  have fits := closeWindow_inRange law c
  have least : 1 ≤ (s.closeWindow.profileOf c).idleRunLength := fits.1.2.2.2.2.2.2.1
  have apart : (s.closeWindow.profileOf c).sleepThreshold < (s.closeWindow.profileOf c).cancelThreshold := fits.2.1
  have awake : s.lifeState c ≠ .unmanaged := by simpa [State.isManaged] using managed
  obtain ⟨fresh, primed⟩ := windowEnd_eq (s.config c) (s.promoteProfiles.profileOf c) (s.lifeState c) s.windowClock.length
    (s.carrier c).meter
  have meter : (s.closeWindow.carrier c).meter = (s.carrier c).meter.windowEnd (s.config c) (s.promoteProfiles.profileOf c)
      (s.lifeState c) s.windowClock.length := by rw [closeWindow_carrier, if_neg awake]
  rw [State.rises]
  rw [closeWindow_profileOf] at idle least apart ⊢
  rw [meter] at idle ⊢
  cases mark : (s.carrier c).meter.primed with
  | false =>
    have clear := (range c).2.2.2.2.2 mark
    rw [fresh mark, clear] at idle
    simp [Meter.clear] at idle
    omega
  | true =>
    rw [primed mark] at idle ⊢
    dsimp only at idle ⊢
    split at idle
    · rename_i low
      exact Nat.not_lt.mpr (low.trans apart.le)
    · omega

end Sys2Proof.Machine
end

section
/-! PROOFS. A carrier in a drain state through a window end (R77, R103, R105, R106). -/

namespace Sys2Proof.Machine

variable {b s t u m n x y p q : State} {a c d e : CarrierIx} {l : List Task} {k j : Task} {report : Vector Meter 32} {meter : Meter}
  {order : ReportOrder}

/-! ## The report of one carrier -/

theorem report_split (managed : b.isManaged c = true) (h : Done b.lifecycleTasks x y) : ∃ p q first last,
    Reports (· ≠ c) first ∧ Done first x p ∧ Done [.report c (b.carrier c).meter] p q ∧ Reports (· ≠ c) last ∧ Done last q y := by
  obtain ⟨before, after, split, others⟩ := lifecycle_split managed
  rw [split] at h
  obtain ⟨p, begins, rest⟩ := done_append_iff.mp h
  obtain ⟨q, own, ends⟩ := done_cons_iff.mp rest
  exact ⟨p, q, before, after, fun k mem => others k (List.mem_append_left _ mem), begins, done_singleton_iff.mpr own,
    fun k mem => others k (List.mem_append_right _ mem), ends⟩

theorem reports_window (b s : State) : ∀ k ∈ b.lifecycleTasks, k.ofWindow s := fun k mem => by
  obtain ⟨d, -, rfl⟩ := List.mem_map.mp mem
  trivial

/-- The state of a carrier whose drain is abandoned (R106, R134). -/
def State.backState (s : State) (c : CarrierIx) : LifeState := if (s.profileOf c).settleTime = 0 then .active else .restoring

theorem backState_isBack (s : State) (c : CarrierIx) : (s.backState c).isBack = true := by
  unfold State.backState
  split <;> rfl

theorem Keeps.backState (h : Keeps s t) (c : CarrierIx) : t.backState c = s.backState c := by
  rw [State.backState, h.profileOf_eq, State.backState]

theorem isDrain_of_isBack {st : LifeState} (back : st.isBack = true) : st.isDrain = false := by cases st <;> cases back <;> rfl

theorem isLively_of_isBack {st : LifeState} (back : st.isBack = true) : st.isLively = true := by rw [LifeState.isLively, back]; rfl

theorem isLively_of_isDrain {st : LifeState} (drain : st.isDrain = true) : st.isLively = true := by
  rw [LifeState.isLively, drain, Bool.or_true]

theorem not_sleeper_of_lively {st : LifeState} (lively : st.isLively = true) : st.isSleeper = false := by
  revert lively
  cases st <;> decide

/-- R103: what the report of a carrier does, if the carrier drains. -/
theorem done_report (h : Done [.report c meter] p q) (lively : (p.lifeState c).isLively = true) :
    ((p.lifeState c).isDrain = true ∧ (p.profileOf c).cancelThreshold < meter.figure ∧ q = p.enterRestoring c .loadRose) ∨
    (p.lifeState c = .draining ∧ ¬(p.profileOf c).cancelThreshold < meter.figure ∧ (p.profileOf c).quietWindows ≤ meter.quietRun ∧
      Done (completeDrain c .drainQuiet .timed p).2 (completeDrain c .drainQuiet .timed p).1 q) ∨
    (¬((p.lifeState c).isDrain = true ∧ (p.profileOf c).cancelThreshold < meter.figure) ∧
      ¬(p.lifeState c = .draining ∧ (p.profileOf c).quietWindows ≤ meter.quietRun) ∧ q = p) := by
  have own := done_singleton_iff.mp h
  change Done (reportEffect c meter p).2 (reportEffect c meter p).1 q at own
  rw [reportEffect_eq] at own
  split at own
  · rename_i rose
    exact .inl ⟨rose.1, rose.2, done_nil_iff.mp own⟩
  · rename_i low
    split at own
    · rename_i quiet
      exact .inr (.inl ⟨quiet.1, fun rose => low ⟨by rw [quiet.1]; rfl, rose⟩, quiet.2, own⟩)
    · rename_i loud
      rw [if_neg (by rintro doze; rw [doze] at lively; cases lively)] at own
      exact .inr (.inr ⟨low, loud, done_nil_iff.mp own⟩)

/-! ## The group of its anchor -/

/-- R75: the group of an anchor leaves a carrier that is up alone, if it is neither a candidate nor the one that relief
abandons. -/
theorem group_same (h : Done [.group a report] m n) (running : Running b m) (lively : (m.lifeState c).isLively = true)
    (other : report[a].figure < (m.profileOf a).reliefThreshold → c ∉ m.candidates a report)
    (spared : (m.profileOf a).reliefThreshold ≤ report[a].figure → (m.cover a).drainList.getLast? ≠ some c) : Same c m n := by
  have own := done_singleton_iff.mp h
  change Done (groupEffect a report m).2 (groupEffect a report m).1 n at own
  obtain idle | ⟨presses, -, relief⟩ | ⟨low, -, admits⟩ := groupEffect_cases a report m
  · rw [idle] at own
    rw [done_nil_iff.mp own]
    exact .refl c m
  · rw [relief] at own
    obtain idle | ⟨d, last, drains⟩ | ⟨d, listed, -, -, wakes⟩ := reliefEffect_cases a m
    · rw [idle] at own
      rw [done_nil_iff.mp own]
      exact .refl c m
    · rw [drains, abandonEffect_tasks] at own
      rw [done_nil_iff.mp own]
      exact (touch_abandonEffect m d .relief).same fun same => spared presses (same ▸ last)
    · rw [wakes] at own
      have sleeps := (((running.sound.cover.sleepers a).2 d).mp listed).1
      have apart : d ≠ c := fun same => by
        rw [same, not_sleeper_of_lively lively] at sleeps
        cases sleeps
      exact own.same (b := b) (by simp [Task.ofWindow]) running lively (by simpa [Task.avoids, Task.names] using apart)
  · rw [admits] at own
    rw [done_nil_iff.mp own]
    exact (admissions_touch (a := a) report _ fun e mem => (mem_candidates.mp mem).1.2.1).1 c (other low)

theorem not_candidate_of_state (other : m.lifeState c ≠ .active) : c ∉ m.candidates a report := fun mem =>
  other (candidates_active mem).1

/-- R77: the group of its anchor leaves a draining carrier as it was, or abandons it as the last in its list. -/
theorem group_drain (h : Done [.group a report] m n) (running : Running b m) (drain : (m.lifeState c).isDrain = true) :
    Same c m n ∨ ((m.profileOf a).reliefThreshold ≤ report[a].figure ∧ (m.cover a).drainList.getLast? = some c ∧
      n.lifeState c = m.backState c) := by
  have lively := isLively_of_isDrain drain
  have fresh : c ∉ m.candidates a report := not_candidate_of_state (by
    intro active
    rw [active] at drain
    cases drain)
  by_cases spared : (m.profileOf a).reliefThreshold ≤ report[a].figure → (m.cover a).drainList.getLast? ≠ some c
  · exact .inl (group_same h running lively (fun _ => fresh) spared)
  · obtain ⟨presses, last⟩ := Classical.not_imp.mp spared
    have last := not_not.mp last
    have own := done_singleton_iff.mp h
    change Done (groupEffect a report m).2 (groupEffect a report m).1 n at own
    obtain idle | ⟨-, -, relief⟩ | ⟨low, -, -⟩ := groupEffect_cases a report m
    · rw [idle] at own
      rw [done_nil_iff.mp own]
      exact .inl (.refl c m)
    · have abandons : reliefEffect a m = (m.enterRestoring c .relief, []) := by
        rw [reliefEffect, last]
        exact if_pos drain
      rw [relief, abandons] at own
      rw [done_nil_iff.mp own]
      exact .inr ⟨presses, last, (enterRestoring_lifeState ..).trans (if_pos rfl)⟩
    · exact absurd presses (Nat.not_le.mpr low)

end Sys2Proof.Machine
end

section
/-! PROOFS. The end of a drain at a window end, by the report of its carrier and the relief of its anchor (R77, R103). -/

namespace Sys2Proof.Machine

variable {b s t u m n x y p q : State} {a c d e : CarrierIx} {l : List Task} {k j : Task} {meter : Meter} {order : ReportOrder}

theorem windowReport_get (b : State) (c : CarrierIx) : b.windowReport[c] = (b.carrier c).meter := by
  simp [State.windowReport, State.carrier]

/-- R76: a candidate has the idle run that its profile asks for. -/
theorem idle_of_candidate (kept : Keeps b m) (mem : c ∈ m.candidates a b.windowReport) :
    (b.profileOf c).idleRunLength ≤ (b.carrier c).meter.idleRun := by
  have may := (mem_candidates.mp mem).2.1
  rw [windowReport_get] at may
  simp only [State.isCandidate, Bool.and_eq_true, decide_eq_true_eq, kept.profileOf_eq] at may
  exact may.1.2

theorem last_drains (law : CoverLaw m) (last : (m.cover a).drainList.getLast? = some c) :
    (m.lifeState c).isDrain = true ∧ m.anchorOf c = a := ((law.drains a).2 c).mp (List.mem_of_getLast? last)

/-- R75: the group of its anchor leaves a carrier alone that is back. -/
theorem group_back (h : Done [.group a b.windowReport] m n) (running : Running b m) (back : (m.lifeState c).isBack = true)
    (busy : ¬(b.profileOf c).idleRunLength ≤ (b.carrier c).meter.idleRun) : Same c m n :=
  group_same h running (isLively_of_isBack back) (fun _ mem => busy (idle_of_candidate running.keeps mem)) fun _ last => by
    have drains := (last_drains running.sound.cover last).1
    rw [isDrain_of_isBack back] at drains
    cases drains

theorem Running.managed_of (h : Running b s) (lively : (s.lifeState c).isLively = true) : b.isManaged c = true := by
  rw [← h.keeps.managed]
  refine bne_iff_ne.mpr fun state => ?_
  rw [state] at lively
  cases lively

/-- R103: the reports leave a carrier that is back as it was; and of one that drains they tell by its own report alone. -/
theorem reports_split (running : Running b x) (lively : (x.lifeState c).isLively = true) (h : Done b.lifecycleTasks x y) :
    ∃ p q last, Same c x p ∧ Running b p ∧ Done [.report c (b.carrier c).meter] p q ∧ Reports (· ≠ c) last ∧ Done last q y ∧
      Running b q ∧ ∃ first, Reports (· ≠ c) first ∧ Done first x p := by
  obtain ⟨p, q, first, last, others, begins, own, rest, ends⟩ := report_split (running.managed_of lively) h
  have at_p := begins.window others.window running
  exact ⟨p, q, last, begins.same others.window running lively others.avoids, at_p, own, rest, ends,
    own.window (by simp [Task.ofWindow]) at_p, first, others, begins⟩

/-- R103, R106: a carrier whose load rose is back after its report. -/
theorem report_rises (running : Running b p) (rises : b.rises c) (h : Done [.report c (b.carrier c).meter] p q)
    (drain : (p.lifeState c).isDrain = true) : q.lifeState c = b.backState c := by
  obtain ⟨-, -, rfl⟩ | ⟨-, low, -⟩ | ⟨low, -⟩ := done_report h (isLively_of_isDrain drain)
  · rw [enterRestoring_lifeState, if_pos rfl, ← running.keeps.backState]
    rfl
  · rw [running.keeps.profileOf_eq] at low
    exact absurd rises low
  · rw [running.keeps.profileOf_eq] at low
    exact absurd ⟨drain, rises⟩ low

theorem report_back (h : Done [.report c meter] p q) (back : (p.lifeState c).isBack = true) : q = p := by
  have drain := isDrain_of_isBack back
  obtain ⟨other, -⟩ | ⟨other, -⟩ | ⟨-, -, same⟩ := done_report h (isLively_of_isBack back)
  · rw [drain] at other
    cases other
  · rw [other] at back
    cases back
  · exact same

/-- R103: after the reports a carrier that was back, or whose load rose, is back. -/
theorem reports_back (running : Running b x) (h : Done b.lifecycleTasks x y)
    (state : x.lifeState c = b.backState c ∨ (x.lifeState c).isDrain = true ∧ b.rises c) :
    y.lifeState c = b.backState c := by
  have back := backState_isBack b c
  have lively : (x.lifeState c).isLively = true :=
    state.elim (fun same => isLively_of_isBack (by rw [same]; exact back)) fun both => isLively_of_isDrain both.1
  obtain ⟨p, q, last, before, at_p, own, rest, ends, at_q, -⟩ := reports_split running lively h
  have now : q.lifeState c = b.backState c := by
    rcases state with same | ⟨drain, rises⟩
    · have at_back : p.lifeState c = b.backState c := before.lifeState.trans same
      rw [report_back own (by rw [at_back]; exact back)]
      exact at_back
    · exact report_rises at_p rises own (by rwa [before.lifeState])
  have after := ends.same rest.window at_q (isLively_of_isBack (by rw [now]; exact back)) rest.avoids
  exact after.lifeState.trans now

theorem Running.group_taken (h : Running b b) (taken : GroupTaken order a b m n t) : Running b m ∧ Running b n ∧ Running b t := by
  obtain ⟨⟨coverage, lifecycle⟩, own, coverage', lifecycle'⟩ := taken
  cases order with
  | coverageFirst =>
    obtain ⟨l, groups, begins⟩ := coverage rfl
    obtain ⟨x, l', groups', goes, reports⟩ := coverage' rfl
    have at_m := begins.window groups.window h
    have at_n := own.window (by simp [Task.ofWindow]) at_m
    exact ⟨at_m, at_n, reports.window (reports_window b b) (goes.window groups'.window at_n)⟩
  | lifecycleFirst =>
    obtain ⟨x, l, reports, groups, begins⟩ := lifecycle rfl
    obtain ⟨l', groups', goes⟩ := lifecycle' rfl
    have at_m := begins.window groups.window (reports.window (reports_window b b) h)
    have at_n := own.window (by simp [Task.ofWindow]) at_m
    exact ⟨at_m, at_n, goes.window groups'.window at_n⟩

theorem Groups.same (h : Groups a l) (done : Done l s t) (running : Running b s) (group : b.anchorOf c = a)
    (lively : (s.lifeState c).isLively = true) : Same c s t :=
  done.same h.window running lively (by rw [running.keeps.anchorOf_eq, group]; exact h.avoids)

/-- R103, R106: a carrier in a drain state whose load rose is back after the window end. -/
theorem drain_rises (running : Running b b) (h : Done (b.reportTasks order) b t) (drain : (b.lifeState c).isDrain = true)
    (rises : b.rises c) (busy : ¬(b.profileOf c).idleRunLength ≤ (b.carrier c).meter.idleRun) :
    t.lifeState c = b.backState c := by
  have back := backState_isBack b c
  have lively := isLively_of_isDrain drain
  obtain ⟨m, n, taken⟩ := groupTaken (b.anchorOf c) h
  obtain ⟨at_m, at_n, -⟩ := running.group_taken taken
  obtain ⟨⟨coverage, lifecycle⟩, own, coverage', lifecycle'⟩ := taken
  cases order with
  | coverageFirst =>
    obtain ⟨l, groups, begins⟩ := coverage rfl
    obtain ⟨x, l', groups', goes, reports⟩ := coverage' rfl
    have before := groups.same begins running rfl lively
    have state : n.lifeState c = b.backState c ∨ (n.lifeState c).isDrain = true ∧ b.rises c := by
      obtain same | ⟨-, -, now⟩ := group_drain own at_m (c := c) (by rwa [before.lifeState])
      · exact .inr ⟨by rwa [same.lifeState, before.lifeState], rises⟩
      · exact .inl (now.trans (at_m.keeps.backState c))
    have alive : (n.lifeState c).isLively = true :=
      state.elim (fun same => isLively_of_isBack (by rw [same]; exact back)) fun both => isLively_of_isDrain both.1
    have after := groups'.same goes at_n rfl alive
    exact reports_back (goes.window groups'.window at_n) reports (by rwa [after.lifeState])
  | lifecycleFirst =>
    obtain ⟨x, l, reports, groups, begins⟩ := lifecycle rfl
    obtain ⟨l', groups', goes⟩ := lifecycle' rfl
    have at_x := reports.window (reports_window b b) running
    have now := reports_back running reports (.inr ⟨drain, rises⟩)
    have still := groups.same begins at_x rfl (isLively_of_isBack (by rw [now]; exact back))
    have state : m.lifeState c = b.backState c := still.lifeState.trans now
    have through := group_back own at_m (by rw [state]; exact back) busy
    have state' : n.lifeState c = b.backState c := through.lifeState.trans state
    exact (groups'.same goes at_n rfl (isLively_of_isBack (by rw [state']; exact back))).lifeState.trans state'

/-- R103: the reports leave a draining carrier as it was whose load did not rise and that did not go quiet. -/
theorem reports_still (running : Running b x) (h : Done b.lifecycleTasks x y) (same : Same c b x)
    (drain : (b.lifeState c).isDrain = true) (low : ¬b.rises c) (loud : ¬b.quiets c) : Same c x y := by
  have lively : (x.lifeState c).isLively = true := isLively_of_isDrain (by rwa [same.lifeState])
  obtain ⟨p, q, last, before, at_p, own, rest, ends, at_q, -⟩ := reports_split running lively h
  have state : p.lifeState c = b.lifeState c := (same.trans before).lifeState
  have stays : q = p := by
    obtain ⟨-, rose, -⟩ | ⟨draining, -, quiet, -⟩ | ⟨-, -, stays⟩ := done_report own (by rw [before.lifeState]; exact lively)
    · rw [at_p.keeps.profileOf_eq] at rose
      exact absurd rose low
    · rw [at_p.keeps.profileOf_eq] at quiet
      exact absurd ⟨state.symm.trans draining, quiet⟩ loud
    · exact stays
  subst stays
  exact before.trans (ends.same rest.window at_q (by rw [before.lifeState]; exact lively) rest.avoids)

/-- R103: a carrier in a drain state that its report leaves alone, and relief too, is as it was after the window end. -/
theorem drain_still (running : Running b b) (h : Done (b.reportTasks order) b t) (drain : (b.lifeState c).isDrain = true)
    (low : ¬b.rises c) (loud : ¬b.quiets c) (calm : ¬b.presses (b.anchorOf c)) : Same c b t := by
  have lively := isLively_of_isDrain drain
  obtain ⟨m, n, taken⟩ := groupTaken (b.anchorOf c) h
  obtain ⟨at_m, at_n, -⟩ := running.group_taken taken
  obtain ⟨⟨coverage, lifecycle⟩, own, coverage', lifecycle'⟩ := taken
  have through (same : Same c b m) : Same c b n := by
    obtain stays | ⟨presses, -, -⟩ := group_drain own at_m (c := c) (by rwa [same.lifeState])
    · exact same.trans stays
    · rw [at_m.keeps.profileOf_eq, windowReport_get] at presses
      exact absurd presses calm
  cases order with
  | coverageFirst =>
    obtain ⟨l, groups, begins⟩ := coverage rfl
    obtain ⟨x, l', groups', goes, reports⟩ := coverage' rfl
    have at_group := through (groups.same begins running rfl lively)
    have after := at_group.trans (groups'.same goes at_n rfl (by rwa [at_group.lifeState]))
    exact after.trans (reports_still (goes.window groups'.window at_n) reports after drain low loud)
  | lifecycleFirst =>
    obtain ⟨x, l, reports, groups, begins⟩ := lifecycle rfl
    obtain ⟨l', groups', goes⟩ := lifecycle' rfl
    have reported := reports_still running reports (.refl c b) drain low loud
    have at_x := reports.window (reports_window b b) running
    have at_group := through (reported.trans (groups.same begins at_x rfl (by rwa [reported.lifeState])))
    exact at_group.trans (groups'.same goes at_n rfl (by rwa [at_group.lifeState]))

/-- R103, R105: a draining carrier that went quiet completes its drain where its report is taken: what has been done before, and
what is left to do then. -/
theorem drain_quiets (running : Running b b) (h : Done (b.reportTasks order) b t) (low : ¬b.rises c) (quiet : b.quiets c)
    (calm : order = .lifecycleFirst ∨ ¬b.presses (b.anchorOf c)) : ∃ p q before after,
    (∀ k ∈ before, k.ofWindow b) ∧ Done before b p ∧ Running b p ∧ Same c b p ∧
      Done (completeDrain c .drainQuiet .timed p).2 (completeDrain c .drainQuiet .timed p).1 q ∧ Running b q ∧
      (∀ k ∈ after, k.ofWindow b ∧ ¬k.names c) ∧ Done after q t := by
  have drain : (b.lifeState c).isDrain = true := by rw [quiet.1]; rfl
  have lively := isLively_of_isDrain drain
  obtain ⟨m, n, taken⟩ := groupTaken (b.anchorOf c) h
  obtain ⟨at_m, at_n, -⟩ := running.group_taken taken
  obtain ⟨⟨coverage, lifecycle⟩, own, coverage', lifecycle'⟩ := taken
  have completes {x y : State} (at_x : Running b x) (reports : Done b.lifecycleTasks x y) (same : Same c b x) : ∃ p q first last,
      (∀ k ∈ first, k.ofWindow b) ∧ Done first x p ∧ Running b p ∧ Same c b p ∧
        Done (completeDrain c .drainQuiet .timed p).2 (completeDrain c .drainQuiet .timed p).1 q ∧ Running b q ∧
        (∀ k ∈ last, k.ofWindow b ∧ ¬k.names c) ∧ Done last q y := by
    obtain ⟨p, q, last, before, at_p, reported, rest, ends, at_q, first, others, begins⟩ :=
      reports_split at_x (by rwa [same.lifeState]) reports
    have draining : p.lifeState c = .draining := (same.trans before).lifeState.trans quiet.1
    refine ⟨p, q, first, last, others.window, begins, at_p, same.trans before, ?_, at_q,
      fun k mem => ⟨rest.window k mem, (rest.avoids (a := b.anchorOf c) k mem).1⟩, ends⟩
    obtain ⟨-, rose, -⟩ | ⟨-, -, -, completed⟩ | ⟨-, loud, -⟩ := done_report reported (by rw [draining]; rfl)
    · rw [at_p.keeps.profileOf_eq] at rose
      exact absurd rose low
    · exact completed
    · rw [at_p.keeps.profileOf_eq] at loud
      exact absurd ⟨draining, quiet.2⟩ loud
  cases order with
  | coverageFirst =>
    obtain ⟨l, groups, begins⟩ := coverage rfl
    obtain ⟨x, l', groups', goes, reports⟩ := coverage' rfl
    have before := groups.same begins running rfl lively
    have at_group : Same c b n := by
      obtain stays | ⟨presses, -, -⟩ := group_drain own at_m (c := c) (by rwa [before.lifeState])
      · exact before.trans stays
      · rw [at_m.keeps.profileOf_eq, windowReport_get] at presses
        exact absurd presses (calm.resolve_left nofun)
    have reached := at_group.trans (groups'.same goes at_n rfl (by rwa [at_group.lifeState]))
    obtain ⟨p, q, first, last, window, done, rest⟩ := completes (goes.window groups'.window at_n) reports reached
    have all : Done (l ++ ([.group (b.anchorOf c) b.windowReport] ++ (l' ++ first))) b p :=
      done_append_iff.mpr ⟨m, begins, done_append_iff.mpr ⟨n, own, done_append_iff.mpr ⟨x, goes, done⟩⟩⟩
    refine ⟨p, q, _, last, fun k mem => ?_, all, rest⟩
    simp only [List.mem_append, List.mem_singleton] at mem
    rcases mem with mem | rfl | mem | mem
    · exact groups.window k mem
    · trivial
    · exact groups'.window k mem
    · exact window k mem
  | lifecycleFirst =>
    obtain ⟨x, l, reports, groups, begins⟩ := lifecycle rfl
    obtain ⟨l', groups', goes⟩ := lifecycle' rfl
    obtain ⟨p, q, first, last, window, done, at_p, same, completed, at_q, others, ends⟩ := completes running reports (.refl c b)
    have all : Done (last ++ (l ++ ([.group (b.anchorOf c) b.windowReport] ++ l'))) q t :=
      done_append_iff.mpr ⟨x, ends, done_append_iff.mpr ⟨m, begins, done_append_iff.mpr ⟨n, own, goes⟩⟩⟩
    refine ⟨p, q, first, _, window, done, at_p, same, completed, at_q, fun k mem => ?_, all⟩
    simp only [List.mem_append, List.mem_singleton] at mem
    rcases mem with mem | mem | rfl | mem
    · exact others k mem
    · exact ⟨groups.window k mem, (groups.avoids (c := c) k mem).1⟩
    · exact ⟨trivial, id⟩
    · exact ⟨groups'.window k mem, (groups'.avoids (c := c) k mem).1⟩

end Sys2Proof.Machine
end

section
/-! PROOFS. The radio units through a window end (R105, R111, R146). -/

namespace Sys2Proof.Machine

variable {b s t u m n x y p q : State} {a c d e : CarrierIx} {l : List Task} {k j : Task} {meter : Meter} {order : ReportOrder}
  {v w : UnitIx} {report : Vector Meter 32} {cause : Cause} {kind : DirectiveKind}

/-! ## Units that keep their states and their directives -/

theorem serving_abandonEffect (s : State) (d : CarrierIx) (cause : Cause) : Serving c s (abandonEffect d cause s).1 := by
  unfold abandonEffect
  split
  · exact serving_enterRestoring ..
  · exact .refl c s

theorem serving_beginDrain (s : State) (d : CarrierIx) (pledge : Nat) (cause : Cause) : Serving c s (s.beginDrain d pledge cause) := by
  have joined : Serving c s (s.joinDrain d pledge) := serving_of_units rfl
  exact (joined.trans (serving_moveTo _ d (new := .draining) (by decide))).trans
    (serving_of_units ((tells_advise ..).trans (tells_notifyState ..)).units)

theorem serving_tryAdmit (s : State) (d : CarrierIx) : Serving c s (State.tryAdmit report s d) := by
  unfold State.tryAdmit
  dsimp only
  split
  · exact serving_beginDrain ..
  · exact .refl c s

theorem serving_groupEffect (a : CarrierIx) (report : Vector Meter 32) (s : State) : Serving c s (groupEffect a report s).1 := by
  have admissions (l : List CarrierIx) (s : State) : Serving c s (l.foldl (State.tryAdmit report) s) := by
    induction l generalizing s with
    | nil => exact .refl c s
    | cons d l ih => exact (serving_tryAdmit s d).trans (ih _)
  obtain idle | ⟨-, -, relief⟩ | ⟨-, -, admits⟩ := groupEffect_cases a report s
  · rw [idle]
    exact .refl c s
  · rw [relief]
    obtain idle | ⟨d, -, drains⟩ | ⟨d, -, -, -, wakes⟩ := reliefEffect_cases a s
    · rw [idle]
      exact .refl c s
    · rw [drains]
      exact serving_abandonEffect ..
    · rw [wakes]
      exact .refl c s
  · rw [admits]
    exact admissions ..

theorem serving_reportEffect (d : CarrierIx) (meter : Meter) (s : State) : Serving c s (reportEffect d meter s).1 := by
  rw [reportEffect_eq]
  split
  · exact serving_enterRestoring ..
  · split
    · unfold completeDrain
      split
      · dsimp only
        split
        · exact ((serving_moveTo s d (new := .rampdown) (by decide)).trans (serving_handDirective ‹_›)).trans
            (serving_of_units (tells_notifyState ..).units)
        · exact (serving_moveTo s d (new := .rampdown) (by decide)).trans (serving_of_units (tells_notifyState ..).units)
      · exact .refl c s
    · split
      · unfold deepenEffect
        split
        · split
          · exact (serving_handDirective ‹_›).trans (serving_moveAndTell _ d (new := .deepening) (by decide) _)
          · exact .refl c s
        · exact .refl c s
      · exact .refl c s

theorem serving_window (window : k.ofWindow b) (other : ∀ cause, k ≠ .lose c cause) (s : State) : Serving c s (k.effect s).1 := by
  cases k with
  | report d meter => exact serving_reportEffect ..
  | group a r => exact serving_groupEffect ..
  | wake | grants | sendHead | lose | withdrawn => exact serving_task rfl other s
  | anchorLost | ended | linkUp | deepen | abandon | deepTest | recover => exact window.elim

/-- R153 to R156: through the work of a window end a unit keeps its state, or was DEEP and has been released. -/
theorem settled_of_window (window : k.ofWindow b) (s : State) (v : UnitIx) : (s.unit v).settled ((k.effect s).1.unit v) := by
  have spare (d : CarrierIx) : ∃ c : CarrierIx, c ≠ d := exists_ne d
  cases k with
  | lose d cause =>
    obtain ⟨c, other⟩ := spare d
    exact (serving_window (c := c) window (fun cause same => other (Task.lose.inj same).1.symm) s).settled v
  | _ => exact (serving_window (c := 0) window (by simp) s).settled v

theorem Done.settled_window (h : Done l s t) (window : ∀ k ∈ l, k.ofWindow b) (running : Running b s) (v : UnitIx) :
    (s.unit v).settled (t.unit v) := by
  refine (h.window_stays (b := b) (fun t => (s.unit v).settled (t.unit v)) (fun _ => True) (fun k t window _ _ settled =>
    ⟨RadioUnit.settled_trans settled (settled_of_window window t v), fun _ _ => trivial⟩) window (fun _ _ => trivial) running
    (.inl rfl)).2

theorem Done.untaken_iff (h : Done l s t) (window : ∀ k ∈ l, k.ofWindow b) (running : Running b s) :
    t.untaken c ↔ s.untaken c := by
  have settled := h.settled_window window running (s.unitOf c)
  rw [State.untaken, State.untaken, h.keeps.unitOf_eq]
  obtain same | ⟨deep, released⟩ := settled
  · rw [same]
  · simp [deep, released]

/-- R111: a carrier in RAMPDOWN stays there, with its directive, through the rest of the work. -/
theorem Done.rests_on {directive : Directive} (h : Done l s t) (window : ∀ k ∈ l, k.ofWindow b) (running : Running b s)
    (unnamed : ∀ k ∈ l, ¬k.names c) (state : s.lifeState c = .rampdown) (mem : directive ∈ (s.unit v).queue)
    (kind : directive.kind ≠ .carrierDeepen) (own : directive.carrier = some c) :
    t.lifeState c = .rampdown ∧ directive ∈ (t.unit v).queue := by
  refine (h.window_stays (b := b) (fun t => t.lifeState c = .rampdown ∧ directive ∈ (t.unit v).queue)
    (fun k => ∀ cause, k ≠ .lose c cause) (fun k t window safe running holds => ?_) window
    (fun k mem cause same => unnamed k mem (by rw [same]; rfl)) running ⟨state, mem⟩).2
  obtain ⟨state, mem⟩ := holds
  refine ⟨⟨?_, (serving_window window safe t).stays v directive mem kind own⟩, fun j spawned cause same => ?_⟩
  · rcases effect_turns k c t with same | turned
    · exact same.trans state
    · rw [state] at turned
      cases k with
      | lose d cause => exact absurd (congrArg (Task.lose · cause) turned.1) (safe cause)
      | grants => cases turned.1
      | wake | report | group | withdrawn => simp [Task.turns, LifeState.isDrain] at turned
      | sendHead => exact turned.elim
      | anchorLost | ended | linkUp | deepen | abandon | deepTest | recover => exact window.elim
  · subst same
    obtain ⟨-, queued, -⟩ | ⟨kind, how, rfl⟩ | ⟨m, rfl⟩ := effect_spawns k t _ spawned
    · rw [state] at queued
      cases queued
    · exact window.elim
    · rw [draining_of_lose spawned] at state
      cases state

/-! ## The head of a unit's queue -/

/-- The queues of the units, and what they have sent, are as they were. -/
structure Unsent (s t : State) : Prop where
  queue : ∀ v, (t.unit v).queue = (s.unit v).queue
  sent : ∀ v, (t.unit v).sent = (s.unit v).sent

theorem Unsent.refl (s : State) : Unsent s s := ⟨fun _ => rfl, fun _ => rfl⟩

theorem Unsent.trans (h : Unsent s t) (k : Unsent t u) : Unsent s u :=
  ⟨fun v => (k.queue v).trans (h.queue v), fun v => (k.sent v).trans (h.sent v)⟩

theorem unsent_of_units (h : t.units = s.units) : Unsent s t :=
  ⟨fun v => by rw [State.unit, h]; rfl, fun v => by rw [State.unit, h]; rfl⟩

theorem unsent_moveTo (s : State) (c : CarrierIx) {new : LifeState} (h : new ≠ .slumber) : Unsent s (s.moveTo c new) :=
  ⟨fun v => by rw [moveTo_units s c h]; split <;> rfl, fun v => by rw [moveTo_units s c h]; split <;> rfl⟩

theorem unsent_moveAndTell (s : State) (c : CarrierIx) {new : LifeState} (h : new ≠ .slumber) (cause : Cause) :
    Unsent s (s.moveAndTell c new cause) := (unsent_moveTo s c h).trans (unsent_of_units (tells_notifyState ..).units)

theorem unsent_enterQueued (s : State) (c : CarrierIx) (cls : WakeClass) (depth : Depth) (cause : Cause) :
    Unsent s (s.enterQueued c cls depth cause) := by
  have placed (s : State) (q : WakeQueue) : Unsent s (s.setWakeQueue q) := unsent_of_units rfl
  exact ((unsent_moveTo s c (new := .queued) (by decide)).trans (placed ..)).trans (unsent_of_units (tells_notifyState ..).units)

theorem unsent_enterRestoring (s : State) (c : CarrierIx) (cause : Cause) : Unsent s (s.enterRestoring c cause) := by
  have told : Unsent s (((s.moveTo c .restoring).advise .openUp c cause).notifyState c (s.lifeState c) .restoring cause
      cause.origin) :=
    (unsent_moveTo s c (new := .restoring) (by decide)).trans (unsent_of_units ((tells_advise ..).trans (tells_notifyState ..)).units)
  unfold State.enterRestoring State.settleNow
  dsimp only
  split
  · split
    · exact told.trans (unsent_moveAndTell _ c (new := .active) (by decide) _)
    · exact told
  · exact told

theorem unsent_beginDrain (s : State) (c : CarrierIx) (pledge : Nat) (cause : Cause) : Unsent s (s.beginDrain c pledge cause) := by
  have joined : Unsent s (s.joinDrain c pledge) := unsent_of_units rfl
  exact (joined.trans (unsent_moveTo _ c (new := .draining) (by decide))).trans
    (unsent_of_units ((tells_advise ..).trans (tells_notifyState ..)).units)

theorem unsent_handDirective (h : s.handDirective kind c = some t) (other : v ≠ s.unitOf c) : t.unit v = s.unit v := by
  obtain ⟨-, -, rfl⟩ := handed_of h
  split
  · rw [releaseUnit_unit_other _ other, queued_unit_other _ _ other]
  · exact queued_unit_other _ _ other

/-- The head of a unit's queue has been sent, or none waits. -/
def State.attended (s : State) (v : UnitIx) : Prop := (s.unit v).sent ≠ none ∨ (s.unit v).queue = []

/-- The head of a unit's queue has been sent, or none waits, or a task will consider it. -/
def State.tends (s : State) (v : UnitIx) (l : List Task) : Prop := s.attended v ∨ .sendHead v ∈ l

theorem Unsent.attended (h : Unsent s t) (sent : s.attended v) : t.attended v := by
  rwa [State.attended, h.queue, h.sent]

theorem Unsent.tends (h : Unsent s t) (sent : s.attended v) : t.tends v l := .inl (h.attended sent)

theorem tends_of_unit (h : t.unit v = s.unit v) (sent : s.attended v) : t.tends v l := by
  refine .inl ?_
  rwa [State.attended, h]

/-- R145, R146: after a directive has been handed on its unit's head is considered. -/
theorem tends_handDirective (h : s.handDirective kind c = some t) (sent : s.attended v)
    (mem : .sendHead (s.unitOf c) ∈ l) : t.tends v l := by
  by_cases own : v = s.unitOf c
  · rw [own]
    exact .inr mem
  · exact tends_of_unit (unsent_handDirective h own) sent

theorem State.tends.unsent (h : s.tends v l) (k : Unsent s t) : t.tends v l := h.imp_left k.attended

theorem tends_reportEffect (sent : s.attended v) :
    (reportEffect c meter s).1.tends v (reportEffect c meter s).2 := by
  rw [reportEffect_eq]
  split
  · exact (unsent_enterRestoring ..).tends sent
  · split
    · have moved := unsent_moveTo s c (new := .rampdown) (by decide)
      have place : (s.moveTo c .rampdown).unitOf c = s.unitOf c := by rw [State.unitOf, moveTo_config]; rfl
      unfold completeDrain
      split
      · dsimp only
        split
        · rename_i handed
          exact (tends_handDirective handed (moved.attended sent) (by rw [place]; simp)).unsent
            (unsent_of_units (tells_notifyState ..).units)
        · exact (moved.trans (unsent_of_units (tells_notifyState ..).units)).tends sent
      · exact (Unsent.refl s).tends sent
    · split
      · unfold deepenEffect
        split
        · split
          · rename_i handed
            exact (tends_handDirective handed sent (by simp)).unsent (unsent_moveAndTell _ c (new := .deepening) (by decide) _)
          · exact (Unsent.refl s).tends sent
        · exact (Unsent.refl s).tends sent
      · exact (Unsent.refl s).tends sent

theorem tends_groupEffect (sent : s.attended v) :
    (groupEffect a report s).1.tends v (groupEffect a report s).2 := by
  have abandoned (d : CarrierIx) : Unsent s (abandonEffect d .relief s).1 := by
    unfold abandonEffect
    split
    · exact unsent_enterRestoring ..
    · exact .refl s
  have admitted (l : List CarrierIx) (s : State) : Unsent s (l.foldl (State.tryAdmit report) s) := by
    induction l generalizing s with
    | nil => exact .refl s
    | cons d l ih =>
      refine Unsent.trans ?_ (ih (State.tryAdmit report s d))
      unfold State.tryAdmit
      dsimp only
      split
      · exact unsent_beginDrain ..
      · exact .refl s
  obtain idle | ⟨-, -, relief⟩ | ⟨-, -, admits⟩ := groupEffect_cases a report s
  · rw [idle]
    exact (Unsent.refl s).tends sent
  · rw [relief]
    obtain idle | ⟨d, -, drains⟩ | ⟨d, -, -, -, wakes⟩ := reliefEffect_cases a s
    · rw [idle]
      exact (Unsent.refl s).tends sent
    · rw [drains]
      exact (abandoned d).tends sent
    · rw [wakes]
      exact (Unsent.refl s).tends sent
  · rw [admits]
    exact (admitted ..).tends sent

theorem tends_wakeEffect {kind : WakeKind} (sent : s.attended v) :
    (wakeEffect c kind s).1.tends v (wakeEffect c kind s).2 := by
  have spared {f : Effect} (h : f.1.tends v f.2) :
      (if kind = .traffic then ((s, []) : Effect) else f).1.tends v (if kind = .traffic then ((s, []) : Effect) else f).2 := by
    split
    · exact (Unsent.refl s).tends sent
    · exact h
  have kept (x : Life) : Unsent s (s.setLife c x) := unsent_of_units rfl
  have abandoned : Unsent s (abandonEffect c kind.cause s).1 := by
    unfold abandonEffect
    split
    · exact unsent_enterRestoring ..
    · exact .refl s
  unfold wakeEffect
  split
  · exact (unsent_enterQueued ..).tends sent
  · exact spared ((unsent_enterQueued ..).tends sent)
  · exact spared ((kept _).tends sent)
  · exact spared ((kept _).tends sent)
  · exact spared (abandoned.tends sent)
  · exact spared (abandoned.tends sent)
  · exact (unsent_of_units (t := s.setWakeQueue _) rfl).tends sent
  · split
    · exact (unsent_enterQueued ..).tends sent
    · exact (Unsent.refl s).tends sent
  all_goals exact (Unsent.refl s).tends sent

theorem tends_grantsEffect (sent : s.attended v) :
    (grantsEffect s).1.tends v (grantsEffect s).2 := by
  obtain idle | ⟨w, -, -, granted⟩ := grantsEffect_cases s
  · rw [idle]
    exact (Unsent.refl s).tends sent
  · rw [granted]
    by_cases queued : s.lifeState w.carrier = .queued
    · have moved := unsent_moveAndTell s w.carrier (new := .warmup) (by decide) .granted
      have place : (s.moveAndTell w.carrier .warmup .granted).unitOf w.carrier = s.unitOf w.carrier :=
        (warmed queued).keeps.unitOf_eq _
      rw [grantTo, if_pos queued]
      dsimp only
      split
      · rename_i handed
        exact tends_handDirective handed (moved.attended sent) (by rw [place]; simp)
      · exact moved.tends sent
    · rw [grantTo_idle queued]
      exact (Unsent.refl s).tends sent

theorem tends_withdrawnEffect (sent : s.attended v) :
    (withdrawnEffect c s).1.tends v (withdrawnEffect c s).2 := by
  unfold withdrawnEffect
  split
  · split
    · exact (unsent_moveAndTell _ c (new := .doze) (by decide) _).tends sent
    · exact (unsent_enterQueued ..).tends sent
  · exact (Unsent.refl s).tends sent

theorem tends_loseEffect (sent : s.attended v) :
    (loseEffect c cause s).1.tends v (loseEffect c cause s).2 := by
  by_cases out : s.lifeState c = .unmanaged ∨ s.lifeState c = .lost
  · rw [show loseEffect c cause s = (s, []) from if_pos out]
    exact (Unsent.refl s).tends sent
  · obtain ⟨managed, found⟩ := not_or.mp out
    obtain ⟨loss, tasks⟩ := loss_loseEffect managed found cause
    by_cases own : v = s.unitOf c
    · rw [own, tasks]
      exact .inr (by simp)
    · exact tends_of_unit (loss.unit v own) sent

theorem sendHeadEffect_other (other : v ≠ w) (s : State) : (sendHeadEffect w s).1.unit v = s.unit v := by
  unfold sendHeadEffect
  dsimp only
  split
  · split
    · rfl
    · split
      · rw [State.setUnit_unit, if_neg other]
      · exact transmit_unit_other s _ other
  · rfl

/-- R116, R146: the head of an UP unit's queue that is considered is sent, or withdrawn and the next considered. -/
theorem tends_sendHead (up : (s.unit v).state = some .up) : (sendHeadEffect v s).1.tends v (sendHeadEffect v s).2 := by
  cases sent : (s.unit v).sent with
  | some frame =>
    rw [sendHead_of_busy (.inr (by simp [sent]))]
    exact .inl (.inl (by simp [sent]))
  | none =>
    unfold sendHeadEffect
    dsimp only
    rw [if_pos ⟨up, sent⟩]
    split
    · rename_i empty
      exact .inl (.inr empty)
    · split
      · exact .inr (by simp)
      · exact .inl (.inl (transmit_unit ..).2)

theorem tends_task (window : k.ofWindow b) (up : (s.unit v).state = some .up)
    (tends : s.attended v ∨ k = .sendHead v) : (k.effect s).1.tends v (k.effect s).2 := by
  rcases tends with sent | rfl
  · cases k with
    | report d meter => exact tends_reportEffect sent
    | group a r => exact tends_groupEffect sent
    | wake d kind => exact tends_wakeEffect sent
    | grants => exact tends_grantsEffect sent
    | lose d cause => exact tends_loseEffect sent
    | withdrawn d => exact tends_withdrawnEffect sent
    | sendHead w =>
      by_cases own : w = v
      · subst own
        exact tends_sendHead up
      · exact tends_of_unit (sendHeadEffect_other (Ne.symm own) s) sent
    | anchorLost | ended | linkUp | deepen | abandon | deepTest | recover => exact window.elim
  · exact tends_sendHead up

theorem up_of_settled {x y : RadioUnit} (h : x.settled y) (up : x.state = some .up) : y.state = some .up := by
  obtain same | ⟨deep, -⟩ := h
  · exact same.trans up
  · rw [up] at deep
    cases deep

/-- R146: where the head of an UP unit's queue will be considered it has been sent at the end, or none waits. -/
theorem Done.sends (h : Done l s t) (window : ∀ k ∈ l, k.ofWindow b) (running : Running b s) (up : (s.unit v).state = some .up)
    (tends : s.tends v l) : t.attended v := by
  induction h with
  | nil => exact tends.resolve_right (by simp)
  | @cons k l s t u first rest ihFirst ihRest =>
    have own := window k List.mem_cons_self
    have others := fun k mem => window k (List.mem_cons_of_mem _ mem)
    obtain ⟨after, spawned⟩ := running.task own
    have still := up_of_settled (settled_of_window own s v) up
    have still' := up_of_settled (first.settled_window spawned after v) still
    have running' := first.window spawned after
    by_cases later : .sendHead v ∈ l
    · exact ihRest others running' still' (.inr later)
    · have now : s.attended v ∨ k = .sendHead v := by
        refine tends.imp_right fun mem => ?_
        rcases List.mem_cons.mp mem with same | mem
        · exact same.symm
        · exact absurd mem later
      exact ihRest others running' still' (.inl (ihFirst spawned after still (tends_task own up now)))

end Sys2Proof.Machine
end

section
/-! PROOFS. The drains that a window end begins: what each carrier needs (R74, R76, R80, R100). -/

namespace Sys2Proof.Machine

variable {b s t u m : State} {a c d e : CarrierIx} {l earlier later : List CarrierIx} {k j : Task} {report : Vector Meter 32}
  {order : ReportOrder}

/-! ## The admissions of a group -/

/-- R76: a candidate is as it was until it is put to the test, and as the test leaves it after. -/
theorem admissions_split (report : Vector Meter 32) (group : ∀ e ∈ earlier ++ c :: later, s.anchorOf e = a)
    (once : (earlier ++ c :: later).Nodup) : ∃ m, m = earlier.foldl (State.tryAdmit report) s ∧ Same c s m ∧
      Same c (State.tryAdmit report m c) ((earlier ++ c :: later).foldl (State.tryAdmit report) s) := by
  obtain ⟨-, others, apart⟩ := List.nodup_append.mp once
  refine ⟨_, rfl, ?_, ?_⟩
  · exact (admissions_touch (a := a) report earlier fun e mem => group e (List.mem_append_left _ mem)).1 c
      fun mem => apart c mem c List.mem_cons_self rfl
  · rw [List.foldl_append, List.foldl_cons]
    refine (admissions_touch (a := a) report later fun e mem => ?_).1 c (List.nodup_cons.mp others).1
    have steady (l : List CarrierIx) (s : State) : (l.foldl (State.tryAdmit report) s).anchorOf e = s.anchorOf e := by
      induction l generalizing s with
      | nil => rfl
      | cons d l ih => exact (ih _).trans ((touch_tryAdmit report s d).anchorOf e)
    rw [(touch_tryAdmit report _ c).anchorOf, steady]
    exact group e (List.mem_append_right _ (List.mem_cons_of_mem _ mem))

/-- R74: a candidate that the test leaves ACTIVE is as it was. -/
theorem tryAdmit_active (still : (State.tryAdmit report s c).lifeState c = .active) : State.tryAdmit report s c = s := by
  unfold State.tryAdmit at still ⊢
  dsimp only at still ⊢
  split at still
  · rw [beginDrain_lifeState, if_pos rfl] at still
    cases still
  · exact if_neg ‹_›

/-- R80: a candidate that the test admits is of a sector that is not locked out. -/
theorem tryAdmit_drain (active : s.lifeState c = .active) (drain : ((State.tryAdmit report s c).lifeState c).isDrain = true) :
    s.lockedOut (s.config c).sectorIx = false := by
  unfold State.tryAdmit at drain
  dsimp only at drain
  split at drain
  · rename_i admits
    simp only [State.admits, Bool.and_eq_true, Bool.not_eq_true'] at admits
    exact admits.1.2
  · rw [active] at drain
    cases drain

/-! ## A carrier that is ACTIVE -/

/-- What R76, R80 and R100 ask of a carrier that a window end makes drain, beside what every drain asks. -/
structure Fits (b : State) (c : CarrierIx) : Prop where
  quiet : memberOf b.calendar.quiet c.val = true
  open_ : b.lockedOut (b.config c).sectorIx = false
  idle : (b.profileOf c).idleRunLength ≤ (b.carrier c).meter.idleRun
  dwell : (b.profileOf c).dwellMinimum ≤ (b.carrier c).life.dwell / 1000

/-- A task that leaves a carrier ACTIVE leaves its lifecycle part as it was. -/
theorem active_stays (plain : k.isPlain) (active : s.lifeState c = .active) (still : (k.effect s).1.lifeState c = .active) :
    Same c s (k.effect s).1 := by
  by_cases named : k.names c
  · cases k with
    | report d m =>
      obtain rfl : d = c := named
      rw [show (Task.report d m).effect s = (s, []) from reportEffect_idle (by rw [active]; rfl) (by simp [active])]
      exact .refl d s
    | wake d kind =>
      obtain rfl : d = c := named
      have idle : wakeEffect d kind s = (s, []) := by
        unfold wakeEffect
        rw [active]
      rw [show (Task.wake d kind).effect s = (s, []) from idle]
      exact .refl d s
    | lose d cause =>
      obtain rfl : d = c := named
      rw [show ((Task.lose d cause).effect s).1.lifeState d = .lost from
        (loseEffect_lifeState ..).trans (if_pos ⟨rfl, by simp [active]⟩)] at still
      cases still
    | _ => exact named.elim
  · exact same_task plain named (by rw [active]; rfl)

/-- R76, R100: what the group of an anchor does to an ACTIVE carrier. -/
theorem active_group (kept : Keeps b s) (active : s.lifeState c = .active) (life : (s.carrier c).life = (b.carrier c).life) :
    Same c s (groupEffect a b.windowReport s).1 ∨
      ((groupEffect a b.windowReport s).1.lifeState c ≠ .active ∧
        (((groupEffect a b.windowReport s).1.lifeState c).isDrain = true → Fits b c)) := by
  obtain idle | ⟨-, -, relief⟩ | ⟨-, -, admits⟩ := groupEffect_cases a b.windowReport s
  · rw [idle]
    exact .inl (.refl c s)
  · rw [relief]
    refine .inl ?_
    obtain idle | ⟨d, -, drains⟩ | ⟨d, -, -, -, wakes⟩ := reliefEffect_cases a s
    · rw [idle]
      exact .refl c s
    · rw [drains]
      by_cases own : c = d
      · rw [abandonEffect_idle (by rw [← own, active]; rfl)]
        exact .refl c s
      · exact (touch_abandonEffect s d .relief).same own
    · rw [wakes]
      exact .refl c s
  · rw [admits]
    have group (e : CarrierIx) (mem : e ∈ s.candidates a b.windowReport) := (mem_candidates.mp mem).1.2.1
    by_cases mem : c ∈ s.candidates a b.windowReport
    · obtain ⟨earlier, later, split⟩ := List.append_of_mem mem
      have may := (mem_candidates.mp mem).2.1
      have once := candidates_nodup s a b.windowReport
      rw [split] at group once ⊢
      obtain ⟨m, folded, before, after⟩ := admissions_split b.windowReport group once
      have at_m : m.lifeState c = .active := before.lifeState.trans active
      dsimp only
      rw [after.lifeState]
      by_cases still : (State.tryAdmit b.windowReport m c).lifeState c = .active
      · rw [tryAdmit_active still] at after
        exact .inl (before.trans after)
      · refine .inr ⟨still, fun drain => ?_⟩
        have through : Keeps s m := folded ▸ keeps_admissions _ _ _ fun e mem =>
          candidates_may (by rw [split]; exact List.mem_append_left _ mem)
        have open_ := tryAdmit_drain at_m drain
        rw [(kept.trans through).config, State.lockedOut, (kept.trans through).lockOuts] at open_
        rw [windowReport_get] at may
        simp only [State.isCandidate, Bool.and_eq_true, decide_eq_true_eq, kept.profileOf_eq, kept.calendar, life] at may
        exact ⟨may.1.1.2, open_, may.1.2, may.2⟩
    · exact .inl ((admissions_touch (a := a) b.windowReport _ group).1 c mem)

/-- R76, R80, R100: a carrier that a window end makes drain fits. -/
theorem Done.fits (h : Done (b.reportTasks order) b t) (was : (b.lifeState c).isDrain = false)
    (drain : (t.lifeState c).isDrain = true) : Fits b c := by
  have safe : ∀ k ∈ b.reportTasks order, k.isPlain ∨ ∃ a, k = .group a b.windowReport := by
    have lifecycle (k : Task) (mem : k ∈ b.lifecycleTasks) : k.isPlain := by
      obtain ⟨d, -, rfl⟩ := List.mem_map.mp mem
      trivial
    have coverage (k : Task) (mem : k ∈ b.coverageTasks) : ∃ a, k = .group a b.windowReport := by
      obtain ⟨a, -, rfl⟩ := List.mem_map.mp mem
      exact ⟨a, rfl⟩
    intro k mem
    cases order <;> rcases List.mem_append.mp mem with mem | mem
    · exact .inl (lifecycle k mem)
    · exact .inr (coverage k mem)
    · exact .inr (coverage k mem)
    · exact .inl (lifecycle k mem)
  have reached := h.stays (fun u => Keeps b u ∧ (Fits b c ∨ ((u.lifeState c).isDrain = false ∧
      (u.lifeState c = .active → (u.carrier c).life = (b.carrier c).life))))
    (fun k => k.isPlain ∨ ∃ a, k = .group a b.windowReport) (fun k u safe holds => ?_) safe ⟨.refl b, .inr ⟨was, fun _ => rfl⟩⟩
  · obtain ⟨-, fits | ⟨awake, -⟩⟩ := reached
    · exact fits
    · rw [drain] at awake
      cases awake
  · obtain ⟨kept, holds⟩ := holds
    have notEnded : k.isEnded = false := by
      rcases safe with plain | ⟨a, rfl⟩
      · cases k with
        | ended => exact plain.elim
        | _ => rfl
      · rfl
    have lively := lively_task notEnded u
    refine ⟨⟨kept.trans (keeps_task k u), holds.elim .inl fun ⟨awake, life⟩ => ?_⟩, fun j mem => .inl ?_⟩
    · by_cases active : u.lifeState c = .active
      · have fate : Same c u (k.effect u).1 ∨ ((k.effect u).1.lifeState c ≠ .active ∧
            (((k.effect u).1.lifeState c).isDrain = true → Fits b c)) := by
          rcases safe with plain | ⟨a, rfl⟩
          · by_cases still : (k.effect u).1.lifeState c = .active
            · exact .inl (active_stays plain active still)
            · refine .inr ⟨still, fun drain => ?_⟩
              rcases effect_turns k c u with same | turned
              · exact absurd (same.trans active) still
              · rw [active] at turned
                cases k with
                | lose d cause =>
                  rw [turned.2] at drain
                  cases drain
                | wake | grants | withdrawn | report => simp_all [Task.turns, LifeState.isDrain]
                | sendHead | anchorLost => exact turned.elim
                | _ => exact plain.elim
          · exact active_group kept active (life active)
        obtain same | ⟨still, drains⟩ := fate
        · refine .inr ⟨by rw [same.lifeState]; exact awake, fun _ => same.1.trans (life active)⟩
        · by_cases drain : ((k.effect u).1.lifeState c).isDrain = true
          · exact .inl (drains drain)
          · exact .inr ⟨by simpa using drain, fun now => absurd now still⟩
      · refine .inr ⟨?_, fun now => ?_⟩
        · by_contra drain
          obtain was | was := lively.drain c (by simpa using drain)
          · exact active was
          · rw [awake] at was
            cases was
        · obtain was | was := lively.active c now
          · exact absurd was active
          · rw [awake] at was
            cases was
    · have spawned := effect_spawns k u j mem
      cases j with
      | grants | sendHead | lose | wake | withdrawn | anchorLost => trivial
      | linkUp d =>
        obtain ⟨v, rfl⟩ := spawned
        obtain plain | ⟨a, other⟩ := safe
        · exact plain.elim
        · cases other
      | ended | deepen | abandon | report | group | deepTest | recover => exact spawned.elim

end Sys2Proof.Machine
end

section
/-! PROOFS. A window end in the statement's terms: the drains that it begins (R100), and those that it ends (R103, R105). -/

namespace Sys2Proof.Machine

variable {b s t u m : State} {a c d e : CarrierIx} {l : List Task} {order : ReportOrder}

/-- R52, R58: a window end publishes, and its two blocks take the report. -/
theorem windowEnd_done (running : s.phase = .running) (next : exec (.windowEnd order) s = .next t) :
    Done (s.closeWindow.reportTasks order) s.closeWindow t := by
  rw [exec_windowEnd order running] at next
  obtain rfl := Host.Outcome.next.inj next
  exact done_work _ _ (costs_reportTasks order _)

/-- R74, R100: what a carrier was and had that a window end makes drain. -/
theorem windowEnd_begins (h : Done (s.closeWindow.reportTasks order) s.closeWindow t) (drain : (t.lifeState c).isDrain = true)
    (was : (s.lifeState c).isDrain = false) : s.lifeState c = .active ∧ s.mayBeginDrain c = true ∧ Fits s.closeWindow c := by
  have awake : (s.closeWindow.lifeState c).isDrain = false := by rwa [closeWindow_lifeState]
  refine ⟨?_, ?_, h.fits awake drain⟩
  · obtain active | was := (h.lively (reportTasks_not_ended _ _)).drain c drain
    · exact (closeWindow_lifeState s c).symm.trans active
    · rw [awake] at was
      cases was
  · obtain was | may := h.keeps.drains c drain
    · rw [awake] at was
      cases was
    · rw [mayBeginDrain_iff, closeWindow_isManaged] at may
      exact mayBeginDrain_iff.mpr may

theorem windowEnd_begins_allowed : ∀ (order : ReportOrder) (c : CarrierIx) (s t : State), s.phase = .running →
    exec (.windowEnd order) s = .next t → (t.lifeState c).isDrain = true → (s.lifeState c).isDrain = false →
    s.lifeState c = .active ∧ s.isDependent c = true ∧ (s.config c).protect ≠ 1#8 ∧ s.engine.mode = .acting ∧
      s.trunkLost = false ∧ s.settings.advisoryDestination ≠ 0#48 ∧ memberOf s.calendar.quiet c.val = true ∧
      s.lockedOut (s.config c).sectorIx = false ∧ (t.profileOf c).idleRunLength ≤ (t.carrier c).meter.idleRun ∧
      (t.profileOf c).dwellMinimum ≤ (s.carrier c).life.dwell / 1000 := by
  intro order c s t running next drain was
  have done := windowEnd_done running next
  obtain ⟨active, may, quiet, open_, idle, dwell⟩ := windowEnd_begins done drain was
  obtain ⟨managed, other, unprotected, acting, up, destination⟩ := mayBeginDrain_iff.mp may
  rw [closeWindow_life] at dwell
  rw [done.keeps.profileOf_eq, done.keeps.idleRun]
  exact ⟨active, by simp [State.isDependent, managed, other], unprotected, acting, up, destination, quiet, open_, idle, dwell⟩

end Sys2Proof.Machine
end

section
/-! PROOFS. A window end that finds nothing to act on but one carrier (R75, R103). -/

namespace Sys2Proof.Machine

variable {b s t u m : State} {a c d e : CarrierIx} {l before after : List Task} {k : Task} {meter : Meter} {order : ReportOrder}

theorem isCandidate_iff : s.isCandidate c meter = true ↔ s.lifeState c = .active ∧ s.mayBeginDrain c = true ∧
    memberOf s.calendar.quiet c.val = true ∧ (s.profileOf c).idleRunLength ≤ meter.idleRun ∧
      (s.profileOf c).dwellMinimum ≤ (s.carrier c).life.dwell / 1000 := by
  simp only [State.isCandidate, State.mayBeginDrain, Bool.and_eq_true, beq_iff_eq, decide_eq_true_eq, and_assoc]
  rfl

/-- R76, R100: the candidates of the statement are those of the report. -/
theorem candidate_iff (kept : Keeps s.closeWindow t) :
    Candidate s t c ↔ s.closeWindow.isCandidate c (s.closeWindow.carrier c).meter = true := by
  rw [isCandidate_iff, closeWindow_lifeState, mayBeginDrain_iff, closeWindow_isManaged, closeWindow_life, Candidate,
    kept.profileOf_eq, kept.idleRun]
  simp only [and_assoc]
  rfl

/-- A window end has nothing to act on in `b` but carrier `c`. -/
structure Calm (b : State) (c : CarrierIx) : Prop where
  others : ∀ d, d ≠ c → b.isCandidate d (b.carrier d).meter = false ∧ (b.lifeState d).isDrain = false ∧ b.lifeState d ≠ .doze
  groups : ∀ a, b.isAnchor a = true → ¬b.presses a

theorem calm_of_onlyFor (h : OnlyFor c s t) (kept : Keeps s.closeWindow t) : Calm s.closeWindow c := by
  obtain ⟨others, groups⟩ := h
  refine ⟨fun d other => ?_, fun a anchor presses => ?_⟩
  · obtain ⟨no, drain, doze⟩ := others d other
    rw [candidate_iff kept, Bool.not_eq_true] at no
    rw [closeWindow_lifeState]
    exact ⟨no, drain, doze⟩
  · rw [closeWindow_isAnchor] at anchor
    exact groups a anchor ((needsRelief_iff kept).mpr presses)

/-- Since `b` nothing has changed for any carrier but `c`. -/
structure Aside (c : CarrierIx) (b u : State) : Prop where
  keeps : Keeps b u
  life : ∀ d, d ≠ c → (u.carrier d).life = (b.carrier d).life

theorem Aside.refl (c : CarrierIx) (b : State) : Aside c b b := ⟨.refl b, fun _ _ => rfl⟩

theorem Aside.lifeState (h : Aside c b u) (other : d ≠ c) : u.lifeState d = b.lifeState d := congrArg Life.state (h.life d other)

theorem Calm.report (h : Calm b c) (aside : Aside c b u) (other : d ≠ c) (meter : Meter) :
    (Task.report d meter).effect u = (u, []) := by
  obtain ⟨-, drain, doze⟩ := h.others d other
  rw [← aside.lifeState other] at drain doze
  exact reportEffect_idle drain doze

/-- R76: the candidates of a group other than `c`, of which there are none. -/
theorem Calm.candidate (h : Calm b c) (aside : Aside c b u) (mem : d ∈ u.candidates a b.windowReport) : d = c := by
  by_contra other
  have may := (mem_candidates.mp mem).2.1
  have none := (h.others d other).1
  have dependent := isCandidate_iff.mp may
  rw [windowReport_get] at dependent
  rw [mayBeginDrain_iff, aside.lifeState other, aside.keeps.managed, aside.keeps.anchorOf_eq, aside.keeps.config, aside.keeps.mode,
    aside.keeps.settings, aside.keeps.calendar, aside.keeps.profileOf_eq, aside.life d other, State.trunkLost,
    aside.keeps.trunkState] at dependent
  have here : b.isCandidate d (b.carrier d).meter = true := isCandidate_iff.mpr (by rw [mayBeginDrain_iff]; exact dependent)
  rw [none] at here
  cases here

theorem Calm.low (h : Calm b c) (kept : Keeps b u) (anchor : u.isAnchor a = true) :
    b.windowReport[a].figure < (u.profileOf a).reliefThreshold := by
  rw [windowReport_get, kept.profileOf_eq]
  rw [kept.isAnchor] at anchor
  exact Nat.lt_of_not_le (h.groups a anchor)

theorem Calm.group (h : Calm b c) (aside : Aside c b u) (out : c ∉ u.candidates a b.windowReport) :
    (Task.group a b.windowReport).effect u = (u, []) := by
  obtain idle | ⟨presses, anchor, -⟩ | ⟨-, -, admits⟩ := groupEffect_cases a b.windowReport u
  · exact idle
  · exact absurd presses (Nat.not_le.mpr (h.low aside.keeps anchor))
  · have empty : u.candidates a b.windowReport = [] := List.eq_nil_iff_forall_not_mem.mpr fun d mem =>
      out (h.candidate aside mem ▸ mem)
    rw [empty] at admits
    exact admits

/-! ## One task that acts -/

theorem done_idle (h : Done l s t) (idle : ∀ k ∈ l, k.effect s = (s, [])) : t = s := by
  induction l with
  | nil => exact done_nil_iff.mp h
  | cons k l ih =>
    obtain ⟨m, own, rest⟩ := done_cons_iff.mp h
    rw [idle k List.mem_cons_self] at own
    rw [done_nil_iff.mp own] at rest
    exact ih rest fun j mem => idle j (List.mem_cons_of_mem _ mem)

theorem done_single (h : Done (before ++ k :: after) s t) (first : ∀ j ∈ before, j.effect s = (s, []))
    (last : ∀ u, Done [k] s u → ∀ j ∈ after, j.effect u = (u, [])) : Done [k] s t := by
  obtain ⟨m, begins, rest⟩ := done_append_iff.mp h
  rw [done_idle begins first] at rest
  obtain ⟨u, own, ends⟩ := done_cons_iff.mp rest
  rw [done_idle ends (last u (done_singleton_iff.mpr own))]
  exact done_singleton_iff.mpr own

/-- R58: the tasks of a window end beside the report of one carrier. -/
theorem reportTasks_report (order : ReportOrder) (managed : b.isManaged c = true) : ∃ before after,
    b.reportTasks order = before ++ .report c (b.carrier c).meter :: after ∧ ∀ k ∈ before ++ after,
      (∃ d m, d ≠ c ∧ k = .report d m) ∨ ∃ a, k = .group a b.windowReport := by
  obtain ⟨before, after, split, others⟩ := lifecycle_split managed
  have groups (k : Task) (mem : k ∈ b.coverageTasks) : ∃ a, k = .group a b.windowReport := by
    obtain ⟨a, -, rfl⟩ := List.mem_map.mp mem
    exact ⟨a, rfl⟩
  cases order with
  | lifecycleFirst =>
    refine ⟨before, after ++ b.coverageTasks, by rw [State.reportTasks, split, List.append_assoc]; rfl, fun k mem => ?_⟩
    rw [← List.append_assoc] at mem
    exact (List.mem_append.mp mem).imp (others k) (groups k)
  | coverageFirst =>
    refine ⟨b.coverageTasks ++ before, after, by rw [State.reportTasks, split, List.append_assoc], fun k mem => ?_⟩
    rw [List.append_assoc] at mem
    exact (List.mem_append.mp mem).symm.imp (others k) (groups k)

/-- R58: the tasks of a window end beside the group of one anchor. -/
theorem reportTasks_group (order : ReportOrder) (b : State) (a : CarrierIx) : ∃ before after,
    b.reportTasks order = before ++ .group a b.windowReport :: after ∧ ∀ k ∈ before ++ after,
      (∃ d, k = .report d (b.carrier d).meter) ∨ ∃ g, g ≠ a ∧ k = .group g b.windowReport := by
  obtain ⟨before, after, split, others⟩ := coverage_split b a
  have reports (k : Task) (mem : k ∈ b.lifecycleTasks) : ∃ d, k = .report d (b.carrier d).meter := by
    obtain ⟨d, -, rfl⟩ := List.mem_map.mp mem
    exact ⟨d, rfl⟩
  cases order with
  | lifecycleFirst =>
    refine ⟨b.lifecycleTasks ++ before, after, by rw [State.reportTasks, split, List.append_assoc], fun k mem => ?_⟩
    rw [List.append_assoc] at mem
    exact (List.mem_append.mp mem).imp (reports k) (others k)
  | coverageFirst =>
    refine ⟨before, after ++ b.lifecycleTasks, by rw [State.reportTasks, split, List.append_assoc]; rfl, fun k mem => ?_⟩
    rw [← List.append_assoc] at mem
    exact (List.mem_append.mp mem).symm.imp (reports k) (others k)

/-- R103: where the report of one carrier is all there is to act on, it is all that is done. -/
theorem Calm.report_alone (h : Calm b c) (done : Done (b.reportTasks order) b t) (managed : b.isManaged c = true)
    (out : b.lifeState c ≠ .active)
    (acts : ∀ u, Done [.report c (b.carrier c).meter] b u → Aside c b u ∧ ∀ a, c ∉ u.candidates a b.windowReport) :
    Done [.report c (b.carrier c).meter] b t := by
  obtain ⟨before, after, split, others⟩ := reportTasks_report order managed
  rw [split] at done
  refine done_single done (fun k mem => ?_) fun u own k mem => ?_
  · obtain ⟨d, m, other, rfl⟩ | ⟨a, rfl⟩ := others k (List.mem_append_left _ mem)
    · exact h.report (.refl c b) other m
    · exact h.group (.refl c b) (not_candidate_of_state out)
  · obtain ⟨aside, gone⟩ := acts u own
    obtain ⟨d, m, other, rfl⟩ | ⟨a, rfl⟩ := others k (List.mem_append_right _ mem)
    · exact h.report aside other m
    · exact h.group aside (gone a)

theorem tryAdmit_cases (report : Vector Meter 32) (s : State) (c : CarrierIx) :
    State.tryAdmit report s c = s ∨ ∃ pledge, State.tryAdmit report s c = s.beginDrain c pledge .idle := by
  unfold State.tryAdmit
  dsimp only
  split
  · exact .inr ⟨_, rfl⟩
  · exact .inl rfl

/-- R75, R76: where one candidate is all there is to act on, its admission is all that is done. -/
theorem Calm.admission_alone (h : Calm b c) (done : Done (b.reportTasks order) b t) (active : b.lifeState c = .active)
    (low : ¬b.rises c) (fresh : (b.carrier c).meter.quietRun < (b.profileOf c).quietWindows) :
    t = b ∨ ∃ pledge, t = b.beginDrain c pledge .idle := by
  have test := tryAdmit_cases b.windowReport b c
  have own (u : State) (acted : Done [.group (b.anchorOf c) b.windowReport] b u) :
      u = b ∨ u = State.tryAdmit b.windowReport b c := by
    have acted := done_singleton_iff.mp acted
    change Done (groupEffect ..).2 (groupEffect ..).1 u at acted
    by_cases mem : c ∈ b.candidates (b.anchorOf c) b.windowReport
    · obtain idle | ⟨presses, anchor, -⟩ | ⟨-, -, admits⟩ := groupEffect_cases (b.anchorOf c) b.windowReport b
      · rw [idle] at acted
        exact .inl (done_nil_iff.mp acted)
      · exact absurd presses (Nat.not_le.mpr (h.low (.refl b) anchor))
      · have alone : b.candidates (b.anchorOf c) b.windowReport = [c] := by
          obtain ⟨before, after, split⟩ := List.append_of_mem mem
          have once := candidates_nodup b (b.anchorOf c) b.windowReport
          have same (d : CarrierIx) (listed : d ∈ before ++ c :: after) : d = c := h.candidate (.refl c b) (split ▸ listed)
          rw [split] at once ⊢
          have apart := (List.nodup_cons.mp (List.nodup_middle.mp once)).1
          have first : before = [] := List.eq_nil_iff_forall_not_mem.mpr fun d listed =>
            apart (by rw [← same d (List.mem_append_left _ listed)]; exact List.mem_append_left _ listed)
          have last : after = [] := List.eq_nil_iff_forall_not_mem.mpr fun d listed =>
            apart (by
              rw [← same d (List.mem_append_right _ (List.mem_cons_of_mem _ listed))]
              exact List.mem_append_right _ listed)
          rw [first, last, List.nil_append]
        rw [admits, alone] at acted
        exact .inr (done_nil_iff.mp acted)
    · rw [show groupEffect _ _ b = (b, []) from h.group (.refl c b) mem] at acted
      exact .inl (done_nil_iff.mp acted)
  obtain ⟨before, after, split, others⟩ := reportTasks_group order b (b.anchorOf c)
  rw [split] at done
  suffices alone : Done [.group (b.anchorOf c) b.windowReport] b t by
    obtain same | same := own t alone
    · exact .inl same
    · rw [same]
      exact test
  refine done_single done (fun k mem => ?_) fun u acted k mem => ?_
  · obtain ⟨d, rfl⟩ | ⟨g, apart, rfl⟩ := others k (List.mem_append_left _ mem)
    · by_cases same : d = c
      · subst same
        exact reportEffect_idle (by rw [active]; rfl) (by simp [active])
      · exact h.report (.refl c b) same _
    · exact h.group (.refl c b) fun listed => apart (mem_candidates.mp listed).1.2.1.symm
  · have kept : Keeps b u := acted.keeps
    have touch : Touch c b u := by
      obtain same | same := own u acted
      · rw [same]
        exact .refl b
      · rw [same]
        exact touch_tryAdmit ..
    have state : u.lifeState c = .active ∨ u.lifeState c = .draining := by
      obtain same | same := own u acted
      · rw [same]
        exact .inl active
      · rw [same]
        obtain refused | ⟨pledge, drains⟩ := test
        · rw [refused]
          exact .inl active
        · rw [drains, beginDrain_lifeState, if_pos rfl]
          exact .inr rfl
    have aside : Aside c b u := ⟨kept, touch.life⟩
    obtain ⟨d, rfl⟩ | ⟨g, apart, rfl⟩ := others k (List.mem_append_right _ mem)
    · by_cases same : d = c
      · subst same
        change reportEffect d (b.carrier d).meter u = _
        rw [reportEffect_eq, kept.profileOf_eq, if_neg fun rose => low rose.2, if_neg fun quiet => Nat.not_le.mpr fresh quiet.2,
          if_neg (by rcases state with now | now <;> simp [now])]
      · exact h.report aside same _
    · refine h.group aside fun listed => apart ?_
      rw [← kept.anchorOf_eq]
      exact (mem_candidates.mp listed).1.2.1.symm

end Sys2Proof.Machine
end

section
/-! PROOFS. What a window end tells of a drain that begins, and of one that ends (R97, R100, R103, R105). -/

namespace Sys2Proof.Machine

variable {a b s t u : State} {c d e : CarrierIx} {l : List Task} {k : Task} {meter : Meter} {order : ReportOrder}

/-! ## Telling from states that sound alike -/

/-- The frame path, part by part. -/
theorem path_of_parts {p q : FramePath} (trunk : q.trunkQueue = p.trunkQueue) (branches : q.branchQueues = p.branchQueues)
    (up : q.branchUp = p.branchUp) (branchReport : q.branchReport = p.branchReport) (trunkReport : q.trunkReport = p.trunkReport)
    (state : q.trunkState = p.trunkState) (grace : q.grace = p.grace) : q = p := by
  cases p
  cases q
  simp_all

/-- States that sound alike sound alike after the same notice; with the same frame path they have the same one then. -/
theorem SoundsAs.notify_path (h : SoundsAs a b) (path : b.path = a.path) (n : NoticeContent) :
    (b.notify n).path = (a.notify n).path := by
  have ka := keeps_notify a n
  have kb := keeps_notify b n
  exact path_of_parts (h.notify n).trunk (by rw [notify_branchQueues, notify_branchQueues, path]) (by rw [kb.branchUp, ka.branchUp, path])
    (by rw [kb.branchReport, ka.branchReport, path]) (by rw [kb.trunkReport, ka.trunkReport, path])
    (by rw [kb.trunkState, ka.trunkState, path]) (by rw [kb.grace, ka.grace, path])

theorem SoundsAs.notify_engine (h : SoundsAs a b) (mode : b.engine.mode = a.engine.mode) (n : NoticeContent) :
    (b.notify n).engine = (a.notify n).engine := by
  have same := (h.notify n).engine
  rwa [(keeps_notify b n).mode, mode, ← (keeps_notify a n).mode] at same

theorem soundsAs_closeWindow (s : State) : SoundsAs s s.closeWindow := ⟨rfl, rfl, rfl, rfl, rfl⟩

/-! ## A drain that begins -/

/-- R57: a carrier that does not drain has no drain-quiet run. -/
theorem closeWindow_quietRun_of_active (active : s.lifeState c = .active) (range : MetersInRange s) :
    (s.closeWindow.carrier c).meter.quietRun = 0 := by
  obtain ⟨fresh, primed⟩ := windowEnd_eq (s.config c) (s.promoteProfiles.profileOf c) (s.lifeState c) s.windowClock.length
    (s.carrier c).meter
  rw [closeWindow_carrier, if_neg (by simp [active])]
  cases mark : (s.carrier c).meter.primed with
  | false =>
    have clear := (range c).2.2.2.2.2 mark
    dsimp only
    rw [fresh mark, clear]
    rfl
  | true =>
    dsimp only
    rw [primed mark]
    simp [active]

/-- R74, R76: where one carrier is a candidate, and all there is to act on, its drain is all that begins. -/
theorem begins_alone (law : Lawful s) (h : Done (s.closeWindow.reportTasks order) s.closeWindow t) (candidate : Candidate s t c)
    (only : OnlyFor c s t) (draining : t.lifeState c = .draining) :
    s.closeWindow.mayBeginDrain c = true ∧ ∃ pledge, t = s.closeWindow.beginDrain c pledge .idle := by
  have kept := h.keeps
  have needs := isCandidate_iff.mp ((candidate_iff kept).mp candidate)
  obtain ⟨active, may, -, idle, -⟩ := needs
  have was : s.lifeState c = .active := candidate.1
  obtain ⟨⟨-, -, -, -, -, -, -, -, -, least, -⟩, -⟩ := closeWindow_inRange law.inRange c
  have low := not_rises_of_idle candidate.2.1 law.inRange law.meters idle
  have quiet := closeWindow_quietRun_of_active was law.meters
  refine ⟨may, ?_⟩
  obtain same | drains := (calm_of_onlyFor only kept).admission_alone h active low (by omega)
  · rw [same, active] at draining
    cases draining
  · exact drains

/-- R97, R100, R162: what is told then, from a state that differs in nothing that is told. -/
theorem drain_told {b : State} (active : b.lifeState c = .active) (may : b.mayBeginDrain c = true) (pledge : Nat)
    (path : b.path = s.path) (engine : b.engine = s.engine) (calendar : b.calendar = s.calendar)
    (settings : b.settings = s.settings) (address : b.stationAddress = s.stationAddress)
    (layout : b.advisoryLayout 1 c 1 = s.advisoryLayout 1 c 1) :
    let t := b.beginDrain c pledge .idle
    let told := (s.sends .trunk s.settings.advisoryDestination (s.advisoryLayout 1 c 1)).notify
      (.carrierState c .active .draining .idle .timed s.calendar.minute s.calendar.second)
    Alone c b t ∧ t.advisories = { b.advisories with sent := min 4294967295 (b.advisories.sent + 1) } ∧ t.path = told.path ∧
      t.engine = told.engine := by
  intro t told
  obtain ⟨begins, whole⟩ := begun active may pledge .idle
  obtain ⟨alone, -, -, -, -, -, -, -, sent⟩ := told_drain active may pledge .idle .timed
  have noted : t = (b.barSent c pledge .idle).notify
      (.carrierState c .active .draining .idle .timed s.calendar.minute s.calendar.second) := by
    rw [show t = _ from whole, State.notifyState, begins.alone.keeps.calendar, calendar]
    rfl
  have other : Keeps s (s.sends .trunk s.settings.advisoryDestination (s.advisoryLayout 1 c 1)) := keeps_offerInjected ..
  have samePath : (b.barSent c pledge .idle).path =
      (s.sends .trunk s.settings.advisoryDestination (s.advisoryLayout 1 c 1)).path := by
    refine begins.path.trans ?_
    rw [settings, show (Cause.idle).code = 1 from rfl, layout, State.sends, State.sends, address, settings]
    exact offerInjected_path path ..
  have sameEngine : (b.barSent c pledge .idle).engine =
      (s.sends .trunk s.settings.advisoryDestination (s.advisoryLayout 1 c 1)).engine :=
    (begins.engine.trans engine).trans (offerInjected_engine (s := s) ..).symm
  have sounds : SoundsAs (s.sends .trunk s.settings.advisoryDestination (s.advisoryLayout 1 c 1)) (b.barSent c pledge .idle) :=
    ⟨by rw [sameEngine], by rw [samePath], by rw [samePath],
      (begins.alone.keeps.stationAddress.trans address).trans other.stationAddress.symm,
      (begins.alone.keeps.settings.trans settings).trans other.settings.symm⟩
  have tells : t = (b.barSent c pledge .idle).notifyState c .active .draining .idle .timed := whole
  rw [← tells] at alone sent
  exact ⟨alone, sent, by rw [noted]; exact sounds.notify_path samePath _,
    by rw [noted]; exact sounds.notify_engine (by rw [sameEngine]) _⟩

theorem windowEnd_tells_begun : ∀ (order : ReportOrder) (c : CarrierIx) (s t : State), s.phase = .running → Lawful s →
    exec (.windowEnd order) s = .next t → Candidate s t c → OnlyFor c s t → t.lifeState c = .draining →
    let told := (s.sends .trunk s.settings.advisoryDestination (s.advisoryLayout 1 c 1)).notify
      (.carrierState c .active .draining .idle .timed s.calendar.minute s.calendar.second)
    t.path = told.path ∧ t.engine = told.engine ∧ t.units = s.units ∧ t.wakeQueue = s.wakeQueue ∧
      t.advisories = { s.advisories with sent := min 4294967295 (s.advisories.sent + 1) } ∧
      ∀ d, d ≠ c → t.lifeState d = s.lifeState d := by
  intro order c s t running law next candidate only draining told
  obtain ⟨may, pledge, drains⟩ := begins_alone law (windowEnd_done running next) candidate only draining
  have active : s.closeWindow.lifeState c = .active := (closeWindow_lifeState s c).trans candidate.1
  have states (d : CarrierIx) : s.closeWindow.lifeState d = s.lifeState d := closeWindow_lifeState s d
  obtain ⟨path, engine, calendar, settings, address, config, units, queue, advisories⟩ : s.closeWindow.path = s.path ∧
      s.closeWindow.engine = s.engine ∧ s.closeWindow.calendar = s.calendar ∧ s.closeWindow.settings = s.settings ∧
      s.closeWindow.stationAddress = s.stationAddress ∧ s.closeWindow.carrierConfig = s.carrierConfig ∧
      s.closeWindow.units = s.units ∧ s.closeWindow.wakeQueue = s.wakeQueue ∧ s.closeWindow.advisories = s.advisories :=
    ⟨rfl, rfl, rfl, rfl, rfl, rfl, rfl, rfl, rfl⟩
  generalize s.closeWindow = b at *
  have layout : b.advisoryLayout 1 c 1 = s.advisoryLayout 1 c 1 := by
    rw [State.advisoryLayout, State.advisoryLayout, State.config, State.config, config]
  obtain ⟨alone, sent, samePath, sameEngine⟩ := drain_told (s := s) active may pledge path engine calendar settings address layout
  rw [← drains] at alone sent samePath sameEngine
  rw [← units, ← queue, ← advisories]
  refine ⟨samePath, sameEngine, alone.units, alone.wakeQueue, sent, fun d other => ?_⟩
  rw [← states, State.lifeState, alone.others d other]
  rfl

/-! ## A drain that ends -/

/-- R103, R106: where one carrier's load rose, and it is all there is to act on, the end of its drain is all that is done. -/
theorem rises_alone {b : State} (h : Calm b c) (done : Done (b.reportTasks order) b t) (drain : (b.lifeState c).isDrain = true)
    (rises : b.rises c) (busy : ¬(b.profileOf c).idleRunLength ≤ (b.carrier c).meter.idleRun) :
    t = b.enterRestoring c .loadRose := by
  have own (u : State) (acted : Done [.report c (b.carrier c).meter] b u) : u = b.enterRestoring c .loadRose := by
    obtain ⟨-, -, same⟩ | ⟨-, low, -⟩ | ⟨low, -⟩ := done_report acted (isLively_of_isDrain drain)
    · exact same
    · exact absurd rises low
    · exact absurd ⟨drain, rises⟩ low
  have managed : b.isManaged c = true := bne_iff_ne.mpr fun state => by
    rw [state] at drain
    cases drain
  have out : b.lifeState c ≠ .active := fun active => by
    rw [active] at drain
    cases drain
  refine own t (h.report_alone done managed out fun u acted => ⟨⟨acted.keeps, ?_⟩, fun a mem => ?_⟩)
  · rw [own u acted]
    exact (touch_enterRestoring ..).life
  · exact busy (idle_of_candidate acted.keeps mem)

/-- R103, R106: what is told then. -/
theorem rises_told (only : OnlyFor c s t) (h : Done (s.closeWindow.reportTasks order) s.closeWindow t)
    (drain : (s.lifeState c).isDrain = true) (rises : s.closeWindow.rises c)
    (busy : ¬(s.closeWindow.profileOf c).idleRunLength ≤ (s.closeWindow.carrier c).meter.idleRun) :
    ToldAs (({ s with profiles := t.profiles } : State).tellsReturn c .loadRose .timed) t := by
  have here : (s.closeWindow.lifeState c).isDrain = true := by rwa [closeWindow_lifeState]
  have same := rises_alone (calm_of_onlyFor only h.keeps) h here rises busy
  have alike : Alike ({ s with profiles := t.profiles } : State) s.closeWindow :=
    ⟨⟨rfl, rfl, rfl⟩, rfl, rfl, rfl, rfl, h.keeps.profiles.symm, rfl⟩
  have told := (told_enterRestoring (s := s.closeWindow) (c := c) (fun state => by rw [state] at here; cases here)
    (fun state => by rw [state] at here; cases here) (bne_iff_ne.mpr fun state => by rw [state] at here; cases here) .loadRose).1
  rw [← same] at told
  exact (alike.tellsReturn c .loadRose .timed (closeWindow_lifeState s c)).toToldAs.trans told.toToldAs

theorem not_mayFind_of_window {b : State} (h : k.ofWindow b) : ¬k.mayFind c := by
  cases k with
  | wake d kind =>
    obtain rfl : kind = .relief := h
    exact id
  | linkUp | recover => exact h.elim
  | _ => exact id

/-- R105, R111, R146: a draining carrier that went quiet is in RAMPDOWN after the window end, with its directive in its unit's
queue, or LOST if its unit cannot take that. -/
theorem quiet_ends {b : State} (running : Running b b) (h : Done (b.reportTasks order) b t) (low : ¬b.rises c) (quiet : b.quiets c)
    (calm : order = .lifecycleFirst ∨ ¬b.presses (b.anchorOf c)) :
    (b.untaken c → t.lifeState c = .lost) ∧ (¬b.untaken c → t.lifeState c = .rampdown ∧ ∃ d ∈ (t.unit (b.unitOf c)).queue,
      d.kind = .carrierSleep ∧ d.carrier = some c ∧ d.key = (b.config c).key) := by
  obtain ⟨p, q, before, after, first, begins, at_p, same, completes, at_q, last, ends⟩ := drain_quiets running h low quiet calm
  have draining : p.lifeState c = .draining := same.lifeState.trans quiet.1
  have units := begins.untaken_iff (c := c) first running
  obtain ⟨-, -, lost, rests⟩ := completed draining completes
  refine ⟨fun untaken => ?_, fun taken => ?_⟩
  · exact ends.stays_lost (fun k mem => not_mayFind_of_window (last k mem).1) (lost (units.mpr untaken))
  · obtain ⟨state, mem⟩ := rests (mt units.mp taken)
    rw [at_p.keeps.unitOf_eq] at mem
    obtain ⟨stays, kept⟩ := ends.rests_on (fun k mem => (last k mem).1) at_q (fun k mem => (last k mem).2) state mem
      (by simp [State.directiveFor]) rfl
    exact ⟨stays, _, kept, rfl, rfl, congrArg CarrierConfig.key (at_p.keeps.config c)⟩

theorem reportTasks_window (order : ReportOrder) (b s : State) : ∀ k ∈ b.reportTasks order, k.ofWindow s := by
  have coverage (k : Task) (mem : k ∈ b.coverageTasks) : k.ofWindow s := by
    obtain ⟨a, -, rfl⟩ := List.mem_map.mp mem
    trivial
  intro k mem
  cases order <;> rcases List.mem_append.mp mem with mem | mem
  · exact reports_window b s k mem
  · exact coverage k mem
  · exact coverage k mem
  · exact reports_window b s k mem

/-- R146: where its unit is UP and idle the directive has been sent. -/
theorem quiet_sends {b : State} (running : Running b b) (h : Done (b.reportTasks order) b t) (low : ¬b.rises c) (quiet : b.quiets c)
    (calm : order = .lifecycleFirst ∨ ¬b.presses (b.anchorOf c)) (up : (b.unit (b.unitOf c)).state = some .up)
    (empty : (b.unit (b.unitOf c)).queue = []) : (t.unit (b.unitOf c)).sent ≠ none := by
  have attended := h.sends (v := b.unitOf c) (reportTasks_window order b b) running up (.inl (.inr empty))
  obtain ⟨-, d, mem, -⟩ := (quiet_ends running h low quiet calm).2 (by simp [State.untaken, up])
  exact attended.resolve_right fun none => by
    rw [none] at mem
    cases mem

theorem windowEnd_ends : ∀ (order : ReportOrder) (c : CarrierIx) (s t : State), s.phase = .running → Lawful s →
    exec (.windowEnd order) s = .next t → (s.lifeState c).isDrain = true →
    let u := s.unitOf c
    let unfit := (s.unit u).state = none ∨ (s.unit u).state = some .unreachable
    (LoadRose t c → t.lifeState c = (if (t.profileOf c).settleTime = 0 then .active else .restoring) ∧
      (t.cover c).pledge = 0 ∧
      (OnlyFor c s t → ToldAs (({ s with profiles := t.profiles } : State).tellsReturn c .loadRose .timed) t)) ∧
    (¬LoadRose t c → WentQuiet s t c → order = .lifecycleFirst ∨ ¬NeedsRelief t (s.anchorOf c) →
      (t.cover c).pledge = 0 ∧ (unfit → t.lifeState c = .lost) ∧
      (¬unfit → t.lifeState c = .rampdown ∧ ∃ d ∈ (t.unit u).queue, d.kind = .carrierSleep ∧ d.carrier = some c ∧
        d.key = (s.config c).key) ∧
      ((s.unit u).state = some .up → (s.unit u).queue = [] → (s.unit u).sent = none → (t.unit u).sent ≠ none)) ∧
    (¬LoadRose t c → ¬WentQuiet s t c → ¬NeedsRelief t (s.anchorOf c) →
      t.lifeState c = s.lifeState c ∧ (t.cover c).pledge = (s.cover c).pledge) := by
  intro order c s t running law next drain u unfit
  have done := windowEnd_done running next
  have runs := running_closeWindow law
  have kept := done.keeps
  have sound := (done.window (reportTasks_window order _ _) runs).sound
  have here : (s.closeWindow.lifeState c).isDrain = true := by rwa [closeWindow_lifeState]
  have managed : s.isManaged c = true := bne_iff_ne.mpr fun state => by
    rw [state] at drain
    cases drain
  rw [loadRose_iff kept, needsRelief_iff kept, wentQuiet_iff kept law.meters]
  refine ⟨fun rises => ?_, fun low quiet calm => ?_, fun low loud calm => ?_⟩
  · have busy := fun idle => not_rises_of_idle managed law.inRange law.meters idle rises
    have state := drain_rises runs done here rises busy
    refine ⟨?_, sound.cover.none c ?_, fun only => rises_told only done drain rises busy⟩
    · rw [state, kept.profileOf_eq, State.backState]
    · rw [state]
      exact isDrain_of_isBack (backState_isBack ..)
  · obtain ⟨lost, rests⟩ := quiet_ends runs done low quiet calm
    refine ⟨sound.cover.none c ?_, lost, rests, fun up empty _ => quiet_sends (b := s.closeWindow) runs done low quiet calm up empty⟩
    by_cases untaken : s.closeWindow.untaken c
    · rw [lost untaken]
      rfl
    · rw [(rests untaken).1]
      rfl
  · have same := drain_still runs done here low loud calm
    exact ⟨same.lifeState.trans (closeWindow_lifeState s c), same.2.trans (congrArg Cover.pledge (closeWindow_cover s c))⟩

/-- R105: where the drain that goes quiet is all there is to act on, and its unit is UP and idle. -/
theorem quiet_alone {b : State} (h : Calm b c) (done : Done (b.reportTasks order) b t) (low : ¬b.rises c) (quiet : b.quiets c)
    (up : (b.unit (b.unitOf c)).state = some .up) (empty : (b.unit (b.unitOf c)).queue = [])
    (idle : (b.unit (b.unitOf c)).sent = none) :
    Done (completeDrain c .drainQuiet .timed b).2 (completeDrain c .drainQuiet .timed b).1 t := by
  have drain : (b.lifeState c).isDrain = true := by rw [quiet.1]; rfl
  have own (u : State) (acted : Done [.report c (b.carrier c).meter] b u) :
      Done (completeDrain c .drainQuiet .timed b).2 (completeDrain c .drainQuiet .timed b).1 u := by
    obtain ⟨-, rose, -⟩ | ⟨-, -, -, completes⟩ | ⟨-, loud, -⟩ := done_report acted (isLively_of_isDrain drain)
    · exact absurd rose low
    · exact completes
    · exact absurd quiet loud
  have managed : b.isManaged c = true := bne_iff_ne.mpr fun state => by
    rw [state] at drain
    cases drain
  refine own t (h.report_alone done managed (by simp [quiet.1]) fun u acted => ?_)
  have completes := own u acted
  have taken : ¬b.untaken c := by simp [State.untaken, up]
  obtain ⟨retired, tasks⟩ := retired_completeDrain quiet.1 taken .drainQuiet .timed
  obtain ⟨-, unit⟩ := retired.unit (by simp [up])
  rw [empty, List.nil_append] at unit
  obtain ⟨v, sends, -, -, carriers, -⟩ := done_sendHead_plain (s := (completeDrain c .drainQuiet .timed b).1) (v := b.unitOf c)
    (by rw [unit]; exact up) (by rw [unit]; exact idle) (by rw [unit]; rintro e ⟨⟩; simp [State.directiveFor])
  rw [tasks] at completes
  obtain rfl := completes.unique sends
  refine ⟨⟨acted.keeps, fun d other => ?_⟩, fun a => not_candidate_of_state ?_⟩
  · rw [State.carrier, carriers]
    exact (touch_completeDrain ..).life d other
  · rw [lifeState_of_carriers carriers, retired.state]
    simp

theorem windowEnd_tells_ended : ∀ (order : ReportOrder) (c : CarrierIx) (s t : State), s.phase = .running → Lawful s →
    exec (.windowEnd order) s = .next t → ¬LoadRose t c → WentQuiet s t c → OnlyFor c s t →
    (s.unit (s.unitOf c)).state = some .up → (s.unit (s.unitOf c)).queue = [] → (s.unit (s.unitOf c)).sent = none →
    let u := s.unitOf c
    let told := s.notify (.carrierState c .draining .rampdown .drainQuiet .timed s.calendar.minute s.calendar.second)
    ∃ d, (t.unit u).queue = [d] ∧ d.kind = .carrierSleep ∧ d.carrier = some c ∧ d.token = s.token ∧
      d.key = (s.config c).key ∧
      (∀ l : Fin 4, (s.unit u).map[l] = some c → (∀ m : Fin 4, m < l → (s.unit u).map[m] ≠ some c) → d.link = l.val) ∧
      t.path.branchQueues = (s.sends (.branch u) (s.unitSettings u).address
        (directiveLayout 1 s.token d.link d.key.toNat)).path.branchQueues ∧
      t.path.trunkQueue = told.path.trunkQueue ∧ t.engine = told.engine ∧
      ∀ e, e ≠ c → t.lifeState e = s.lifeState e := by
  intro order c s t running law next low quiet only up empty idle u told
  have done := windowEnd_done running next
  have kept := done.keeps
  rw [loadRose_iff kept] at low
  rw [wentQuiet_iff kept law.meters] at quiet
  have completes := quiet_alone (calm_of_onlyFor only kept) done low quiet up empty idle
  obtain ⟨queue, ⟨-, -, -, branches⟩, tells, others⟩ := completed_idle quiet.1 up empty idle completes
  refine ⟨s.closeWindow.directiveFor .carrierSleep c, queue, rfl, rfl, rfl, rfl, fun l holds lowest => linkOf_eq holds lowest,
    branches.trans ?_, tells.trunk.trans ?_, tells.engine.trans ?_, fun e other => (others e other).trans (closeWindow_lifeState s e)⟩
  · exact congrArg FramePath.branchQueues (offerInjected_path (s := s) (t := s.closeWindow) rfl ..)
  · exact ((soundsAs_closeWindow s).notify _).trunk
  · exact (soundsAs_closeWindow s).notify_engine rfl _

end Sys2Proof.Machine
end

section
/-! PROOFS. The candidates of a group: their order, and how each stands when the group is taken and at the end (R76, R100). -/

namespace Sys2Proof.Machine

variable {b s t u m n x y : State} {a c d e : CarrierIx} {l : List Task} {k : Task} {meter : Meter} {order : ReportOrder}
  {report : Vector Meter 32} {candidates : List CarrierIx}

/-! ## Their order -/

/-- R76: highest wake rank first, then lowest carrier index. -/
def State.ahead (s : State) (c d : CarrierIx) : Prop :=
  (s.config d).rank.toNat < (s.config c).rank.toNat ∨ ((s.config c).rank = (s.config d).rank ∧ c < d)

theorem ahead_asymm (h : s.ahead c d) (k : s.ahead d c) : c = d := by
  obtain rank | ⟨rank, low⟩ := h <;> obtain rank' | ⟨rank', low'⟩ := k
  · omega
  · rw [rank'] at rank
    omega
  · rw [rank] at rank'
    omega
  · exact absurd (low.trans low') (lt_irrefl c)

theorem nodup_of_ahead (h : candidates.Pairwise s.ahead) : candidates.Nodup := by
  refine h.imp fun {c d} ahead same => ?_
  subst same
  obtain rank | ⟨-, low⟩ := ahead
  · exact Nat.lt_irrefl _ rank
  · exact Nat.lt_irrefl _ low

theorem candidates_ahead (s : State) (a : CarrierIx) (report : Vector Meter 32) : (s.candidates a report).Pairwise s.ahead := by
  refine List.pairwise_flatMap.mpr ⟨fun rank _ => ?_, ?_⟩
  · have sorted := (((List.pairwise_lt_finRange 32).filter fun c => s.isDependent c && s.anchorOf c == a).filter
      fun c => s.isCandidate c report[c]).filter fun c => (s.config c).rank.toNat == rank
    refine sorted.imp_of_mem fun {c d} memC memD low => .inr ⟨?_, low⟩
    have first := (List.mem_filter.mp memC).2
    have second := (List.mem_filter.mp memD).2
    simp only [beq_iff_eq] at first second
    exact BitVec.eq_of_toNat_eq (first.trans second.symm)
  · have falling : [7, 6, 5, 4, 3, 2, 1, 0].Pairwise fun x y : Nat => y < x := by decide
    refine falling.imp fun {p q} less c memC d memD => .inl ?_
    have first := (List.mem_filter.mp memC).2
    have second := (List.mem_filter.mp memD).2
    simp only [beq_iff_eq] at first second
    omega

/-- R76: a list of the candidates in that order is the list that the Coverage Unit takes. -/
theorem candidates_unique (mem : ∀ c, c ∈ candidates ↔ c ∈ s.candidates a report) (sorted : candidates.Pairwise s.ahead) :
    s.candidates a report = candidates :=
  List.Perm.eq_of_pairwise (fun _ _ _ _ => ahead_asymm) (candidates_ahead s a report) sorted
    ((List.perm_ext_iff_of_nodup (candidates_nodup ..) (nodup_of_ahead sorted)).mpr fun c => (mem c).symm)

/-! ## The reports, for a carrier that they leave alone -/

/-- R56, R57: what the meters of a window end rest on: no carrier has both an idle run and a load that rose, and an ACTIVE one
has no drain-quiet run. -/
structure Metered (b : State) : Prop where
  low : ∀ c, b.isManaged c = true → (b.profileOf c).idleRunLength ≤ (b.carrier c).meter.idleRun → ¬b.rises c
  fresh : ∀ c, b.lifeState c = .active → (b.carrier c).meter.quietRun < (b.profileOf c).quietWindows

theorem metered_closeWindow (law : Lawful s) : Metered s.closeWindow := by
  refine ⟨fun c managed idle => ?_, fun c active => ?_⟩
  · rw [closeWindow_isManaged] at managed
    exact not_rises_of_idle managed law.inRange law.meters idle
  · rw [closeWindow_lifeState] at active
    obtain ⟨⟨-, -, -, -, -, -, -, -, -, least, -⟩, -⟩ := closeWindow_inRange law.inRange c
    rw [closeWindow_quietRun_of_active active law.meters]
    exact least

/-- R103: the reports leave a carrier as it is whose load did not rise and that has no drain-quiet run. -/
theorem reports_fresh (running : Running b x) (h : Done b.lifecycleTasks x y) (lively : (x.lifeState c).isLively = true)
    (low : ¬b.rises c) (fresh : (b.carrier c).meter.quietRun < (b.profileOf c).quietWindows) : Same c x y := by
  obtain ⟨p, q, last, before, at_p, own, rest, ends, at_q, -⟩ := reports_split running lively h
  have alive : (p.lifeState c).isLively = true := by rwa [before.lifeState]
  have stays : q = p := by
    obtain ⟨-, rose, -⟩ | ⟨-, -, quiet, -⟩ | ⟨-, -, stays⟩ := done_report own alive
    · rw [at_p.keeps.profileOf_eq] at rose
      exact absurd rose low
    · rw [at_p.keeps.profileOf_eq] at quiet
      omega
    · exact stays
  subst stays
  exact before.trans (ends.same rest.window at_q alive rest.avoids)

/-- R103: the reports leave a carrier as it is that is ACTIVE or in RESTORING. -/
theorem reports_same_of_back (running : Running b x) (h : Done b.lifecycleTasks x y) (back : (x.lifeState c).isBack = true) :
    Same c x y := by
  have lively := isLively_of_isBack back
  obtain ⟨p, q, last, before, at_p, own, rest, ends, at_q, -⟩ := reports_split running lively h
  have stays := report_back own (by rwa [before.lifeState])
  subst stays
  exact before.trans (ends.same rest.window at_q (by rwa [before.lifeState]) rest.avoids)

/-- R103: the reports bring no draining carrier to ACTIVE whose load did not rise. -/
theorem reports_drain (running : Running b x) (h : Done b.lifecycleTasks x y) (drain : (x.lifeState c).isDrain = true)
    (low : ¬b.rises c) : y.lifeState c ≠ .active := by
  have lively := isLively_of_isDrain drain
  obtain ⟨p, q, last, before, at_p, own, rest, ends, at_q, -⟩ := reports_split running lively h
  have still : (p.lifeState c).isDrain = true := by rwa [before.lifeState]
  obtain ⟨-, rose, -⟩ | ⟨draining, -, -, completes⟩ | ⟨-, -, rfl⟩ := done_report own (isLively_of_isDrain still)
  · rw [at_p.keeps.profileOf_eq] at rose
    exact absurd rose low
  · have out : q.lifeState c = .lost ∨ q.lifeState c = .rampdown := by
      obtain ⟨-, -, lost, rests⟩ := completed draining completes
      by_cases untaken : p.untaken c
      · exact .inl (lost untaken)
      · exact .inr (rests untaken).1
    intro active
    have unended : ∀ k ∈ last, k.isEnded = false := fun k mem => by
      obtain ⟨d, m, -, rfl⟩ := rest k mem
      rfl
    rcases (ends.lively unended).active c active with was | was <;> rcases out with out | out <;> rw [out] at was <;> cases was
  · rw [(ends.same rest.window at_q (isLively_of_isDrain still) rest.avoids).lifeState]
    intro active
    rw [active] at still
    cases still

/-! ## The group, taken -/

/-- How a carrier of the group stands when the group is taken, and at the end: from `b` to `m`, and from `n` to `t`. -/
theorem GroupTaken.before_same (h : GroupTaken order a b m n t) (running : Running b b) (group : b.anchorOf c = a)
    (lively : (b.lifeState c).isLively = true) (still : ∀ {x}, Done b.lifecycleTasks b x → Same c b x) : Same c b m := by
  obtain ⟨⟨coverage, lifecycle⟩, -⟩ := h
  cases order with
  | coverageFirst =>
    obtain ⟨l, groups, begins⟩ := coverage rfl
    exact groups.same begins running group lively
  | lifecycleFirst =>
    obtain ⟨x, l, reports, groups, begins⟩ := lifecycle rfl
    have first := still reports
    exact first.trans (groups.same begins (reports.window (reports_window b b) running) group (by rwa [first.lifeState]))

theorem GroupTaken.after_same (h : GroupTaken order a b m n t) (running : Running b b) (group : b.anchorOf c = a)
    (lively : (n.lifeState c).isLively = true)
    (still : ∀ {x}, Running b x → Same c n x → Done b.lifecycleTasks x t → Same c x t) : Same c n t := by
  obtain ⟨-, at_n, -⟩ := running.group_taken h
  obtain ⟨-, -, coverage, lifecycle⟩ := h
  cases order with
  | coverageFirst =>
    obtain ⟨x, l, groups, goes, reports⟩ := coverage rfl
    have first := groups.same goes at_n group lively
    exact first.trans (still (goes.window groups.window at_n) first reports)
  | lifecycleFirst =>
    obtain ⟨l, groups, goes⟩ := lifecycle rfl
    exact groups.same goes at_n group lively

/-- A carrier that is ACTIVE when the group is taken was ACTIVE, or drained. -/
theorem GroupTaken.lively (h : GroupTaken order a b m n t) : Lively b m := by
  obtain ⟨⟨coverage, lifecycle⟩, -⟩ := h
  have groups {l : List Task} (g : Groups a l) : ∀ k ∈ l, k.isEnded = false := fun k mem => (g.window (b := b) k mem).not_ended
  cases order with
  | coverageFirst =>
    obtain ⟨l, others, begins⟩ := coverage rfl
    exact begins.lively (groups others)
  | lifecycleFirst =>
    obtain ⟨x, l, reports, others, begins⟩ := lifecycle rfl
    exact (reports.lively fun k mem => (reports_window b b k mem).not_ended).trans (begins.lively (groups others))

/-- R76: the candidates when the group is taken are those of the report. -/
theorem GroupTaken.candidates_iff (h : GroupTaken order a b m n t) (running : Running b b) (metered : Metered b)
    (ranks : ∀ c, b.isManaged c = true → (b.config c).rank.toNat ≤ 7) (anchor : b.isAnchor a = true) :
    c ∈ m.candidates a b.windowReport ↔ b.isCandidate c (b.carrier c).meter = true ∧ b.anchorOf c = a := by
  obtain ⟨at_m, -⟩ := running.group_taken h
  have kept := at_m.keeps
  have own : b.anchorOf a = a := by
    simp only [isAnchor_eq, Bool.and_eq_true, beq_iff_eq] at anchor
    exact anchor.2
  rw [mem_candidates, windowReport_get, isCandidate_iff, isCandidate_iff, kept.managed, kept.anchorOf_eq,
    kept.config, kept.calendar, kept.profileOf_eq, kept.mayBeginDrain]
  constructor
  · rintro ⟨⟨managed, group, apart⟩, ⟨active, may, quiet, idle, dwell⟩, -⟩
    have low := metered.low c managed idle
    obtain was | drain := h.lively.active c active
    · have same := h.before_same running group (by rw [was]; rfl) fun reports =>
        reports_same_of_back running reports (by rw [was]; rfl)
      rw [same.1] at dwell
      exact ⟨⟨was, may, quiet, idle, dwell⟩, group⟩
    · exfalso
      obtain ⟨⟨coverage, lifecycle⟩, -⟩ := h
      have lively := isLively_of_isDrain drain
      cases order with
      | coverageFirst =>
        obtain ⟨l, groups, begins⟩ := coverage rfl
        rw [(groups.same begins running group lively).lifeState] at active
        rw [active] at drain
        cases drain
      | lifecycleFirst =>
        obtain ⟨x, l, reports, groups, begins⟩ := lifecycle rfl
        have at_x := reports.window (reports_window b b) running
        have out := reports_drain running reports drain low
        obtain was | was := (begins.lively fun k mem => (groups.window (b := b) k mem).not_ended).active c active
        · exact out was
        · have same := groups.same begins at_x group (isLively_of_isDrain was)
          exact out (same.lifeState.symm.trans active)
  · rintro ⟨⟨active, may, quiet, idle, dwell⟩, group⟩
    obtain ⟨managed, other, -⟩ := mayBeginDrain_iff.mp may
    have same := h.before_same running group (by rw [active]; rfl) fun reports =>
      reports_same_of_back running reports (by rw [active]; rfl)
    refine ⟨⟨managed, group, fun same => other (group.trans same.symm)⟩, ⟨same.lifeState.trans active, may, quiet, idle, ?_⟩,
      ranks c managed⟩
    rw [same.1]
    exact dwell

end Sys2Proof.Machine
end

section
/-! PROOFS. The admission test at a window end (R73, R74, R76). -/

namespace Sys2Proof.Machine

variable {b s t u m n x y : State} {a c d e : CarrierIx} {l : List Task} {k : Task} {order : ReportOrder}
  {report : Vector Meter 32} {candidates earlier later : List CarrierIx}

/-! ## What the test decides -/

/-- R74: the admission test. -/
theorem admits_iff (s : State) (c : CarrierIx) (pledge : Nat) : s.admits c pledge = true ↔
    s.isManaged c = true ∧ s.anchorOf c ≠ c ∧ (s.config c).protect ≠ 1#8 ∧ s.lifeState (s.anchorOf c) = .active ∧
      s.lockOuts[(s.config c).sectorIx] = none ∧ pledge ≤ 65536 ∧
      (s.carrier (s.anchorOf c)).meter.figure + (s.cover (s.anchorOf c)).pledgeTotal + pledge ≤
        (s.profileOf (s.anchorOf c)).ceiling := by
  simp [State.admits, State.isDependent, State.anchorHasRoom, State.lockedOut, CarrierConfig.isProtected, and_assoc]
  exact fun _ _ _ _ _ => Iff.rfl

/-- R73: the pledge of a candidate, by the report. -/
def State.pledgeIn (s : State) (report : Vector Meter 32) (c : CarrierIx) : Nat :=
  pledgeFor report[c].figure (s.config c).ratio.toNat

theorem tryAdmit_eq (report : Vector Meter 32) (s : State) (c : CarrierIx) : State.tryAdmit report s c =
    if s.admits c (s.pledgeIn report c) then s.beginDrain c (s.pledgeIn report c) .idle else s := rfl

/-- R74, R101: an ACTIVE candidate that passes is in DRAINING, with its pledge recorded and added to its anchor's total. -/
theorem tryAdmit_passed (active : s.lifeState c = .active) (may : s.mayBeginDrain c = true)
    (passes : s.admits c (s.pledgeIn report c) = true) : (State.tryAdmit report s c).lifeState c = .draining ∧
      ((State.tryAdmit report s c).cover c).pledge = s.pledgeIn report c ∧
      ((State.tryAdmit report s c).carrier c).life.drain = 0 ∧
      ((State.tryAdmit report s c).carrier c).life.drainLength = (s.profileOf c).drainTimeout ∧
      ((State.tryAdmit report s c).cover (s.anchorOf c)).pledgeTotal =
        (s.cover (s.anchorOf c)).pledgeTotal + s.pledgeIn report c := by
  obtain ⟨-, whole⟩ := begun active may (s.pledgeIn report c) .idle
  obtain ⟨-, state, drain, length, -, pledge, total, -⟩ := told_drain active may (s.pledgeIn report c) .idle (Cause.idle).origin
  rw [tryAdmit_eq, if_pos passes, whole]
  exact ⟨state, pledge, drain, length, total⟩

theorem tryAdmit_refused (refused : s.admits c (s.pledgeIn report c) ≠ true) : State.tryAdmit report s c = s := by
  rw [tryAdmit_eq, if_neg refused]

/-- R74: the pledges of the candidates admitted one after another come to their anchor's total. -/
theorem admissions_total (report : Vector Meter 32) (once : candidates.Nodup)
    (ready : ∀ e ∈ candidates, s.lifeState e = .active ∧ s.mayBeginDrain e = true ∧ s.anchorOf e = a) :
    ((candidates.foldl (State.tryAdmit report) s).cover a).pledgeTotal = (s.cover a).pledgeTotal +
      ((candidates.filter fun d => (candidates.foldl (State.tryAdmit report) s).lifeState d == .draining).map
        (s.pledgeIn report)).sum := by
  induction candidates generalizing s with
  | nil => rfl
  | cons e l ih =>
    obtain ⟨fresh, once⟩ := List.nodup_cons.mp once
    obtain ⟨active, may, group⟩ := ready e List.mem_cons_self
    have one := touch_tryAdmit report s e
    have kept : Keeps s (State.tryAdmit report s e) := keeps_tryAdmit report s e (mayBeginDrain_iff.mp may).1 may
    have others : ∀ d ∈ l, (State.tryAdmit report s e).lifeState d = .active ∧
        (State.tryAdmit report s e).mayBeginDrain d = true ∧ (State.tryAdmit report s e).anchorOf d = a := fun d mem => by
      obtain ⟨active, may, group⟩ := ready d (List.mem_cons_of_mem _ mem)
      rw [one.lifeState fun same => fresh (same ▸ mem), kept.mayBeginDrain, one.anchorOf]
      exact ⟨active, may, group⟩
    have pledges : (State.tryAdmit report s e).pledgeIn report = s.pledgeIn report :=
      funext fun d => by rw [State.pledgeIn, State.pledgeIn, kept.config]
    have rest := ih once others
    have own := ((admissions_touch report l fun d mem => (others d mem).2.2).1 e fresh).lifeState
    rw [List.foldl_cons, rest, pledges, List.filter_cons, own]
    by_cases passes : s.admits e (s.pledgeIn report e) = true
    · obtain ⟨state, -, -, -, total⟩ := tryAdmit_passed active may passes
      rw [group] at total
      rw [total, if_pos (by rw [state]; rfl), List.map_cons, List.sum_cons, Nat.add_assoc]
    · rw [tryAdmit_refused passes, if_neg (by rw [active]; decide)]

/-! ## The drains that are there -/

theorem GroupTaken.kept (h : GroupTaken order a b m n t) (running : Running b b) : GroupKept a b m := by
  obtain ⟨⟨coverage, lifecycle⟩, -⟩ := h
  cases order with
  | coverageFirst =>
    obtain ⟨l, groups, begins⟩ := coverage rfl
    exact begins.group_kept groups.window running groups.aside
  | lifecycleFirst =>
    obtain ⟨x, l, reports, groups, begins⟩ := lifecycle rfl
    refine (done_append_iff.mpr ⟨x, reports, begins⟩).group_kept (fun k mem => ?_) running fun k mem r => ?_
    · exact (List.mem_append.mp mem).elim (reports_window b b k) (groups.window k)
    · rcases List.mem_append.mp mem with mem | mem
      · obtain ⟨d, -, rfl⟩ := List.mem_map.mp mem
        simp
      · exact groups.aside k mem r

/-- R77: the group of an anchor that needs no relief leaves its drains alone. -/
theorem GroupTaken.drain_stays (h : GroupTaken order a b m n t) (running : Running b b) (calm : ¬b.presses a)
    (drain : (m.lifeState c).isDrain = true) : Same c m n := by
  obtain ⟨at_m, -⟩ := running.group_taken h
  obtain same | ⟨presses, -⟩ := group_drain h.taken at_m drain
  · exact same
  · rw [at_m.keeps.profileOf_eq, windowReport_get] at presses
    exact absurd presses calm

/-- R74: the total of the anchor when its group is taken is that of the drains that are there. -/
theorem GroupTaken.total (h : GroupTaken order a b m n t) (running : Running b b) (metered : Metered b)
    (ranks : ∀ c, b.isManaged c = true → (b.config c).rank.toNat ≤ 7) (anchor : b.isAnchor a = true) (calm : ¬b.presses a) :
    (m.cover a).pledgeTotal = (((List.finRange 32).filter fun d => (b.lifeState d).isDrain && b.anchorOf d == a &&
      (order == .coverageFirst || (t.lifeState d).isDrain)).map fun d => (b.cover d).pledge).sum := by
  obtain ⟨at_m, at_n, -⟩ := running.group_taken h
  have kept := h.kept running
  have there (d : CarrierIx) : ((m.lifeState d).isDrain = true ∧ m.anchorOf d = a) ↔ (((b.lifeState d).isDrain = true ∧
      b.anchorOf d = a) ∧ (order = .coverageFirst ∨ (t.lifeState d).isDrain = true)) := by
    rw [at_m.keeps.anchorOf_eq]
    constructor
    · rintro ⟨drain, group⟩
      refine ⟨⟨(kept.drains d group drain).1, group⟩, ?_⟩
      cases order with
      | coverageFirst => exact .inl rfl
      | lifecycleFirst =>
        have stays := h.drain_stays running calm drain
        obtain ⟨l, groups, goes⟩ := h.after.2 rfl
        have at_end := groups.same goes at_n group (by rw [stays.lifeState]; exact isLively_of_isDrain drain)
        exact .inr (by rw [(stays.trans at_end).lifeState]; exact drain)
    · rintro ⟨⟨drain, group⟩, either⟩
      refine ⟨?_, group⟩
      cases order with
      | coverageFirst =>
        obtain ⟨l, groups, begins⟩ := h.before.1 rfl
        rw [(groups.same begins running group (isLively_of_isDrain drain)).lifeState]
        exact drain
      | lifecycleFirst =>
        have later := either.resolve_left nofun
        by_contra gone
        obtain ⟨l, groups, goes⟩ := h.after.2 rfl
        have unended : ∀ k ∈ .group a b.windowReport :: l, k.isEnded = false := fun k mem => by
          rcases List.mem_cons.mp mem with rfl | mem
          · rfl
          · exact (groups.window (b := b) k mem).not_ended
        have active : m.lifeState d = .active := ((done_append_iff.mpr ⟨n, h.taken, goes⟩).lively unended).drain d later
          |>.resolve_right gone
        have out : d ∉ m.candidates a b.windowReport := fun mem => by
          have was := isCandidate_iff.mp ((h.candidates_iff running metered ranks anchor).mp mem).1
          rw [was.1] at drain
          cases drain
        have lively : (m.lifeState d).isLively = true := by rw [active]; rfl
        have spared : (m.profileOf a).reliefThreshold ≤ b.windowReport[a].figure → (m.cover a).drainList.getLast? ≠ some d :=
          fun _ last => gone (last_drains at_m.sound.cover last).1
        have through := group_same h.taken at_m lively (fun _ => out) spared
        have at_end := groups.same goes at_n group (by rw [through.lifeState]; exact lively)
        rw [(through.trans at_end).lifeState, active] at later
        cases later
  rw [at_m.sound.cover.total]
  have same : ((List.finRange 32).filter fun d => (m.lifeState d).isDrain && m.anchorOf d == a) =
      (List.finRange 32).filter fun d => (b.lifeState d).isDrain && b.anchorOf d == a &&
        (order == .coverageFirst || (t.lifeState d).isDrain) := by
    refine List.filter_congr fun d _ => Bool.eq_iff_iff.mpr ?_
    simp only [Bool.and_eq_true, Bool.or_eq_true, beq_iff_eq]
    exact there d
  rw [← same]
  refine congrArg List.sum (List.map_congr_left fun d mem => ?_)
  have both := (List.mem_filter.mp mem).2
  simp only [Bool.and_eq_true, beq_iff_eq] at both
  rw [at_m.keeps.anchorOf_eq] at both
  exact (kept.drains d both.2 both.1).2.2

/-- R72, R74: an anchor is ACTIVE when its group is taken exactly if it was before. -/
theorem GroupTaken.anchor_active (h : GroupTaken order a b m n t) (running : Running b b) (anchor : b.isAnchor a = true) :
    m.lifeState a = .active ↔ b.lifeState a = .active := by
  have own : b.anchorOf a = a := by
    simp only [isAnchor_eq, Bool.and_eq_true, beq_iff_eq] at anchor
    exact anchor.2
  constructor
  · intro active
    refine (h.lively.active a active).resolve_right fun drain => ?_
    rw [not_anchor_of_resting running.sound.resting (by rw [LifeState.isResting, drain]; rfl)] at anchor
    cases anchor
  · intro active
    exact (h.before_same running own (by rw [active]; rfl) fun reports =>
      reports_same_of_back running reports (by rw [active]; rfl)).lifeState.trans active

end Sys2Proof.Machine
end

section
/-! PROOFS. The admissions of a window end, one candidate after another; and the whole of R100 to R106 at a window end. -/

namespace Sys2Proof.Machine

variable {b s t u m n x y : State} {a c d e : CarrierIx} {l : List Task} {k : Task} {order : ReportOrder}
  {report : Vector Meter 32} {candidates earlier later : List CarrierIx}

/-! ## One candidate after another -/

theorem groupEffect_admits (anchor : s.isAnchor a = true) (low : report[a].figure < (s.profileOf a).reliefThreshold) :
    groupEffect a report s = ((s.candidates a report).foldl (State.tryAdmit report) s, []) := by
  rw [groupEffect, if_pos anchor, if_neg (Nat.not_le.mpr low)]

/-- R75, R76: in the group of an anchor that needs no relief the candidates are put to the test. -/
theorem GroupTaken.admits (h : GroupTaken order a b m n t) (running : Running b b) (anchor : b.isAnchor a = true)
    (calm : ¬b.presses a) : n = (m.candidates a b.windowReport).foldl (State.tryAdmit b.windowReport) m := by
  obtain ⟨at_m, -⟩ := running.group_taken h
  have own := done_singleton_iff.mp h.taken
  have low : b.windowReport[a].figure < (m.profileOf a).reliefThreshold := by
    rw [windowReport_get, at_m.keeps.profileOf_eq]
    exact Nat.lt_of_not_le calm
  change Done (groupEffect ..).2 (groupEffect ..).1 n at own
  rw [groupEffect_admits (by rw [at_m.keeps.isAnchor]; exact anchor) low] at own
  exact done_nil_iff.mp own

theorem tryAdmit_lively (active : s.lifeState c = .active) : ((State.tryAdmit report s c).lifeState c).isLively = true := by
  obtain same | ⟨pledge, drains⟩ := tryAdmit_cases report s c
  · rw [same, active]
    rfl
  · rw [drains, beginDrain_lifeState, if_pos rfl]
    rfl

/-- R76: what the admissions leave of a candidate stands at the end of the window end. -/
theorem GroupTaken.candidate_stays (h : GroupTaken order a b m n t) (running : Running b b) (metered : Metered b)
    (ranks : ∀ c, b.isManaged c = true → (b.config c).rank.toNat ≤ 7) (anchor : b.isAnchor a = true)
    (mem : c ∈ m.candidates a b.windowReport) (lively : (n.lifeState c).isLively = true) : Same c n t := by
  obtain ⟨candidate, group⟩ := (h.candidates_iff running metered ranks anchor).mp mem
  obtain ⟨active, may, -, idle, -⟩ := isCandidate_iff.mp candidate
  exact h.after_same running group lively fun at_x same reports =>
    reports_fresh at_x reports (by rwa [same.lifeState]) (metered.low c (mayBeginDrain_iff.mp may).1 idle) (metered.fresh c active)

theorem foldl_anchorOf (report : Vector Meter 32) (l : List CarrierIx) (s : State) (c : CarrierIx) :
    (l.foldl (State.tryAdmit report) s).anchorOf c = s.anchorOf c := by
  induction l generalizing s with
  | nil => rfl
  | cons d l ih => exact (ih _).trans ((touch_tryAdmit report s d).anchorOf c)

/-- R74, R76: a candidate is put to the test beside the drains that are there and the candidates admitted before it. -/
theorem GroupTaken.decides (h : GroupTaken order a b m n t) (running : Running b b) (metered : Metered b)
    (ranks : ∀ c, b.isManaged c = true → (b.config c).rank.toNat ≤ 7) (anchor : b.isAnchor a = true) (calm : ¬b.presses a)
    (split : m.candidates a b.windowReport = earlier ++ c :: later) : ∃ x, Keeps b x ∧
      (x.lifeState a = .active ↔ b.lifeState a = .active) ∧ (x.cover a).pledgeTotal = (m.cover a).pledgeTotal +
        ((earlier.filter fun d => t.lifeState d == .draining).map t.pledgeAt).sum ∧
      (x.admits c (t.pledgeAt c) = true → t.lifeState c = .draining ∧ (t.cover c).pledge = t.pledgeAt c ∧
        (t.carrier c).life.drain = 0 ∧ (t.carrier c).life.drainLength = (t.profileOf c).drainTimeout) ∧
      (x.admits c (t.pledgeAt c) ≠ true → t.lifeState c = .active) := by
  obtain ⟨at_m, at_n, at_t⟩ := running.group_taken h
  have whole := h.admits running anchor calm
  have stays (d : CarrierIx) := h.candidate_stays (c := d) running metered ranks anchor
  have ready (d : CarrierIx) (mem : d ∈ m.candidates a b.windowReport) :
      m.lifeState d = .active ∧ m.mayBeginDrain d = true ∧ m.anchorOf d = a :=
    ⟨(candidates_active mem).1, (candidates_may mem).2, (mem_candidates.mp mem).1.2.1⟩
  have once := candidates_nodup m a b.windowReport
  have anchorOut : a ∉ m.candidates a b.windowReport := fun mem => (mem_candidates.mp mem).1.2.2 rfl
  have pledge {v : State} (kept : Keeps b v) (d : CarrierIx) : v.pledgeIn b.windowReport d = t.pledgeAt d := by
    rw [State.pledgeIn, State.pledgeAt, windowReport_get, at_t.keeps.figure, at_t.keeps.config, kept.config]
  rw [split] at whole once ready anchorOut
  have first (d : CarrierIx) (mem : d ∈ earlier) := ready d (List.mem_append_left _ mem)
  have last (d : CarrierIx) (mem : d ∈ c :: later) := ready d (List.mem_append_right _ mem)
  obtain ⟨onceEarlier, onceLater, apart⟩ := List.nodup_append.mp once
  obtain ⟨x, folded, before, after⟩ := admissions_split b.windowReport (fun d mem => (ready d mem).2.2) once
  rw [← whole] at after
  have through : Keeps m x := folded ▸ keeps_admissions _ _ _ fun d mem =>
    ⟨(mayBeginDrain_iff.mp (first d mem).2.1).1, (first d mem).2.1⟩
  have kept := at_m.keeps.trans through
  have active : x.lifeState c = .active := before.lifeState.trans (last c List.mem_cons_self).1
  have may : x.mayBeginDrain c = true := by
    rw [through.mayBeginDrain]
    exact (last c List.mem_cons_self).2.1
  have own : b.anchorOf c = a := by
    rw [← at_m.keeps.anchorOf_eq]
    exact (last c List.mem_cons_self).2.2
  have listed : c ∈ m.candidates a b.windowReport := by
    rw [split]
    exact List.mem_append_right _ List.mem_cons_self
  have fate : Same c (State.tryAdmit b.windowReport x c) t :=
    after.trans (stays c listed (by rw [after.lifeState]; exact tryAdmit_lively active))
  refine ⟨x, kept, ?_, ?_, fun passes => ?_, fun refused => ?_⟩
  · have still := (admissions_touch (a := a) b.windowReport earlier fun d mem => (first d mem).2.2).1 a
      fun mem => anchorOut (List.mem_append_left _ mem)
    rw [← folded] at still
    rw [still.lifeState]
    exact h.anchor_active running anchor
  · have total := admissions_total b.windowReport onceEarlier first
    rw [← folded, funext (pledge at_m.keeps)] at total
    rw [total]
    have states (d : CarrierIx) (mem : d ∈ earlier) : x.lifeState d = t.lifeState d := by
      have onward := (admissions_touch (s := x) (a := a) b.windowReport (c :: later) fun e mem => by
        rw [folded, foldl_anchorOf]
        exact (last e mem).2.2).1 d fun mem' => apart d mem d mem' rfl
      rw [List.foldl_append, ← folded] at whole
      rw [← whole] at onward
      have lively : (n.lifeState d).isLively = true := by
        obtain ⟨front, back, place⟩ := List.append_of_mem (List.mem_append_left (c :: later) mem)
        rw [place] at once
        obtain ⟨y, -, steady, test⟩ := admissions_split (s := m) (a := a) b.windowReport
          (fun e mem => (ready e (by rw [place]; exact mem)).2.2) once
        rw [← place, List.foldl_append, ← folded, ← whole] at test
        rw [test.lifeState]
        exact tryAdmit_lively (steady.lifeState.trans (first d mem).1)
      have listed : d ∈ m.candidates a b.windowReport := by
        rw [split]
        exact List.mem_append_left _ mem
      exact (onward.trans (stays d listed lively)).lifeState.symm
    rw [List.filter_congr fun d mem => by rw [states d mem]]
  · rw [← pledge kept] at passes
    obtain ⟨state, pledged, drain, length, -⟩ := tryAdmit_passed active may passes
    rw [fate.lifeState, fate.1, fate.2, at_t.keeps.profileOf_eq, ← pledge kept, ← kept.profileOf_eq]
    exact ⟨state, pledged, drain, length⟩
  · rw [← pledge kept] at refused
    rw [fate.lifeState, tryAdmit_refused refused]
    exact active

/-! ## The statement -/

theorem windowEnd_admits : ∀ (order : ReportOrder) (a : CarrierIx) (candidates : List CarrierIx) (s t : State),
    s.phase = .running → Lawful s → exec (.windowEnd order) s = .next t → s.isAnchor a = true → ¬NeedsRelief t a →
    (∀ c, c ∈ candidates ↔ Candidate s t c ∧ s.anchorOf c = a) →
    (candidates.Pairwise fun c d => (s.config d).rank.toNat < (s.config c).rank.toNat ∨
      ((s.config c).rank = (s.config d).rank ∧ c < d)) →
    let there (d : CarrierIx) : Bool := (s.lifeState d).isDrain && s.anchorOf d == a &&
      (order == .coverageFirst || (t.lifeState d).isDrain)
    let pledgesThere := (((List.finRange 32).filter there).map fun d => (s.cover d).pledge).sum
    ∀ (c : CarrierIx) (earlier later : List CarrierIx), candidates = earlier ++ c :: later →
      let admittedEarlier := earlier.filter fun d => t.lifeState d == .draining
      let passes := s.lifeState a = .active ∧ s.lockOuts[(s.config c).sectorIx] = none ∧ t.pledgeAt c ≤ 65536 ∧
        (t.carrier a).meter.figure + (pledgesThere + (admittedEarlier.map t.pledgeAt).sum) + t.pledgeAt c ≤
          (t.profileOf a).ceiling
      (passes → t.lifeState c = .draining ∧ (t.cover c).pledge = t.pledgeAt c ∧ (t.carrier c).life.drain = 0 ∧
        (t.carrier c).life.drainLength = (t.profileOf c).drainTimeout) ∧
      (¬passes → t.lifeState c = .active) := by
  intro order a candidates s t running law next anchor calm mem sorted there pledgesThere c earlier later split admittedEarlier passes
  have done := windowEnd_done running next
  have runs := running_closeWindow law
  have kept := done.keeps
  rw [← closeWindow_isAnchor] at anchor
  rw [needsRelief_iff kept] at calm
  have metered := metered_closeWindow law
  have ranks (d : CarrierIx) (managed : s.closeWindow.isManaged d = true) : (s.closeWindow.config d).rank.toNat ≤ 7 := by
    rw [closeWindow_isManaged, ← law.table.marks] at managed
    obtain ⟨-, -, -, -, -, -, -, -, -, rank, -⟩ := law.inRange.carriers d managed
    exact rank
  obtain ⟨m, n, taken⟩ := groupTaken a done
  have listed : m.candidates a s.closeWindow.windowReport = candidates := by
    have at_m := (runs.group_taken taken).1.keeps
    have config (d : CarrierIx) : m.config d = s.config d := at_m.config d
    refine candidates_unique (fun d => ?_) (sorted.imp fun {d e} first => ?_)
    · rw [taken.candidates_iff runs metered ranks anchor, mem, candidate_iff kept]
      rfl
    · rw [State.ahead, config, config]
      exact first
  obtain ⟨x, keptX, anchorState, total, passed, refused⟩ := taken.decides runs metered ranks anchor calm (listed.trans split)
  rw [taken.total runs metered ranks anchor calm] at total
  have candidate := ((mem c).mp (by rw [split]; exact List.mem_append_right _ List.mem_cons_self))
  have place : x.anchorOf c = a := (keptX.anchorOf_eq c).trans candidate.2
  have sum : (((List.finRange 32).filter fun d => (s.closeWindow.lifeState d).isDrain && s.closeWindow.anchorOf d == a &&
      (order == .coverageFirst || (t.lifeState d).isDrain)).map fun d => (s.closeWindow.cover d).pledge).sum = pledgesThere := by
    simp only [closeWindow_lifeState, closeWindow_cover]
    rfl
  rw [sum] at total
  have decides : x.admits c (t.pledgeAt c) = true ↔ passes := by
    obtain ⟨-, managed, other, unprotected, -⟩ := candidate.1
    have locks : x.lockOuts[(x.config c).sectorIx] = s.lockOuts[(s.config c).sectorIx] := by
      have config : x.config c = s.config c := keptX.config c
      simp only [config, keptX.lockOuts]
      rfl
    rw [admits_iff, place, anchorState, total, locks, keptX.managed, closeWindow_isManaged, keptX.config, closeWindow_lifeState,
      keptX.figure, ← kept.figure, keptX.profileOf_eq, ← kept.profileOf_eq]
    exact ⟨fun ⟨_, _, _, active, open_, small, room⟩ => ⟨active, open_, small, room⟩, fun ⟨active, open_, small, room⟩ =>
      ⟨managed, fun same => other (candidate.2.trans same), unprotected, active, open_, small, room⟩⟩
  exact ⟨fun holds => passed (decides.mpr holds), fun fails => refused (mt decides.mp fails)⟩

/-- Settles O29. -/
theorem windowEndBeginsAndEndsDrains : Obligations.WindowEndBeginsAndEndsDrains :=
  ⟨windowEnd_begins_allowed, windowEnd_admits, windowEnd_tells_begun, windowEnd_ends, windowEnd_tells_ended⟩

end Sys2Proof.Machine
end

section
/-! PROOFS. The pledge, the admission test, and relief of an anchor taken alone (R73, R74, R77). -/

namespace Sys2Proof.Machine

variable {s t : State} {a c d e : CarrierIx} {report : Vector Meter 32} {front rest : List CarrierIx}

/-! ## The pledge -/

theorem pledgeFor_rounds_up : (∀ figure ratio : Nat, figure * ratio ≤ pledgeFor figure ratio * 256 ∧
    pledgeFor figure ratio * 256 < figure * ratio + 256) ∧ (∀ ratio, pledgeFor 0 ratio = 0) := by
  refine ⟨fun figure ratio => ?_, fun ratio => by simp [pledgeFor]⟩
  unfold pledgeFor
  omega

/-! ## Relief -/

/-- R75, R77: the group of an anchor whose figure has reached its relief threshold. -/
theorem groupEffect_relief (anchor : s.isAnchor a = true) (presses : (s.profileOf a).reliefThreshold ≤ report[a].figure) :
    groupEffect a report s = reliefEffect a s := by
  rw [groupEffect, if_pos anchor, if_pos presses]

theorem reliefEffect_drain (list : (s.cover a).drainList = front ++ [d]) (drain : (s.lifeState d).isDrain = true) :
    reliefEffect a s = (s.enterRestoring d .relief, []) := by
  rw [reliefEffect, list, List.getLast?_concat]
  exact if_pos drain

/-- R77: the first sleeper without a mark. -/
theorem reliefEffect_sleeper (none : (s.cover a).drainList = [])
    (first : (s.cover a).sleeperList.find? (fun d => (s.carrier d).life.wakePending.isNone) = some d) :
    reliefEffect a s = (s, [.wake d .relief]) := by
  simp only [reliefEffect, none, List.getLast?_nil, first]

theorem first_unmarked (list : (s.cover a).sleeperList = front ++ d :: rest)
    (marked : ∀ e ∈ front, (s.carrier e).life.wakePending ≠ none) (bare : (s.carrier d).life.wakePending = none) :
    (s.cover a).sleeperList.find? (fun d => (s.carrier d).life.wakePending.isNone) = some d := by
  rw [list]
  refine List.find?_eq_some_iff_append.mpr ⟨by rw [bare]; rfl, front, rest, rfl, fun e mem => ?_⟩
  simpa [Option.isSome_iff_ne_none] using marked e mem

/-- R113: what relief keeps for a carrier that carries no mark. -/
theorem wakeEffect_kept (state : s.lifeState d = .rampdown ∨ s.lifeState d = .deepening)
    (bare : (s.carrier d).life.wakePending = none) : wakeEffect d .relief s =
      (s.setLife d { (s.carrier d).life with wakePending := some { cls := .ordinary, cause := .relief } }, []) := by
  have kept : s.keepWake d .ordinary .relief =
      s.setLife d { (s.carrier d).life with wakePending := some { cls := .ordinary, cause := .relief } } := by
    rw [State.keepWake, bare]
    rfl
  rw [← kept]
  unfold wakeEffect
  rcases state with state | state <;> rw [state] <;> rfl

theorem wakeEffect_queued (state : s.lifeState d = .doze ∨ s.lifeState d = .slumber) : wakeEffect d .relief s =
    (s.enterQueued d .ordinary (if s.lifeState d = .doze then .light else .deep) .relief, [.grants]) := by
  unfold wakeEffect
  rcases state with state | state <;> rw [state] <;> rfl

theorem told_enterQueued_of_asleep {depth : Depth} (state : s.lifeState d = .doze ∨ s.lifeState d = .slumber) (cause : Cause) :
    ToldAs (s.tells d (s.lifeState d) .queued cause cause.origin) (s.enterQueued d .ordinary depth cause) ∧
      (s.enterQueued d .ordinary depth cause).wakeQueue = s.wakeQueue.join .ordinary { carrier := d, depth := depth } := by
  have tells := tells_notifyState ((s.moveTo d .queued).setWakeQueue
    ((s.moveTo d .queued).wakeQueue.join .ordinary { carrier := d, depth := depth })) d (s.lifeState d) .queued cause
    cause.origin
  have silent : ToldAs s (s.moveTo d .queued) ∧ (s.moveTo d .queued).wakeQueue = s.wakeQueue := by
    rcases state with doze | slumber
    · have only : CarriersOnly s (s.moveTo d .queued) := moveTo_carriersOnly (by simp [doze]) (by simp [doze]) (by decide)
      exact ⟨only.toldAs, only.wakeQueue⟩
    · have only : CarriersOnly (s.stopDeepTimer (s.unitOf d)) (s.moveTo d .queued) :=
        moveTo_carriersOnly_of_slumber slumber (by decide)
      exact ⟨⟨only.toldAs.engine, only.toldAs.trunk, only.toldAs.advisories⟩, only.wakeQueue⟩
  have managed : s.isManaged d = true := by
    rcases state with state | state <;> exact managed_of state (by decide)
  have moved : Keeps s (s.moveTo d .queued) := keeps_moveTo (moveAllowed_awake managed (by decide) rfl)
  have alike : Alike s ((s.moveTo d .queued).setWakeQueue
      ((s.moveTo d .queued).wakeQueue.join .ordinary { carrier := d, depth := depth })) :=
    ((Alike.refl s).silent moved silent.1).silent (keeps_setWakeQueue ..) ⟨rfl, rfl, rfl⟩
  refine ⟨(alike.notifyState d (s.lifeState d) .queued cause cause.origin).toToldAs, tells.wakeQueue.trans ?_⟩
  rw [State.setWakeQueue_wakeQueue, silent.2]

/-- R130: a carrier that comes to QUEUED holds no slot. -/
theorem warmups_enterQueued {depth : Depth} (state : s.lifeState d = .doze ∨ s.lifeState d = .slumber) (cls : WakeClass)
    (cause : Cause) : (s.enterQueued d cls depth cause).warmups = s.warmups := by
  unfold State.warmups
  congr 1
  refine List.filter_congr fun c _ => ?_
  rw [enterQueued_lifeState]
  split
  · rename_i same
    subst same
    rcases state with state | state <;> rw [state] <;> rfl
  · rfl

theorem finish_wake {x : State} (done : Done [.wake d .relief] s x) : Effect.finish (s, [.wake d .relief]) = x :=
  work_eq (by simp [costs, Task.cost]) done

theorem groupEffect_relieves : ∀ (a : CarrierIx) (report : Vector Meter 32) (s : State), s.isAnchor a = true →
    (s.profileOf a).reliefThreshold ≤ report[a].figure →
    (∀ front d, (s.cover a).drainList = front ++ [d] → (s.lifeState d).isDrain = true →
      Alone d s (groupEffect a report s).finish ∧
      ToldAs (s.tellsReturn d .relief .timed) (groupEffect a report s).finish ∧
      (groupEffect a report s).finish.lifeState d =
        (if (s.profileOf d).settleTime = 0 then .active else .restoring)) ∧
    (∀ front d rest, (s.cover a).drainList = [] → (s.cover a).sleeperList = front ++ d :: rest →
      (∀ e ∈ front, (s.carrier e).life.wakePending ≠ none) → (s.carrier d).life.wakePending = none →
      (s.lifeState d = .rampdown ∨ s.lifeState d = .deepening → (groupEffect a report s).finish =
        s.setLife d { (s.carrier d).life with wakePending := some { cls := .ordinary, cause := .relief } }) ∧
      (s.lifeState d = .doze ∨ s.lifeState d = .slumber → s.settings.slots ≤ s.warmups →
        (groupEffect a report s).finish.lifeState d = .queued ∧
        ToldAs (s.tells d (s.lifeState d) .queued .relief .timed) (groupEffect a report s).finish ∧
        (groupEffect a report s).finish.wakeQueue = s.wakeQueue.join .ordinary
          { carrier := d, depth := if s.lifeState d = .doze then .light else .deep })) ∧
    ((s.cover a).drainList = [] → (∀ d ∈ (s.cover a).sleeperList, (s.carrier d).life.wakePending ≠ none) →
      (groupEffect a report s).finish = s) := by
  intro a report s anchor presses
  rw [groupEffect_relief anchor presses]
  refine ⟨fun front d list drain => ?_, fun front d rest empty list marked bare => ?_, fun empty marked => ?_⟩
  · have unqueued : s.lifeState d ≠ .queued := fun state => by rw [state] at drain; cases drain
    have awake : s.lifeState d ≠ .slumber := fun state => by rw [state] at drain; cases drain
    have managed : s.isManaged d = true := bne_iff_ne.mpr fun state => by rw [state] at drain; cases drain
    obtain ⟨told, alone⟩ := told_enterRestoring unqueued awake managed .relief
    rw [reliefEffect_drain list drain]
    exact ⟨alone, told.toToldAs, (enterRestoring_lifeState ..).trans (if_pos rfl)⟩
  · rw [reliefEffect_sleeper empty (first_unmarked list marked bare)]
    refine ⟨fun state => ?_, fun state full => ?_⟩
    · have effect : (Task.wake d .relief).effect s = _ := wakeEffect_kept state bare
      exact finish_wake (done_singleton_iff.mpr (by rw [effect]; exact .nil _))
    · have effect : (Task.wake d .relief).effect s = _ := wakeEffect_queued state
      obtain ⟨told, queue⟩ := told_enterQueued_of_asleep (depth := if s.lifeState d = .doze then .light else .deep) state .relief
      have warmups := warmups_enterQueued (depth := if s.lifeState d = .doze then .light else .deep) state .ordinary .relief
      obtain ⟨x, made⟩ : ∃ x, x = s.enterQueued d .ordinary (if s.lifeState d = .doze then .light else .deep) .relief := ⟨_, rfl⟩
      have settings : x.settings = s.settings := by
        rw [made]
        exact (keeps_enterQueued (by rcases state with state | state <;> exact managed_of state (by decide))).settings
      have now : x.lifeState d = .queued := by rw [made, enterQueued_lifeState, if_pos rfl]
      rw [← made] at effect told queue warmups
      have idle : (Task.grants).effect x = (x, []) := grantsEffect_of_full (by rw [settings, warmups]; exact full)
      have done : Done [.wake d .relief] s x :=
        done_singleton_iff.mpr (by rw [effect]; exact done_singleton_iff.mpr (by rw [idle]; exact .nil x))
      rw [finish_wake done]
      exact ⟨now, told, queue⟩
  · have nobody : (s.cover a).sleeperList.find? (fun d => (s.carrier d).life.wakePending.isNone) = none :=
      List.find?_eq_none.mpr fun d mem => by simpa using marked d mem
    have idle : reliefEffect a s = (s, []) := by simp only [reliefEffect, empty, List.getLast?_nil, nobody]
    rw [idle]
    rfl

end Sys2Proof.Machine
end

section
/-! PROOFS. Relief at a window end, of an anchor with drains in progress (R75, R77). -/

namespace Sys2Proof.Machine

variable {b s t u m n x y : State} {a c d e : CarrierIx} {l : List Task} {k : Task} {order : ReportOrder}
  {front list : List CarrierIx}

/-! ## No drain begins -/

/-- R75: the group of an anchor that needs relief begins no drain. -/
theorem relief_begins_none (running : Running b b) (h : Done (b.reportTasks order) b t) (presses : b.presses (b.anchorOf c))
    (drain : (t.lifeState c).isDrain = true) : (b.lifeState c).isDrain = true := by
  refine ((h.lively (reportTasks_not_ended order b)).drain c drain).resolve_left fun active => ?_
  have lively : (b.lifeState c).isLively = true := by rw [active]; rfl
  obtain ⟨m, n, taken⟩ := groupTaken (b.anchorOf c) h
  obtain ⟨at_m, -⟩ := running.group_taken taken
  have before := taken.before_same running rfl lively fun reports => reports_same_of_back running reports (by rw [active]; rfl)
  have state : m.lifeState c = .active := before.lifeState.trans active
  have through : Same c m n := by
    refine group_same taken.taken at_m (by rwa [before.lifeState]) (fun low => ?_) fun _ last => ?_
    · rw [windowReport_get, at_m.keeps.profileOf_eq] at low
      exact absurd presses (Nat.not_le.mpr low)
    · have drains := (last_drains at_m.sound.cover last).1
      rw [state] at drains
      cases drains
  have state' : n.lifeState c = .active := through.lifeState.trans state
  have after := taken.after_same running rfl (by rw [state']; rfl) fun at_x same reports =>
    reports_same_of_back at_x reports (by rw [same.lifeState, state']; rfl)
  rw [after.lifeState, state'] at drain
  cases drain

/-! ## The drains that are there -/

/-- R103, R105: a draining carrier that went quiet drains no more after the reports, and is not ACTIVE. -/
theorem reports_quiet (running : Running b b) (h : Done b.lifecycleTasks b x) (quiet : b.quiets c) (low : ¬b.rises c) :
    x.lifeState c ≠ .active ∧ (x.lifeState c).isDrain = false := by
  have lively : (b.lifeState c).isLively = true := by rw [quiet.1]; rfl
  obtain ⟨p, q, last, before, at_p, own, rest, ends, at_q, -⟩ := reports_split running lively h
  have draining : p.lifeState c = .draining := before.lifeState.trans quiet.1
  have out : q.lifeState c = .lost ∨ q.lifeState c = .rampdown := by
    obtain ⟨-, rose, -⟩ | ⟨-, -, -, completes⟩ | ⟨-, loud, -⟩ := done_report own (by rw [draining]; rfl)
    · rw [at_p.keeps.profileOf_eq] at rose
      exact absurd rose low
    · obtain ⟨-, -, lost, rests⟩ := completed draining completes
      by_cases untaken : p.untaken c
      · exact .inl (lost untaken)
      · exact .inr (rests untaken).1
    · rw [at_p.keeps.profileOf_eq] at loud
      exact absurd ⟨draining, quiet.2⟩ loud
  have gone : ¬(q.lifeState c = .active ∨ (q.lifeState c).isDrain = true) := by
    rcases out with state | state <;> simp [state, LifeState.isDrain]
  have lively := ends.lively fun k mem => (rest.window (b := b) k mem).not_ended
  exact ⟨fun active => gone (lively.active c active), by simpa using mt (lively.drain c) gone⟩

/-- R79: a draining carrier drains still when its group is taken, unless its report has come before and ended its drain. -/
theorem GroupTaken.drains_iff (h : GroupTaken order a b m n t) (running : Running b b) (group : b.anchorOf c = a)
    (drain : (b.lifeState c).isDrain = true) :
    (m.lifeState c).isDrain = true ↔ order = .coverageFirst ∨ (¬b.rises c ∧ ¬b.quiets c) := by
  have lively := isLively_of_isDrain drain
  obtain ⟨⟨coverage, lifecycle⟩, -⟩ := h
  cases order with
  | coverageFirst =>
    obtain ⟨l, groups, begins⟩ := coverage rfl
    rw [(groups.same begins running group lively).lifeState]
    exact ⟨fun _ => .inl rfl, fun _ => drain⟩
  | lifecycleFirst =>
    obtain ⟨x, l, reports, groups, begins⟩ := lifecycle rfl
    have at_x := reports.window (reports_window b b) running
    have onward := begins.lively fun k mem => (groups.window (b := b) k mem).not_ended
    constructor
    · intro still
      refine .inr ?_
      have was := onward.drain c still
      by_cases rises : b.rises c
      · have back := reports_back running reports (.inr ⟨drain, rises⟩)
        have isBack : (x.lifeState c).isBack = true := by
          rw [back]
          exact backState_isBack b c
        rw [(groups.same begins at_x group (isLively_of_isBack isBack)).lifeState, isDrain_of_isBack isBack] at still
        cases still
      · refine ⟨rises, fun quiet => ?_⟩
        obtain ⟨inactive, gone⟩ := reports_quiet running reports quiet rises
        rw [gone] at was
        exact was.elim inactive (by simp)
    · rintro (isFirst | ⟨low, loud⟩)
      · cases isFirst
      · have same := reports_still running reports (.refl c b) drain low loud
        rw [(groups.same begins at_x group (by rwa [same.lifeState])).lifeState, same.lifeState]
        exact drain

theorem sublist_eq_filter {L : List CarrierIx} (sub : list.Sublist L) (once : L.Nodup) {p : CarrierIx → Bool}
    (mem : ∀ c, c ∈ list ↔ c ∈ L ∧ p c = true) : list = L.filter p := by
  have own : list.filter p = list := List.filter_eq_self.mpr fun c listed => ((mem c).mp listed).2
  have inside : list.Sublist (L.filter p) := own ▸ sub.filter p
  refine inside.eq_of_length_le (List.Subperm.length_le ?_)
  refine List.subperm_of_subset (once.filter _) fun c kept => ?_
  exact (mem c).mpr (List.mem_filter.mp kept)

/-- R77: the drain list that the Coverage Unit finds. -/
theorem GroupTaken.drainList (h : GroupTaken order a b m n t) (running : Running b b)
    (all : order = .coverageFirst → list = (b.cover a).drainList)
    (left : order = .lifecycleFirst → list.Sublist (b.cover a).drainList ∧
      ∀ c, c ∈ list ↔ c ∈ (b.cover a).drainList ∧ ¬b.rises c ∧ ¬b.quiets c) : (m.cover a).drainList = list := by
  have law := running.sound.cover.drains a
  have found := (h.kept running).list
  have drains (c : CarrierIx) (mem : c ∈ (b.cover a).drainList) := h.drains_iff running ((law.2 c).mp mem).2 ((law.2 c).mp mem).1
  rw [found]
  cases order with
  | coverageFirst =>
    rw [all rfl]
    exact List.filter_eq_self.mpr fun c mem => (drains c mem).mpr (.inl rfl)
  | lifecycleFirst =>
    obtain ⟨sub, mem⟩ := left rfl
    refine (sublist_eq_filter sub law.1 fun c => (mem c).trans (and_congr_right fun listed => ?_)).symm
    rw [drains c listed]
    simp

/-! ## The tail of the drain list -/

/-- R77: relief abandons the tail of the drain list; the drains before it stay that their reports do not end. -/
theorem relief_drains (running : Running b b) (h : Done (b.reportTasks order) b t) (presses : b.presses a)
    (anchor : b.isAnchor a = true) (all : order = .coverageFirst → list = (b.cover a).drainList)
    (left : order = .lifecycleFirst → list.Sublist (b.cover a).drainList ∧
      ∀ c, c ∈ list ↔ c ∈ (b.cover a).drainList ∧ ¬b.rises c ∧ ¬b.quiets c) (split : list = front ++ [d]) :
    t.lifeState d = b.backState d ∧ ∀ e ∈ front, ¬b.rises e → ¬b.quiets e → Same e b t := by
  obtain ⟨m, n, taken⟩ := groupTaken a h
  obtain ⟨at_m, at_n, -⟩ := running.group_taken taken
  have found := taken.drainList running all left
  rw [split] at found
  have listed := at_m.sound.cover.drains a
  rw [found] at listed
  obtain ⟨once, drains⟩ := listed
  have ends : n = m.enterRestoring d .relief := by
    have own := done_singleton_iff.mp taken.taken
    change Done (groupEffect ..).2 (groupEffect ..).1 n at own
    rw [groupEffect_relief (by rw [at_m.keeps.isAnchor]; exact anchor)
      (by rw [windowReport_get, at_m.keeps.profileOf_eq]; exact presses),
      reliefEffect_drain found ((drains d).mp (by simp)).1] at own
    exact done_nil_iff.mp own
  refine ⟨?_, fun e mem low loud => ?_⟩
  · have state : n.lifeState d = b.backState d := by
      rw [ends, ← at_m.keeps.backState]
      exact (enterRestoring_lifeState ..).trans (if_pos rfl)
    have group : b.anchorOf d = a := (at_m.keeps.anchorOf_eq d).symm.trans ((drains d).mp (by simp)).2
    have back : (n.lifeState d).isBack = true := by
      rw [state]
      exact backState_isBack b d
    have after := taken.after_same running group (isLively_of_isBack back) fun at_x same reports =>
      reports_same_of_back at_x reports (by rwa [same.lifeState])
    exact after.lifeState.trans state
  · obtain ⟨drain, place⟩ := (drains e).mp (List.mem_append_left _ mem)
    have group : b.anchorOf e = a := (at_m.keeps.anchorOf_eq e).symm.trans place
    obtain ⟨was, before⟩ := (taken.kept running).drains e group drain
    have apart : e ≠ d := fun same => by
      rw [List.nodup_append] at once
      exact once.2.2 e mem d (by simp) same
    have through : Same e m n := ends ▸ (touch_enterRestoring m d .relief).same apart
    have reached := before.trans through
    have after := taken.after_same running group (isLively_of_isDrain (by rwa [reached.lifeState])) fun at_x same reports =>
      reports_still at_x reports (reached.trans same) was low loud
    exact reached.trans after

end Sys2Proof.Machine
end

section
/-! PROOFS. The sleepers of a group without drains, through the work of a window end (R77, R78, R113). -/

namespace Sys2Proof.Machine

variable {b s t u m n x y : State} {a c d e g : CarrierIx} {l : List Task} {k j : Task} {order : ReportOrder} {meter : Meter}
  {report : Vector Meter 32} {cause : Cause}

/-! ## Sleepers without a mark -/

/-- The carrier sleeps and carries no wake-pending mark. -/
def State.bare (s : State) (c : CarrierIx) : Bool := (s.lifeState c).isSleeper && (s.carrier c).life.wakePending.isNone

theorem bare_iff : s.bare c = true ↔ (s.lifeState c).isSleeper = true ∧ (s.carrier c).life.wakePending = none := by
  rw [State.bare, Bool.and_eq_true, Option.isNone_iff_eq_none]

theorem bare_of_life (h : (t.carrier c).life = (s.carrier c).life) : t.bare c = s.bare c := by
  rw [State.bare, State.bare, State.lifeState, State.lifeState, h]

theorem not_bare_of_awake (h : (s.lifeState c).isSleeper = false) : s.bare c = false := by rw [State.bare, h]; rfl

theorem moveTo_of_sleeper {new : LifeState} (old : (s.lifeState c).isSleeper = true) (sleeps : new.isSleeper = true)
    (a : CarrierIx) : (s.moveTo c new).bare c = s.bare c ∧
      ((s.moveTo c new).cover a).sleeperList = (s.cover a).sleeperList := by
  have places : s.movePlaces c (s.lifeState c) new = s := by
    have awake : (s.lifeState c).isDrain = false ∧ s.lifeState c ≠ .queued := by
      revert old
      cases s.lifeState c <;> decide
    simp [State.movePlaces, old, sleeps, awake]
  refine ⟨?_, by rw [moveTo_cover, places]⟩
  rw [State.bare, State.bare, moveTo_lifeState, if_pos rfl, (moveTo_carrier s c new).1, Life.enter, sleeps, old]
  rfl

theorem moveAndTell_of_sleeper {new : LifeState} (old : (s.lifeState c).isSleeper = true) (sleeps : new.isSleeper = true)
    (cause : Cause) (a : CarrierIx) : (s.moveAndTell c new cause).bare c = s.bare c ∧
      ((s.moveAndTell c new cause).cover a).sleeperList = (s.cover a).sleeperList := by
  obtain ⟨bare, list⟩ := moveTo_of_sleeper old sleeps a
  have tells := tells_notifyState (s.moveTo c new) c (s.lifeState c) new cause cause.origin
  refine ⟨Eq.trans (bare_of_life ?_) bare, Eq.trans ?_ list⟩
  · exact congrArg Carrier.life (tells.carrier c)
  · exact congrArg (fun x : Carrier => x.cover.sleeperList) (tells.carrier a)

/-! ## What one task does to a group -/

/-- From `s` to `t` no record has changed, or that of one carrier; if that is of the group of `a` it drains no more, and it
is a sleeper without a mark exactly if it was one, in its place then. -/
def Rested (a : CarrierIx) (s t : State) : Prop := t.carriers = s.carriers ∨ ∃ e, Touch e s t ∧ (s.anchorOf e = a →
  (t.lifeState e).isDrain = false ∧ t.bare e = s.bare e ∧ (s.bare e = true → (t.cover a).sleeperList = (s.cover a).sleeperList))

theorem rested_refl (a : CarrierIx) (s : State) : Rested a s s := .inl rfl

theorem rested_awake (touch : Touch e s t) (was : s.anchorOf e = a → s.bare e = false)
    (state : s.anchorOf e = a → (t.lifeState e).isDrain = false ∧ t.bare e = false) : Rested a s t :=
  .inr ⟨e, touch, fun group => ⟨(state group).1, (state group).2.trans (was group).symm, fun bare => by
    rw [was group] at bare
    cases bare⟩⟩

theorem rested_enterQueued {cls : WakeClass} {depth : Depth} (was : s.anchorOf e = a → s.bare e = false) :
    Rested a s (s.enterQueued e cls depth cause) := by
  have state : (s.enterQueued e cls depth cause).lifeState e = .queued := by rw [enterQueued_lifeState, if_pos rfl]
  exact rested_awake (touch_enterQueued ..) was fun _ => ⟨by rw [state]; rfl, not_bare_of_awake (by rw [state]; rfl)⟩

theorem rested_deepenEffect (a : CarrierIx) (s : State) (c : CarrierIx) : Rested a s (deepenEffect c s).1 := by
  unfold deepenEffect
  split
  · rename_i due
    split
    · rename_i t handed
      have doze : t.lifeState c = .doze :=
        (lifeState_of_carriers (handDirective_carriers handed) c).trans (deepenDue_iff.mp due).1
      have sleeps : (t.lifeState c).isSleeper = true := by rw [doze]; rfl
      obtain ⟨bare, list⟩ := moveAndTell_of_sleeper sleeps (new := .deepening) rfl .deepen a
      have same : t.carriers = s.carriers := handDirective_carriers handed
      refine .inr ⟨c, (touch_handDirective handed).trans (touch_moveAndTell ..), fun _ => ⟨?_, ?_, fun _ => ?_⟩⟩
      · rw [moveAndTell_lifeState, if_pos rfl]
        rfl
      · rw [bare]
        exact bare_of_life (by rw [State.carrier, same, State.carrier])
      · rw [list, State.cover, State.carrier, same]
        rfl
    · exact rested_refl a s
  · exact rested_refl a s

theorem rested_withdrawnEffect (a : CarrierIx) (s : State) (c : CarrierIx) : Rested a s (withdrawnEffect c s).1 := by
  unfold withdrawnEffect
  split
  · rename_i deepening
    have sleeps : (s.lifeState c).isSleeper = true := by rw [deepening]; rfl
    split
    · obtain ⟨bare, list⟩ := moveAndTell_of_sleeper sleeps (new := .doze) rfl .deepenWithdrawn a
      refine .inr ⟨c, touch_moveAndTell .., fun _ => ⟨?_, bare, fun _ => list⟩⟩
      rw [moveAndTell_lifeState, if_pos rfl]
      rfl
    · rename_i mark
      exact rested_enterQueued fun _ => by rw [State.bare, mark, Bool.and_eq_false_iff]; exact .inr rfl
  · exact rested_refl a s

theorem rested_wakeEffect {kind : WakeKind} (calm : s.anchorOf c = a → (s.lifeState c).isDrain = false ∧ s.bare c = false) :
    Rested a s (wakeEffect c kind s).1 := by
  have was := fun group => (calm group).2
  have spared {f : Effect} (h : Rested a s f.1) : Rested a s (if kind = .traffic then ((s, []) : Effect) else f).1 := by
    split
    · exact rested_refl a s
    · exact h
  have kept (rests : (s.lifeState c).isDrain = false) : Rested a s (s.keepWake c kind.cls kind.cause) := by
    refine rested_awake (touch_setLife ..) was fun _ => ⟨?_, ?_⟩
    · rw [State.keepWake, setLife_lifeState s c c (by rfl)]
      exact rests
    · simp [State.bare, State.keepWake, State.setLife]
  have abandoned (drain : (s.lifeState c).isDrain = true) : Rested a s (abandonEffect c kind.cause s).1 :=
    .inr ⟨c, touch_abandonEffect .., fun group => by
      rw [(calm group).1] at drain
      cases drain⟩
  unfold wakeEffect
  split <;> rename_i state
  · exact rested_enterQueued was
  · exact spared (rested_enterQueued was)
  · exact spared (kept (by rw [state]; rfl))
  · exact spared (kept (by rw [state]; rfl))
  · exact spared (abandoned (by rw [state]; rfl))
  · exact spared (abandoned (by rw [state]; rfl))
  · exact .inl rfl
  · split
    · exact rested_enterQueued was
    · exact rested_refl a s
  all_goals exact rested_refl a s

theorem rested_reportEffect (calm : s.anchorOf c = a → (s.lifeState c).isDrain = false) :
    Rested a s (reportEffect c meter s).1 := by
  by_cases group : s.anchorOf c = a
  · have awake := calm group
    rw [reportEffect_eq, if_neg (by simp [awake]), if_neg (by rintro ⟨draining, -⟩; rw [draining] at awake; cases awake)]
    split
    · exact rested_deepenEffect ..
    · exact rested_refl a s
  · exact .inr ⟨c, touch_reportEffect .., fun own => absurd own group⟩

theorem rested_loseEffect (was : s.anchorOf c = a → s.bare c = false) : Rested a s (loseEffect c cause s).1 := by
  by_cases out : s.lifeState c = .unmanaged ∨ s.lifeState c = .lost
  · rw [show loseEffect c cause s = (s, []) from if_pos out]
    exact rested_refl a s
  · obtain ⟨managed, found⟩ := not_or.mp out
    have state : (loseEffect c cause s).1.lifeState c = .lost := ((loss_loseEffect managed found cause).1.state c).trans (if_pos rfl)
    exact rested_awake (touch_loseEffect ..) was fun _ => ⟨by rw [state]; rfl, not_bare_of_awake (by rw [state]; rfl)⟩

theorem rested_grantsEffect (a : CarrierIx) (s : State) : Rested a s (grantsEffect s).1 := by
  obtain idle | ⟨w, -, -, granted⟩ := grantsEffect_cases s
  · rw [idle]
    exact rested_refl a s
  · rw [granted]
    by_cases queued : s.lifeState w.carrier = .queued
    · have state := grantTo_lifeState queued
      exact rested_awake (touch_grantTo ..) (fun _ => not_bare_of_awake (by rw [queued]; rfl))
        fun _ => ⟨by rw [state]; rfl, not_bare_of_awake (by rw [state]; rfl)⟩
    · rw [grantTo_idle queued]
      exact rested_refl a s

/-- The tasks that may wake a carrier, or lose it. -/
def Task.rouses (c : CarrierIx) : Task → Prop
  | .wake d _ | .lose d _ => d = c
  | _ => False

theorem rested_task (plain : k.isPlain) (calm : ∀ e, s.anchorOf e = a → (s.lifeState e).isDrain = false)
    (spared : ∀ e, s.anchorOf e = a → s.bare e = true → ¬k.rouses e) : Rested a s (k.effect s).1 := by
  have was (e : CarrierIx) (rouses : k.rouses e) (group : s.anchorOf e = a) : s.bare e = false := by
    by_contra bare
    exact spared e group (by simpa using bare) rouses
  cases k with
  | report d meter => exact rested_reportEffect (calm d)
  | wake d kind => exact rested_wakeEffect fun group => ⟨calm d group, was d rfl group⟩
  | lose d cause => exact rested_loseEffect (was d rfl)
  | withdrawn d => exact rested_withdrawnEffect a s d
  | grants => exact rested_grantsEffect a s
  | sendHead v => exact .inl (sendHeadEffect_carriers v s)
  | anchorLost d => exact rested_refl a s
  | group | ended | linkUp | deepen | abandon | deepTest | recover => exact plain.elim

end Sys2Proof.Machine
end

section
/-! PROOFS. The sleepers of a group without drains through any part of a window end in which the group is not taken (R77, R78). -/

namespace Sys2Proof.Machine

variable {b s t u m n x y : State} {a c d e g : CarrierIx} {l : List Task} {k j : Task} {order : ReportOrder} {meter : Meter}
  {report : Vector Meter 32} {cause : Cause}

/-- No carrier of the group of `a` drains in `t`, and its sleepers without a mark are those of `s`, in their order. -/
structure Rests (a : CarrierIx) (s t : State) : Prop where
  drains : ∀ e, t.anchorOf e = a → (t.lifeState e).isDrain = false
  list : (t.cover a).sleeperList.filter t.bare = (s.cover a).sleeperList.filter s.bare

theorem rests_refl (calm : ∀ e, s.anchorOf e = a → (s.lifeState e).isDrain = false) : Rests a s s := ⟨calm, rfl⟩

theorem mem_bare (law : CoverLaw s) (group : s.anchorOf c = a) : c ∈ (s.cover a).sleeperList.filter s.bare ↔ s.bare c = true := by
  rw [List.mem_filter, (law.sleepers a).2]
  exact ⟨fun h => h.2, fun bare => ⟨⟨(bare_iff.mp bare).1, group⟩, bare⟩⟩

theorem Rests.bare_iff (h : Rests a s t) (before : CoverLaw s) (after : CoverLaw t) (kept : Keeps s t)
    (group : s.anchorOf c = a) : t.bare c = true ↔ s.bare c = true := by
  rw [← mem_bare before group, ← mem_bare after ((kept.anchorOf_eq c).trans group), h.list]

theorem Rests.trans (h : Rests a s t) (k : Rests a t u) : Rests a s u := ⟨k.drains, k.list.trans h.list⟩

theorem rests_of_same (calm : ∀ e, s.anchorOf e = a → (s.lifeState e).isDrain = false) (law : CoverLaw s)
    (config : t.carrierConfig = s.carrierConfig) (list : (t.cover a).sleeperList = (s.cover a).sleeperList)
    (same : ∀ c, s.anchorOf c = a → (t.carrier c).life = (s.carrier c).life) : Rests a s t := by
  have anchor (c : CarrierIx) : t.anchorOf c = s.anchorOf c := by simp only [State.anchorOf, State.config, config]
  refine ⟨fun e group => ?_, ?_⟩
  · rw [anchor] at group
    rw [State.lifeState, same e group]
    exact calm e group
  · rw [list]
    exact List.filter_congr fun c mem => bare_of_life (same c (((law.sleepers a).2 c).mp mem).2)

theorem rests_of_rested (h : Rested a s t) (calm : ∀ e, s.anchorOf e = a → (s.lifeState e).isDrain = false) (law : CoverLaw s)
    (config : t.carrierConfig = s.carrierConfig) : Rests a s t := by
  have anchor (c : CarrierIx) : t.anchorOf c = s.anchorOf c := by simp only [State.anchorOf, State.config, config]
  obtain same | ⟨e, touch, own⟩ := h
  · have carrier (c : CarrierIx) : t.carrier c = s.carrier c := by rw [State.carrier, same, State.carrier]
    exact rests_of_same calm law config (by rw [State.cover, carrier, State.cover]) fun c _ => by rw [carrier]
  · by_cases group : s.anchorOf e = a
    · obtain ⟨awake, bare, list⟩ := own group
      refine ⟨fun c place => ?_, ?_⟩
      · by_cases same : c = e
        · rw [same]
          exact awake
        · rw [touch.lifeState same]
          exact calm c ((anchor c).symm.trans place)
      · have others (l : List CarrierIx) : l.filter t.bare = l.filter s.bare := List.filter_congr fun c _ => by
          by_cases same : c = e
          · rw [same, bare]
          · exact bare_of_life (touch.life c same)
        rw [others]
        by_cases was : s.bare e = true
        · rw [list was]
        · have dropped (l : List CarrierIx) : l.filter s.bare = (l.filter (· != e)).filter s.bare := by
            rw [List.filter_filter]
            refine List.filter_congr fun c _ => ?_
            by_cases same : c = e
            · rw [same]
              simp [was]
            · simp [same]
          rw [dropped, touch.sleepers, ← dropped]
    · exact rests_of_same calm law config (touch.apart a (Ne.symm group)).2 fun c place =>
        touch.life c fun same => group (same ▸ place)

/-- R75: the group of another anchor. -/
theorem rests_group (calm : ∀ e, s.anchorOf e = a → (s.lifeState e).isDrain = false) (law : CoverLaw s) (other : a ≠ g)
    (kept : Keeps s (groupEffect g report s).1) : Rests a s (groupEffect g report s).1 := by
  obtain idle | ⟨-, -, relief⟩ | ⟨-, -, admits⟩ := groupEffect_cases g report s
  · rw [idle]
    exact rests_refl calm
  · rw [relief] at kept ⊢
    obtain idle | ⟨d, last, drains⟩ | ⟨d, -, -, -, wakes⟩ := reliefEffect_cases g s
    · rw [idle]
      exact rests_refl calm
    · have group := (last_drains law last).2
      have touch := touch_abandonEffect s d .relief
      rw [drains] at kept ⊢
      exact rests_of_same calm law kept.carrierConfig (touch.apart a (by rw [group]; exact other)).2 fun c place =>
        touch.life c fun same => other (by rw [← place, same, group])
    · rw [wakes]
      exact rests_refl calm
  · obtain ⟨others, lists⟩ := admissions_touch (s := s) (a := g) report (s.candidates g report)
      fun e mem => (mem_candidates.mp mem).1.2.1
    rw [admits] at kept ⊢
    exact rests_of_same calm law kept.carrierConfig (lists a other).2 fun c place =>
      (others c fun mem => other (by rw [← place, (mem_candidates.mp mem).1.2.1])).1

/-- What no task does that a window end sets off while the group of `a` rests. -/
def Task.disregards (a : CarrierIx) (s : State) (k : Task) : Prop :=
  (∀ r, k ≠ .group a r) ∧ ∀ e, s.anchorOf e = a → s.bare e = true → ¬k.rouses e

theorem rests_task (window : k.ofWindow b) (running : Running b s) (calm : ∀ e, s.anchorOf e = a → (s.lifeState e).isDrain = false)
    (spares : k.disregards a s) : Rests a s (k.effect s).1 := by
  have kept := keeps_task k s
  by_cases single : ∀ g r, k ≠ .group g r
  · exact rests_of_rested (rested_task (window.isPlain single) calm spares.2) calm running.sound.cover kept.carrierConfig
  · push Not at single
    obtain ⟨g, r, rfl⟩ := single
    exact rests_group calm running.sound.cover (fun same => spares.1 r (by rw [same])) kept

theorem disregards_of_spawned (window : k.ofWindow b) (running : Running b s) (spares : k.disregards a s) (mem : j ∈ (k.effect s).2) :
    j.disregards a s := by
  have spawned := effect_spawns k s j mem
  refine ⟨fun r same => by rw [same] at spawned; exact spawned, fun e group bare rouses => ?_⟩
  obtain ⟨sleeps, -⟩ := bare_iff.mp bare
  cases j with
  | wake d kind =>
    obtain rfl : d = e := rouses
    obtain ⟨-, g, rfl⟩ | ⟨-, g, r, rfl⟩ := spawned
    · exact window.elim
    · have place := (((running.sound.cover.sleepers g).2 d).mp (sleeper_of_wake mem)).2
      exact spares.1 r (by rw [← place, group])
  | lose d cause =>
    obtain rfl : d = e := rouses
    obtain ⟨-, queued, -⟩ | ⟨kind, how, rfl⟩ | ⟨m, rfl⟩ := spawned
    · rw [queued] at sleeps
      cases sleeps
    · exact window.elim
    · rw [draining_of_lose mem] at sleeps
      cases sleeps
  | report | group | grants | anchorLost | sendHead | ended | withdrawn | linkUp | deepen | abandon | deepTest | recover => exact rouses

/-- R78, R113: what a task that spares a sleeper without a mark does to its state. -/
theorem bare_turns (plain : k.isPlain) (bare : s.bare c = true) (spared : ¬k.rouses c) (still : (k.effect s).1.bare c = true) :
    (k.effect s).1.lifeState c = s.lifeState c ∨
      ((∃ m, k = .report c m) ∧ s.lifeState c = .doze ∧ (k.effect s).1.lifeState c = .deepening) ∨
      (s.lifeState c = .deepening ∧ (k.effect s).1.lifeState c = .doze) := by
  obtain ⟨sleeps, mark⟩ := bare_iff.mp bare
  rcases effect_turns k c s with same | turned
  · exact .inl same
  · cases k with
    | wake d kind => exact absurd turned.1 spared
    | lose d cause => exact absurd turned.1 spared
    | grants =>
      rw [turned.1] at sleeps
      cases sleeps
    | withdrawn d =>
      obtain ⟨rfl, deepening⟩ := turned
      refine .inr (.inr ⟨deepening, ?_⟩)
      have effect : withdrawnEffect d s = (s.moveAndTell d .doze .deepenWithdrawn, []) := by
        rw [withdrawnEffect, if_pos deepening]
        simp only [mark]
      change (withdrawnEffect d s).1.lifeState d = _
      rw [effect, moveAndTell_lifeState, if_pos rfl]
    | report d m =>
      obtain ⟨rfl, drain | doze⟩ := turned
      · revert sleeps drain
        cases s.lifeState d <;> simp [LifeState.isSleeper, LifeState.isDrain]
      · change (reportEffect d m s).1.lifeState d = _ ∨ _ ∧ _ ∧ (reportEffect d m s).1.lifeState d = _ ∨
          _ ∧ (reportEffect d m s).1.lifeState d = _
        rw [reportEffect_eq, if_neg (by simp [doze, LifeState.isDrain]), if_neg (by simp [doze]), if_pos doze]
        rcases deepenEffect_turns d d s with same | ⟨-, -, now⟩
        · exact .inl same
        · exact .inr (.inl ⟨⟨m, rfl⟩, doze, now⟩)
    | sendHead => exact turned.elim
    | anchorLost => exact turned.elim
    | group | ended | linkUp | deepen | abandon | deepTest | recover => exact plain.elim

/-- R77, R78: through any part of a window end that spares them the sleepers without a mark of a group stay so; one among them
keeps its state, but that its report deepens it from DOZE, and that it may fall back there. -/
theorem Done.rests (h : Done l s t) (window : ∀ k ∈ l, k.ofWindow b) (running : Running b s)
    (calm : ∀ e, s.anchorOf e = a → (s.lifeState e).isDrain = false) (spares : ∀ k ∈ l, k.disregards a s) (P : LifeState → Prop)
    (deepens : (P .doze → P .deepening) ∨ ∀ k ∈ l, ∀ m, k ≠ .report c m) (lulls : P .deepening → P .doze) :
    Rests a s t ∧ (s.anchorOf c = a → s.bare c = true → P (s.lifeState c) → P (t.lifeState c)) := by
  have start := running
  have result := h.window_stays (b := b) (fun u => Keeps s u ∧ Rests a s u ∧
    (s.anchorOf c = a → s.bare c = true → P (s.lifeState c) → P (u.lifeState c)))
    (fun k => k.disregards a s ∧ ((P .doze → P .deepening) ∨ ∀ m, k ≠ .report c m)) (fun k u window safe running holds => ?_)
    window (fun k mem => ⟨spares k mem, deepens.imp_right fun none => none k mem⟩) running ⟨.refl s, rests_refl calm, fun _ _ => id⟩
  · exact result.2.2
  · obtain ⟨kept, rests, state⟩ := holds
    obtain ⟨⟨aside, spared⟩, deepens⟩ := safe
    have bares {e : CarrierIx} (group : s.anchorOf e = a) : u.bare e = true ↔ s.bare e = true :=
      rests.bare_iff start.sound.cover running.sound.cover kept group
    have sparing : k.disregards a u := ⟨aside, fun e group bare => by
      rw [kept.anchorOf_eq] at group
      exact spared e group ((bares group).mp bare)⟩
    have onward := rests_task window running rests.drains sparing
    refine ⟨⟨kept.trans (keeps_task k u), rests.trans onward, fun group bare first => ?_⟩, fun j mem => ?_⟩
    · have here := state group bare first
      by_cases single : ∀ g r, k ≠ .group g r
      · have still := (onward.bare_iff running.sound.cover (running.task window).1.sound.cover (keeps_task k u)
          ((kept.anchorOf_eq c).trans group)).mpr ((bares group).mpr bare)
        obtain same | ⟨⟨m, named⟩, doze, now⟩ | ⟨deepening, now⟩ :=
          bare_turns (window.isPlain single) ((bares group).mpr bare) (spared c group bare) still
        · rwa [same]
        · rw [now]
          rw [doze] at here
          exact deepens.elim (fun may => may here) fun none => absurd named (none m)
        · rw [now]
          rw [deepening] at here
          exact lulls here
      · push Not at single
        obtain ⟨g, r, rfl⟩ := single
        have same : Same c u (groupEffect g r u).1 := same_group running.sound.cover fun own => aside r (by
          rw [← own, kept.anchorOf_eq, group])
        exact same.lifeState ▸ here
    · have spared' := disregards_of_spawned window running sparing mem
      refine ⟨⟨spared'.1, fun e group bare => spared'.2 e ((kept.anchorOf_eq e).trans group) ((bares group).mpr bare)⟩, .inr ?_⟩
      intro m same
      have spawned := effect_spawns k u j mem
      rw [same] at spawned
      exact spawned

end Sys2Proof.Machine
end

section
/-! PROOFS. What becomes of the sleeper that relief reaches (R77, R113, R131). -/

namespace Sys2Proof.Machine

variable {b s t u m n x y : State} {a c d e g : CarrierIx} {l : List Task} {k j : Task} {order : ReportOrder} {mark : KeptWake}
  {st : LifeState}

/-! ## A carrier that is woken, or carries a mark -/

/-- R131: the carrier waits, or holds a slot, or is LOST because its unit cannot take CARRIER-WAKE. -/
def Roused (b : State) (d : CarrierIx) (t : State) : Prop :=
  t.lifeState d = .queued ∨ t.lifeState d = .warmup ∨ (t.lifeState d = .lost ∧ b.untaken d)

theorem untaken_task (window : k.ofWindow b) (s : State) (c : CarrierIx) : (k.effect s).1.untaken c ↔ s.untaken c := by
  rw [State.untaken, State.untaken, (keeps_task k s).unitOf_eq]
  obtain same | ⟨deep, released⟩ := settled_of_window window s (s.unitOf c)
  · rw [same]
  · simp [deep, released]

theorem roused_task (window : k.ofWindow b) (lost : ∀ cause, k = .lose d cause → b.untaken d) (h : Roused b d s) :
    Roused b d (k.effect s).1 := by
  rcases effect_turns k d s with same | turned
  · rwa [Roused, same]
  · cases k with
    | wake c kind =>
      obtain rfl : kind = .relief := window
      obtain ⟨-, ⟨now, -⟩ | ⟨drain, -⟩⟩ := turned
      · exact .inl now
      · rcases h with state | state | ⟨state, -⟩ <;> rw [state] at drain <;> cases drain
    | grants => exact .inr (.inl turned.2)
    | lose c cause =>
      obtain ⟨rfl, now⟩ := turned
      exact .inr (.inr ⟨now, lost cause rfl⟩)
    | withdrawn | report => rcases h with state | state | ⟨state, -⟩ <;> simp [Task.turns, LifeState.isDrain, state] at turned
    | group => rcases h with state | state | ⟨state, -⟩ <;> simp [Task.turns, LifeState.isDrain, state] at turned
    | sendHead => exact turned.elim
    | anchorLost | ended | linkUp | deepen | abandon | deepTest | recover => exact window.elim

/-- R131: a carrier that was woken is not asleep again before the window end is over. -/
theorem Done.roused (h : Done l s t) (window : ∀ k ∈ l, k.ofWindow b) (running : Running b s) (units : s.untaken d ↔ b.untaken d)
    (spared : ∀ k ∈ l, ∀ cause, k ≠ .lose d cause) (roused : Roused b d s) : Roused b d t := by
  refine (h.window_stays (b := b) (fun u => (u.untaken d ↔ b.untaken d) ∧ Roused b d u)
    (fun k => ∀ cause, k = .lose d cause → b.untaken d) (fun k u window safe running holds => ?_) window
    (fun k mem cause same => absurd same (spared k mem cause)) running ⟨units, roused⟩).2.2
  obtain ⟨units, roused⟩ := holds
  refine ⟨⟨(untaken_task window u d).trans units, roused_task window safe roused⟩, fun j mem cause same => ?_⟩
  subst same
  obtain ⟨-, -, untaken⟩ | ⟨kind, how, rfl⟩ | ⟨m, rfl⟩ := effect_spawns k u _ mem
  · exact units.mp untaken
  · exact window.elim
  · have draining := draining_of_lose mem
    rcases roused with state | state | ⟨state, -⟩ <;> rw [state] at draining <;> cases draining

/-- R113: the carrier has gone on from `st`, from DEEPENING only, or is there yet, with its mark. -/
def Marked (b : State) (d : CarrierIx) (st : LifeState) (mark : KeptWake) (t : State) : Prop :=
  (st = .deepening ∧ Roused b d t) ∨ (t.lifeState d = st ∧ (t.carrier d).life.wakePending = some mark)

theorem marked_task (window : k.ofWindow b) (running : Running b s) (place : st = .rampdown ∨ st = .deepening)
    (aside : ∀ r, k ≠ .group (s.anchorOf d) r) (unwoken : ∀ kind, k ≠ .wake d kind)
    (lost : ∀ cause, k = .lose d cause → st = .deepening ∧ b.untaken d) (h : Marked b d st mark s) :
    Marked b d st mark (k.effect s).1 := by
  obtain ⟨from_, roused⟩ | ⟨state, marked⟩ := h
  · exact .inl ⟨from_, roused_task window (fun cause same => (lost cause same).2) roused⟩
  · have unqueued : s.lifeState d ≠ .queued := by
      rw [state]
      rcases place with rfl | rfl <;> decide
    have stays {t : State} (same : Same d s t) : Marked b d st mark t :=
      .inr ⟨same.lifeState.trans state, by rw [same.1]; exact marked⟩
    by_cases single : ∀ g r, k ≠ .group g r
    · by_cases named : k.names d
      · cases k with
        | wake c kind =>
          obtain rfl : c = d := named
          exact absurd rfl (unwoken kind)
        | lose c cause =>
          obtain rfl : c = d := named
          obtain ⟨from_, untaken⟩ := lost cause rfl
          have now : (loseEffect c cause s).1.lifeState c = .lost :=
            (loseEffect_lifeState ..).trans (if_pos ⟨rfl, by rw [state, from_]; decide⟩)
          exact .inl ⟨from_, .inr (.inr ⟨now, untaken⟩)⟩
        | report c meter =>
          obtain rfl : c = d := named
          have idle : reportEffect c meter s = (s, []) := reportEffect_idle
            (by rw [state]; rcases place with rfl | rfl <;> rfl) (by rw [state]; rcases place with rfl | rfl <;> decide)
          rw [show (Task.report c meter).effect s = (s, []) from idle]
          exact stays (.refl c s)
        | _ => exact named.elim
      · by_cases withdrawn : k = .withdrawn d ∧ s.lifeState d = .deepening
        · obtain ⟨rfl, deepening⟩ := withdrawn
          have effect : withdrawnEffect d s = (s.enterQueued d mark.cls .light mark.cause, [.grants]) := by
            rw [withdrawnEffect, if_pos deepening]
            simp only [marked]
          have now : (withdrawnEffect d s).1.lifeState d = .queued := by
            rw [effect, enterQueued_lifeState, if_pos rfl]
          exact .inl ⟨state.symm.trans deepening, .inl now⟩
        · exact stays (same_of_unnamed (window.isPlain single) named unqueued fun own deepening => withdrawn ⟨own, deepening⟩)
    · push Not at single
      obtain ⟨g, r, rfl⟩ := single
      exact stays (same_group running.sound.cover fun own => aside r (by rw [own]))

/-- R113: through the rest of a window end the mark is kept, until a carrier in DEEPENING is withdrawn. -/
theorem Done.marked (h : Done l s t) (window : ∀ k ∈ l, k.ofWindow b) (running : Running b s) (units : s.untaken d ↔ b.untaken d)
    (place : st = .rampdown ∨ st = .deepening) (avoids : ∀ k ∈ l, (∀ r, k ≠ .group (s.anchorOf d) r) ∧ ¬k.rouses d)
    (marked : Marked b d st mark s) :
    Marked b d st mark t := by
  refine (h.window_stays (b := b) (fun u => Keeps s u ∧ (u.untaken d ↔ b.untaken d) ∧ Marked b d st mark u)
    (fun k => (∀ r, k ≠ .group (s.anchorOf d) r) ∧ (∀ kind, k ≠ .wake d kind) ∧
      ∀ cause, k = .lose d cause → st = .deepening ∧ b.untaken d) (fun k u window safe running holds => ?_) window
    (fun k mem => ?_) running ⟨.refl s, units, marked⟩).2.2.2
  · obtain ⟨kept, units, marked⟩ := holds
    obtain ⟨aside, unwoken, lost⟩ := safe
    have here : ∀ r, k ≠ .group (u.anchorOf d) r := by rwa [kept.anchorOf_eq]
    refine ⟨⟨kept.trans (keeps_task k u), (untaken_task window u d).trans units,
      marked_task window running place here unwoken lost marked⟩, fun j mem => ⟨fun r same => ?_, fun kind same => ?_,
        fun cause same => ?_⟩⟩
    · have spawned := effect_spawns k u j mem
      rw [same] at spawned
      exact spawned
    · subst same
      obtain ⟨-, g, rfl⟩ | ⟨-, g, r, rfl⟩ := effect_spawns k u _ mem
      · exact window.elim
      · exact here r (by rw [(((running.sound.cover.sleepers g).2 d).mp (sleeper_of_wake mem)).2])
    · subst same
      obtain ⟨-, queued, untaken⟩ | ⟨kind, how, rfl⟩ | ⟨m, rfl⟩ := effect_spawns k u _ mem
      · obtain ⟨from_, -⟩ | ⟨state, -⟩ := marked
        · exact ⟨from_, units.mp untaken⟩
        · rw [state] at queued
          rcases place with rfl | rfl <;> cases queued
      · exact window.elim
      · have draining := draining_of_lose mem
        obtain ⟨-, state | state | ⟨state, -⟩⟩ | ⟨state, -⟩ := marked
        · rw [state] at draining
          cases draining
        · rw [state] at draining
          cases draining
        · rw [state] at draining
          cases draining
        · rw [state] at draining
          rcases place with rfl | rfl <;> cases draining
  · obtain ⟨aside, quiet⟩ := avoids k mem
    exact ⟨aside, fun kind same => quiet (by rw [same]; rfl), fun cause same => absurd (by rw [same]; rfl) quiet⟩

end Sys2Proof.Machine
end

section
/-! PROOFS. Relief at a window end, of an anchor without drains in progress; and the whole of R73 to R77 (O30). -/

namespace Sys2Proof.Machine

variable {b s t u m n x y : State} {a c d e g : CarrierIx} {l : List Task} {k j : Task} {order : ReportOrder}
  {front rest : List CarrierIx}

/-! ## Before the group, and after it -/

theorem Groups.disregards (h : Groups a l) : ∀ k ∈ l, k.disregards a s := fun k mem => by
  obtain ⟨g, r, other, rfl⟩ := h k mem
  exact ⟨fun r' same => other (Task.group.inj same).1, fun _ _ _ => id⟩

theorem disregards_reports : ∀ k ∈ b.lifecycleTasks, k.disregards a s := fun k mem => by
  obtain ⟨d, -, rfl⟩ := List.mem_map.mp mem
  exact ⟨by simp, fun _ _ _ => id⟩

/-- R77, R78: how the sleepers of the group stand when it is taken. -/
theorem GroupTaken.before_rests (h : GroupTaken order a b m n t) (running : Running b b)
    (calm : ∀ e, b.anchorOf e = a → (b.lifeState e).isDrain = false) (P : LifeState → Prop)
    (deepens : (P .doze → P .deepening) ∨ order = .coverageFirst) (lulls : P .deepening → P .doze) :
    Rests a b m ∧ (b.anchorOf c = a → b.bare c = true → P (b.lifeState c) → P (m.lifeState c)) := by
  obtain ⟨⟨coverage, lifecycle⟩, -⟩ := h
  cases order with
  | coverageFirst =>
    obtain ⟨l, groups, begins⟩ := coverage rfl
    refine begins.rests groups.window running calm groups.disregards P (.inr fun k mem meter => ?_) lulls
    obtain ⟨g, r, -, rfl⟩ := groups k mem
    simp
  | lifecycleFirst =>
    obtain ⟨x, l, reports, groups, begins⟩ := lifecycle rfl
    exact (done_append_iff.mpr ⟨x, reports, begins⟩).rests
      (fun k mem => (List.mem_append.mp mem).elim (reports_window b b k) (groups.window k)) running calm
      (fun k mem => (List.mem_append.mp mem).elim (disregards_reports k) (groups.disregards k)) P (.inl (deepens.resolve_right nofun))
      lulls

/-- The tasks that come after the group, each of which names a carrier by its report alone. -/
theorem GroupTaken.onward (h : GroupTaken order a b m n t) : ∃ l, Done l n t ∧ ∀ k ∈ l, k.ofWindow b ∧ k.disregards a n ∧
    (∀ r, k ≠ .group a r) ∧ ∀ c, ¬k.rouses c := by
  obtain ⟨-, -, coverage, lifecycle⟩ := h
  have groups {l : List Task} (g : Groups a l) (k : Task) (mem : k ∈ l) : k.ofWindow b ∧ k.disregards a n ∧
      (∀ r, k ≠ .group a r) ∧ ∀ c, ¬k.rouses c := by
    refine ⟨g.window k mem, g.disregards k mem, g.aside k mem, fun c => ?_⟩
    obtain ⟨d, r, -, rfl⟩ := g k mem
    exact id
  cases order with
  | coverageFirst =>
    obtain ⟨x, l, others, goes, reports⟩ := coverage rfl
    refine ⟨l ++ b.lifecycleTasks, done_append_iff.mpr ⟨x, goes, reports⟩, fun k mem => ?_⟩
    rcases List.mem_append.mp mem with mem | mem
    · exact groups others k mem
    · refine ⟨reports_window b b k mem, disregards_reports k mem, ?_, fun c => ?_⟩ <;> obtain ⟨d, -, rfl⟩ := List.mem_map.mp mem
      · simp
      · exact id
  | lifecycleFirst =>
    obtain ⟨l, others, goes⟩ := lifecycle rfl
    exact ⟨l, goes, groups others⟩

/-! ## The group -/

/-- R77: relief hands its cause to the first sleeper without a mark. -/
theorem relief_of_rests (rests : Rests a b m) (law : CoverLaw m)
    (first : (b.cover a).sleeperList.filter b.bare = d :: rest) : reliefEffect a m = (m, [.wake d .relief]) := by
  have empty : (m.cover a).drainList = [] := List.eq_nil_iff_forall_not_mem.mpr fun c mem => by
    obtain ⟨drain, group⟩ := ((law.drains a).2 c).mp mem
    rw [rests.drains c group] at drain
    cases drain
  refine reliefEffect_sleeper empty ?_
  have same : (m.cover a).sleeperList.find? (fun c => (m.carrier c).life.wakePending.isNone) =
      (m.cover a).sleeperList.find? m.bare := by
    refine List.find?_congr fun c mem => ?_
    rw [State.bare, (((law.sleepers a).2 c).mp mem).1, Bool.true_and]
  rw [same, ← List.head?_filter, rests.list, first]
  rfl

/-- The mark of relief. -/
def reliefMark : KeptWake := { cls := .ordinary, cause := .relief }

/-- What relief of an anchor without drains has done to its group: what sleeps without a mark sleeps so still, but for the
sleeper `d` that it has reached. -/
structure Relieved (a d : CarrierIx) (b m n : State) : Prop where
  calm : ∀ e, n.anchorOf e = a → (n.lifeState e).isDrain = false
  others : ∀ e, n.anchorOf e = a → e ≠ d → m.bare e = true → n.bare e = true
  marks : m.lifeState d = .rampdown ∨ m.lifeState d = .deepening →
    n.lifeState d = m.lifeState d ∧ (n.carrier d).life.wakePending = some reliefMark
  wakes : m.lifeState d = .doze ∨ m.lifeState d = .slumber → Roused b d n

theorem relieved_of_wake (own : Done [.wake d .relief] m n) (running : Running b m) (units : m.untaken d ↔ b.untaken d)
    (calm : ∀ e, m.anchorOf e = a → (m.lifeState e).isDrain = false) (bare : m.bare d = true) : Relieved a d b m n := by
  have kept := own.keeps
  obtain ⟨sleeps, none⟩ := bare_iff.mp bare
  have acts := done_singleton_iff.mp own
  change Done (wakeEffect d .relief m).2 (wakeEffect d .relief m).1 n at acts
  have touch := touch_wakeEffect m d .relief
  by_cases awaits : m.lifeState d = .rampdown ∨ m.lifeState d = .deepening
  · rw [wakeEffect_kept awaits none] at acts touch
    obtain rfl := done_nil_iff.mp acts
    have states (c : CarrierIx) := setLife_lifeState (x := { (m.carrier d).life with wakePending := some reliefMark }) m d c rfl
    refine ⟨fun e group => ?_, fun e _ other was => ?_, fun _ => ⟨states d, by simp [State.setLife, reliefMark]⟩, fun asleep => ?_⟩
    · rw [kept.anchorOf_eq] at group
      exact (congrArg LifeState.isDrain (states e)).trans (calm e group)
    · rw [bare_of_life (touch.life e other)]
      exact was
    · rcases awaits with state | state <;> rw [state] at asleep <;> simp at asleep
  · have asleep : m.lifeState d = .doze ∨ m.lifeState d = .slumber := by
      revert sleeps awaits
      cases m.lifeState d <;> simp [LifeState.isSleeper]
    rw [wakeEffect_queued asleep] at acts touch
    obtain ⟨x, made⟩ : ∃ x, x = m.enterQueued d .ordinary (if m.lifeState d = .doze then .light else .deep) .relief := ⟨_, rfl⟩
    obtain ⟨at_x, -⟩ := running.task (k := .wake d .relief) rfl
    have toX : Keeps m x := made ▸ keeps_enterQueued (by rcases asleep with state | state <;> exact managed_of state (by decide))
    change Running b (wakeEffect d .relief m).1 at at_x
    rw [wakeEffect_queued asleep] at at_x
    rw [← made] at acts touch at_x
    have now : x.lifeState d = .queued := by rw [made, enterQueued_lifeState, if_pos rfl]
    have calmX (e : CarrierIx) (group : x.anchorOf e = a) : (x.lifeState e).isDrain = false := by
      rw [toX.anchorOf_eq] at group
      by_cases same : e = d
      · rw [same, now]
        rfl
      · rw [touch.lifeState same]
        exact calm e group
    have window : ∀ k ∈ [Task.grants], k.ofWindow b := by simp [Task.ofWindow]
    have onward := (acts.rests (c := d) window at_x calmX (by simp [Task.disregards, Task.rouses]) (fun _ => True) (.inl id) id).1
    have unitsX : x.untaken d ↔ b.untaken d := by
      have same := untaken_task (b := b) (k := .wake d .relief) rfl m d
      change (wakeEffect d .relief m).1.untaken d ↔ _ at same
      rw [wakeEffect_queued asleep, ← made] at same
      exact same.trans units
    have roused := acts.roused window at_x unitsX (by simp) (.inl now)
    have at_n := acts.window window at_x
    refine ⟨onward.drains, fun e group other was => ?_, fun other => absurd other awaits, fun _ => roused⟩
    have place : x.anchorOf e = a := by rwa [acts.keeps.anchorOf_eq] at group
    rw [onward.bare_iff at_x.sound.cover at_n.sound.cover acts.keeps place, bare_of_life (touch.life e other)]
    exact was

/-- R77: what relief of an anchor without drains comes to at the end of the window end. -/
theorem relief_wakes (running : Running b b) (h : Done (b.reportTasks order) b t) (presses : b.presses a)
    (anchor : b.isAnchor a = true) (empty : (b.cover a).drainList = []) (list : (b.cover a).sleeperList = front ++ d :: rest)
    (marked : ∀ e ∈ front, (b.carrier e).life.wakePending ≠ none) (bare : (b.carrier d).life.wakePending = none) :
    (b.lifeState d = .rampdown → t.lifeState d = .rampdown ∧ (t.carrier d).life.wakePending = some reliefMark) ∧
    (b.lifeState d = .slumber → Roused b d t) ∧ (b.lifeState d = .doze → order = .coverageFirst → Roused b d t) ∧
    (b.lifeState d = .doze ∨ b.lifeState d = .deepening → Roused b d t ∨
      (t.lifeState d = .deepening ∧ (t.carrier d).life.wakePending = some reliefMark)) ∧
    ∀ e ∈ rest, (b.carrier e).life.wakePending = none → t.bare e = true := by
  have law := running.sound.cover
  have listed (e : CarrierIx) := (law.sleepers a).2 e
  have once := (law.sleepers a).1
  rw [list] at listed once
  have calm (e : CarrierIx) (group : b.anchorOf e = a) : (b.lifeState e).isDrain = false := by
    by_contra drain
    have mem := ((law.drains a).2 e).mpr ⟨by simpa using drain, group⟩
    rw [empty] at mem
    cases mem
  obtain ⟨sleeps, group⟩ := (listed d).mp (by simp)
  have bareD : b.bare d = true := bare_iff.mpr ⟨sleeps, bare⟩
  have first : (b.cover a).sleeperList.filter b.bare = d :: rest.filter b.bare := by
    have none : front.filter b.bare = [] := List.filter_eq_nil_iff.mpr fun e mem => fun isBare =>
      marked e mem (bare_iff.mp isBare).2
    rw [list, List.filter_append, none, List.nil_append, List.filter_cons, if_pos bareD]
  obtain ⟨m, n, taken⟩ := groupTaken a h
  obtain ⟨at_m, at_n, at_t⟩ := running.group_taken taken
  have before (P : LifeState → Prop) := taken.before_rests (c := d) running calm P
  have rests := (before (fun _ => True) (.inl id) id).1
  have bareM {e : CarrierIx} (place : b.anchorOf e = a) : m.bare e = true ↔ b.bare e = true :=
    rests.bare_iff law at_m.sound.cover at_m.keeps place
  have own : Done [.wake d .relief] m n := by
    have own := done_singleton_iff.mp taken.taken
    change Done (groupEffect ..).2 (groupEffect ..).1 n at own
    rwa [groupEffect_relief (by rw [at_m.keeps.isAnchor]; exact anchor)
      (by rw [windowReport_get, at_m.keeps.profileOf_eq]; exact presses), relief_of_rests rests at_m.sound.cover first] at own
  have unitsM : m.untaken d ↔ b.untaken d := by
    obtain ⟨⟨coverage, lifecycle⟩, -⟩ := taken
    cases order with
    | coverageFirst =>
      obtain ⟨l, groups, begins⟩ := coverage rfl
      exact begins.untaken_iff groups.window running
    | lifecycleFirst =>
      obtain ⟨x, l, reports, groups, begins⟩ := lifecycle rfl
      exact (begins.untaken_iff groups.window (reports.window (reports_window b b) running)).trans
        (reports.untaken_iff (reports_window b b) running)
  have relieved := relieved_of_wake own at_m unitsM rests.drains ((bareM group).mpr bareD)
  have unitsN : n.untaken d ↔ b.untaken d := (own.untaken_iff (by simp [Task.ofWindow]) at_m).trans unitsM
  obtain ⟨l, goes, after⟩ := taken.onward
  have window := fun k mem => (after k mem).1
  have groupN : n.anchorOf d = a := (at_n.keeps.anchorOf_eq d).trans group
  have rouses (roused : Roused b d n) : Roused b d t :=
    goes.roused window at_n unitsN (fun k mem cause same => (after k mem).2.2.2 d (by rw [same]; rfl)) roused
  have keeps {st : LifeState} (place : st = .rampdown ∨ st = .deepening) (state : m.lifeState d = st) :
      Marked b d st reliefMark t := by
    obtain ⟨still, mark⟩ := relieved.marks (by rwa [state])
    refine goes.marked window at_n unitsN place (fun k mem => ⟨?_, (after k mem).2.2.2 d⟩) (.inr ⟨still.trans state, mark⟩)
    rw [groupN]
    exact (after k mem).2.2.1
  refine ⟨fun state => ?_, fun state => ?_, fun state first => ?_, fun either => ?_, fun e mem unmarked => ?_⟩
  · have there := (before (· = .rampdown) (.inl (by simp)) (by simp)).2 group bareD state
    obtain ⟨other, -⟩ | ends := keeps (.inl rfl) there
    · cases other
    · exact ends
  · exact rouses (relieved.wakes (.inr ((before (· = .slumber) (.inl (by simp)) (by simp)).2 group bareD state)))
  · exact rouses (relieved.wakes (.inl ((before (· = .doze) (.inr first) (by simp)).2 group bareD state)))
  · obtain doze | deepening := (before (fun st => st = .doze ∨ st = .deepening) (.inl (by simp)) (by simp)).2 group bareD either
    · exact .inl (rouses (relieved.wakes (.inl doze)))
    · exact (keeps (.inr rfl) deepening).imp_left And.right
  · obtain ⟨sleeps, place⟩ := (listed e).mp (List.mem_append_right _ (List.mem_cons_of_mem _ mem))
    have other : e ≠ d := fun same => (List.nodup_cons.mp (List.nodup_append.mp once).2.1).1 (same ▸ mem)
    have there := relieved.others e ((at_n.keeps.anchorOf_eq e).trans place) other
      ((bareM place).mpr (bare_iff.mpr ⟨sleeps, unmarked⟩))
    have onward := (goes.rests (c := e) window at_n relieved.calm (fun k mem => (after k mem).2.1) (fun _ => True) (.inl id) id).1
    exact (onward.bare_iff at_n.sound.cover at_t.sound.cover goes.keeps ((at_n.keeps.anchorOf_eq e).trans place)).mpr there

/-! ## The statement -/

theorem windowEnd_relieves : ∀ (order : ReportOrder) (a : CarrierIx) (s t : State), s.phase = .running → Lawful s →
    exec (.windowEnd order) s = .next t → s.isAnchor a = true → NeedsRelief t a →
    (∀ c, s.anchorOf c = a → (t.lifeState c).isDrain = true → (s.lifeState c).isDrain = true) ∧
    (∀ list front d, (order = .coverageFirst → list = (s.cover a).drainList) →
      (order = .lifecycleFirst → list.Sublist (s.cover a).drainList ∧
        ∀ c, c ∈ list ↔ c ∈ (s.cover a).drainList ∧ ¬LoadRose t c ∧ ¬WentQuiet s t c) →
      list = front ++ [d] →
      t.lifeState d = (if (t.profileOf d).settleTime = 0 then .active else .restoring) ∧ (t.cover d).pledge = 0 ∧
      ∀ e ∈ front, ¬LoadRose t e → ¬WentQuiet s t e → t.lifeState e = s.lifeState e) ∧
    (∀ front d rest, (s.cover a).drainList = [] →
      (s.cover a).sleeperList = front ++ d :: rest → (∀ e ∈ front, (s.carrier e).life.wakePending ≠ none) →
      (s.carrier d).life.wakePending = none →
      let marked := (t.carrier d).life.wakePending = some { cls := .ordinary, cause := .relief }
      let woken := t.lifeState d = .queued ∨ t.lifeState d = .warmup ∨ (t.lifeState d = .lost ∧
        ((s.unit (s.unitOf d)).state = none ∨ (s.unit (s.unitOf d)).state = some .unreachable))
      (s.lifeState d = .rampdown → t.lifeState d = .rampdown ∧ marked) ∧
      (s.lifeState d = .slumber → woken) ∧
      (s.lifeState d = .doze → order = .coverageFirst → woken) ∧
      (s.lifeState d = .doze ∨ s.lifeState d = .deepening → woken ∨ (t.lifeState d = .deepening ∧ marked)) ∧
      ∀ e ∈ rest, (s.carrier e).life.wakePending = none →
        (t.carrier e).life.wakePending = none ∧ (t.lifeState e).isSleeper = true) := by
  intro order a s t running law next anchor presses
  have done := windowEnd_done running next
  have runs := running_closeWindow law
  have kept := done.keeps
  rw [needsRelief_iff kept] at presses
  rw [← closeWindow_isAnchor] at anchor
  refine ⟨fun c group drain => ?_, fun list front d all left split => ?_, fun front d rest empty list marked bare => ?_⟩
  · rw [← closeWindow_lifeState]
    subst group
    exact relief_begins_none runs done presses drain
  · simp only [loadRose_iff kept, wentQuiet_iff kept law.meters] at left ⊢
    rw [← closeWindow_cover] at all left
    obtain ⟨state, others⟩ := relief_drains runs done presses anchor all left split
    have sound := (done.window (reportTasks_window order _ _) runs).sound
    refine ⟨?_, sound.cover.none d ?_, fun e mem low loud => ?_⟩
    · rw [state, kept.profileOf_eq, State.backState]
    · rw [state]
      exact isDrain_of_isBack (backState_isBack ..)
    · exact (others e mem low loud).lifeState.trans (closeWindow_lifeState s e)
  · have lives (e : CarrierIx) : (s.closeWindow.carrier e).life = (s.carrier e).life := closeWindow_life s e
    rw [← closeWindow_cover] at empty list
    simp only [← lives] at marked bare ⊢
    simp only [← closeWindow_lifeState s]
    obtain ⟨ramps, slumbers, dozes, either, others⟩ := relief_wakes runs done presses anchor empty list marked bare
    exact ⟨ramps, slumbers, dozes, either, fun e mem unmarked => (bare_iff.mp (others e mem unmarked)).symm⟩

/-- Settles O30. -/
theorem pledgeAdmissionAndRelief : Obligations.PledgeAdmissionAndRelief :=
  ⟨⟨pledgeFor_rounds_up.1, pledgeFor_rounds_up.2, fun c pledge s => admits_iff s c pledge⟩, groupEffect_relieves, windowEnd_relieves⟩

end Sys2Proof.Machine
end
